-- ==== Sys2Proof/Word.lean ====
section
/-!
DEFINITION. The word types of the module: a register is 32 bits (R14), a byte 8; an index of a numbered object is a
bit vector of the width that the manual gives its field.
-/
namespace Sys2Proof

/-- One register of BAR0 (R14). -/
abbrev Word := BitVec 32

/-- One byte of a stream, an image, a packet or a memory. -/
abbrev Byte := BitVec 8

/-- A partition number, 0 to 255 (R6). -/
abbrev PartNo := BitVec 8

/-- A cluster ID: quadrant, row, column (R26). -/
abbrev ClusterId := BitVec 8

/-- A Boolean processor of a cluster, 0 to 127. -/
abbrev BpNo := BitVec 7

/-- A word engine of a cluster, 0 to 3 (R88). -/
abbrev WeNo := BitVec 2

/-- A far memory port of a cluster, 0 to 3 (R135). -/
abbrev FmpNo := BitVec 2

/-- A Phisan link, 0 to 15. -/
abbrev LinkNo := BitVec 4

/-- A device ID, 0 to 1,023 (R278). -/
abbrev DeviceId := BitVec 10

/-- A timestamp: seconds in [95:48], nanoseconds in [47:16], units of 2^-16 ns in [15:0] (R286). -/
abbrev Stamp := BitVec 96

/-- Who makes an access or holds a semaphore (Table 15.9, Table 16.4). -/
inductive Requester where
  /-- the physical function -/
  | pf0
  /-- virtual function v -/
  | vf (v : BitVec 8)
  /-- DMA channel n, by a register-space MOVE -/
  | dma (n : BitVec 6)
  /-- the management-port mailbox -/
  | mgmt
  /-- the housekeeping controller -/
  | hkc
  /-- the fan-out link, for a configuration load -/
  | fanout
  deriving DecidableEq, Repr

end Sys2Proof
end

