-- ==== Sys2Proof/Syntax.lean ====
section
/-!
DEFINITION. The commands of the module: one constructor for each row of the opcode table, with the row's operands.
Host accesses name their requester; events of the physical world carry what the module finds (an error, a stamp, a
reading), because the manual leaves those values to the world. Log entry 1 says why a finding is an operand.
-/
namespace Sys2Proof

/-- The fields of a BP instruction word below OPC (Table 2.1): FLG is bits [3:1]. -/
structure BpArgs where
  tt : BitVec 16
  a : BitVec 13
  b : BitVec 13
  c : BitVec 13
  d : BitVec 13
  dst : BitVec 12
  flg : BitVec 3
  prb : Bool
  deriving DecidableEq, Repr

/-- The fields of a WE program word below OP (Table 3.1). -/
structure WeArgs where
  gd : BitVec 6
  ga : BitVec 6
  immb : Bool
  sat : Bool
  sh : BitVec 7
  imm : BitVec 32
  deriving DecidableEq, Repr

/-- The fields of a slot operation field below V and KIND (Table 4.3). -/
structure OpArgs where
  unit : BitVec 5
  port : Bool
  map : BitVec 8
  deriving DecidableEq, Repr

/-- What a SECDED check of a read word finds: nothing, a corrected single-bit error, an uncorrectable error (R39, R121). -/
inductive Ecc where
  | ok
  | corr
  | due
  deriving DecidableEq, Repr

/-- What the checks of the 64-bit words of an access of 64 bytes at most find, by the number of the word within it. -/
abbrev Found := List (BitVec 4 × Ecc)

/-- What a scrub read finds (R247, R249): `crc v` is the CRC-32 that the pass of a scrub frame has formed from the words that it read (R248). -/
inductive ScrubFinding where
  | ok
  | corr
  | due
  | crc (v : Word)
  deriving DecidableEq, Repr

/-- What the checks of one executed step find in the physical module (Table 17.1, classes 0x01 to 0x07). -/
inductive Finding where
  /-- the fetch of BP b of cluster c -/
  | fetch (c : ClusterId) (b : BpNo) (e : Ecc)
  /-- the program fetch of WE k -/
  | weFetch (c : ClusterId) (k : WeNo) (e : Ecc)
  /-- the slot-entry fetch -/
  | slotFetch (c : ClusterId) (e : Ecc)
  /-- a port-map word read by operation field j -/
  | portMap (c : ClusterId) (j : BitVec 3) (e : Ecc)
  /-- the row read by operation field j -/
  | dmbRow (c : ClusterId) (j : BitVec 3) (e : Ecc)
  /-- the scrub read of DMB d on port A (false) or B (true) -/
  | dmbScrub (c : ClusterId) (d : BitVec 5) (port : Bool) (e : Ecc)
  /-- a parity error of a value store, state map, latch or fetch register of BP b (class 0x03) -/
  | parity (c : ClusterId) (b : BpNo)
  /-- a parity error of an inbound lane or network stage (class 0x07) -/
  | laneParity (c : ClusterId)
  /-- a residue or parity failure of the result of WE k that lands in this cycle (class 0x05) -/
  | weCheck (c : ClusterId) (k : WeNo)
  /-- what the sentinel of cluster c makes of the word in this step: its result, its write enable and address, its lane number (R79); without this
  finding the sentinel agrees -/
  | sentinel (c : ClusterId) (res wen : Bool) (addr : BitVec 12) (lane : BitVec 6)
  /-- the trace writer's arrays, queues and state registers, at their use for stream x in the cycle of the step (class 0x0B) -/
  | trace (x : BitVec 4) (e : Ecc)
  deriving DecidableEq, Repr

/-- A signal-frame segment (Table 5.2). -/
structure Segment where
  src : DeviceId
  dst : DeviceId
  part : PartNo
  path : BitVec 8
  dc : BitVec 32
  first : BitVec 16
  count : BitVec 11
  last : Bool
  payload : List Bool
  deriving DecidableEq, Repr

/-- A FREEZE symbol (Table 5.4). -/
structure FreezeSym where
  kind : Bool
  part : PartNo
  target : BitVec 32
  origin : DeviceId
  seq : BitVec 6
  cause : BitVec 4
  deriving DecidableEq, Repr

/-- A PATH_HOLD or PATH_DOWN symbol (Table 8.6). -/
structure PathSym where
  on : Bool
  part : PartNo
  origin : DeviceId
  link : LinkNo
  seq : BitVec 8
  deriving DecidableEq, Repr

/-- A scrubbed store of a cluster (R246). -/
inductive StoreSel where
  | bp (b : BpNo)
  | we (k : WeNo)
  | slot
  deriving DecidableEq, Repr

/-- What the partner says in CONFIG (R257, R258, R273): its ID, its link, whether it asks for conservative mode, the free
counts of its six receive buffers, and the last sequence number it has accepted. -/
structure ConfigInfo where
  devId : DeviceId
  link : LinkNo
  cons : Bool
  free : List Nat
  ack : BitVec 12
  deriving DecidableEq, Repr

/-- The SYNC symbol body (Table 9.3). -/
structure SyncBody where
  dom : Bool
  seq : BitVec 16
  steps : BitVec 8
  gm : DeviceId
  gmValid : Bool
  deriving DecidableEq, Repr

/-- The ANNOUNCE symbol body (Table 9.3). -/
structure AnnounceBody where
  dom : Bool
  seq : BitVec 16
  steps : BitVec 8
  gm : DeviceId
  gmClass : BitVec 8
  traceable : Bool
  deriving DecidableEq, Repr

/-- A terminal of the packet networks (Table 12.1). -/
inductive Terminal where
  | cluster (c : ClusterId)
  | fmc (s : BitVec 2) (k : BitVec 2)
  | host
  | ssp (b : BitVec 6)
  | gateway (i : BitVec 2)
  | tu
  | tgu
  | tdu
  | dma
  | cpFmp (n : BitVec 3)
  deriving DecidableEq, Repr

/-- A domain that sleeps in Frost: the four quadrants with their far-memory controllers, and the SSP banks (R383). -/
inductive FrostDomain where
  | quadrant (q : BitVec 2)
  | ssp
  deriving DecidableEq, Repr

/-- A packet: its header fields (Table 12.2) and, on the data network, 512 data bits (R375). -/
structure Packet where
  kind : BitVec 5
  ddev : DeviceId
  dnode : BitVec 9
  snode : BitVec 9
  sdev : DeviceId
  age : BitVec 16
  txn : BitVec 12
  part : PartNo
  size : BitVec 3
  addr : BitVec 46
  data : BitVec 512
  deriving DecidableEq, Repr

/-- A received Vector Port frame (Table 14.3, R438, R439): payload is the padded payload as bytes, crc the trailer's CRC-32. -/
structure VptFrame where
  type : BitVec 4
  part : PartNo
  dc : BitVec 32
  count : BitVec 13
  first : BitVec 12
  mode : BitVec 3
  nodrv : Bool
  seq : BitVec 8
  payload : List Byte
  crc : BitVec 32
  deriving DecidableEq, Repr

/-- A message of the configuration class: a stream fragment, an end mark or a report (R229, R235, R238, R261). -/
inductive CfgMsg where
  | stream (bytes : List Byte)
  | endMark
  | report (ok fail dev code : Nat)
  deriving DecidableEq, Repr

/-- What a March run found in one failing read: line, element, background, expected datum, first failing bit (R395). -/
structure MarchFail where
  line : BitVec 64
  element : BitVec 3
  bg : BitVec 2
  expected : Bool
  bit : BitVec 9
  deriving DecidableEq, Repr

/-- What the boot brings (R463, R465, R396, Table 17.1): whether a migration of the settings succeeds, whether the firmware reports ready, whether the check
of the fuses and of the key store finds a fault, and the failing reads of the March run that the settings enable. -/
structure BootReport where
  migrates : Bool
  ready : Bool
  keyFault : Bool
  fails : List MarchFail
  deriving DecidableEq, Repr

/-- What a request to the I3C/SMBus target asks for (R461, R536): a word of an index, or GET_INFO. -/
inductive I3cReq where
  | word (idx : BitVec 8)
  | getInfo
  deriving DecidableEq, Repr

/-- The capabilities of Table 15.1 that a host looks for in configuration space. -/
inductive PcieCap where
  | ari
  | sriov
  | msix
  | aer
  | flr
  | tags10
  | ats
  | pasid
  | peerToPeer
  | ide
  | doe
  | intx
  | msi
  deriving DecidableEq, Repr

/-- A configuration request (R450, R453): a read that looks for a capability, VF Enable and NumVFs of the SR-IOV capability, the codes of Max Payload Size and
Max Read Request Size, and the clearing of the AER report of a poisoned write. -/
inductive PcieReq where
  | read (c : PcieCap)
  | sriov (en : Bool) (numVfs : BitVec 9)
  | sizes (f : Requester) (mps mrrs : BitVec 3)
  | aerClear (f : Requester)
  deriving DecidableEq, Repr

/-- The function that a configuration request names. -/
def PcieReq.fn : PcieReq → Requester
  | .read _ => .pf0
  | .sriov _ _ => .pf0
  | .sizes f _ _ => f
  | .aerClear f => f

/-- A command of the module: a row of the opcode table with its operands. -/
inductive Instr where
  -- the schedule (chapters 1, 2, 5)
  | scheduleStep (p : PartNo) (found : List Finding)
  | slipStep (p : PartNo)
  | nop (c : ClusterId) (b : BpNo) (w : BpArgs)
  | eval (c : ClusterId) (b : BpNo) (w : BpArgs)
  | evalq (c : ClusterId) (b : BpNo) (w : BpArgs)
  | send (c : ClusterId) (b : BpNo) (w : BpArgs)
  | evals (c : ClusterId) (b : BpNo) (w : BpArgs)
  | wait (c : ClusterId) (b : BpNo) (w : BpArgs)
  | trig (c : ClusterId) (b : BpNo) (w : BpArgs)
  | bpEnd (c : ClusterId) (b : BpNo) (w : BpArgs)
  | equinox (p : PartNo)
  | statePortTransfer (c : ClusterId)
  | dcStart (p : PartNo)
  | routeLatch (p : PartNo)
  | segmentReceive (n : LinkNo) (seg : Segment)
  | eqxWaitTimeout (p : PartNo)
  | freeze (r : Requester) (p : PartNo)
  | freezeAt (r : Requester) (p : PartNo)
  | resume (r : Requester) (p : PartNo)
  | freezeSymbolReceive (n : LinkNo) (y : FreezeSym)
  | partMarginWrite (r : Requester) (p : PartNo) (v : Word)
  | cluSentCtrlWrite (r : Requester) (c : ClusterId) (v : Word)
  | faultRecordClear (r : Requester) (c : ClusterId) (v : Word)
  | weFaultClear (r : Requester) (c : ClusterId) (k : WeNo) (v : Word)
  | memFaultClear (r : Requester) (c : ClusterId) (v : Word)
  | cluSpCtrlWrite (r : Requester) (c : ClusterId) (v : Word)
  | spCtrlTakeEffect (c : ClusterId)
  | selectListWrite (r : Requester) (c : ClusterId) (j : BitVec 12) (v : Word)
  | loadBufferWrite (r : Requester) (c : ClusterId) (buf : Bool) (w : BitVec 8) (v : Word)
  | freeUnload (r : Requester) (c : ClusterId) (buf : Bool)
  | fullLoad (r : Requester) (c : ClusterId) (buf : Bool)
  -- word engines (chapter 3)
  | weNop (c : ClusterId) (k : WeNo) (w : WeArgs)
  | add (c : ClusterId) (k : WeNo) (w : WeArgs)
  | sub (c : ClusterId) (k : WeNo) (w : WeArgs)
  | and (c : ClusterId) (k : WeNo) (w : WeArgs)
  | or (c : ClusterId) (k : WeNo) (w : WeArgs)
  | xor (c : ClusterId) (k : WeNo) (w : WeArgs)
  | andn (c : ClusterId) (k : WeNo) (w : WeArgs)
  | shl (c : ClusterId) (k : WeNo) (w : WeArgs)
  | shr (c : ClusterId) (k : WeNo) (w : WeArgs)
  | sar (c : ClusterId) (k : WeNo) (w : WeArgs)
  | ror (c : ClusterId) (k : WeNo) (w : WeArgs)
  | bfxu (c : ClusterId) (k : WeNo) (w : WeArgs)
  | bfxs (c : ClusterId) (k : WeNo) (w : WeArgs)
  | bfi (c : ClusterId) (k : WeNo) (w : WeArgs)
  | cmpeq (c : ClusterId) (k : WeNo) (w : WeArgs)
  | cmplt (c : ClusterId) (k : WeNo) (w : WeArgs)
  | cmpltu (c : ClusterId) (k : WeNo) (w : WeArgs)
  | min (c : ClusterId) (k : WeNo) (w : WeArgs)
  | max (c : ClusterId) (k : WeNo) (w : WeArgs)
  | abs (c : ClusterId) (k : WeNo) (w : WeArgs)
  | movi (c : ClusterId) (k : WeNo) (w : WeArgs)
  | movhi (c : ClusterId) (k : WeNo) (w : WeArgs)
  | norm (c : ClusterId) (k : WeNo) (w : WeArgs)
  | expx (c : ClusterId) (k : WeNo) (w : WeArgs)
  | rnd (c : ClusterId) (k : WeNo) (w : WeArgs)
  | pack (c : ClusterId) (k : WeNo) (w : WeArgs)
  | unpk (c : ClusterId) (k : WeNo) (w : WeArgs)
  | movb (c : ClusterId) (k : WeNo) (w : WeArgs)
  | muls (c : ClusterId) (k : WeNo) (w : WeArgs)
  | mulu (c : ClusterId) (k : WeNo) (w : WeArgs)
  | macs (c : ClusterId) (k : WeNo) (w : WeArgs)
  | macu (c : ClusterId) (k : WeNo) (w : WeArgs)
  | msus (c : ClusterId) (k : WeNo) (w : WeArgs)
  | mpya (c : ClusterId) (k : WeNo) (w : WeArgs)
  | clra (c : ClusterId) (k : WeNo) (w : WeArgs)
  | lda (c : ClusterId) (k : WeNo) (w : WeArgs)
  | rnda (c : ClusterId) (k : WeNo) (w : WeArgs)
  | moval (c : ClusterId) (k : WeNo) (w : WeArgs)
  | movah (c : ClusterId) (k : WeNo) (w : WeArgs)
  | norma (c : ClusterId) (k : WeNo) (w : WeArgs)
  | rep (c : ClusterId) (k : WeNo) (w : WeArgs)
  | weResultLand (c : ClusterId) (k : WeNo) (checkFails : Bool)
  | weRegisterWrite (r : Requester) (c : ClusterId) (k : WeNo) (w : BitVec 8) (v : Word)
  | weLoopStateWrite (r : Requester) (c : ClusterId) (k : WeNo) (w : BitVec 4) (v : Word)
  -- design memory (chapter 4)
  | dmbRd (c : ClusterId) (j : BitVec 3) (o : OpArgs) (e : Ecc)
  | dmbWr (c : ClusterId) (j : BitVec 3) (o : OpArgs) (e : Ecc)
  | fmpRd (c : ClusterId) (j : BitVec 3) (o : OpArgs)
  | fmpWr (c : ClusterId) (j : BitVec 3) (o : OpArgs)
  | fmpMsg (c : ClusterId) (j : BitVec 3) (o : OpArgs)
  | deferredPortOp (c : ClusterId)
  | dmbReadReturn (c : ClusterId)
  | fmpResponseArrival (c : ClusterId) (n : FmpNo) (cls : Bool) (found : List (BitVec 3 × Ecc))
  | waitComplete (c : ClusterId) (b : BpNo) (q : BitVec 4)
  | dramRefresh (s : BitVec 2)
  | flush (r : Requester) (c : ClusterId)
  | flushComplete (c : ClusterId)
  | freeSlotAccess (c : ClusterId) (st : StoreSel) (odd : Bool)
  -- the compiler contract (chapter 6)
  | hzClear (r : Requester) (c : ClusterId)
  | hzBudgetWrite (r : Requester) (c : ClusterId) (v : Word)
  -- configuration (chapter 7)
  | cfgStart (r : Requester)
  | endStream (r : Requester)
  | commit (r : Requester)
  | clrErr (r : Requester)
  | streamWrite (r : Requester) (off : BitVec 15) (bytes : List Byte)
  | imageHeader (key : Bool)
  | manifest
  | store
  | fill
  | regs
  | queue
  | firmware
  | endFrame
  | loadTimeout
  | endMark (n : LinkNo)
  | fanoutReport (n : LinkNo) (ok : BitVec 11) (fail : BitVec 11) (dev : DeviceId) (code : BitVec 8)
  | fanoutReportTimeout (n : LinkNo)
  | scrubRead (c : ClusterId) (st : StoreSel) (f : ScrubFinding)
  | scrubWriteBack (c : ClusterId) (st : StoreSel)
  | cfgScrubCtrlWrite (r : Requester) (v : Word)
  | bulkRead (r : Requester) (off : BitVec 25) (len : BitVec 7)
  | bulkWrite (r : Requester) (off : BitVec 25) (bytes : List Byte)
  -- links (chapter 8)
  | downTimeout (n : LinkNo)
  | detectionPatternSeen (n : LinkNo)
  | detectTimeout (n : LinkNo)
  | trainComplete (n : LinkNo)
  | alignComplete (n : LinkNo)
  | configExchange (n : LinkNo) (x : ConfigInfo)
  | trainingAttemptTimeout (n : LinkNo)
  | retrain (r : Requester) (n : LinkNo)
  | lnkCtrlEnWrite (r : Requester) (n : LinkNo) (v : Word)
  | lnkDevidWrite (r : Requester) (v : Word)
  | flitTransmit (n : LinkNo)
  | flitReceive (n : LinkNo) (f : BitVec 512) (corrected : BitVec 4) (uncorrectable : Bool) (stamp answer : Stamp)
  | nakReceive (n : LinkNo) (ack : BitVec 12)
  | nakResendTimeout (n : LinkNo)
  | alignmentLoss (n : LinkNo)
  | lossOfSignal (n : LinkNo)
  | pathHoldEnd (n : LinkNo)
  | pathHold (n : LinkNo) (y : PathSym)
  | pathDown (n : LinkNo) (y : PathSym)
  | linkReset (n : LinkNo)
  | fecWindow (n : LinkNo)
  -- time (chapter 9)
  | timerExpire (k : BitVec 3)
  | timerArm (r : Requester) (k : BitVec 3) (v : Word)
  | timerDisarm (r : Requester) (k : BitVec 3)
  | timSet (r : Requester)
  | relock (r : Requester)
  | timCtrlWrite (r : Requester) (v : Word)
  | sync (n : LinkNo) (b : SyncBody) (stamp : Stamp)
  | fupHi (n : LinkNo) (dom : Bool) (seq : BitVec 16) (void : Bool) (sec : BitVec 48)
  | fupLo (n : LinkNo) (dom : Bool) (seq : BitVec 16) (nsf : BitVec 48)
  | pdlyReq (n : LinkNo) (dom : Bool) (seq : BitVec 16) (t2 t3 : Stamp)
  | pdlyResp (n : LinkNo) (dom : Bool) (seq : BitVec 16) (t4 : Stamp)
  | pdlyFup (n : LinkNo) (dom : Bool) (seq : BitVec 16) (void : Bool) (turn : BitVec 64)
  | announce (n : LinkNo) (b : AnnounceBody)
  | syncInterval (n : LinkNo) (dom : Bool) (egress : Stamp)
  | pdelayInterval (n : LinkNo) (dom : Bool) (egress : Stamp)
  | announceInterval (n : LinkNo) (dom : Bool)
  | syncPairTimeout (n : LinkNo) (dom : Bool)
  | masterLoss
  | mgmtSync (annexC : Bool) (domNum : BitVec 8) (seq : BitVec 16) (stamp : Stamp)
  | mgmtFollowUp (annexC : Bool) (domNum : BitVec 8) (seq : BitVec 16) (t1 : Stamp) (t3 : Stamp)
  | mgmtDelayResp (annexC : Bool) (domNum : BitVec 8) (seq : BitVec 16) (t4 : Stamp)
  | mgmtAnnounce (annexC : Bool) (domNum : BitVec 8) (steps : BitVec 16) (gmClass : BitVec 8) (gm : BitVec 64) (traceable : Bool)
  | ppsInEdge (stamp : Stamp)
  | referenceInputLoss (ref10m : Bool)
  | ppsOutEdge
  | ppsOutFall
  | eventInputEdge (n : BitVec 3) (rising : Bool) (stamp : Stamp)
  | eviQueuePop (r : Requester) (n : BitVec 3)
  | timeReadLatch (r : Requester)
  -- transactors (chapter 10)
  | fragmentApply (unit : Ecc)
  | post (r : Requester) (n : BitVec 10) (v : Word)
  | retireNotify (r : Requester) (n : BitVec 10) (v : Word)
  | dispatch (unit : Ecc)
  | entryExpire (chan : BitVec 10) (tag : BitVec 16)
  | spill
  | refill (found : List (BitVec 6 × Ecc))
  | spillSweep (found : List (BitVec 6 × Ecc))
  | stallQuiescent
  | nheadRead (r : Requester) (n : BitVec 10)
  | releasePassComplete (n : BitVec 10)
  -- DMA (chapter 11)
  | dmaStart (r : Requester) (n : BitVec 6) (slot : BitVec 10)
  | dmaArm (r : Requester) (n : BitVec 6)
  | dmaAbort (r : Requester) (n : BitVec 6)
  | dmaClear (r : Requester) (n : BitVec 6)
  | abortComplete (n : BitVec 6)
  | dmaTriggerStart (n : BitVec 6) (unit : Ecc)
  | move (n : BitVec 6) (fetch : Ecc) (data : Found)
  | loop (n : BitVec 6) (fetch : Ecc)
  | dmaWait (n : BitVec 6) (fetch : Ecc)
  | signal (n : BitVec 6) (fetch : Ecc) (data : Found)
  | dmaEnd (n : BitVec 6) (fetch : Ecc) (data : Found)
  | dmaWaitComplete (n : BitVec 6) (unit : Ecc)
  | dmaWaitTimeout (n : BitVec 6)
  | dmaWriteAck (n : BitVec 6)
  | dmaSlotOwnWrite (r : Requester) (s : BitVec 10) (v : Word)
  | slotHandoverEnd (s : BitVec 10)
  | programStoreWrite (r : Requester) (w : BitVec 16) (words : List Word)
  | dmaCfgWrite (r : Requester) (n : BitVec 6) (v : Word)
  -- packet networks, scratchpad, March engine (chapter 12)
  | packetEject (net : BitVec 2) (pkt : Packet) (header : Ecc) (words : Found) (unit : Ecc)
  | retry (t : Terminal) (txn : BitVec 12)
  | requestReissue (t : Terminal)
  | requestAnswerTimeout (t : Terminal) (txn : BitVec 12)
  | wakePacket (d : FrostDomain) (net : BitVec 2) (pkt : Packet)
  | sspOwnWrite (r : Requester) (b : BitVec 6) (v : Word)
  | sspHandoverEnd (b : BitVec 6)
  | sspPwrWrite (r : Requester) (b : BitVec 6) (v : Word)
  | sspPowerChangeDone (b : BitVec 6)
  | marchStart (r : Requester)
  | marchAbort (r : Requester)
  | marchDone (fails : List MarchFail)
  -- trigger and trace (chapter 13)
  | hitArrival (p : PartNo) (dc : BitVec 64) (unit : Ecc)
  | arm (r : Requester) (t : BitVec 5)
  | disarm (r : Requester) (t : BitVec 5)
  | force (r : Requester) (t : BitVec 5)
  | trgOutOwnWrite (r : Requester) (t : BitVec 5) (v : Word)
  | qualifierCfgWrite (r : Requester) (q : BitVec 4) (reg : BitVec 2) (v : Word)
  | stepBreakArm (r : Requester) (p : PartNo) (v : Word)
  | traceStart (r : Requester) (x : BitVec 4)
  | traceStop (r : Requester) (x : BitVec 4)
  | traceReturn (r : Requester) (x : BitVec 4)
  | traceFlush (r : Requester) (x : BitVec 4)
  | pagePost (r : Requester) (x : BitVec 4) (v : Word)
  | doneRead (r : Requester) (x : BitVec 4)
  -- Vector Port (chapter 14)
  | vptTrainStart
  | vptTrainDone (locked : Bool)
  | vptLockLoss
  | vptOwnWrite (r : Requester) (ch : BitVec 12) (v : Word)
  | vptCtrlWrite (r : Requester) (v : Word)
  | smpFrame (f : VptFrame) (unit : Ecc)
  | sampleTimeout (p : PartNo) (dc : BitVec 32)
  | vptStateFrame (p : PartNo)
  -- host, firmware, locks, security (chapters 15, 16)
  | flr (r : Requester)
  | msixUnmask (r : Requester) (vec : BitVec 11)
  | go (r : Requester)
  | mgmtMailboxDatagram (port : BitVec 16) (bytes : List Byte)
  | getInfo (r : Requester)
  | sessionChallenge (r : Requester) (nonce : BitVec 384)
  | sessionRespond (r : Requester) (key : Bool)
  | sessionLogout (r : Requester)
  | lockoutEnd (r : Requester)
  | fwWrite (r : Requester) (flashOk : Bool)
  | fwCommit (r : Requester)
  | fwConfirm (r : Requester)
  | fwSelect (r : Requester)
  | settingsSave (r : Requester) (flashOk : Bool)
  | settingsDefault (r : Requester)
  | mbxReset (r : Requester)
  | auditRead (r : Requester)
  | auditHead (r : Requester) (k : BitVec 384)
  | auditAck (r : Requester)
  | getIdentity (r : Requester)
  | installerEnroll (r : Requester)
  | keyProvision (r : Requester) (key : Bool)
  | keyRevoke (r : Requester)
  | calApply (r : Requester) (key : Bool)
  | calRead (r : Requester)
  | calClear (r : Requester)
  | fuseWrite (r : Requester)
  | debugUnlock (r : Requester)
  | auditMirrorWrite (flashOk : Bool)
  | semAcq (r : Requester) (n : BitVec 6)
  | semRel (r : Requester) (n : BitVec 6)
  | semForce (r : Requester) (n : BitVec 6)
  -- faults (chapter 17)
  | conservationCheck (code : BitVec 4) (unit : BitVec 15) (imbalance : Bool)
  | hkcRestart
  | release (r : Requester)
  | clearOvf (r : Requester)
  | clearCorr (r : Requester)
  -- clocks, reset, power (chapter 18)
  | coldReset
  | porRelease
  | rootPllLock
  | firmwareReady (b : BootReport)
  | warmReset (cause : BitVec 4)
  | clockFault (fail : BitVec 7)
  | referenceLoss
  | railFault
  | partitionReset (r : Requester) (w : BitVec 3) (v : Word)
  | partitionResetDone (p : PartNo)
  | frostEnter (r : Requester)
  | frostEntryComplete
  | frostExit (r : Requester)
  | thawComplete
  | sensorRead (sites : List (BitVec 8 × BitVec 8)) (power : BitVec 16)
  | throttleUpdate
  | i3cPrivateRead (addr : BitVec 7) (q : I3cReq)
  | registerWrite (r : Requester) (bar2 : Bool) (off : BitVec 26) (bytes : List Byte) (poisoned : Bool)
  | tapInstruction (ir : BitVec 8)
  | timeCounterMismatch
  | eventOutputPulseEnd (n : BitVec 3)
  | fireTimestampRead (r : Requester) (t : BitVec 5)
  | ref10mCountWindow (count : BitVec 32)
  | i3cEntdaa (addr : BitVec 7)
  | pcieCompletion (n : BitVec 6) (ok : Bool) (data : List Byte)
  | pcieConfigRequest (q : PcieReq)
  deriving DecidableEq, Repr

end Sys2Proof
end

