-- ==== Sys2Proof/Decode.lean ====
section
/-!
DEFINITION. Words that spell commands. The opcode table gives no row any bits: commands are register accesses, symbols, pins and events, which no
word spells. The instruction words that the module does have (BP, WE and slot words) reach it as design state, and Machine/Bp.lean, We.lean and Slot.lean take them apart.
-/
namespace Sys2Proof

/-- The command that a word spells by the bits of the opcode table: none, since the table gives no row bits. -/
def decodeTableWord (_nbits _w : Nat) : Option Instr := none

end Sys2Proof
end

