-- ==== Sys2Proof/Config.lean ====
section
/-!
DEFINITION. What the manual leaves open: published functions that it only names, and values that it does not state.
Every constant here is opaque: nothing can be proved of its value.
-/
namespace Sys2Proof

/-- The self-check set of the sentinel (R80): truth table and operand bits of each instruction. The HKC supplies it; its contents are not stated. -/
opaque Config.selfCheck : List (BitVec 16 × BitVec 4)

/-- The n-th value that the module produces where the manual states none: a free value (log entry 2). -/
opaque Config.freeValue : Nat → Nat

/-- The STEP_CLK edge since the last TIME_CLK edge on which an instant falls, by CTL_CLK cycle and free values drawn; commands carry no STEP_CLK cycle (R288). -/
opaque Config.stepEdge : Nat → Nat → BitVec 2

/-- The free port that a deflected packet takes, of those its router has free, by node, SNODE, TXN and AGE; R376 does not state it. -/
opaque Config.deflectPort : Nat → Nat → Nat → Nat → Nat

/-- The control-plane FMP, 0 to 7, through which a DMA channel reaches a line of far memory; R25 does not state it. -/
opaque Config.cpFmp : Nat → Nat → BitVec 3

/-- The failing reads that a March run has found when a warm reset ends it, by free values drawn (R395, R397). -/
opaque Config.marchFound : Nat → List MarchFail

/-- The two sync bits of a 130-bit block of the Vector Port; R432 does not state them. -/
opaque Config.vptSync : BitVec 2

/-- The state of a lane's scrambler before its first block; R432 does not state it. -/
opaque Config.vptSeed : Nat → BitVec 58

/-- The frequency estimate that a count of REF10M_IN in a 1 s window gives; R301 does not state how. -/
opaque Config.refRate : BitVec 32 → Int

/-- The mailbox status with which a refused SESSION_RESPOND is answered; R476 does not state it. -/
opaque Config.respondRefused : BitVec 16

/-- The mailbox status with which CAL_APPLY answers a refused block; R491 does not state it. -/
opaque Config.calRefused : BitVec 16

/-- The configuration status that FW_COMMIT reports when only ROM_IF fails; R462 does not state it. -/
opaque Config.romIfStatus : BitVec 16

/-- The serial number of the module (R479, R491). -/
opaque Config.serial : BitVec 64

/-- The maker certificate that GET_IDENTITY returns after the identity public key and the serial number (R479); its bytes are not stated. -/
opaque Config.certificate : List Byte

/-- The private key of the module identity, derived from the physically unclonable key (R479). -/
opaque Config.identityKey : Nat

/-- The maker root public key, whose hash the fuses hold (R479). -/
opaque Config.makerRoot : List Byte

/-- The fused SHA-384 of the maker root public key (R479). -/
opaque Config.makerHash : BitVec 384

/-- The fuse rows that the factory has programmed, by row (R479, R491); their layout is not stated. -/
opaque Config.factoryFuses : List (Nat × List Byte)

/-- The fused maker key under which firmware images are encrypted (R483). -/
opaque Config.makerKey : List Byte

/-- The interface version of the boot ROM, which ROM_IF may not exceed (R462). -/
opaque Config.romIf : Nat

/-- The bytes of the boot flash as the maker delivers it, by target × 2^24 + offset (Table 15.6). -/
opaque Config.factoryFlash : Nat → Byte

/-- TIME, TYPE, SOURCE, RESULT and DETAIL of the audit entry that the factory wrote (R484); the manual does not state them. -/
opaque Config.factoryEntry : Stamp × BitVec 16 × BitVec 16 × BitVec 16 × List Byte

/-- The bytes in which CAL_READ returns a factory, a user and an effective value; Table 16.6 does not lay them out. -/
opaque Config.calRecord : BitVec 32 → BitVec 32 → BitVec 32 → List Byte

/-- The payloads of the flits that carry a message of the configuration class; its layout is not stated (R261). -/
opaque Config.cfgFlits : CfgMsg → List (BitVec 416)

/-- The message of the configuration class that the payloads of its flits carry. -/
opaque Config.cfgMsg : List (BitVec 416) → Option CfgMsg

/-- The alignment mark of a codeword tag; R254 does not state its value. -/
opaque Config.alignMark : BitVec 20

/-- The codes of BYPASS and IDCODE in the instruction register of the TAP; R487 does not state them. -/
opaque Config.tapBypass : BitVec 8

/-- The code of IDCODE. -/
opaque Config.tapIdcode : BitVec 8

end Sys2Proof
end

