-- ==== Sys2Proof/Machine/RegName.lean ====
section
/-!
DEFINITION. The names of the registers of BAR0, one constructor per register line of the specification (R16);
the register names are those of the spec, index letters included.
-/
namespace Sys2Proof.Machine

/-- The registers that the chapters introduce (R16, R549), and TSQ_CTR (R402). -/
inductive RegName where
  | CTL_ID
  | CLU_STATUS
  | CLU_CFG
  | CLU_DC_LO
  | CLU_DC_HI
  | CLU_FAULT
  | CLU_FAULT_INFO
  | CLU_FAULT_DC
  | CLU_SENT_CTRL
  | CLU_SENT_STATUS
  | CLU_SENT_LOG
  | CLU_SENT_LOG_DC
  | CLU_SP_CTRL
  | CLU_SP_STATUS
  | CLU_SP_HANDOFF
  | CLU_ECC_CNT
  | WE_STATUS
  | WE_FAULT
  | WE_FAULT_INFO
  | WE_PC
  | WE_LOOP_CTRL
  | WE_LPn_ADDR
  | WE_LPn_CNT
  | CLU_DMB_RATIOn
  | CLU_MEM_FAULT
  | CLU_MEM_FAULT_INFO
  | CLU_MEM_ECC
  | CLU_FMC_CTRL
  | CLU_FMC_HIT
  | CLU_FMC_MISS
  | CLU_FMP_STATUSn
  | CLU_FREGn_BASE
  | CLU_FREGn_CTRL
  | FMC_GRANT_BASEp_s
  | FMC_GRANT_SIZEp_s
  | CLU_SLIP_LO
  | CLU_SLIP_HI
  | CLU_LANE_LATCHn
  | PART_FRZ_CMD
  | PART_FRZ_TARGET
  | PART_FRZ_STATUS
  | PART_FRZ_LAST
  | PART_FRZ_ORIGIN
  | PART_MARGIN
  | PART_MARGIN_EFF
  | PART_EQX_TMO
  | PART_EQX_WAIT
  | CFG_MAN_CHECK
  | CFG_MAN_INDEX
  | HZ_SLIPk_LO
  | HZ_SLIPk_HI
  | HZ_OWNj
  | HZ_WORST_LEN
  | HZ_WORST_AT
  | HZ_WORST_DC
  | HZ_BUDGET
  | HZ_OVER
  | HZ_CLEAR
  | CFG_CTRL
  | CFG_SRC
  | CFG_STATUS
  | CFG_PROGRESS
  | CFG_ERR_FRAME
  | CFG_TMO
  | CFG_FANOUT
  | CFG_FANOUT_RESULT
  | CFG_FANOUT_FIRST
  | CFG_PART_LOADEDn
  | CFG_IFVER
  | CFG_BULK_SEL
  | CFG_BULK_STATUS
  | CFG_SCRUB_CTRL
  | CFG_SCRUB_STATUS
  | CFG_SCRUB_ERR
  | LNK_CTRLn
  | LNK_STATUSn
  | LNK_ERRn
  | LNK_CNTn
  | LNK_FECn
  | LNK_CRDn_k
  | LNK_SEENn_w
  | LNK_DEVID
  | LNK_ARB
  | LNK_CFG
  | LNK_ROUTEd
  | LNK_FRZ_MASKp
  | LNK_DROP
  | TIM_NOW_w
  | TIM_SET_w
  | TIM_CMD
  | TIM_RATE
  | TIM_OFFSET
  | TIM_CTRL
  | TIM_SERVO
  | TIM_STATUS
  | TIM_INTERVAL
  | TIM_MGMT
  | TIM_PPS
  | TIM_PPS_OFS
  | TIM_PORTn
  | TIM_MPDn
  | TIM_EVIn_CTRL
  | TIM_EVIn_TSw
  | TIM_EVOn
  | TIM_TMRk_STARTw
  | TIM_TMRk_PERIOD_LO
  | TIM_TMRk_PERIOD_HI
  | TIM_TMRk_CTRL
  | TIM_TMRk_STATUS
  | EVT_ROUTEe
  | EVT_PENDw
  | TDU_CTRL
  | TDU_QCTRL
  | TDU_STATUS
  | TDU_OCC
  | TDU_SPILLED
  | TDU_SPILL_BASE
  | TDU_SPILL_SIZE
  | TDU_TICK
  | TDU_EXP_LAST
  | TDU_CHn_CFG
  | TDU_CHn_TMPL
  | TDU_CHn_TGT
  | TDU_CHn_STATUS
  | TDU_CHn_DATA_LO
  | TDU_CHn_DATA_HI
  | TDU_CHn_POST
  | TDU_CHn_NHEAD
  | TDU_CHn_NOPk_LO
  | TDU_CHn_NOPk_HI
  | DMA_CHn_CFG
  | DMA_CHn_CMD
  | DMA_CHn_STATUS
  | DMA_CHn_EVT
  | DMA_CHn_TRIG
  | DMA_CHn_LCk
  | DMA_CHn_WAITOBJ
  | DMA_CHn_Bk_LO
  | DMA_CHn_Bk_HI
  | DMA_CHn_RESULT_LO
  | DMA_CHn_RESULT_HI
  | DMA_CHn_DONEM_LO
  | DMA_CHn_DONEM_HI
  | DMA_SLOT_OWNs
  | DMA_SLOT_SUM
  | SSP_OWNb
  | SSP_PWRb
  | SSP_SUM
  | NOC_CTRL
  | NOC_STATn
  | NOC_WAKE
  | MTE_CTRL
  | MTE_TGT_LO
  | MTE_TGT_HI
  | MTE_LEN
  | MTE_STATUS
  | MTE_FAIL_LO
  | MTE_FAIL_HI
  | MTE_FAIL_INFO
  | TSQ_RULEs_r_W0
  | TSQ_RULEs_r_W1
  | TSQ_OUTs
  | TSQ_LIMIT
  | TSQ_TLIMIT
  | TSQ_STATUS
  | TSQ_CNT
  | TRG_OUTt_OWN
  | TRG_Qq_OWN
  | TRC_Sx_OWN
  | TRG_OUTt_CFG
  | TRG_OUTt_CNT
  | TRG_OUTt_CMD
  | TRG_OUTt_STATUS
  | TRG_OUTt_DC
  | TRG_OUTt_TSw
  | TRG_Qq_CFG
  | TRG_Qq_MIN
  | TRG_Qq_MAX
  | TRG_Qq_STAT
  | TRG_QPER
  | TRG_SBRKp_CTRL
  | TRG_SBRKp_DC
  | TRG_SBRKp_STATUS
  | TRC_Sx_CFG
  | TRC_Sx_POSTDC
  | TRC_Sx_CMD
  | TRC_Sx_STATUS
  | TRC_Sx_PAGES
  | TRC_Sx_POST_LO
  | TRC_Sx_POST_HI
  | TRC_Sx_DONE_LO
  | TRC_Sx_DONE_HI
  | TRC_Sx_DEAD_DC
  | TRC_Sx_DEAD_NS_LO
  | TRC_Sx_DEAD_NS_HI
  | TRC_Sx_LOST
  | VPT_CTRL
  | VPT_STATUS
  | VPT_ERR
  | VPT_CNT
  | VPT_Pp_CNT
  | VPT_Pp_FIRST
  | VPT_Pp_FIRST_DC
  | VPT_CHc_OWN
  | VPT_CHc_MAP
  | VPT_CHc_STAT
  | FW_STATUS
  | FW_VER_ROM
  | FW_VER_HK
  | FW_VER_LINK
  | MBX_CTRL
  | MBX_DOORBELL
  | MBX_STATUS
  | SEM_ACQn
  | SEM_PEEKn
  | SEM_RELn
  | SEM_CFGn
  | SEC_SESSION
  | SEC_STATUS
  | SEC_AUDIT_SEQ_LO
  | SEC_AUDIT_SEQ_HI
  | SEC_AUDIT_STATUS
  | SEC_ASYM_Fn
  | SEC_ASYM_Un
  | SEC_ASYM_En
  | SEC_ASYM_STn
  | SEC_THERM_F
  | SEC_THERM_U
  | SEC_THERM_E
  | FLT_STATUS
  | FLT_CLR
  | FLT_CFG
  | FLT_CORR
  | FLT_LOGi_W0
  | FLT_LOGi_TSw
  | CTL_PRSTw
  | CTL_PRST_BUSYw
  | CTL_RST_CAUSE
  | CLK_STATUS
  | PWR_FROST
  | PWR_STATUS
  | PWR_THROT
  | PWR_TEMPk
  | PWR_POWER
  | PWR_EVT
  | FMC_STATUSs
  | TSQ_CTR
  deriving DecidableEq, Repr

/-- One register: its name and up to three indices, in the order in which the index letters stand in its offset. -/
structure RegKey where
  name : RegName
  i : Nat := 0
  j : Nat := 0
  k : Nat := 0
  deriving DecidableEq, Repr

/-- A bit field of a word: its lowest bit and its width (R14). -/
structure Fld where
  lo : Nat
  len : Nat
  deriving DecidableEq, Repr

/-- What R16 says of a register: offset, index ranges and strides, reset value, roles, and which bits a write changes. -/
structure RegInfo where
  base : Nat
  dims : List (Nat × Nat)
  reset : BitVec 32
  roles : BitVec 4
  rwl : Bool
  rws : Bool
  rwMask : BitVec 32
  w1cMask : BitVec 32
  roMask : BitVec 32
  deriving DecidableEq, Repr

end Sys2Proof.Machine
end

