-- ==== Sys2Proof/Machine/Fields.lean ====
section
/-!
DEFINITION. The fields of the registers, from the field tables of the chapters (R14, R16).
`F.REGISTER_FIELD` is the field FIELD of REGISTER; a register whose one field covers it whole has none here.
-/
namespace Sys2Proof.Machine

abbrev F.CTL_ID_FAMILY : Fld := ⟨24, 8⟩
abbrev F.CTL_ID_PART : Fld := ⟨12, 12⟩
abbrev F.CTL_ID_STEPPING : Fld := ⟨8, 4⟩
abbrev F.CLU_STATUS_STEP : Fld := ⟨16, 11⟩
abbrev F.CLU_STATUS_INCONSISTENT : Fld := ⟨7, 1⟩
abbrev F.CLU_STATUS_SUSPECT : Fld := ⟨6, 1⟩
abbrev F.CLU_STATUS_SLIPPING : Fld := ⟨5, 1⟩
abbrev F.CLU_STATUS_STATE : Fld := ⟨0, 3⟩
abbrev F.CLU_CFG_SCHED_LEN : Fld := ⟨16, 12⟩
abbrev F.CLU_CFG_EVALS_PAGE : Fld := ⟨8, 6⟩
abbrev F.CLU_CFG_PART : Fld := ⟨0, 8⟩
abbrev F.CLU_FAULT_SP_MAP : Fld := ⟨14, 1⟩
abbrev F.CLU_FAULT_SP_OVERRUN : Fld := ⟨13, 1⟩
abbrev F.CLU_FAULT_SENT_MISMATCH : Fld := ⟨12, 1⟩
abbrev F.CLU_FAULT_CAUSE : Fld := ⟨1, 11⟩
abbrev F.CLU_FAULT_INFO_VALID : Fld := ⟨31, 1⟩
abbrev F.CLU_FAULT_INFO_CODE : Fld := ⟨24, 4⟩
abbrev F.CLU_FAULT_INFO_STEP : Fld := ⟨8, 11⟩
abbrev F.CLU_FAULT_INFO_BP : Fld := ⟨0, 7⟩
abbrev F.CLU_SENT_CTRL_LOCK : Fld := ⟨15, 1⟩
abbrev F.CLU_SENT_CTRL_LOCK_BP : Fld := ⟨8, 7⟩
abbrev F.CLU_SENT_CTRL_ACTION : Fld := ⟨0, 1⟩
abbrev F.CLU_SENT_STATUS_SWEEPS : Fld := ⟨8, 24⟩
abbrev F.CLU_SENT_STATUS_POS : Fld := ⟨0, 8⟩
abbrev F.CLU_SENT_LOG_VALID : Fld := ⟨31, 1⟩
abbrev F.CLU_SENT_LOG_STEP : Fld := ⟨20, 11⟩
abbrev F.CLU_SENT_LOG_SELF : Fld := ⟨11, 1⟩
abbrev F.CLU_SENT_LOG_DST_MISMATCH : Fld := ⟨10, 1⟩
abbrev F.CLU_SENT_LOG_RES_MISMATCH : Fld := ⟨9, 1⟩
abbrev F.CLU_SENT_LOG_SENT_RESULT : Fld := ⟨8, 1⟩
abbrev F.CLU_SENT_LOG_BP : Fld := ⟨0, 7⟩
abbrev F.CLU_SP_CTRL_MODE : Fld := ⟨28, 2⟩
abbrev F.CLU_SP_CTRL_LOAD_EN : Fld := ⟨15, 1⟩
abbrev F.CLU_SP_CTRL_UNLOAD_EN : Fld := ⟨14, 1⟩
abbrev F.CLU_SP_CTRL_COUNT : Fld := ⟨0, 13⟩
abbrev F.CLU_SP_STATUS_TRANSFERS : Fld := ⟨16, 16⟩
abbrev F.CLU_SP_STATUS_CTRL_PENDING : Fld := ⟨8, 1⟩
abbrev F.CLU_SP_STATUS_MODE_EFF : Fld := ⟨6, 2⟩
abbrev F.CLU_SP_STATUS_OVERRUN : Fld := ⟨5, 1⟩
abbrev F.CLU_SP_STATUS_NEXT : Fld := ⟨4, 1⟩
abbrev F.CLU_SP_STATUS_UNLOAD_B_FULL : Fld := ⟨3, 1⟩
abbrev F.CLU_SP_STATUS_UNLOAD_A_FULL : Fld := ⟨2, 1⟩
abbrev F.CLU_SP_STATUS_LOAD_B_FULL : Fld := ⟨1, 1⟩
abbrev F.CLU_SP_STATUS_LOAD_A_FULL : Fld := ⟨0, 1⟩
abbrev F.CLU_SP_HANDOFF_FREE_UNLOAD_B : Fld := ⟨3, 1⟩
abbrev F.CLU_SP_HANDOFF_FREE_UNLOAD_A : Fld := ⟨2, 1⟩
abbrev F.CLU_SP_HANDOFF_FULL_LOAD_B : Fld := ⟨1, 1⟩
abbrev F.CLU_SP_HANDOFF_FULL_LOAD_A : Fld := ⟨0, 1⟩
abbrev F.CLU_ECC_CNT_FETCH_CORR : Fld := ⟨16, 16⟩
abbrev F.CLU_ECC_CNT_SCRUB_CORR : Fld := ⟨0, 16⟩
abbrev F.WE_STATUS_ECC_CORR : Fld := ⟨16, 16⟩
abbrev F.WE_STATUS_DRAINED : Fld := ⟨7, 1⟩
abbrev F.WE_STATUS_MIDDC : Fld := ⟨6, 1⟩
abbrev F.WE_STATUS_RNDOV : Fld := ⟨4, 1⟩
abbrev F.WE_STATUS_SATOV : Fld := ⟨3, 1⟩
abbrev F.WE_STATUS_AOV1 : Fld := ⟨1, 1⟩
abbrev F.WE_STATUS_AOV0 : Fld := ⟨0, 1⟩
abbrev F.WE_FAULT_CAUSE : Fld := ⟨1, 8⟩
abbrev F.WE_FAULT_INFO_VALID : Fld := ⟨31, 1⟩
abbrev F.WE_FAULT_INFO_CODE : Fld := ⟨24, 4⟩
abbrev F.WE_FAULT_INFO_STEP : Fld := ⟨12, 11⟩
abbrev F.WE_FAULT_INFO_WORD : Fld := ⟨0, 11⟩
abbrev F.WE_PC_PC : Fld := ⟨0, 11⟩
abbrev F.WE_LOOP_CTRL_DEPTH : Fld := ⟨0, 2⟩
abbrev F.WE_LPn_ADDR_END : Fld := ⟨16, 11⟩
abbrev F.WE_LPn_ADDR_START : Fld := ⟨0, 11⟩
abbrev F.WE_LPn_CNT_LEFT : Fld := ⟨0, 16⟩
abbrev F.CLU_DMB_RATIOn_RATIO7 : Fld := ⟨28, 3⟩
abbrev F.CLU_DMB_RATIOn_RATIO6 : Fld := ⟨24, 3⟩
abbrev F.CLU_DMB_RATIOn_RATIO5 : Fld := ⟨20, 3⟩
abbrev F.CLU_DMB_RATIOn_RATIO4 : Fld := ⟨16, 3⟩
abbrev F.CLU_DMB_RATIOn_RATIO3 : Fld := ⟨12, 3⟩
abbrev F.CLU_DMB_RATIOn_RATIO2 : Fld := ⟨8, 3⟩
abbrev F.CLU_DMB_RATIOn_RATIO1 : Fld := ⟨4, 3⟩
abbrev F.CLU_DMB_RATIOn_RATIO0 : Fld := ⟨0, 3⟩
abbrev F.CLU_MEM_FAULT_CAUSE : Fld := ⟨1, 8⟩
abbrev F.CLU_MEM_FAULT_INFO_VALID : Fld := ⟨31, 1⟩
abbrev F.CLU_MEM_FAULT_INFO_CODE : Fld := ⟨24, 4⟩
abbrev F.CLU_MEM_FAULT_INFO_SCRUB : Fld := ⟨23, 1⟩
abbrev F.CLU_MEM_FAULT_INFO_STEP : Fld := ⟨12, 11⟩
abbrev F.CLU_MEM_FAULT_INFO_WAIT : Fld := ⟨11, 1⟩
abbrev F.CLU_MEM_FAULT_INFO_FIELD : Fld := ⟨8, 3⟩
abbrev F.CLU_MEM_FAULT_INFO_BP : Fld := ⟨0, 7⟩
abbrev F.CLU_MEM_ECC_DMB_CORR : Fld := ⟨16, 16⟩
abbrev F.CLU_MEM_ECC_FAR_CORR : Fld := ⟨0, 16⟩
abbrev F.CLU_FMC_CTRL_FLUSH_BUSY : Fld := ⟨1, 1⟩
abbrev F.CLU_FMC_CTRL_FLUSH : Fld := ⟨0, 1⟩
abbrev F.CLU_FMP_STATUSn_DRAINED : Fld := ⟨31, 1⟩
abbrev F.CLU_FMP_STATUSn_PRESENT : Fld := ⟨16, 7⟩
abbrev F.CLU_FMP_STATUSn_RESERVED : Fld := ⟨0, 7⟩
abbrev F.CLU_FREGn_BASE_BASE : Fld := ⟨0, 23⟩
abbrev F.CLU_FREGn_CTRL_VALID : Fld := ⟨31, 1⟩
abbrev F.CLU_FREGn_CTRL_MODE : Fld := ⟨30, 1⟩
abbrev F.CLU_FREGn_CTRL_STACK : Fld := ⟨28, 2⟩
abbrev F.CLU_FREGn_CTRL_SIZE : Fld := ⟨0, 24⟩
abbrev F.FMC_GRANT_BASEp_s_VALUE : Fld := ⟨0, 23⟩
abbrev F.FMC_GRANT_SIZEp_s_VALUE : Fld := ⟨0, 23⟩
abbrev F.PART_FRZ_CMD_RESUME : Fld := ⟨2, 1⟩
abbrev F.PART_FRZ_CMD_FREEZE_AT : Fld := ⟨1, 1⟩
abbrev F.PART_FRZ_CMD_FREEZE : Fld := ⟨0, 1⟩
abbrev F.PART_FRZ_STATUS_PENDING : Fld := ⟨31, 1⟩
abbrev F.PART_FRZ_STATUS_FROZEN : Fld := ⟨30, 1⟩
abbrev F.PART_FRZ_STATUS_DRAINED : Fld := ⟨29, 1⟩
abbrev F.PART_FRZ_STATUS_IGNORED : Fld := ⟨16, 8⟩
abbrev F.PART_FRZ_STATUS_TGT_PAST : Fld := ⟨7, 1⟩
abbrev F.PART_FRZ_STATUS_PATH_DOWN : Fld := ⟨6, 1⟩
abbrev F.PART_FRZ_STATUS_TIMEOUT : Fld := ⟨5, 1⟩
abbrev F.PART_FRZ_STATUS_ABORTED : Fld := ⟨4, 1⟩
abbrev F.PART_FRZ_STATUS_LATE : Fld := ⟨3, 1⟩
abbrev F.PART_FRZ_ORIGIN_VALID : Fld := ⟨31, 1⟩
abbrev F.PART_FRZ_ORIGIN_KIND : Fld := ⟨30, 1⟩
abbrev F.PART_FRZ_ORIGIN_CAUSE : Fld := ⟨26, 4⟩
abbrev F.PART_FRZ_ORIGIN_ORIGIN : Fld := ⟨16, 10⟩
abbrev F.PART_FRZ_ORIGIN_SEQ : Fld := ⟨0, 6⟩
abbrev F.PART_MARGIN_HOPS : Fld := ⟨24, 8⟩
abbrev F.PART_MARGIN_SET : Fld := ⟨0, 16⟩
abbrev F.PART_MARGIN_EFF_DIAM : Fld := ⟨16, 8⟩
abbrev F.PART_MARGIN_EFF_EFF : Fld := ⟨0, 16⟩
abbrev F.PART_EQX_TMO_TIMEOUT : Fld := ⟨0, 10⟩
abbrev F.PART_EQX_WAIT_MISSING : Fld := ⟨23, 9⟩
abbrev F.PART_EQX_WAIT_WAIT_MAX : Fld := ⟨0, 16⟩
abbrev F.CFG_MAN_CHECK_VALID : Fld := ⟨31, 1⟩
abbrev F.CFG_MAN_CHECK_CHECK : Fld := ⟨16, 8⟩
abbrev F.CFG_MAN_CHECK_PART : Fld := ⟨8, 8⟩
abbrev F.CFG_MAN_CHECK_CLUSTER : Fld := ⟨0, 8⟩
abbrev F.HZ_WORST_AT_VALID : Fld := ⟨31, 1⟩
abbrev F.HZ_WORST_AT_CAUSE : Fld := ⟨28, 3⟩
abbrev F.HZ_WORST_AT_STEP : Fld := ⟨16, 11⟩
abbrev F.HZ_BUDGET_BUDGET : Fld := ⟨0, 16⟩
abbrev F.HZ_CLEAR_CLEAR : Fld := ⟨0, 1⟩
abbrev F.CFG_CTRL_CLR_ERR : Fld := ⟨3, 1⟩
abbrev F.CFG_CTRL_COMMIT : Fld := ⟨2, 1⟩
abbrev F.CFG_CTRL_END_STREAM : Fld := ⟨1, 1⟩
abbrev F.CFG_CTRL_START : Fld := ⟨0, 1⟩
abbrev F.CFG_SRC_SRC : Fld := ⟨0, 2⟩
abbrev F.CFG_STATUS_STATE : Fld := ⟨28, 4⟩
abbrev F.CFG_STATUS_CODE : Fld := ⟨16, 8⟩
abbrev F.CFG_STATUS_COMMIT_REFUSED : Fld := ⟨3, 1⟩
abbrev F.CFG_STATUS_DISCARD : Fld := ⟨2, 1⟩
abbrev F.CFG_STATUS_BUSY_REFUSED : Fld := ⟨1, 1⟩
abbrev F.CFG_STATUS_ERR : Fld := ⟨0, 1⟩
abbrev F.CFG_TMO_TIMEOUT : Fld := ⟨0, 16⟩
abbrev F.CFG_FANOUT_UP : Fld := ⟨16, 5⟩
abbrev F.CFG_FANOUT_MASK : Fld := ⟨0, 16⟩
abbrev F.CFG_FANOUT_RESULT_OK_COUNT : Fld := ⟨16, 11⟩
abbrev F.CFG_FANOUT_RESULT_FAIL_COUNT : Fld := ⟨0, 11⟩
abbrev F.CFG_FANOUT_FIRST_VALID : Fld := ⟨31, 1⟩
abbrev F.CFG_FANOUT_FIRST_NOREPORT : Fld := ⟨30, 1⟩
abbrev F.CFG_FANOUT_FIRST_CODE : Fld := ⟨16, 8⟩
abbrev F.CFG_FANOUT_FIRST_DEV : Fld := ⟨0, 10⟩
abbrev F.CFG_IFVER_IF_MAJOR : Fld := ⟨24, 8⟩
abbrev F.CFG_IFVER_IF_MINOR : Fld := ⟨16, 8⟩
abbrev F.CFG_IFVER_HDR_MAJOR : Fld := ⟨8, 8⟩
abbrev F.CFG_IFVER_MAN_MAJOR : Fld := ⟨0, 8⟩
abbrev F.CFG_BULK_SEL_CLUSTER : Fld := ⟨0, 8⟩
abbrev F.CFG_BULK_STATUS_REFUSED_WR : Fld := ⟨1, 1⟩
abbrev F.CFG_BULK_STATUS_REFUSED_RD : Fld := ⟨0, 1⟩
abbrev F.CFG_SCRUB_CTRL_INTERVAL : Fld := ⟨8, 8⟩
abbrev F.CFG_SCRUB_CTRL_EN : Fld := ⟨0, 1⟩
abbrev F.CFG_SCRUB_ERR_VALID : Fld := ⟨31, 1⟩
abbrev F.CFG_SCRUB_ERR_STORE : Fld := ⟨29, 2⟩
abbrev F.CFG_SCRUB_ERR_CRC : Fld := ⟨28, 1⟩
abbrev F.CFG_SCRUB_ERR_CLUSTER : Fld := ⟨16, 8⟩
abbrev F.CFG_SCRUB_ERR_UNIT : Fld := ⟨8, 7⟩
abbrev F.CFG_SCRUB_ERR_SFRAME : Fld := ⟨0, 5⟩
abbrev F.LNK_CTRLn_CONS : Fld := ⟨2, 1⟩
abbrev F.LNK_CTRLn_RETRAIN : Fld := ⟨1, 1⟩
abbrev F.LNK_CTRLn_EN : Fld := ⟨0, 1⟩
abbrev F.LNK_STATUSn_STATE : Fld := ⟨29, 3⟩
abbrev F.LNK_STATUSn_CONS : Fld := ⟨28, 1⟩
abbrev F.LNK_STATUSn_CONS_WHY : Fld := ⟨26, 2⟩
abbrev F.LNK_STATUSn_DOWN_WHY : Fld := ⟨23, 3⟩
abbrev F.LNK_STATUSn_TRIES : Fld := ⟨20, 3⟩
abbrev F.LNK_STATUSn_NBR_LINK : Fld := ⟨10, 4⟩
abbrev F.LNK_STATUSn_NBR_ID : Fld := ⟨0, 10⟩
abbrev F.LNK_ERRn_RETRAIN_FAIL : Fld := ⟨3, 1⟩
abbrev F.LNK_ERRn_FEC_DEGRADE : Fld := ⟨2, 1⟩
abbrev F.LNK_ERRn_REPLAY_LIMIT : Fld := ⟨1, 1⟩
abbrev F.LNK_ERRn_PROTO : Fld := ⟨0, 1⟩
abbrev F.LNK_CNTn_REPLAYS : Fld := ⟨16, 16⟩
abbrev F.LNK_CNTn_RETRAINS : Fld := ⟨8, 8⟩
abbrev F.LNK_CNTn_PROTO : Fld := ⟨0, 8⟩
abbrev F.LNK_FECn_CORR : Fld := ⟨8, 24⟩
abbrev F.LNK_FECn_UNCORR : Fld := ⟨0, 8⟩
abbrev F.LNK_CRDn_k_LIMIT : Fld := ⟨16, 12⟩
abbrev F.LNK_CRDn_k_AVAIL : Fld := ⟨0, 12⟩
abbrev F.LNK_DEVID_VALID : Fld := ⟨31, 1⟩
abbrev F.LNK_DEVID_ID : Fld := ⟨0, 10⟩
abbrev F.LNK_ARB_SIG_W : Fld := ⟨8, 4⟩
abbrev F.LNK_ARB_PKT_W : Fld := ⟨4, 4⟩
abbrev F.LNK_ARB_CFG_W : Fld := ⟨0, 4⟩
abbrev F.LNK_CFG_DEGRADE : Fld := ⟨16, 16⟩
abbrev F.LNK_CFG_TRIES : Fld := ⟨8, 4⟩
abbrev F.LNK_CFG_REPLAY_LIMIT : Fld := ⟨0, 8⟩
abbrev F.LNK_ROUTEd_VALID : Fld := ⟨31, 1⟩
abbrev F.LNK_ROUTEd_VC : Fld := ⟨5, 1⟩
abbrev F.LNK_ROUTEd_PORT : Fld := ⟨0, 5⟩
abbrev F.LNK_FRZ_MASKp_MASK : Fld := ⟨0, 16⟩
abbrev F.LNK_DROP_COUNT : Fld := ⟨0, 16⟩
abbrev F.TIM_CMD_RELOCK : Fld := ⟨1, 1⟩
abbrev F.TIM_CMD_SET : Fld := ⟨0, 1⟩
abbrev F.TIM_CTRL_REVERT : Fld := ⟨6, 1⟩
abbrev F.TIM_CTRL_DOM1_EN : Fld := ⟨5, 1⟩
abbrev F.TIM_CTRL_MODE : Fld := ⟨4, 1⟩
abbrev F.TIM_CTRL_SRC : Fld := ⟨1, 3⟩
abbrev F.TIM_CTRL_RUN : Fld := ⟨0, 1⟩
abbrev F.TIM_SERVO_BW : Fld := ⟨24, 4⟩
abbrev F.TIM_SERVO_SLEW : Fld := ⟨16, 8⟩
abbrev F.TIM_SERVO_THRESH : Fld := ⟨0, 16⟩
abbrev F.TIM_STATUS_STATE : Fld := ⟨29, 3⟩
abbrev F.TIM_STATUS_ACT_DOM : Fld := ⟨28, 1⟩
abbrev F.TIM_STATUS_ACT_PORT : Fld := ⟨23, 5⟩
abbrev F.TIM_STATUS_TIME_VALID : Fld := ⟨22, 1⟩
abbrev F.TIM_STATUS_DOM_SWITCH : Fld := ⟨7, 1⟩
abbrev F.TIM_STATUS_JUMP_REFUSED : Fld := ⟨6, 1⟩
abbrev F.TIM_STATUS_STEPPED : Fld := ⟨5, 1⟩
abbrev F.TIM_STATUS_MASTER_CHG : Fld := ⟨4, 1⟩
abbrev F.TIM_STATUS_GM_CHANGE : Fld := ⟨3, 1⟩
abbrev F.TIM_STATUS_REF_LOSS : Fld := ⟨2, 1⟩
abbrev F.TIM_STATUS_EVI_OVF : Fld := ⟨1, 1⟩
abbrev F.TIM_STATUS_LATE : Fld := ⟨0, 1⟩
abbrev F.TIM_INTERVAL_TMO : Fld := ⟨16, 4⟩
abbrev F.TIM_INTERVAL_ANN_N : Fld := ⟨8, 4⟩
abbrev F.TIM_INTERVAL_PDLY_N : Fld := ⟨4, 4⟩
abbrev F.TIM_INTERVAL_SYNC_N : Fld := ⟨0, 4⟩
abbrev F.TIM_MGMT_DOMNUM1 : Fld := ⟨16, 8⟩
abbrev F.TIM_MGMT_DOMNUM0 : Fld := ⟨8, 8⟩
abbrev F.TIM_MGMT_TRANSPORT : Fld := ⟨0, 1⟩
abbrev F.TIM_PPS_WIDTH : Fld := ⟨16, 16⟩
abbrev F.TIM_PPS_OUT_FORCE : Fld := ⟨1, 1⟩
abbrev F.TIM_PPS_OUT_EN : Fld := ⟨0, 1⟩
abbrev F.TIM_PORTn_PRIO1 : Fld := ⟨6, 2⟩
abbrev F.TIM_PORTn_ROLE1 : Fld := ⟨4, 2⟩
abbrev F.TIM_PORTn_PRIO0 : Fld := ⟨2, 2⟩
abbrev F.TIM_PORTn_ROLE0 : Fld := ⟨0, 2⟩
abbrev F.TIM_MPDn_VALID : Fld := ⟨31, 1⟩
abbrev F.TIM_MPDn_MPD : Fld := ⟨0, 31⟩
abbrev F.TIM_EVIn_CTRL_OVF : Fld := ⟨24, 1⟩
abbrev F.TIM_EVIn_CTRL_COUNT : Fld := ⟨16, 5⟩
abbrev F.TIM_EVIn_CTRL_EDGE : Fld := ⟨0, 2⟩
abbrev F.TIM_EVOn_WIDTH : Fld := ⟨8, 16⟩
abbrev F.TIM_EVOn_LEVEL : Fld := ⟨7, 1⟩
abbrev F.TIM_EVOn_IDX : Fld := ⟨4, 3⟩
abbrev F.TIM_EVOn_SEL : Fld := ⟨0, 3⟩
abbrev F.TIM_TMRk_CTRL_EVENT : Fld := ⟨2, 1⟩
abbrev F.TIM_TMRk_CTRL_RUN_IF_LATE : Fld := ⟨1, 1⟩
abbrev F.TIM_TMRk_CTRL_ARM : Fld := ⟨0, 1⟩
abbrev F.TIM_TMRk_STATUS_ARMED : Fld := ⟨31, 1⟩
abbrev F.TIM_TMRk_STATUS_FIRED : Fld := ⟨30, 1⟩
abbrev F.TIM_TMRk_STATUS_LATE : Fld := ⟨29, 1⟩
abbrev F.TIM_TMRk_STATUS_MISSED : Fld := ⟨0, 16⟩
abbrev F.EVT_ROUTEe_MSIX_EN : Fld := ⟨31, 1⟩
abbrev F.EVT_ROUTEe_FUNC : Fld := ⟨22, 9⟩
abbrev F.EVT_ROUTEe_VECTOR : Fld := ⟨11, 11⟩
abbrev F.EVT_ROUTEe_FRAG_EN : Fld := ⟨10, 1⟩
abbrev F.EVT_ROUTEe_CHAN : Fld := ⟨0, 10⟩
abbrev F.TDU_CTRL_HI : Fld := ⟨16, 16⟩
abbrev F.TDU_CTRL_EN : Fld := ⟨0, 1⟩
abbrev F.TDU_QCTRL_WINDOW : Fld := ⟨16, 16⟩
abbrev F.TDU_QCTRL_QEN : Fld := ⟨15, 1⟩
abbrev F.TDU_QCTRL_BANK : Fld := ⟨0, 6⟩
abbrev F.TDU_STATUS_SNAP_TRUNC : Fld := ⟨7, 1⟩
abbrev F.TDU_STATUS_SNAP_FAIL : Fld := ⟨6, 1⟩
abbrev F.TDU_STATUS_QUIESCENT : Fld := ⟨5, 1⟩
abbrev F.TDU_STATUS_STORE_FULL : Fld := ⟨4, 1⟩
abbrev F.TDU_STATUS_SPILL_FAIL : Fld := ⟨3, 1⟩
abbrev F.TDU_STATUS_DUP : Fld := ⟨2, 1⟩
abbrev F.TDU_STATUS_REFUSED : Fld := ⟨1, 1⟩
abbrev F.TDU_STATUS_EXPIRED : Fld := ⟨0, 1⟩
abbrev F.TDU_OCC_MOVING : Fld := ⟨28, 4⟩
abbrev F.TDU_OCC_ONCHIP : Fld := ⟨0, 15⟩
abbrev F.TDU_SPILLED_SPILLED : Fld := ⟨0, 23⟩
abbrev F.TDU_SPILL_BASE_VALUE : Fld := ⟨0, 23⟩
abbrev F.TDU_SPILL_SIZE_VALUE : Fld := ⟨0, 23⟩
abbrev F.TDU_EXP_LAST_VALID : Fld := ⟨31, 1⟩
abbrev F.TDU_EXP_LAST_CHAN : Fld := ⟨16, 10⟩
abbrev F.TDU_EXP_LAST_TAG : Fld := ⟨0, 16⟩
abbrev F.TDU_CHn_CFG_CREDITS : Fld := ⟨19, 13⟩
abbrev F.TDU_CHn_CFG_VEC : Fld := ⟨8, 11⟩
abbrev F.TDU_CHn_CFG_PART : Fld := ⟨0, 8⟩
abbrev F.TDU_CHn_TMPL_ORDERED : Fld := ⟨31, 1⟩
abbrev F.TDU_CHn_TMPL_PRIO : Fld := ⟨28, 3⟩
abbrev F.TDU_CHn_TMPL_NEED : Fld := ⟨24, 4⟩
abbrev F.TDU_CHn_TMPL_ACTION : Fld := ⟨22, 2⟩
abbrev F.TDU_CHn_TMPL_REPLY : Fld := ⟨21, 1⟩
abbrev F.TDU_CHn_TMPL_LIFETIME : Fld := ⟨0, 20⟩
abbrev F.TDU_CHn_TGT_FWD_CHAN : Fld := ⟨22, 10⟩
abbrev F.TDU_CHn_TGT_FWD_OP : Fld := ⟨20, 2⟩
abbrev F.TDU_CHn_TGT_DMACH : Fld := ⟨10, 6⟩
abbrev F.TDU_CHn_TGT_SLOT : Fld := ⟨0, 10⟩
abbrev F.TDU_CHn_STATUS_RELEASING : Fld := ⟨31, 1⟩
abbrev F.TDU_CHn_STATUS_HELD : Fld := ⟨16, 13⟩
abbrev F.TDU_CHn_STATUS_REFUSED : Fld := ⟨15, 1⟩
abbrev F.TDU_CHn_STATUS_DUP : Fld := ⟨14, 1⟩
abbrev F.TDU_CHn_STATUS_EXPIRED : Fld := ⟨13, 1⟩
abbrev F.TDU_CHn_STATUS_AVAIL : Fld := ⟨0, 13⟩
abbrev F.TDU_CHn_POST_CMD : Fld := ⟨30, 2⟩
abbrev F.TDU_CHn_POST_OP : Fld := ⟨16, 2⟩
abbrev F.TDU_CHn_POST_TAG : Fld := ⟨0, 16⟩
abbrev F.TDU_CHn_NHEAD_VALID : Fld := ⟨31, 1⟩
abbrev F.TDU_CHn_NHEAD_TAG : Fld := ⟨0, 16⟩
abbrev F.DMA_CHn_CFG_SCOPE : Fld := ⟨31, 1⟩
abbrev F.DMA_CHn_CFG_PART : Fld := ⟨0, 8⟩
abbrev F.DMA_CHn_CMD_SLOT : Fld := ⟨16, 10⟩
abbrev F.DMA_CHn_CMD_CLEAR : Fld := ⟨3, 1⟩
abbrev F.DMA_CHn_CMD_ABORT : Fld := ⟨2, 1⟩
abbrev F.DMA_CHn_CMD_ARM : Fld := ⟨1, 1⟩
abbrev F.DMA_CHn_CMD_START : Fld := ⟨0, 1⟩
abbrev F.DMA_CHn_STATUS_STATE : Fld := ⟨29, 3⟩
abbrev F.DMA_CHn_STATUS_ERR : Fld := ⟨25, 4⟩
abbrev F.DMA_CHn_STATUS_LC1_ACT : Fld := ⟨24, 1⟩
abbrev F.DMA_CHn_STATUS_LC0_ACT : Fld := ⟨23, 1⟩
abbrev F.DMA_CHn_STATUS_TASK : Fld := ⟨22, 1⟩
abbrev F.DMA_CHn_STATUS_CMD_REFUSED : Fld := ⟨21, 1⟩
abbrev F.DMA_CHn_STATUS_PC : Fld := ⟨0, 14⟩
abbrev F.DMA_CHn_EVT_OVERRUN : Fld := ⟨8, 1⟩
abbrev F.DMA_CHn_EVT_ERR_EN : Fld := ⟨7, 1⟩
abbrev F.DMA_CHn_EVT_DONE_EN : Fld := ⟨6, 1⟩
abbrev F.DMA_CHn_EVT_FULL_EN : Fld := ⟨5, 1⟩
abbrev F.DMA_CHn_EVT_HALF_EN : Fld := ⟨4, 1⟩
abbrev F.DMA_CHn_EVT_ERR : Fld := ⟨3, 1⟩
abbrev F.DMA_CHn_EVT_DONE : Fld := ⟨2, 1⟩
abbrev F.DMA_CHn_EVT_FULL : Fld := ⟨1, 1⟩
abbrev F.DMA_CHn_EVT_HALF : Fld := ⟨0, 1⟩
abbrev F.DMA_CHn_TRIG_REARM : Fld := ⟨31, 1⟩
abbrev F.DMA_CHn_TRIG_CLASS : Fld := ⟨28, 3⟩
abbrev F.DMA_CHn_TRIG_SLOT : Fld := ⟨16, 10⟩
abbrev F.DMA_CHn_TRIG_NUMBER : Fld := ⟨0, 16⟩
abbrev F.DMA_CHn_WAITOBJ_CLASS : Fld := ⟨16, 3⟩
abbrev F.DMA_CHn_WAITOBJ_NUMBER : Fld := ⟨0, 16⟩
abbrev F.DMA_SLOT_OWNs_VALID : Fld := ⟨31, 1⟩
abbrev F.DMA_SLOT_OWNs_HANDOVER : Fld := ⟨30, 1⟩
abbrev F.DMA_SLOT_OWNs_PART : Fld := ⟨0, 8⟩
abbrev F.DMA_SLOT_SUM_HANDOVER : Fld := ⟨16, 11⟩
abbrev F.DMA_SLOT_SUM_FREE : Fld := ⟨0, 11⟩
abbrev F.SSP_OWNb_HANDOVER : Fld := ⟨31, 1⟩
abbrev F.SSP_OWNb_FAULTY : Fld := ⟨30, 1⟩
abbrev F.SSP_OWNb_KEEP : Fld := ⟨29, 1⟩
abbrev F.SSP_OWNb_KIND : Fld := ⟨8, 3⟩
abbrev F.SSP_OWNb_PART : Fld := ⟨0, 8⟩
abbrev F.SSP_PWRb_STATE : Fld := ⟨30, 2⟩
abbrev F.SSP_PWRb_AUTO_WAKE : Fld := ⟨2, 1⟩
abbrev F.SSP_PWRb_POWER : Fld := ⟨0, 2⟩
abbrev F.SSP_SUM_FAULTY : Fld := ⟨24, 7⟩
abbrev F.SSP_SUM_HANDOVER : Fld := ⟨16, 7⟩
abbrev F.SSP_SUM_OWNED : Fld := ⟨8, 7⟩
abbrev F.SSP_SUM_FREE : Fld := ⟨0, 7⟩
abbrev F.NOC_CTRL_WAKE_EN : Fld := ⟨0, 1⟩
abbrev F.NOC_STATn_MAX_LAT : Fld := ⟨16, 16⟩
abbrev F.NOC_STATn_MAX_DEFL : Fld := ⟨8, 8⟩
abbrev F.NOC_WAKE_WAKES : Fld := ⟨0, 16⟩
abbrev F.MTE_CTRL_BG : Fld := ⟨8, 4⟩
abbrev F.MTE_CTRL_PRESERVE : Fld := ⟨2, 1⟩
abbrev F.MTE_CTRL_ABORT : Fld := ⟨1, 1⟩
abbrev F.MTE_CTRL_START : Fld := ⟨0, 1⟩
abbrev F.MTE_STATUS_STATE : Fld := ⟨29, 3⟩
abbrev F.MTE_STATUS_FAILS : Fld := ⟨0, 24⟩
abbrev F.MTE_FAIL_INFO_VALID : Fld := ⟨31, 1⟩
abbrev F.MTE_FAIL_INFO_ELEMENT : Fld := ⟨28, 3⟩
abbrev F.MTE_FAIL_INFO_BG : Fld := ⟨26, 2⟩
abbrev F.MTE_FAIL_INFO_EXPECTED : Fld := ⟨25, 1⟩
abbrev F.MTE_FAIL_INFO_BIT : Fld := ⟨0, 9⟩
abbrev F.TSQ_RULEs_r_W0_TT : Fld := ⟨16, 16⟩
abbrev F.TSQ_RULEs_r_W0_T3 : Fld := ⟨12, 4⟩
abbrev F.TSQ_RULEs_r_W0_T2 : Fld := ⟨8, 4⟩
abbrev F.TSQ_RULEs_r_W0_T1 : Fld := ⟨4, 4⟩
abbrev F.TSQ_RULEs_r_W0_T0 : Fld := ⟨0, 4⟩
abbrev F.TSQ_RULEs_r_W1_V : Fld := ⟨31, 1⟩
abbrev F.TSQ_RULEs_r_W1_NEXT : Fld := ⟨27, 4⟩
abbrev F.TSQ_RULEs_r_W1_TSTOP : Fld := ⟨5, 1⟩
abbrev F.TSQ_RULEs_r_W1_TSTART : Fld := ⟨4, 1⟩
abbrev F.TSQ_RULEs_r_W1_C1CLR : Fld := ⟨3, 1⟩
abbrev F.TSQ_RULEs_r_W1_C1INC : Fld := ⟨2, 1⟩
abbrev F.TSQ_RULEs_r_W1_C0CLR : Fld := ⟨1, 1⟩
abbrev F.TSQ_RULEs_r_W1_C0INC : Fld := ⟨0, 1⟩
abbrev F.TSQ_OUTs_OUT : Fld := ⟨0, 8⟩
abbrev F.TSQ_LIMIT_LIMIT1 : Fld := ⟨16, 16⟩
abbrev F.TSQ_LIMIT_LIMIT0 : Fld := ⟨0, 16⟩
abbrev F.TSQ_TLIMIT_TLIMIT : Fld := ⟨0, 24⟩
abbrev F.TSQ_STATUS_TRUN : Fld := ⟨31, 1⟩
abbrev F.TSQ_STATUS_STATE : Fld := ⟨8, 4⟩
abbrev F.TSQ_STATUS_TSEQ : Fld := ⟨0, 8⟩
abbrev F.TSQ_CNT_TM : Fld := ⟨0, 24⟩
abbrev F.TRG_OUTt_OWN_VALID : Fld := ⟨31, 1⟩
abbrev F.TRG_OUTt_OWN_PART : Fld := ⟨0, 8⟩
abbrev F.TRG_Qq_OWN_VALID : Fld := ⟨31, 1⟩
abbrev F.TRG_Qq_OWN_PART : Fld := ⟨0, 8⟩
abbrev F.TRC_Sx_OWN_VALID : Fld := ⟨31, 1⟩
abbrev F.TRC_Sx_OWN_PART : Fld := ⟨0, 8⟩
abbrev F.TRG_OUTt_CFG_WAITPIN : Fld := ⟨31, 1⟩
abbrev F.TRG_OUTt_CFG_REARM : Fld := ⟨30, 1⟩
abbrev F.TRG_OUTt_CFG_FRZ : Fld := ⟨29, 1⟩
abbrev F.TRG_OUTt_CFG_TT : Fld := ⟨16, 8⟩
abbrev F.TRG_OUTt_CFG_QMASK : Fld := ⟨0, 16⟩
abbrev F.TRG_OUTt_CNT_COUNT : Fld := ⟨16, 16⟩
abbrev F.TRG_OUTt_CNT_DELAY : Fld := ⟨0, 16⟩
abbrev F.TRG_OUTt_CMD_FORCE : Fld := ⟨2, 1⟩
abbrev F.TRG_OUTt_CMD_DISARM : Fld := ⟨1, 1⟩
abbrev F.TRG_OUTt_CMD_ARM : Fld := ⟨0, 1⟩
abbrev F.TRG_OUTt_STATUS_STATE : Fld := ⟨30, 2⟩
abbrev F.TRG_OUTt_STATUS_FIRED : Fld := ⟨29, 1⟩
abbrev F.TRG_OUTt_STATUS_OCC : Fld := ⟨0, 16⟩
abbrev F.TRG_Qq_CFG_KIND : Fld := ⟨29, 3⟩
abbrev F.TRG_Qq_CFG_POL : Fld := ⟨27, 2⟩
abbrev F.TRG_Qq_CFG_INSIDE : Fld := ⟨26, 1⟩
abbrev F.TRG_Qq_CFG_CH : Fld := ⟨0, 12⟩
abbrev F.TRG_Qq_STAT_NOCHAN : Fld := ⟨31, 1⟩
abbrev F.TRG_Qq_STAT_UNMEAS : Fld := ⟨24, 7⟩
abbrev F.TRG_Qq_STAT_INVALID : Fld := ⟨16, 8⟩
abbrev F.TRG_Qq_STAT_FIRES : Fld := ⟨0, 16⟩
abbrev F.TRG_QPER_PERIOD : Fld := ⟨0, 24⟩
abbrev F.TRG_SBRKp_CTRL_EN : Fld := ⟨31, 1⟩
abbrev F.TRG_SBRKp_CTRL_STEP : Fld := ⟨16, 11⟩
abbrev F.TRG_SBRKp_CTRL_COUNT : Fld := ⟨0, 16⟩
abbrev F.TRG_SBRKp_STATUS_HIT : Fld := ⟨31, 1⟩
abbrev F.TRG_SBRKp_STATUS_REFUSED : Fld := ⟨30, 1⟩
abbrev F.TRG_SBRKp_STATUS_LATE : Fld := ⟨29, 1⟩
abbrev F.TRG_SBRKp_STATUS_LEFT : Fld := ⟨0, 16⟩
abbrev F.TRC_Sx_CFG_PRB : Fld := ⟨31, 1⟩
abbrev F.TRC_Sx_CFG_STATE : Fld := ⟨30, 1⟩
abbrev F.TRC_Sx_CFG_QUAL : Fld := ⟨29, 1⟩
abbrev F.TRC_Sx_CFG_WRAP : Fld := ⟨28, 1⟩
abbrev F.TRC_Sx_CFG_AUTO : Fld := ⟨27, 1⟩
abbrev F.TRC_Sx_CFG_TRIG_EN : Fld := ⟨26, 1⟩
abbrev F.TRC_Sx_CFG_TRIG : Fld := ⟨21, 5⟩
abbrev F.TRC_Sx_CFG_FIX : Fld := ⟨17, 4⟩
abbrev F.TRC_Sx_CFG_MAXF : Fld := ⟨13, 4⟩
abbrev F.TRC_Sx_POSTDC_POST_DC : Fld := ⟨0, 24⟩
abbrev F.TRC_Sx_CMD_FLUSH : Fld := ⟨3, 1⟩
abbrev F.TRC_Sx_CMD_RETURN : Fld := ⟨2, 1⟩
abbrev F.TRC_Sx_CMD_STOP : Fld := ⟨1, 1⟩
abbrev F.TRC_Sx_CMD_START : Fld := ⟨0, 1⟩
abbrev F.TRC_Sx_STATUS_STATE : Fld := ⟨30, 2⟩
abbrev F.TRC_Sx_STATUS_RELEASING : Fld := ⟨29, 1⟩
abbrev F.TRC_Sx_STATUS_FACTOR : Fld := ⟨25, 4⟩
abbrev F.TRC_Sx_STATUS_FREE : Fld := ⟨16, 9⟩
abbrev F.TRC_Sx_STATUS_DONE : Fld := ⟨7, 9⟩
abbrev F.TRC_Sx_STATUS_FILLING : Fld := ⟨6, 1⟩
abbrev F.TRC_Sx_STATUS_POST_REFUSED : Fld := ⟨5, 1⟩
abbrev F.TRC_Sx_PAGES_HELD : Fld := ⟨16, 10⟩
abbrev F.TRC_Sx_PAGES_RECLAIMED : Fld := ⟨0, 16⟩
abbrev F.TRC_Sx_POST_LO_ADDR : Fld := ⟨16, 16⟩
abbrev F.TRC_Sx_POST_LO_SPACE : Fld := ⟨1, 1⟩
abbrev F.TRC_Sx_DONE_LO_ADDR : Fld := ⟨16, 16⟩
abbrev F.TRC_Sx_DONE_LO_EMPTY : Fld := ⟨2, 1⟩
abbrev F.TRC_Sx_DONE_LO_SPACE : Fld := ⟨1, 1⟩
abbrev F.TRC_Sx_DONE_LO_VALID : Fld := ⟨0, 1⟩
abbrev F.VPT_CTRL_SMP_TMO : Fld := ⟨16, 16⟩
abbrev F.VPT_CTRL_LANES : Fld := ⟨4, 2⟩
abbrev F.VPT_CTRL_EN : Fld := ⟨0, 1⟩
abbrev F.VPT_STATUS_STATE : Fld := ⟨30, 2⟩
abbrev F.VPT_STATUS_LANES_UP : Fld := ⟨24, 6⟩
abbrev F.VPT_STATUS_TXQ : Fld := ⟨0, 5⟩
abbrev F.VPT_ERR_OWN : Fld := ⟨4, 1⟩
abbrev F.VPT_ERR_LATE : Fld := ⟨3, 1⟩
abbrev F.VPT_ERR_TXLOST : Fld := ⟨2, 1⟩
abbrev F.VPT_ERR_SEQ : Fld := ⟨1, 1⟩
abbrev F.VPT_ERR_FRAME : Fld := ⟨0, 1⟩
abbrev F.VPT_CNT_CRC : Fld := ⟨20, 12⟩
abbrev F.VPT_CNT_PROTO : Fld := ⟨10, 10⟩
abbrev F.VPT_CNT_TX_LOST : Fld := ⟨0, 10⟩
abbrev F.VPT_Pp_CNT_MISSING : Fld := ⟨16, 16⟩
abbrev F.VPT_Pp_CNT_FAILS : Fld := ⟨0, 16⟩
abbrev F.VPT_Pp_FIRST_VALID : Fld := ⟨31, 1⟩
abbrev F.VPT_Pp_FIRST_MAPERR : Fld := ⟨30, 1⟩
abbrev F.VPT_Pp_FIRST_EXP : Fld := ⟨14, 2⟩
abbrev F.VPT_Pp_FIRST_CLASS : Fld := ⟨12, 2⟩
abbrev F.VPT_Pp_FIRST_CH : Fld := ⟨0, 12⟩
abbrev F.VPT_CHc_OWN_VALID : Fld := ⟨31, 1⟩
abbrev F.VPT_CHc_OWN_ET_EN : Fld := ⟨30, 1⟩
abbrev F.VPT_CHc_OWN_PART : Fld := ⟨0, 8⟩
abbrev F.VPT_CHc_MAP_EN : Fld := ⟨31, 1⟩
abbrev F.VPT_CHc_MAP_MAPERR : Fld := ⟨30, 1⟩
abbrev F.VPT_CHc_MAP_REST : Fld := ⟨28, 2⟩
abbrev F.VPT_CHc_MAP_CLUSTER : Fld := ⟨20, 8⟩
abbrev F.VPT_CHc_MAP_BP : Fld := ⟨10, 7⟩
abbrev F.VPT_CHc_MAP_QADDR : Fld := ⟨0, 10⟩
abbrev F.VPT_CHc_STAT_DESKEW : Fld := ⟨16, 16⟩
abbrev F.VPT_CHc_STAT_FAILS : Fld := ⟨0, 16⟩
abbrev F.FW_STATUS_MODE : Fld := ⟨31, 1⟩
abbrev F.FW_STATUS_ACT_SLOT : Fld := ⟨30, 1⟩
abbrev F.FW_STATUS_SLOT_A : Fld := ⟨27, 3⟩
abbrev F.FW_STATUS_SLOT_B : Fld := ⟨24, 3⟩
abbrev F.FW_STATUS_LINK_COPY : Fld := ⟨22, 2⟩
abbrev F.FW_STATUS_PAIR : Fld := ⟨20, 2⟩
abbrev F.FW_STATUS_SET_SRC : Fld := ⟨18, 2⟩
abbrev F.FW_STATUS_SET_SEQ : Fld := ⟨0, 16⟩
abbrev F.FW_VER_ROM_MAJOR : Fld := ⟨24, 8⟩
abbrev F.FW_VER_ROM_MINOR : Fld := ⟨16, 8⟩
abbrev F.FW_VER_ROM_PATCH : Fld := ⟨0, 16⟩
abbrev F.FW_VER_HK_MAJOR : Fld := ⟨24, 8⟩
abbrev F.FW_VER_HK_MINOR : Fld := ⟨16, 8⟩
abbrev F.FW_VER_HK_PATCH : Fld := ⟨0, 16⟩
abbrev F.FW_VER_LINK_MAJOR : Fld := ⟨24, 8⟩
abbrev F.FW_VER_LINK_MINOR : Fld := ⟨16, 8⟩
abbrev F.FW_VER_LINK_PATCH : Fld := ⟨0, 16⟩
abbrev F.MBX_CTRL_IRQ_EN : Fld := ⟨11, 1⟩
abbrev F.MBX_CTRL_VEC : Fld := ⟨0, 11⟩
abbrev F.MBX_DOORBELL_GO : Fld := ⟨0, 1⟩
abbrev F.MBX_STATUS_REFUSED : Fld := ⟨2, 1⟩
abbrev F.MBX_STATUS_DONE : Fld := ⟨1, 1⟩
abbrev F.MBX_STATUS_BUSY : Fld := ⟨0, 1⟩
abbrev F.SEM_ACQn_GRANTED : Fld := ⟨31, 1⟩
abbrev F.SEM_ACQn_BROKEN : Fld := ⟨30, 1⟩
abbrev F.SEM_ACQn_HOLDER : Fld := ⟨0, 10⟩
abbrev F.SEM_PEEKn_GRANTED : Fld := ⟨31, 1⟩
abbrev F.SEM_PEEKn_BROKEN : Fld := ⟨30, 1⟩
abbrev F.SEM_PEEKn_HOLDER : Fld := ⟨0, 10⟩
abbrev F.SEM_RELn_REL : Fld := ⟨0, 1⟩
abbrev F.SEM_CFGn_FORCE : Fld := ⟨31, 1⟩
abbrev F.SEM_CFGn_SCOPE : Fld := ⟨30, 1⟩
abbrev F.SEM_CFGn_PART : Fld := ⟨0, 8⟩
abbrev F.SEC_SESSION_ROLE : Fld := ⟨8, 2⟩
abbrev F.SEC_SESSION_SLOT : Fld := ⟨0, 8⟩
abbrev F.SEC_STATUS_KEYSTORE_OK : Fld := ⟨31, 1⟩
abbrev F.SEC_STATUS_ENROLLED : Fld := ⟨30, 1⟩
abbrev F.SEC_STATUS_UNLOCK : Fld := ⟨28, 2⟩
abbrev F.SEC_STATUS_LOCKOUT : Fld := ⟨27, 1⟩
abbrev F.SEC_STATUS_TAP_REFUSED : Fld := ⟨0, 16⟩
abbrev F.SEC_AUDIT_STATUS_MIRROR_ERR : Fld := ⟨31, 1⟩
abbrev F.SEC_AUDIT_STATUS_OVERWRITE : Fld := ⟨30, 1⟩
abbrev F.SEC_AUDIT_STATUS_UNACKED : Fld := ⟨0, 18⟩
abbrev F.SEC_ASYM_STn_CLAMPED : Fld := ⟨31, 1⟩
abbrev F.SEC_THERM_F_CLAMPED : Fld := ⟨31, 1⟩
abbrev F.SEC_THERM_F_WARN : Fld := ⟨8, 8⟩
abbrev F.SEC_THERM_F_THROTTLE : Fld := ⟨0, 8⟩
abbrev F.SEC_THERM_U_CLAMPED : Fld := ⟨31, 1⟩
abbrev F.SEC_THERM_U_WARN : Fld := ⟨8, 8⟩
abbrev F.SEC_THERM_U_THROTTLE : Fld := ⟨0, 8⟩
abbrev F.SEC_THERM_E_CLAMPED : Fld := ⟨31, 1⟩
abbrev F.SEC_THERM_E_WARN : Fld := ⟨8, 8⟩
abbrev F.SEC_THERM_E_THROTTLE : Fld := ⟨0, 8⟩
abbrev F.FLT_STATUS_FAULT_N_ACT : Fld := ⟨31, 1⟩
abbrev F.FLT_STATUS_X_HELD : Fld := ⟨30, 1⟩
abbrev F.FLT_STATUS_OVF : Fld := ⟨29, 1⟩
abbrev F.FLT_STATUS_CORR_HIGH : Fld := ⟨28, 1⟩
abbrev F.FLT_STATUS_ACK_HEAD : Fld := ⟨8, 5⟩
abbrev F.FLT_STATUS_HEAD : Fld := ⟨0, 5⟩
abbrev F.FLT_CLR_CORR : Fld := ⟨2, 1⟩
abbrev F.FLT_CLR_OVF : Fld := ⟨1, 1⟩
abbrev F.FLT_CLR_RELEASE : Fld := ⟨0, 1⟩
abbrev F.FLT_CFG_CORR_LIM : Fld := ⟨0, 16⟩
abbrev F.FLT_LOGi_W0_VALID : Fld := ⟨31, 1⟩
abbrev F.FLT_LOGi_W0_LEVEL : Fld := ⟨28, 3⟩
abbrev F.FLT_LOGi_W0_CLASS : Fld := ⟨23, 5⟩
abbrev F.FLT_LOGi_W0_UNIT : Fld := ⟨8, 15⟩
abbrev F.FLT_LOGi_W0_PART : Fld := ⟨0, 8⟩
abbrev F.CTL_RST_CAUSE_WARMS : Fld := ⟨16, 16⟩
abbrev F.CTL_RST_CAUSE_CAUSE : Fld := ⟨0, 4⟩
abbrev F.CLK_STATUS_ROOT_LOCK : Fld := ⟨31, 1⟩
abbrev F.CLK_STATUS_REF_OK : Fld := ⟨30, 1⟩
abbrev F.CLK_STATUS_HOLDOVER : Fld := ⟨29, 1⟩
abbrev F.CLK_STATUS_FAIL : Fld := ⟨0, 7⟩
abbrev F.PWR_FROST_ENTER : Fld := ⟨31, 1⟩
abbrev F.PWR_FROST_EXIT : Fld := ⟨30, 1⟩
abbrev F.PWR_FROST_WAKE_TMR : Fld := ⟨0, 8⟩
abbrev F.PWR_STATUS_STATE : Fld := ⟨30, 2⟩
abbrev F.PWR_STATUS_REFUSED : Fld := ⟨29, 1⟩
abbrev F.PWR_STATUS_WHY : Fld := ⟨26, 3⟩
abbrev F.PWR_STATUS_FROSTS : Fld := ⟨0, 16⟩
abbrev F.PWR_THROT_PLIMIT : Fld := ⟨22, 10⟩
abbrev F.PWR_THROT_DUTY : Fld := ⟨12, 4⟩
abbrev F.PWR_THROT_MAXDUTY : Fld := ⟨8, 4⟩
abbrev F.PWR_TEMPk_MAX : Fld := ⟨24, 8⟩
abbrev F.PWR_TEMPk_SENS_B : Fld := ⟨8, 8⟩
abbrev F.PWR_TEMPk_SENS_A : Fld := ⟨0, 8⟩
abbrev F.PWR_POWER_PEAK : Fld := ⟨16, 16⟩
abbrev F.PWR_POWER_NOW : Fld := ⟨0, 16⟩
abbrev F.PWR_EVT_THROTTLE : Fld := ⟨3, 1⟩
abbrev F.PWR_EVT_WARN : Fld := ⟨2, 1⟩
abbrev F.PWR_EVT_SUPPLY : Fld := ⟨1, 1⟩
abbrev F.PWR_EVT_CLOCK : Fld := ⟨0, 1⟩
abbrev F.FMC_STATUSs_REFDLY : Fld := ⟨16, 16⟩
abbrev F.FMC_STATUSs_UNCORR : Fld := ⟨0, 8⟩
abbrev F.TSQ_CTR_C1 : Fld := ⟨16, 16⟩
abbrev F.TSQ_CTR_C0 : Fld := ⟨0, 16⟩

end Sys2Proof.Machine
end

