-- ==== Sys2Proof/Machine/Map.lean ====
section
/-!
DEFINITION. Sparse stores as sorted association lists, the byte, bit and field helpers, and the CRC-32 of R214.
A store lists only the keys whose value differs from what an unlisted key reads as, so equal stores are equal lists.
-/
namespace Sys2Proof.Machine

/-- A store of values by number. -/
abbrev NMap (α : Type) := List (Nat × α)

/-- The value listed at a key. -/
def NMap.find {α : Type} : NMap α → Nat → Option α
  | [], _ => none
  | (k, v) :: r, x => if k = x then some v else NMap.find r x

/-- The value at a key, `d` where the key is not listed. -/
def NMap.get {α : Type} (d : α) (m : NMap α) (k : Nat) : α := (m.find k).getD d

/-- The store without a key. -/
def NMap.erase {α : Type} (m : NMap α) (k : Nat) : NMap α := m.filter (fun e => decide (e.1 ≠ k))

/-- Insert a pair before the first larger key. -/
def NMap.insert {α : Type} (k : Nat) (v : α) : NMap α → NMap α
  | [] => [(k, v)]
  | (k', v') :: r => if k < k' then (k, v) :: (k', v') :: r else (k', v') :: NMap.insert k v r

/-- List a value at a key, whatever it is. -/
def NMap.put {α : Type} (m : NMap α) (k : Nat) (v : α) : NMap α := (m.erase k).insert k v

/-- Write a value; the value that an unlisted key reads as is not listed. -/
def NMap.set {α : Type} [DecidableEq α] (d : α) (m : NMap α) (k : Nat) (v : α) : NMap α :=
  if v = d then m.erase k else m.put k v

/-- The canonical form: keys rising, no listed value equal to the unlisted one. -/
def NMap.wf {α : Type} [DecidableEq α] (d : α) : NMap α → Bool
  | [] => true
  | [(_, v)] => decide (v ≠ d)
  | (k, v) :: (k', v') :: r => decide (v ≠ d) && decide (k < k') && NMap.wf d ((k', v') :: r)

/-- Remove every key of a range. -/
def NMap.clearRange {α : Type} (m : NMap α) (lo len : Nat) : NMap α :=
  m.filter (fun e => decide (e.1 < lo ∨ lo + len ≤ e.1))

/-- Apply a function to the elements of a list, left to right. -/
def forEach {α β : Type} (l : List α) (b : β) (f : α → β → β) : β := l.foldl (fun x a => f a x) b

/-- Remove the first element that satisfies a test. -/
def dropFirst {α : Type} (p : α → Bool) : List α → List α
  | [] => []
  | a :: r => if p a then r else a :: dropFirst p r

/-- Change the first element that satisfies a test. -/
def updFirst {α : Type} (p : α → Bool) (f : α → α) : List α → List α
  | [] => []
  | a :: r => if p a then f a :: r else a :: updFirst p f r

/-- Put an element before the first one that it does not come after. -/
def insertBy {α : Type} (le : α → α → Bool) (a : α) : List α → List α
  | [] => [a]
  | b :: r => if le a b then a :: b :: r else b :: insertBy le a r

/-- A list in order; elements that the order does not tell apart keep their places. -/
def sortBy {α : Type} (le : α → α → Bool) (l : List α) : List α := l.foldr (insertBy le) []

/-- The bits [lo + len - 1 : lo] of a number. -/
def bitsOf (n lo len : Nat) : Nat := (n >>> lo) % 2 ^ len

/-- One bit of a number. -/
def bitAt (n i : Nat) : Bool := n.testBit i

/-- The number 1 or 0 for a truth value. -/
def b2n (x : Bool) : Nat := if x then 1 else 0

/-- Add with saturation. -/
def satAdd (a b max : Nat) : Nat := min (a + b) max

/-- ceil(a / b). -/
def ceilDiv (a b : Nat) : Nat := (a + b - 1) / b

/-- A field of a word, as a number. -/
def Fld.get (f : Fld) (w : BitVec 32) : Nat := bitsOf w.toNat f.lo f.len

/-- The mask of a field. -/
def Fld.mask (f : Fld) : Nat := (2 ^ f.len - 1) <<< f.lo

/-- A word with one field replaced. -/
def Fld.set (f : Fld) (w : BitVec 32) (v : Nat) : BitVec 32 :=
  (w &&& ~~~ (BitVec.ofNat 32 f.mask)) ||| BitVec.ofNat 32 ((v % 2 ^ f.len) <<< f.lo)

/-- The low n bytes of a number, least significant first (R14). -/
def leBytes : Nat → Nat → List (BitVec 8)
  | 0, _ => []
  | n + 1, v => BitVec.ofNat 8 v :: leBytes n (v / 256)

/-- The number whose bytes, least significant first, are given. -/
def leNat : List (BitVec 8) → Nat
  | [] => 0
  | b :: r => b.toNat + 256 * leNat r

/-- The 32-bit words of a list of bytes. -/
def wordsLe : List (BitVec 8) → List (BitVec 32)
  | a :: b :: c :: d :: r => BitVec.ofNat 32 (leNat [a, b, c, d]) :: wordsLe r
  | _ => []

/-- Take n bytes from an offset; missing bytes read 0. -/
def sliceBytes (l : List (BitVec 8)) (off n : Nat) : List (BitVec 8) :=
  let t := (l.drop off).take n
  t ++ List.replicate (n - t.length) 0

/-- A little-endian number of n bytes at an offset. -/
def leAt (l : List (BitVec 8)) (off n : Nat) : Nat := leNat (sliceBytes l off n)

/-- One bit of the reflected CRC-32 register (R214). -/
def crcShift (c : BitVec 32) : BitVec 32 :=
  if c.getLsbD 0 then (c >>> 1) ^^^ 0xEDB88320#32 else c >>> 1

/-- One byte of the CRC-32: the eight bits of the register that it shifts out, and the rest, which moves down. -/
def crcByte (c : BitVec 32) (b : BitVec 8) : BitVec 32 :=
  (c >>> 8) ^^^ (List.range 8).foldl (fun x _ => crcShift x) ((c ^^^ b.setWidth 32) &&& 0xFF#32)

/-- CRC-32 (R214): polynomial 0x04C1_1DB7 reflected, initial value and final complement all ones. -/
def crc32 (l : List (BitVec 8)) : BitVec 32 := ~~~ (l.foldl crcByte 0xFFFFFFFF#32)

/-- A word sign-extended to an integer. -/
def sInt (w n : Nat) : Int := if n.testBit (w - 1) then (n : Int) - 2 ^ w else n

/-- The w-bit two's-complement number of an integer. -/
def uNat (w : Nat) (i : Int) : Nat := (i % (2 ^ w : Int)).toNat

/-- The first position at which a list's element satisfies a test. -/
def firstIdx {α : Type} (p : α → Bool) (l : List α) : Option Nat := l.findIdx? p

end Sys2Proof.Machine
end

