-- ==== Sys2Proof/Machine/Crypto.lean ====
section
/-!
DEFINITION. The published functions that the manual names: SHA-384 (FIPS 180-4), ECDSA P-384 verification (FIPS 186-5, R213, R476) and AES-256-GCM
decryption (R217, R480).
-/
namespace Sys2Proof.Machine

/-- The big-endian number of a list of bytes. -/
def beNat (l : List Byte) : Nat := l.foldl (fun n b => 256 * n + b.toNat) 0

/-- The n bytes of a number, most significant first. -/
def beBytes (n v : Nat) : List Byte := (leBytes n v).reverse

/-! ## SHA-384 -/

/-- The eight working words of the hash. -/
structure Sha where
  a : BitVec 64
  b : BitVec 64
  c : BitVec 64
  d : BitVec 64
  e : BitVec 64
  f : BitVec 64
  g : BitVec 64
  h : BitVec 64
  deriving DecidableEq, Repr

/-- The initial hash value. -/
def shaInit : Sha :=
  ⟨0xcbbb9d5dc1059ed8, 0x629a292a367cd507, 0x9159015a3070dd17, 0x152fecd8f70e5939,
   0x67332667ffc00b31, 0x8eb44a8768581511, 0xdb0c2e0d64f98fa7, 0x47b5481dbefa4fa4⟩

/-- The eighty round constants. -/
def shaK : List (BitVec 64) :=
  [0x428a2f98d728ae22, 0x7137449123ef65cd, 0xb5c0fbcfec4d3b2f, 0xe9b5dba58189dbbc]
  ++ [0x3956c25bf348b538, 0x59f111f1b605d019, 0x923f82a4af194f9b, 0xab1c5ed5da6d8118]
  ++ [0xd807aa98a3030242, 0x12835b0145706fbe, 0x243185be4ee4b28c, 0x550c7dc3d5ffb4e2]
  ++ [0x72be5d74f27b896f, 0x80deb1fe3b1696b1, 0x9bdc06a725c71235, 0xc19bf174cf692694]
  ++ [0xe49b69c19ef14ad2, 0xefbe4786384f25e3, 0x0fc19dc68b8cd5b5, 0x240ca1cc77ac9c65]
  ++ [0x2de92c6f592b0275, 0x4a7484aa6ea6e483, 0x5cb0a9dcbd41fbd4, 0x76f988da831153b5]
  ++ [0x983e5152ee66dfab, 0xa831c66d2db43210, 0xb00327c898fb213f, 0xbf597fc7beef0ee4]
  ++ [0xc6e00bf33da88fc2, 0xd5a79147930aa725, 0x06ca6351e003826f, 0x142929670a0e6e70]
  ++ [0x27b70a8546d22ffc, 0x2e1b21385c26c926, 0x4d2c6dfc5ac42aed, 0x53380d139d95b3df]
  ++ [0x650a73548baf63de, 0x766a0abb3c77b2a8, 0x81c2c92e47edaee6, 0x92722c851482353b]
  ++ [0xa2bfe8a14cf10364, 0xa81a664bbc423001, 0xc24b8b70d0f89791, 0xc76c51a30654be30]
  ++ [0xd192e819d6ef5218, 0xd69906245565a910, 0xf40e35855771202a, 0x106aa07032bbd1b8]
  ++ [0x19a4c116b8d2d0c8, 0x1e376c085141ab53, 0x2748774cdf8eeb99, 0x34b0bcb5e19b48a8]
  ++ [0x391c0cb3c5c95a63, 0x4ed8aa4ae3418acb, 0x5b9cca4f7763e373, 0x682e6ff3d6b2b8a3]
  ++ [0x748f82ee5defb2fc, 0x78a5636f43172f60, 0x84c87814a1f0ab72, 0x8cc702081a6439ec]
  ++ [0x90befffa23631e28, 0xa4506cebde82bde9, 0xbef9a3f7b2c67915, 0xc67178f2e372532b]
  ++ [0xca273eceea26619c, 0xd186b8c721c0c207, 0xeada7dd6cde0eb1e, 0xf57d4f7fee6ed178]
  ++ [0x06f067aa72176fba, 0x0a637dc5a2c898a6, 0x113f9804bef90dae, 0x1b710b35131c471b]
  ++ [0x28db77f523047d84, 0x32caab7b40c72493, 0x3c9ebe0a15c9bebc, 0x431d67c49c100d4c]
  ++ [0x4cc5d4becb3e42b6, 0x597f299cfc657e2a, 0x5fcb6fab3ad6faec, 0x6c44198c4a475817]

/-- One of the four sigma functions: three rotations, or two and a shift. -/
def sigma (x : BitVec 64) (i j k : Nat) (shift : Bool) : BitVec 64 :=
  x.rotateRight i ^^^ x.rotateRight j ^^^ (if shift then x >>> k else x.rotateRight k)

/-- One round with a constant and a message word. -/
def Sha.round (s : Sha) (k w : BitVec 64) : Sha :=
  let t1 := s.h + sigma s.e 14 18 41 false + ((s.e &&& s.f) ^^^ (~~~s.e &&& s.g)) + k + w
  let t2 := sigma s.a 28 34 39 false + ((s.a &&& s.b) ^^^ (s.a &&& s.c) ^^^ (s.b &&& s.c))
  ⟨t1 + t2, s.a, s.b, s.c, s.d + t1, s.e, s.f, s.g⟩

/-- The word of the message schedule that follows sixteen words. -/
def shaNext (w : List (BitVec 64)) : BitVec 64 :=
  sigma (w.getD 14 0) 19 61 6 true + w.getD 9 0 + sigma (w.getD 1 0) 1 8 7 true + w.getD 0 0

/-- The rounds for the constants that are left, with the next sixteen words of the schedule. -/
def shaRounds : List (BitVec 64) → List (BitVec 64) → Sha → Sha
  | [], _, s => s
  | k :: ks, w, s => shaRounds ks (w.drop 1 ++ [shaNext w]) (s.round k (w.headD 0))

/-- One block of 128 bytes. -/
def shaBlock (s : Sha) (l : List Byte) : Sha :=
  let w := (List.range 16).map (fun i => BitVec.ofNat 64 (beNat (sliceBytes l (8 * i) 8)))
  let r := shaRounds shaK w s
  ⟨s.a + r.a, s.b + r.b, s.c + r.c, s.d + r.d, s.e + r.e, s.f + r.f, s.g + r.g, s.h + r.h⟩

/-- A message padded to whole blocks. -/
def shaPad (l : List Byte) : List Byte :=
  l ++ [0x80] ++ List.replicate ((239 - l.length % 128) % 128) 0 ++ beBytes 16 (8 * l.length)

/-- The 48 bytes of the digest of a message. -/
def shaBytes (l : List Byte) : List Byte :=
  let m := shaPad l
  let s := (List.range (m.length / 128)).foldl (fun x i => shaBlock x (sliceBytes m (128 * i) 128)) shaInit
  [s.a, s.b, s.c, s.d, s.e, s.f].flatMap (fun x => beBytes 8 x.toNat)

/-- SHA-384, as the number whose little-endian bytes are the bytes of the digest in their order (log entry 122). -/
def sha384 (l : List Byte) : BitVec 384 := BitVec.ofNat 384 (leNat (shaBytes l))

/-! ## ECDSA on P-384 -/

/-- The prime of the field. -/
def p384 : Nat := 2 ^ 384 - 2 ^ 128 - 2 ^ 96 + 2 ^ 32 - 1
/-- The order of the group. -/
def n384 : Nat := 0xffffffffffffffffffffffffffffffffffffffffffffffffc7634d81f4372ddf581a0db248b0a77aecec196accc52973
/-- The constant term of the curve. -/
def b384 : Nat := 0xb3312fa7e23ee7e4988e056be3f82d19181d9c6efe8141120314088f5013875ac656398d8a2ed19d2a85c8edd3ec2aef
/-- The base point. -/
def g384 : Nat × Nat :=
  (0xaa87ca22be8b05378eb1c71ef320ad746e1d3b628ba79b9859f741e082542a385502f25dbf55296c3a545e3872760ab7,
   0x3617de4a96262c6f5d9e98bf9292dc29f8f41dbd289a147ce9da3113b5f0b8c00a60b1ce1d7e819d7a431d7c90ea0e5f)

/-- A power modulo m of an exponent of at most 384 bits, most significant bit first. -/
def powMod (m x e : Nat) : Nat :=
  (List.range 384).foldl (fun a i => let s := a * a % m; if e.testBit (383 - i) then s * x % m else s) (1 % m)

/-- A point in Jacobian coordinates; the point at infinity has Z = 0. -/
abbrev JPoint := Nat × Nat × Nat

/-- a − b in the field. -/
def fsub (a b : Nat) : Nat := (a + p384 - b % p384) % p384

/-- The double of a point of a curve with a = −3. -/
def jdbl (q : JPoint) : JPoint :=
  let (x, y, z) := q
  let d := z * z % p384
  let g := y * y % p384
  let be := x * g % p384
  let al := 3 * (fsub x d * (x + d)) % p384
  let x3 := fsub (al * al) (8 * be)
  (x3, fsub (al * fsub (4 * be) x3) (8 * (g * g)), 2 * (y * z) % p384)

/-- The sum of two points. -/
def jadd (q r : JPoint) : JPoint :=
  let (x1, y1, z1) := q
  let (x2, y2, z2) := r
  if z1 = 0 then r else if z2 = 0 then q
  else
    let u1 := x1 * (z2 * z2 % p384) % p384
    let u2 := x2 * (z1 * z1 % p384) % p384
    let s1 := y1 * (z2 * z2 % p384 * z2 % p384) % p384
    let s2 := y2 * (z1 * z1 % p384 * z1 % p384) % p384
    if u1 = u2 then (if s1 = s2 then jdbl q else (1, 1, 0))
    else
      let h := fsub u2 u1
      let t := fsub s2 s1
      let hh := h * h % p384
      let hhh := h * hh % p384
      let v := u1 * hh % p384
      let x3 := fsub (t * t) (hhh + 2 * v)
      (x3, fsub (t * fsub v x3) (s1 * hhh), z1 * z2 % p384 * h % p384)

/-- u1 · G + u2 · Q, most significant bits first. -/
def jmul2 (u1 u2 : Nat) (q : JPoint) : JPoint :=
  let g : JPoint := (g384.1, g384.2, 1)
  (List.range 384).foldl (fun a i =>
    let b := jdbl a
    let c := if u1.testBit (383 - i) then jadd b g else b
    if u2.testBit (383 - i) then jadd c q else c) (1, 1, 0)

/-- A point is on the curve, its coordinates reduced. -/
def onCurve (x y : Nat) : Bool := decide (x < p384 ∧ y < p384 ∧ y * y % p384 = (x * (x * x % p384) + (p384 - 3) * x + b384) % p384)

/-- The affine coordinates of a point that is not at infinity. -/
def affine (q : JPoint) : Nat × Nat :=
  let zi := powMod p384 q.2.2 (p384 - 2)
  (q.1 * (zi * zi % p384) % p384, q.2.1 * (zi * zi % p384 * zi % p384) % p384)

/-- The signature (r, s) of a message verifies under the public key (x, y). -/
def ecdsaVerify (x y r s : Nat) (msg : List Byte) : Bool :=
  let e := beNat (shaBytes msg)
  let w := powMod n384 s (n384 - 2)
  let q := jmul2 (e * w % n384) (r * w % n384) (x, y, 1)
  onCurve x y && decide (0 < r ∧ r < n384 ∧ 0 < s ∧ s < n384 ∧ q.2.2 ≠ 0 ∧ (affine q).1 % n384 = r)

/-- A signature verifies under a key: both are pairs of 48-byte little-endian numbers (log entry 122). -/
def sigVerifies (key : List Byte) (sig : List Byte) (msg : List Byte) : Bool :=
  ecdsaVerify (leAt key 0 48) (leAt key 48 48) (leAt sig 0 48) (leAt sig 48 48) msg

/-- The 96 bytes of the public key of a private key. -/
def publicKey (d : Nat) : List Byte := let q := affine (jmul2 d 0 (1, 1, 0)); leBytes 48 q.1 ++ leBytes 48 q.2

/-- The 96 bytes of the signature of a message under a private key, with the secret number k of this message. -/
def ecdsaSign (d k : Nat) (msg : List Byte) : List Byte :=
  let r := (affine (jmul2 k 0 (1, 1, 0))).1 % n384
  leBytes 48 r ++ leBytes 48 (powMod n384 k (n384 - 2) * (beNat (shaBytes msg) + r * d) % n384)

/-- The key that ECDH gives with a public key (R480): the first 256 bits of SHA-384 of the shared coordinate. -/
def ecdhKey (d : Nat) (key : List Byte) : Option (List Byte) :=
  let x := leAt key 0 48
  let y := leAt key 48 48
  if onCurve x y then some ((shaBytes (beBytes 48 (affine (jmul2 0 d (x, y, 1))).1)).take 32) else none

/-! ## AES-256-GCM -/

/-- Twice an element of the field of the cipher. -/
def xtime (x : Byte) : Byte := (x <<< 1) ^^^ (if x.getLsbD 7 then 0x1B#8 else 0)

/-- The product of two elements of the field of the cipher. -/
def gmul (x y : Byte) : Byte :=
  ((List.range 8).foldl (fun (a : Byte × Byte) i => (if y.getLsbD i then a.1 ^^^ a.2 else a.1, xtime a.2)) (0, x)).1

/-- The substitution of a byte: its inverse in the field, which is its power 254, and an affine map. -/
def subByte (x : Byte) : Byte :=
  let i := (List.range 7).foldl (fun (a : Byte × Byte) _ => let s := gmul a.2 a.2; (gmul a.1 s, s)) (1, x)
  i.1 ^^^ i.1.rotateLeft 1 ^^^ i.1.rotateLeft 2 ^^^ i.1.rotateLeft 3 ^^^ i.1.rotateLeft 4 ^^^ 0x63#8

/-- The word number i of the expanded key, given the words before it, latest first. -/
def nextKeyWord (i : Nat) (rcon : Byte) (w : List (List Byte)) : List Byte :=
  let t := w.headD []
  let u := if i % 8 = 0 then List.zipWith (· ^^^ ·) ((t.drop 1 ++ t.take 1).map subByte) [rcon, 0, 0, 0]
    else if i % 8 = 4 then t.map subByte else t
  List.zipWith (· ^^^ ·) (w.getD 7 []) u

/-- The sixty words of the expanded key. -/
def expandKey (key : List Byte) : List (List Byte) :=
  let first := (List.range 8).map (fun i => sliceBytes key (4 * i) 4)
  (((List.range 52).foldl (fun (a : List (List Byte) × Byte) j =>
    (nextKeyWord (j + 8) a.2 a.1 :: a.1, if j % 8 = 0 then xtime a.2 else a.2)) (first.reverse, 1#8)).1).reverse

/-- One column of the mixing step. -/
def mixCol (c : List Byte) : List Byte :=
  (List.range 4).map (fun i =>
    gmul (c.getD i 0) 2 ^^^ gmul (c.getD ((i + 1) % 4) 0) 3 ^^^ c.getD ((i + 2) % 4) 0 ^^^ c.getD ((i + 3) % 4) 0)

/-- Substitution and the shift of the rows of a block held column by column. -/
def subShift (s : List Byte) : List Byte := (List.range 16).map (fun i => subByte (s.getD ((i + 4 * (i % 4)) % 16) 0))

/-- One block enciphered under an expanded key. -/
def aesBlock (w : List (List Byte)) (l : List Byte) : List Byte :=
  let rk (r : Nat) := ((w.drop (4 * r)).take 4).flatten
  let mix (s : List Byte) := (List.range 4).flatMap (fun i => mixCol (sliceBytes s (4 * i) 4))
  let s := (List.range 13).foldl (fun x r => List.zipWith (· ^^^ ·) (mix (subShift x)) (rk (r + 1))) (List.zipWith (· ^^^ ·) l (rk 0))
  List.zipWith (· ^^^ ·) (subShift s) (rk 14)

/-- The product of two blocks in the field of GHASH, whose bit 0 is the most significant. -/
def ghMul (x y : BitVec 128) : BitVec 128 :=
  ((List.range 128).foldl (fun (a : BitVec 128 × BitVec 128) i =>
    (if x.getMsbD i then a.1 ^^^ a.2 else a.1,
     if a.2.getLsbD 0 then (a.2 >>> 1) ^^^ 0xE1000000000000000000000000000000#128 else a.2 >>> 1)) (0, y)).1

/-- The 16-byte blocks of a text, the last filled with zeros. -/
def blocks16 (l : List Byte) : List (List Byte) := (List.range ((l.length + 15) / 16)).map (fun i => sliceBytes l (16 * i) 16)

/-- The first n bytes that the cipher adds to a text under a 96-bit nonce. -/
def gcmKeystream (w : List (List Byte)) (nonce : List Byte) (n : Nat) : List Byte :=
  ((List.range ((n + 15) / 16)).flatMap (fun i => aesBlock w (nonce ++ beBytes 4 (i + 2)))).take n

/-- The tag of a ciphertext with its additional data. -/
def gcmTag (w : List (List Byte)) (nonce aad c : List Byte) : List Byte :=
  let h := BitVec.ofNat 128 (beNat (aesBlock w (List.replicate 16 0)))
  let s := (blocks16 aad ++ blocks16 c ++ [beBytes 8 (8 * aad.length) ++ beBytes 8 (8 * c.length)]).foldl
    (fun y x => ghMul (y ^^^ BitVec.ofNat 128 (beNat x)) h) 0
  List.zipWith (· ^^^ ·) (beBytes 16 s.toNat) (aesBlock w (nonce ++ beBytes 4 1))

/-- AES-256-GCM decryption (R217): none where the tag does not verify. -/
def gcmDecrypt (key nonce aad c tag : List Byte) : Option (List Byte) :=
  let w := expandKey key
  if gcmTag w nonce aad c = tag then some (List.zipWith (· ^^^ ·) c (gcmKeystream w nonce c.length)) else none

end Sys2Proof.Machine
end

