-- ==== Sys2Proof/Machine/Parts.lean ====
section
/-!
DEFINITION. The state of the module's parts that is not a register: stores, queues, buffers and what the prose of the manual keeps.
Every part is plain data; a field's default value is its value at reset.
-/
namespace Sys2Proof.Machine

/-- The states of a partition (Table 2.11); a partition that hosts nothing reads WINTER. -/
inductive PState where
  | winter
  | running
  | frozen
  | stoppedFault
  | frost
  deriving DecidableEq, Repr

/-- The roles of R18. -/
inductive Role where
  | none
  | op
  | inst
  | maker
  | hk
  deriving DecidableEq, Repr

/-- What the module sends to the host and the management port. -/
inductive HostMsg where
  /-- an MSI-X message: function (0 PF0, 1 + v VF v) and vector; of an event also the CTL_CLK cycle and the event number -/
  | msix (fn : Nat) (vec : Nat) (evt : Option (Nat × Nat))
  /-- a response datagram of the management port (R461) -/
  | datagram (bytes : List Byte)
  /-- a posted write to host memory through a function -/
  | write (fn : Nat) (addr : Nat) (bytes : List Byte)
  /-- a read request to host memory for DMA channel n -/
  | read (fn : Nat) (n : Nat) (addr : Nat) (len : Nat)
  /-- a completion: Request Retry Status or successful (R519), and what a read of a capability finds (R450) -/
  | configDone (retry : Bool) (present : Option Bool := none)
  /-- a Delay_Req on the management port: transport Annex C instead of Annex E, domainNumber, sequence (R294, R295) -/
  | delayReq (annexC : Bool) (domNum : BitVec 8) (seq : BitVec 16)
  deriving DecidableEq, Repr

/-- A session of a function (R476, R477). -/
structure Session where
  role : Role
  slot : Nat
  deriving DecidableEq, Repr

/-- An outstanding challenge: role, key slot, nonce, and the CTL_CLK cycle at which its 10 s end (R476). -/
structure Challenge where
  role : Role
  slot : Nat
  nonce : BitVec 384
  until_ : Nat
  deriving DecidableEq, Repr

/-- One function of the module: PF0, a virtual function or the management port (R451, R457, R461). -/
structure Func where
  /-- the request buffer, by byte -/
  req : NMap Byte := []
  /-- the response buffer, by byte -/
  resp : NMap Byte := []
  /-- MBX_CTRL of this function -/
  mbxCtrl : Word := 0
  /-- MBX_STATUS of this function -/
  mbxStatus : Word := 0
  session : Option Session := none
  challenge : Option Challenge := none
  /-- failed responses in a row (R478) -/
  fails : Nat := 0
  /-- SEC_STATUS.LOCKOUT of this function -/
  lockout : Bool := false
  /-- the CTL_CLK cycle at which the 60 s of the lockout end (R478) -/
  lockUntil : Nat := 0
  /-- the words of address and data of the MSI-X table, by vector × 4 + word (R451) -/
  msixTab : NMap Word := []
  /-- unmasked MSI-X vectors; every vector is masked at reset -/
  unmasked : List Nat := []
  /-- pending bits of masked vectors (R456) -/
  msixPend : List Nat := []
  /-- codes of Max Payload Size and Max Read Request Size, 128 bytes × 2^code, and the AER report of a poisoned write (Table 15.1) -/
  mps : BitVec 3 := 0
  mrrs : BitVec 3 := 2
  aerPoison : Bool := false
  deriving DecidableEq, Repr

/-- An audit entry (Table 16.4). -/
structure AuditEntry where
  seq : Nat
  time : Stamp
  typ : BitVec 16
  role : Role
  slot : BitVec 8
  source : BitVec 16
  result : BitVec 16
  detail : List Byte
  hash : BitVec 384
  deriving DecidableEq, Repr

/-- The bytes 0x00 to 0x4F of an audit entry (Table 16.4). -/
def auditBytes (seq : Nat) (t : Stamp) (typ : Nat) (role : Role) (slot src res : Nat) (detail : List Byte) : List Byte :=
  leBytes 8 seq ++ leBytes 12 t.toNat ++ leBytes 2 typ
    ++ leBytes 1 (match role with | .none => 0 | .op => 1 | .inst => 2 | .maker => 3 | .hk => 4)
    ++ leBytes 1 slot ++ leBytes 2 src ++ leBytes 2 res ++ sliceBytes detail 0 52

/-- HASH of an entry after one whose HASH is given (Table 16.4). -/
def auditHash (prev : BitVec 384) (bytes : List Byte) : BitVec 384 := sha384 (leBytes 48 prev.toNat ++ bytes)

/-- The entry of SEQ 0, which the factory wrote after a HASH of 48 zero bytes (R484). -/
def factoryEntry : AuditEntry :=
  let (t, typ, src, res, detail) := Config.factoryEntry
  ⟨0, t, typ, .maker, 0xFF, src, res, sliceBytes detail 0 52, auditHash 0 (auditBytes 0 t typ.toNat .maker 0xFF src.toNat res.toNat detail)⟩

/-- An operator public key with its partition scope (R479). -/
structure OperKey where
  key : List Byte
  scope : BitVec 256
  deriving DecidableEq, Repr

/-- An image key of AES-256-GCM (R479). -/
structure ImgKey where
  keyId : BitVec 32
  scope : BitVec 256
  key : List Byte
  deriving DecidableEq, Repr

/-- The keys, the audit log and the calibration of the HKC (R479, R484, R491). -/
structure Sec where
  instKey : Option (List Byte) := none
  operKeys : NMap OperKey := []
  imgKeys : NMap ImgKey := []
  /-- KEYSTORE_OK failed: keys unusable until reset (event 15) -/
  keyFault : Bool := false
  /-- the identity key pair, the maker root public key, and the maker key of firmware images: private, fused (R479, R483) -/
  idKey : Nat := Config.identityKey
  makerRoot : List Byte := Config.makerRoot
  /-- the fused SHA-384 of the maker root public key (R479) -/
  makerHash : BitVec 384 := Config.makerHash
  makerKey : List Byte := Config.makerKey
  /-- the latest 4,096 entries, oldest first -/
  audit : List AuditEntry := []
  /-- the audit mirror in the boot flash, oldest first (R485) -/
  mirror : List AuditEntry := [factoryEntry]
  /-- entries on chip that are not yet in the mirror -/
  unmirrored : Nat := 0
  /-- entries with a lower SEQ have been acknowledged -/
  acked : Nat := 0
  /-- SEQ of the next entry; the factory wrote entry 0 (R484) -/
  nextSeq : Nat := 1
  lastHash : BitVec 384 := factoryEntry.hash
  /-- fuse rows that are programmed: the factory's, and those of FUSE_WRITE -/
  fuses : NMap (List Byte) := Config.factoryFuses
  /-- last calibration SEQ applied: 0 installer, 1 + slot operator -/
  calSeq : NMap Nat := []
  /-- installer values of calibration items, by item × 65536 + index -/
  calInst : NMap (BitVec 32) := []
  /-- the blocks that gave them (R491) -/
  calBlocks : List (List Byte) := []
  /-- operator values -/
  calOper : NMap (BitVec 32) := []
  /-- factory deskew of the channels, fused -/
  calFactory : NMap (BitVec 32) := []
  deriving DecidableEq, Repr

/-- A settings copy of the boot flash (R465). -/
structure SetCopy where
  /-- CRC-32 under R214 over the rest -/
  crc : BitVec 32 := 0
  fmt : BitVec 16 := 0
  seq : BitVec 16 := 0
  autoConfirm : Bool := false
  march : Bool := false
  /-- the saved registers: LNK_DEVID, the routing tables and the other installer settings -/
  values : List (RegKey × BitVec 32) := []
  /-- the blocks of the saved installer calibration, with their signatures (R493) -/
  blocks : List (List Byte) := []
  deriving DecidableEq, Repr

/-- The boot flash and the firmware that runs (R462 to R467). Slot codes are those of Table 15.10; copy 0 is L0. -/
structure Fw where
  slotA : Nat := 2
  slotB : Nat := 0
  trialA : Bool := false
  trialB : Bool := false
  /-- the link copies are valid -/
  linkA : Bool := true
  linkB : Bool := false
  nextSlot : Bool := false
  nextCopy : Bool := false
  /-- bytes written by FW_WRITE, by target × 2^24 + offset; the others are the factory's -/
  flash : NMap Byte := []
  set0 : SetCopy := {}
  set1 : SetCopy := {}
  /-- AUTO_CONFIRM and the March enable of the settings in force -/
  autoConfirm : Bool := false
  march : Bool := false
  /-- the format that the running firmware writes -/
  setFmt : BitVec 16 := 0
  /-- safe mode was requested by RESET (R467) -/
  safeReq : Bool := false
  /-- the boot found no link firmware or another LINK_IF major: links and Vector Port stay DISABLED (R466) -/
  linksOff : Bool := false
  /-- the function whose mailbox request was taken up last (R459) -/
  mbxLast : Nat := 257
  deriving DecidableEq, Repr

/-- The phases of a start (R517 to R519). -/
inductive Phase where
  /-- POR_N is low -/
  | por
  /-- POR_N released, the root PLL not yet locked -/
  | lock
  /-- the boot ROM runs -/
  | boot
  /-- the firmware is ready, or safe mode is served -/
  | ready
  deriving DecidableEq, Repr

/-- Clocks, power and pins (chapter 18, Table 18.3). -/
structure Power where
  phase : Phase := .por
  /-- CTL_CLK cycles since the dividers were released -/
  ctl : Nat := 0
  /-- runs of disagreeing readings of the nine sensor pairs (R530) -/
  mism : List Nat := [0, 0, 0, 0, 0, 0, 0, 0, 0]
  /-- a site was at or above THROTTLE at its last reading, per site (R531) -/
  hot : List Bool := [false, false, false, false, false, false, false, false, false]
  /-- the effective THROTTLE threshold in force since the last reading (R492) -/
  throt : Option Int := none
  /-- CFG_DONE and CFG_ERR driven high, FAULT_N and THERM_N driven low -/
  cfgDone : Bool := false
  cfgErr : Bool := false
  faultN : Bool := true
  thermN : Bool := false
  /-- the warning stands: a site has reached WARN, and not every site has fallen 3 °C below it since (R534) -/
  warned : Bool := false
  /-- a Thaw was requested during Frost entry (R528) -/
  thawReq : Bool := false
  /-- a warm reset waits for the end of a Thaw: its cause (R521) -/
  warmReq : Option Nat := none
  /-- a rail fault or trip of class 0x11 is outstanding (R534) -/
  trip : Bool := false
  /-- the dynamic address that ENTDAA gave to the I3C target (R461) -/
  i3c : Option (BitVec 7) := none
  /-- the Thaw in progress or asked for was started by a packet (NOC_WAKE) -/
  byPacket : Bool := false
  deriving DecidableEq, Repr

/-- The control-plane units that a level U fault names (Table 17.1, Table 17.4). -/
inductive CUnit where
  | tdu
  | dma
  | tu
  | tgu
  | trace
  | ssp
  | vpt
  | noc
  | sem
  deriving DecidableEq, Repr

/-- Accounts of the fault log (R507 to R509). -/
structure Flt where
  /-- entries that the host has not acknowledged -/
  unacked : Nat := 0
  /-- FLT_CORR at the start of the current second of TDU_TICK; an earlier second's excess over CORR_LIM awaits its next correction; event 252 of the
  current second's excess has been raised (R509) -/
  corrBase : BitVec 32 := 0
  corrDue : Bool := false
  corrTold : Bool := false
  /-- the CTL_CLK cycle of the latest entry, and the number of entries of that cycle (R508) -/
  cycle : Nat := 0
  inCycle : Nat := 0
  /-- control-plane units that refuse new work until a warm reset (level U) -/
  refusing : List CUnit := []
  deriving DecidableEq, Repr

/-- A symbol of a control flit: TYPE and body (R265). -/
structure Sym where
  typ : BitVec 8
  body : BitVec 96
  deriving DecidableEq, Repr

/-- A fragment's source (Table 10.1), in the order in which one cycle's fragments are applied (R320). -/
inductive FragSrc where
  | event
  | dma (n : Nat)
  /-- cluster, FMP, and the number of the FMP request whose class-1 response is the reply -/
  | design (c : Nat) (fmp : Nat) (id : Nat)
  | host (r : Requester)
  /-- the fragment that a FORWARD dispatch posts (Table 10.3) -/
  | forward
  deriving DecidableEq, Repr

/-- A fragment (R320). -/
structure Frag where
  src : FragSrc
  chan : Nat
  tag : Nat
  op : Nat
  data : BitVec 64
  deriving DecidableEq, Repr

/-- A matching-store entry (Table 10.2). -/
structure Entry where
  /-- 0 WAITING, 1 READY, 2 ACTIVE -/
  state : Nat
  ordered : Bool
  prio : Nat
  need : BitVec 4
  have_ : BitVec 4
  action : Nat
  defer : Bool
  chan : Nat
  tag : Nat
  deadline : BitVec 32
  seq : BitVec 32
  /-- owed DEFER replies (WAITk): operand, cluster, FMP, number of the FMP request -/
  owed : List (Nat × Nat × Nat × Nat)
  fwdChan : Nat
  fwdOp : Nat
  dmach : Nat
  slot : Nat
  op : List (BitVec 64)
  /-- allocation order over all channels, order of completion or of dispatch, and TDU_TICK at allocation -/
  order : Nat
  done : Nat
  born : BitVec 32
  /-- taken by a read of TDU_CHn_NHEAD (R334) -/
  readOut : Bool
  deriving DecidableEq, Repr

/-- The transactor dispatch unit (chapter 10). -/
structure Tdu where
  /-- fragments not yet applied, each with the CTL_CLK cycle in which it came -/
  queue : List (Nat × Frag) := []
  /-- fragments whose bucket is being read (R343), oldest first -/
  reads : List Frag := []
  /-- those whose read a refresh has delayed (R551) -/
  late : List Frag := []
  /-- the on-chip store -/
  store : List Entry := []
  /-- the spilled entries by their place in the spill region; their words stand in far memory (R341), the other fields here -/
  spilled : List (Nat × Entry) := []
  /-- eligible entries in the order in which they joined their ready lists: channel, sequence, and the CTL_CLK cycle of joining (R329) -/
  ready : List (Nat × BitVec 32 × Nat) := []
  /-- the next allocation sequence of each channel -/
  nextSeq : NMap (BitVec 32) := []
  nextOrder : Nat := 0
  /-- bucket that the sweep reads next -/
  sweep : Nat := 0
  /-- ONCHIP was above HI since it last was at or below (R342) -/
  spilling : Bool := false
  /-- CTL_CLK cycles into the current microsecond -/
  sub : Nat := 0
  /-- CTL_CLK cycles for which the quiescence condition has held (R348) -/
  calm : Nat := 0
  /-- a fragment was accepted or an entry dispatched since the last STALL_QUIESCENT -/
  armed : Bool := true
  /-- the snapshot that waits for its bank, by bank and bytes (R349) -/
  snap : Option (Nat × List Byte) := none
  deriving DecidableEq, Repr

/-- A MOVE under way (R365): its instruction, its ranges as the base registers gave them, and the bytes whose requests have been issued. -/
structure MoveRun where
  ins : BitVec 128
  sspc : Nat
  dspc : Nat
  src : Nat
  dst : Nat
  len : Nat
  pos : Nat := 0
  /-- the number of the run among those of its channel -/
  run : Nat := 0
  deriving DecidableEq, Repr

/-- One DMA channel beside its registers (chapter 11). -/
structure Dma where
  /-- the task's channel and tag (R358) -/
  taskChan : Nat := 0
  taskTag : Nat := 0
  taskSeq : BitVec 32 := 0
  /-- timer latch -/
  timers : BitVec 8 := 0
  /-- writes issued and not acknowledged -/
  writes : Nat := 0
  /-- the CTL_CLK cycle of a RETRY, from which the next request waits (R380) -/
  again : Option Nat := none
  /-- the channel waits for writes before it ends: the ERR code it will take -/
  ending : Option Nat := none
  /-- POL of the unserved WAIT, and the TDU_TICK at which its TMO elapses -/
  waitPol : Bool := false
  deadline : Option (BitVec 32) := none
  /-- the MOVE under way; one with POST = 0 stays until its last write is acknowledged (R365) -/
  move : Option MoveRun := none
  /-- the MOVEs that have begun -/
  runs : Nat := 0
  /-- the instruction whose read of host memory is outstanding, and the reads whose channel has ended since -/
  hostOp : Option (BitVec 128) := none
  stale : Nat := 0
  /-- the fragment of the SIGNAL at the PC has been posted, and whether the TDU has applied or refused it (R369) -/
  sig : Option (Option Bool) := none
  deriving DecidableEq, Repr

/-- A message of a link (R261). -/
inductive Msg where
  | seg (s : Segment)
  | pkt (p : Packet)
  | cfg (m : CfgMsg)
  deriving DecidableEq, Repr

/-- A sequenced flit as its sender keeps it: the fields of Table 8.3 but ACK, NAK and credit. -/
structure TxFlit where
  cls : Nat
  seq : Nat
  dest : Nat
  vc : Bool
  som : Bool
  eom : Bool
  payload : BitVec 416
  deriving DecidableEq, Repr

/-- A message in the transmit queue of a link: the flits that are ready, whether its first flit has been sent, whether its last one has come, and for a
message that came over a link that link and its receive buffer (R261, R281). -/
structure TxMsg where
  cls : Nat
  vc : Bool
  flits : List TxFlit
  started : Bool := false
  whole : Bool := true
  from_ : Option (Nat × Nat) := none
  /-- of a configuration message that is forwarded, the number under which it is held (R237) -/
  relay : Option Nat := none
  deriving DecidableEq, Repr

/-- A message being received (R261, R263, R278): port 16 is the module. Of a message that is forwarded the flits stand in the transmit queue of its port. -/
structure RxMsg where
  flits : List (BitVec 416)
  dest : Nat
  route : Option (Nat × Bool)
  vc : Bool
  bad : Bool
  deriving DecidableEq, Repr

/-- One link beside its registers (chapter 8). -/
structure Link where
  /-- symbols waiting for a control flit -/
  ctl : List Sym := []
  /-- messages waiting or in progress, oldest first -/
  queue : List TxMsg := []
  /-- the next sequence number, the flits not yet acknowledged, those waiting to be resent, and how often the oldest was resent -/
  txSeq : Nat := 0
  unacked : List TxFlit := []
  replay : List TxFlit := []
  resends : Nat := 0
  /-- sequence numbers of flits that the partner had not accepted at the last retrain: their resend takes a credit of the new count (R273, R277) -/
  owed : List Nat := []
  /-- last sequence number accepted; a NAK is outstanding; the next flit carries NAK; the CTL_CLK cycles of the last NAK sent or received (R267), and of the
  last NAK sent (R270) -/
  rxSeq : Nat := 4095
  nakOut : Bool := false
  sendNak : Bool := false
  nakAt : Nat := 0
  nakSent : Nat := 0
  /-- flits freed by buffer k, the last count received for it, and the buffer whose count goes next -/
  freed : NMap Nat := []
  /-- flits in receive buffer k -/
  held : NMap Nat := []
  freedIn : NMap Nat := []
  turn : Nat := 0
  /-- the message being received, by class: its flits so far, its route and its virtual channel as of its SOM flit (R278), and whether it
  has become a protocol error -/
  rx : NMap RxMsg := []
  /-- the weighted round robin: the class in turn and the flits it may still send -/
  rrCls : Nat := 1
  rrLeft : Nat := 0
  /-- a retrain in progress mends a credit imbalance (Table 17.4) -/
  credFix : Bool := false
  /-- PATH_HOLD with ON = 1 is outstanding for the link, and the partitions for which it was originated (R267) -/
  holdOut : Bool := false
  holdFor : List Nat := []
  /-- the partitions whose segments have arrived on the link (R269) -/
  arr : List Nat := []
  /-- CTL_CLK cycle at which the state was entered, or the training attempt began -/
  since : Nat := 0
  /-- the state inside RETRAIN: 0 TRAIN, 1 ALIGN, 2 CONFIG (Table 8.2) -/
  phase : Nat := 0
  /-- what this end sends in CONFIG (R257, R273) -/
  cfgOut : Option ConfigInfo := none
  /-- corrected symbols of the present window (R283) -/
  window : Nat := 0
  /-- flits received of the codewords since alignment, and whether the present codeword is uncorrectable (R254) -/
  cwPos : Nat := 0
  cwBad : Bool := false
  /-- flits sent, and the codeword tags sent (R254) -/
  wire : List (BitVec 512) := []
  tags : List (BitVec 20) := []
  /-- flits sent since alignment -/
  txPos : Nat := 0
  deriving DecidableEq, Repr

/-! ## Time (chapter 9) -/

/-- What the time unit keeps of a port in a domain. Times are in units of 2^-16 ns. -/
structure PortTime where
  /-- the outstanding peer-delay exchange: SEQ, t1, t4 -/
  req : Option (BitVec 16 × Int × Option Int) := none
  /-- the Sync that waits for its pair: SEQ, stamp, CTL_CLK cycle of arrival; and the FUP_HI that came: VOID, SECONDS -/
  sync : Option (BitVec 16 × Int × Nat) := none
  hi : Option (Bool × Nat) := none
  /-- the asymmetry A_n in force when the Sync that waits arrived (R492) -/
  asymAt : Int := 0
  /-- CTL_CLK cycle of the last Sync accepted -/
  lastSync : Option Nat := none
  /-- the grandmaster last reported, STEPS_REMOVED, GM_CLASS, TRACEABLE -/
  gm : Option (BitVec 64) := none
  steps : BitVec 8 := 0
  cls : BitVec 8 := 0
  traceable : Bool := false
  /-- the sequence numbers of the next SYNC, PDLY_REQ and ANNOUNCE -/
  txSync : BitVec 16 := 0
  txPdly : BitVec 16 := 0
  txAnn : BitVec 16 := 0
  /-- the CTL_CLK cycles at which the last of each was sent -/
  atSync : Option Nat := none
  atPdly : Option Nat := none
  atAnn : Option Nat := none
  deriving DecidableEq, Repr

/-- A timer that is armed, in units of 2^-16 ns: its next expiry, and the edge at which a late run is due (R315, R316). -/
structure Tmr where
  next : Nat := 0
  late : Option Nat := none
  deriving DecidableEq, Repr

/-- The time unit beside its registers. -/
structure Tu where
  /-- ports by 2 × port + domain -/
  port : NMap PortTime := []
  /-- the last eight path delays of each port (R299) -/
  mpd : NMap (List Int) := []
  /-- offset samples being collected (R302, R306) -/
  samples : List Int := []
  /-- samples in a row within 10 ns, and beyond 50 ns -/
  lockRun : Nat := 0
  outRun : Nat := 0
  /-- a master change collects samples; the median of a change that is refused, and the samples in a row within THRESH -/
  changing : Bool := false
  refused : Option Int := none
  okRun : Nat := 0
  /-- the frequency estimate, in units of 2^-40 -/
  freq : Int := 0
  /-- the domain from which the servo has switched, and the samples accepted there since -/
  orig : Option Bool := none
  origRun : Nat := 0
  /-- CTL_CLK cycle at which the active port became active; the active port of the other domain (31 none) and its cycle (R307) -/
  since : Nat := 0
  alt : Nat := 31
  altSince : Nat := 0
  /-- of each domain, the CTL_CLK cycle of the last sample and the filtered offset that the module holds (R300, R307) -/
  lastSample : NMap Nat := []
  offset : NMap Int := []
  /-- the management port's exchange in each domain: sequence, t2; then sequence, t2 − t1 and t3 -/
  mgSync : NMap (BitVec 16 × Int) := []
  mgReq : NMap (BitVec 16 × Int × Int) := []
  /-- the 10 MHz reference has been lost, and no window has been counted since (R301, R310) -/
  refLost : Bool := false
  /-- queues and last edges of the event inputs -/
  evi : NMap (List Stamp) := []
  eviLast : NMap Int := []
  /-- pins of the event outputs driven by timers and triggers, and the times at which their pulses end -/
  evo : NMap Bool := []
  evoEnd : NMap Nat := []
  /-- the times at which the last edges of the event outputs are placed (R312) -/
  evoAt : NMap Nat := []
  /-- PPS_OUT, the second of its last rise, the time at which it falls; CTL_CLK cycle of the last PPS_IN edge -/
  pps : Bool := false
  ppsSec : Option Int := none
  ppsEnd : Nat := 0
  lastPps : Option Nat := none
  tmr : NMap Tmr := []
  deriving DecidableEq, Repr

/-! ## Trigger unit, trace and Vector Port (chapters 13 and 14) -/

/-- What the trigger unit holds of one DC of a partition: the hit of its clusters, whether it has arrived, and, when the Vector Port
has reported the DC, the qualifiers that fired and CMPF (R408, R409). -/
structure DcHit where
  dc : Nat
  hit : Bool
  arrived : Bool := false
  pin : Option (Nat × Bool) := none
  deriving DecidableEq, Repr

/-- The measurement of a qualifier: the class of the last sample (0 LOW, 1 HIGH, 2 MID), the pin time at which it was entered, the class
before it, and a TIMEOUT fire of this stay (R405, R406). -/
structure Qual where
  prev : Option Nat := none
  enter : Nat := 0
  before : Option Nat := none
  fired : Bool := false
  deriving DecidableEq, Repr

/-- A trigger output beside its registers: the 17-bit occurrence count, the DC that it evaluates next, F while in DELAY, FORCE,
and the stamp of the last fire (R410, R411). -/
structure TrgOut where
  occ : Nat := 0
  next : Nat := 0
  fireAt : Nat := 0
  force : Bool := false
  ts : Stamp := 0
  deriving DecidableEq, Repr

/-- A trace page in a queue: its space, its address, and whether it is returned unwritten (R418, R429). -/
structure TrcPage where
  space : Bool
  addr : Nat
  empty : Bool := false
  deriving DecidableEq, Repr

/-- The page that a stream fills: its records so far, and FIRST_DC, FIRST_TS and FACTOR of its header (Table 13.7). -/
structure TrcFill where
  page : TrcPage
  recs : List Byte
  dc : Nat
  ts : Stamp
  factor : Nat
  deriving DecidableEq, Repr

/-- A trace stream beside its registers (R416 to R429). -/
structure Stream where
  free : List TrcPage := []
  done : List TrcPage := []
  fill : Option TrcFill := none
  /-- pages closed since START -/
  seq : Nat := 0
  /-- the DC last captured: its number, stamp and factor; and the DC last captured or evaluated -/
  cur : Option (Nat × Stamp × Nat) := none
  last : Nat := 0
  /-- F + POST_DC while in POST -/
  postEnd : Nat := 0
  /-- DCs lost since the last LOSS record: how many, and the first -/
  lost : Option (Nat × Nat) := none
  /-- records in the input buffer that wait for the first DC record, or for a page; bytes of captured DCs in the input buffer (R423) -/
  wait : List (List Byte) := []
  level : Nat := 0
  /-- the factor in force, and consecutive Equinoxes with the input buffer below one quarter (R423) -/
  factor : Nat := 0
  calm : Nat := 0
  /-- the page being filled is to be closed, with this LAST, as soon as DONE has room -/
  closeDue : Option Bool := none
  /-- the first DC that may be captured (R427), and a DC after whose hand-over a STOP that has been written ends the stream -/
  first : Nat := 0
  stopAt : Option Nat := none
  /-- the stream ends: the state that it enters once its records are written and its page is closed (R427, R429) -/
  ending : Option Nat := none
  deriving DecidableEq, Repr

/-- The Vector Port beside its registers (chapter 14). -/
structure Vpt where
  /-- frames waiting to be sent, and frames sent -/
  tx : List VptFrame := []
  wire : List VptFrame := []
  /-- frames of R442 that wait for room in the queue -/
  due : List (Nat × VptFrame) := []
  /-- of the serial side (R432): bytes that fill no block yet, blocks sent, by lane the scrambler and the last block on the lane -/
  rest : List Byte := []
  blocks : Nat := 0
  scr : NMap (BitVec 58) := []
  lane : NMap (BitVec 130) := []
  /-- SEQ of the next frame sent, and of the last frame received -/
  txSeq : Nat := 0
  rxSeq : Option Nat := none
  /-- lanes of the training in progress or of the ACTIVE link -/
  lanes : Nat := 0
  /-- CTL_CLK cycle at which the state was entered -/
  since : Nat := 0
  /-- a CONFIG frame waits for room; a frame has been discarded since VPT_ERR was clear (event 246) -/
  cfgDue : Bool := false
  discarded : Bool := false
  deriving DecidableEq, Repr

/-! ## Packet networks, scratchpad and March engine (chapter 12) -/

/-- A request of a terminal that is not yet answered: node, transaction number, DMA channel, CTL_CLK cycle of its issue, and the cycle of a RETRY. -/
structure NocReq where
  node : Nat
  txn : Nat
  chan : Nat
  at_ : Nat
  refused : Option Nat := none
  /-- of a write of the DMA engine, its MOVE, the MOVE's PC and its run (R371) -/
  ins : BitVec 128 := 0
  pc : Nat := 0
  run : Nat := 0
  /-- of a write to far memory or the scratchpad, the space, the address and the bytes, which its target takes when it answers (R380) -/
  space : Nat := 0
  addr : Nat := 0
  data : List Byte := []
  /-- its target has taken the bytes (R385); its packet was dropped (R381) -/
  done : Bool := false
  lost : Bool := false
  /-- a refresh has delayed its response (R551) -/
  late : Bool := false
  deriving DecidableEq, Repr

/-- A packet on its way: its network, the router or terminal at which it is, and how often it was deflected; its AGE is the time since its injection. -/
structure Transit where
  net : Nat
  node : Nat
  pkt : Packet
  defl : Nat := 0
  deriving DecidableEq, Repr

/-- The packet networks. -/
structure Noc where
  /-- packets that wait at their terminals, packets held by routers, packets ejected that their terminals have not taken -/
  tx : List Transit := []
  fly : List Transit := []
  got : List Transit := []
  /-- NET_CLK cycles of the meshes, and by network × 512 + node the last one in which a packet with AGE ≥ 128 passed (R377) -/
  cyc : Nat := 0
  aged : NMap Nat := []
  /-- the next transaction number of each node -/
  txn : NMap Nat := []
  /-- requests of the DMA engine that wait for their answer; RETRYs of FMP requests, by cluster × 4,096 + number, with their cycle -/
  sent : List NocReq := []
  fmpRetry : NMap Nat := []
  /-- requests answered RETRY, which their source keeps (R380), and the cycle in which the RETRY reached it -/
  kept : List (Packet × Option Nat) := []
  /-- requests of the HKC to other modules that wait for their answer, which their source keeps (R380, R382) -/
  abroad : List Packet := []
  /-- requests held in the input queues, with what the checks of their words find: bank k at k, other terminals at 64 + node -/
  inq : NMap (List (Packet × Found)) := []
  /-- the wake queues: quadrants 0 to 3, SSP banks 4 -/
  wake : NMap (List Transit) := []
  deriving DecidableEq, Repr

/-- The shared scratchpad beside its registers. -/
structure Ssp where
  /-- bytes by bank × 2^20 + offset, and 64-bit words known to be uncorrectable -/
  bytes : NMap Byte := []
  bad : NMap Bool := []
  /-- the owner word to be taken at the end of a handover, and whether the bank is zeroed -/
  next : NMap (Word × Bool) := []
  /-- the state that a power change reaches, and the banks that were off since they last held contents -/
  target : NMap Nat := []
  dark : NMap Bool := []
  deriving DecidableEq, Repr

/-- A March run: first line's address, lines, backgrounds, content-preserving, and an ABORT. -/
structure March where
  addr : Nat
  lines : Nat
  bg : Nat
  keep : Bool
  abort : Bool := false
  deriving DecidableEq, Repr

/-! ## Partitions -/

/-- A destination of a route (R158). -/
inductive RDest where
  | die (c lane lat : Nat)
  | frame (dev path slot : Nat)
  deriving DecidableEq, Repr

/-- A route of a cluster on this module: the step, the outbound lane, the destinations (R158). -/
structure Route where
  c : Nat
  step : Nat
  lane : Nat
  dests : List RDest
  deriving DecidableEq, Repr

/-- An inbound frame path: its number, its sender, and the cluster and lane of each slot (R163, R164). -/
structure InPath where
  path : Nat
  sender : Nat
  slots : List (Nat × Nat)
  deriving DecidableEq, Repr

/-- An outbound frame path: the receiver, the number there, and the segment and rest value of each slot (R164, R165). -/
structure OutPath where
  dev : Nat
  path : Nat
  segs : List (Nat × Bool)
  deriving DecidableEq, Repr

/-- What the module keeps of a partition's manifest (Table 6.3). -/
structure Manifest where
  startDc : BitVec 64 := 0
  diam : Nat := 0
  budget : Nat := 0
  routes : List Route := []
  ins : List InPath := []
  outs : List OutPath := []
  /-- FMP_CLASSES of each cluster (R137) -/
  classes : NMap Nat := []
  /-- the manifest declares frame paths, or clusters of another module -/
  framePaths : Bool := false
  remote : Bool := false
  deriving DecidableEq, Repr

/-- Where a partition stands in its design cycle. -/
inductive Dcp where
  /-- step 0 of the DC has not begun (R32) -/
  | start
  /-- the steps of the DC run -/
  | run
  /-- the END step has executed and the Equinox is due -/
  | eqx
  deriving DecidableEq, Repr

/-- A bit on its way over the on-die network: cluster, lane, value, executed steps to go (R159). -/
structure Bit where
  c : Nat
  lane : Nat
  v : Bool
  left : Nat
  deriving DecidableEq, Repr

/-- A frame buffer (R167): the slots delivered and LAST. -/
structure FrameBuf where
  got : NMap Bool := []
  last : Bool := false
  deriving DecidableEq, Repr

/-- The expect codes of one DC kept for comparison (R441): DC, Equinox in CTL_CLK cycles, channel and code of the channels compared,
later Equinoxes. -/
structure Expect where
  dc : Nat
  at_ : Nat
  codes : List (Nat × Nat)
  later : Nat
  deriving DecidableEq, Repr

/-- What the Vector Port reports to the trigger unit for a DC: class and edge time by channel (INVALID where none stands), and CMPF (R404, R445). -/
structure PinReport where
  dc : Nat
  smp : List (Nat × Nat × Nat)
  cmpf : Bool
  deriving DecidableEq, Repr

/-- One partition on the module (chapters 5 and 6). -/
structure Part where
  state : PState := .winter
  /-- the STATE held at Frost entry (R528) -/
  preFrost : PState := .winter
  /-- hosted clusters, ascending -/
  clusters : List Nat := []
  /-- INCONSISTENT and SLIPPING of CLU_STATUS -/
  inconsistent : Bool := false
  slipping : Bool := false
  /-- L, the step index, the DC counter and the place in the DC -/
  len : Nat := 0
  step : Nat := 0
  dc : BitVec 64 := 0
  dcp : Dcp := .start
  /-- the step last executed -/
  last : Nat := 0
  /-- the index, since the root PLL was released, of the STEP_CLK cycle in which the next step stands (R532; log entry 171) -/
  cyc : Nat := 0
  /-- a stop at the Equinox waits for the state-port transfer (R184) -/
  stopAfter : Bool := false
  /-- an abort waits for the next Equinox (R186) -/
  abortPend : Bool := false
  /-- a step break stops the partition: it is stopped, or step L − 1 has executed and its Equinox is due (R413) -/
  brkStop : Bool := false
  /-- steps still to run before the next step break (R415) -/
  brkLeft : Nat := 0
  /-- stopped within a DC by a step break -/
  midDc : Bool := false
  /-- the first DC after a commit or a resume does not wait for frames (R169) -/
  noWait : Bool := true
  /-- the first DC after the Spring commit (Table 2.4) -/
  firstDc : Bool := false
  /-- the pending target (R184), and the target last met (Table 5.13) -/
  target : Option (BitVec 32) := none
  met : BitVec 32 := 0
  man : Manifest := {}
  /-- CLU_SLIP and HZ_SLIPk, 64 bits wide (R174, R203) -/
  slip : BitVec 64 := 0
  hz : NMap (BitVec 64) := []
  /-- slip steps of the running DC under the causes of index 2 to 6 (R206) -/
  dcSlip : Nat := 0
  /-- STEP_CLK cycles counted while FROZEN (R174), and the CTL_CLK cycle of the stop at a freeze target (R501) -/
  frozenFor : Nat := 0
  frozenAt : Option Nat := none
  /-- bits on the die (R160) -/
  bits : List Bit := []
  /-- inbound frame buffers by 2 × path + (DC − base), and the DC whose frame is applied next (R167, R168) -/
  inBuf : NMap FrameBuf := []
  base : BitVec 32 := 0
  /-- held values of the outbound slots, by path index × 65,536 + slot (R164) -/
  outHeld : NMap Bool := []
  /-- segments of the running DC already emitted: path index × 256 + segment -/
  emitted : List Nat := []
  /-- the wait timer: its counted time and the time since the hold began, in CTL_CLK cycles (R177) -/
  counted : Nat := 0
  held : Nat := 0
  /-- slip steps of the present step-0 hold for frames (Table 5.18) -/
  frameHold : Nat := 0
  /-- a PATH_DOWN has been received or originated (R269) -/
  pathDown : Bool := false
  /-- path holds reported by other modules: origin × 16 + link (R177, R266) -/
  holds : List Nat := []
  /-- the DC of the last Equinox's samples: kept expect codes and drive codes (R441, R443) -/
  expects : List Expect := []
  /-- the image that it runs was signed by the installer (Table 16.1) -/
  instSigned : Bool := false
  /-- reports that wait for an earlier sample (R407) -/
  reports : List PinReport := []
  drive : List (Nat × Nat) := []
  /-- CTL_CLK cycles since the last frame of the partition left the Vector Port (R446) -/
  vptIdle : Nat := 0
  /-- the DCs whose trigger terms are known or awaited, oldest first; the latest 512 are kept (R408) -/
  hits : List DcHit := []
  /-- the stamp of the last Equinox -/
  eqxAt : Stamp := 0
  /-- probes and changed state bits of a closed DC that wait for its state-port loads (R33): the DC, its Equinox, and the interval before it -/
  hand : Option (Nat × Stamp × Nat) := none
  deriving DecidableEq, Repr

/-! ## The configuration engine (chapter 7) -/

/-- A manifest as its frames arrive: its bytes, whether LAST has come, and the clusters that it names on the module. -/
structure ManBuf where
  bytes : List Byte := []
  last : Bool := false
  clusters : List Nat := []
  deriving DecidableEq, Repr

/-- Who loads: the session that wrote START (R227, R482). -/
structure Loader where
  fn : Nat := 0
  role : Role := .none
  slot : Nat := 0xFF
  source : Nat := 0
  deriving DecidableEq, Repr

/-- The report of a subtree (R238): modules whose load ended OK, modules whose load failed, the lowest failing device with its code,
and whether the failure is a missing report. -/
structure FanReport where
  ok : Nat
  fail : Nat
  dev : Nat
  code : Nat
  missing : Bool := false
  deriving DecidableEq, Repr

/-- The configuration engine beside its registers. -/
structure Cfg where
  who : Loader := {}
  /-- bytes taken and not yet consumed, bytes consumed, the header, the frames for the digest -/
  buf : List Byte := []
  taken : Nat := 0
  hdr : List Byte := []
  frames : List Byte := []
  /-- the number of the next frame; the END frame has come (R232) -/
  pos : Nat := 0
  endSeen : Bool := false
  /-- the source has ended the stream; CTL_CLK cycle of its last byte -/
  ended : Bool := true
  lastAt : Nat := 0
  mans : NMap ManBuf := []
  /-- partitions with a manifest or an applied frame on the module in this load -/
  touched : List Nat := []
  /-- the partitions reset since START (R243, Table 7.11) -/
  resets : List Nat := []
  /-- from AUTH on (R481): the scopes one of which must cover every partition named, none where the signer or the session has no scope; the image key -/
  scopes : Option (List (BitVec 256)) := none
  key : Option ImgKey := none
  /-- the partition that a patch changes (R245) -/
  patch : Option Nat := none
  /-- FIRMWARE payloads handed to the HKC -/
  firmware : List Byte := []
  /-- the own load has ended: CTL_CLK cycle; reports of the MASK links; the report has been sent -/
  endAt : Option Nat := none
  reports : NMap FanReport := []
  reported : Bool := false
  /-- configuration messages of the UP link whose flits still stand in its receive buffer: number, link, buffer, flits (R237) -/
  relays : List (Nat × Nat × Nat × Nat) := []
  nextRelay : Nat := 0
  /-- a scrub correction has been reported since CFG_SCRUB_STATUS was last read (R247) -/
  scrubSeen : Bool := false
  deriving DecidableEq, Repr

/-! ## Clusters -/

/-- Where a word-engine result lands: a register, an accumulator, a bridge word of the cluster. -/
inductive WeDest where
  | reg (g : Nat)
  | acc (n : Nat)
  | bridge (w : Nat)
  deriving DecidableEq, Repr

/-- What lands: a value, or a product that the last stage adds to the accumulator (R109). -/
inductive WeAct where
  | put (v : BitVec 112)
  | accum (p : Int) (sat : Bool)
  deriving DecidableEq, Repr

/-- A result in flight: engine, destination, action, cycles until it is readable, sticky bits it sets (R106). -/
structure Flight where
  we : Nat
  dest : WeDest
  act : WeAct
  left : Nat
  satov : Bool := false
  rndov : Bool := false
  deriving DecidableEq, Repr

/-- A memory return on its way to the inbound lanes (R132): whether it is a WAIT's, its rank, the BP of the WAIT, lanes, data, and the executed steps to go. -/
structure MemRet where
  wait : Bool
  rank : Nat
  bp : Nat
  base : Nat
  width : Nat
  data : BitVec 72
  left : Nat
  deriving DecidableEq, Repr

/-- A reserved response entry of an FMP (R135): number in issue order, class, kind (0 read, 1 write, 2 message), width, lane, place in far memory,
data of the request or the response, whether it has acted on memory, whether the response is present, its error and acknowledgement marks. -/
structure FmpEnt where
  num : Nat
  cls : Bool
  kind : Nat
  dw : Nat
  base : Nat
  stack : Nat
  addr : Nat
  data : BitVec 72
  acted : Bool := false
  present : Bool := false
  err : Bool := false
  ack : Bool := false
  /-- its packet has reached the far-memory controller (R379) -/
  served : Bool := false
  /-- its packet was dropped (R381); a refresh has delayed its response (R551) -/
  lost : Bool := false
  late : Bool := false
  deriving DecidableEq, Repr

/-- What a slot operation does once its selectors are read. -/
inductive SlotAct where
  | read (r : MemRet)
  | write (dmb row : Nat) (mask data : BitVec 72)
  | fmp (n : Nat) (e : FmpEnt) (chan tag op : Nat)
  /-- a write that another write of the entry overrules (R124), or whose row cannot be read (R121) -/
  | nothing
  deriving DecidableEq, Repr

/-- A deferred operation (R133): the port (2 × DMB + port, 64 + FMP) and what it does. -/
structure SlotOp where
  port : Nat
  act : SlotAct
  deriving DecidableEq, Repr

/-- A line of the far-memory cache: its tag, and its state 0 shared, 1 exclusive, 2 modified (R145, R146). -/
structure CLine where
  tag : Nat
  st : Nat
  deriving DecidableEq, Repr

/-- The state port beside its registers (R67 to R78). -/
structure StatePort where
  /-- the select list -/
  sel : NMap Word := []
  /-- load A, load B, unload A, unload B, by buffer × 65 + word -/
  buf : NMap (BitVec 64) := []
  /-- CLU_SP_CTRL in effect (R78) -/
  eff : Word := 0
  /-- a transfer waits for its buffers; groups still to run -/
  due : Bool := false
  groups : Nat := 0
  /-- the settings with which the transfer in progress began -/
  inUse : Word := 0
  loaded : Bool := false
  unloaded : Bool := false
  tag : BitVec 16 := 0
  deriving DecidableEq, Repr

/-- A host bulk read of a running store (R65): its range, and the words that still wait for a free slot. -/
structure BulkWait where
  off : Nat
  len : Nat
  words : List (StoreSel × Nat)
  deriving DecidableEq, Repr

/-- One cluster beside its registers (chapters 2, 3 and 4). -/
structure Cluster where
  /-- instruction stores, by BP × 2,048 + step -/
  instr : NMap (BitVec 96) := []
  /-- value stores, initial planes, next values and state maps, by BP × 4,096 + address -/
  vs : NMap Bool := []
  initVs : NMap Bool := []
  next : NMap Bool := []
  map : NMap Bool := []
  /-- result latches -/
  latch : NMap Bool := []
  /-- TRIG inputs (R57) -/
  trigIn : BitVec 8 := 0
  /-- the values that state bits had before the last Equinox, of those that it has written (R33, R416) -/
  before : NMap Bool := []
  /-- probe results of the DC: step, BP, value (R59) -/
  probes : List (Nat × Nat × Bool) := []
  sp : StatePort := {}
  /-- position of the sentinel's sweep, and LOCK in effect (R80, R82) -/
  sentPos : Nat := 0
  sentLock : Option Nat := none
  /-- SUSPECT of CLU_STATUS -/
  suspect : Bool := false
  /-- scrub errors that fault at the next step: store and word (R249) -/
  scrubDue : List (StoreSel × Nat) := []
  /-- scrub pointers by store: 0 to 127 BPs, 128 to 131 WEs, 132 slot program; corrections pending -/
  scrubAt : NMap Nat := []
  scrubFix : List (StoreSel × Nat) := []
  /-- scrub reads that wait for a free slot of their bank (R65), and the stores with a pass completed since PASSES last counted (R250) -/
  scrubWait : List (StoreSel × ScrubFinding) := []
  /-- bulk reads that wait for free slots, oldest first (R65) -/
  bulkWait : List BulkWait := []
  scrubPass : NMap Bool := []
  /-- bytes of FMP queue entries written and not yet landed, by (FMP × 64 + index) × 16 + byte (R225) -/
  qPend : NMap Byte := []
  /-- WE general registers by k × 64 + g, accumulators by 2k + n, bridge words, programs by k × 2,048 + w,
  pack tables by k × 16 + e, initial registers by k × 256 + word -/
  regs : NMap (BitVec 64) := []
  acc : NMap (BitVec 112) := []
  bridge : NMap (BitVec 64) := []
  prog : NMap (BitVec 72) := []
  pack : NMap (BitVec 512) := []
  init : NMap Word := []
  flight : List Flight := []
  /-- WEs whose restored loop state broke a check of R117 -/
  loopBad : List Nat := []
  /-- DMB rows by DMB × 1,024 + row, slot program, port map by entry × 14 + word -/
  dmb : NMap (BitVec 72) := []
  slot : NMap (BitVec 160) := []
  pmap : NMap (BitVec 64) := []
  /-- DMB scrub pointers (R126) -/
  dmbPtr : NMap Nat := []
  /-- DMB_DUE faults of the next executed step: found by scrub, field (R121, R126) -/
  dmbDue : List (Bool × Nat) := []
  rets : List MemRet := []
  deferred : List SlotOp := []
  /-- a slip step has begun in which the first deferred operation of each port executes (R133) -/
  defRun : Bool := false
  fmp : NMap (List FmpEnt) := []
  nextReq : Nat := 0
  cache : NMap (List CLine) := []
  /-- TDU replies on their way to the FMPs, by number of the FMP request (R335) -/
  replies : NMap (BitVec 72) := []
  /-- the run of slip steps in progress: length and cause (R205) -/
  run : Nat := 0
  runCause : Nat := 0
  /-- HZ_BUDGET in effect (R206), and a first DC over budget since HZ_OVER was cleared -/
  overSeen : Bool := false
  deriving DecidableEq, Repr

end Sys2Proof.Machine
end

