-- ==== Sys2Proof/Machine/RegTable.lean ====
section
/-!
DEFINITION. The register table of BAR0: for every register the offset, reset value, roles and access bits of its line and field table (R16 to R18).
Role bits: 1 operator, 2 installer, 4 maker, 8 housekeeping (R18). The factory values of the fuses (R491) stand as reset values: the thresholds of Table 19.11, and 0 for the asymmetries (log entry 5).
-/
namespace Sys2Proof.Machine

/-- The table row of each register. -/
def RegName.info : RegName → RegInfo
  | .CTL_ID => ⟨0x00000000, [], 0x4C320200, 8, false, false, 0x00000000, 0x00000000, 0xFFFFFF00⟩
  | .CLU_STATUS => ⟨0x01000000, [(256, 0x10000)], 0x00000000, 8, false, false, 0x00000000, 0x00000000, 0x07FF00E7⟩
  | .CLU_CFG => ⟨0x01000004, [(256, 0x10000)], 0x00000000, 8, true, false, 0x0FFF3FFF, 0x00000000, 0x0FFF3FFF⟩
  | .CLU_DC_LO => ⟨0x01000008, [(256, 0x10000)], 0x00000000, 8, false, false, 0x00000000, 0x00000000, 0xFFFFFFFF⟩
  | .CLU_DC_HI => ⟨0x0100000C, [(256, 0x10000)], 0x00000000, 8, false, false, 0x00000000, 0x00000000, 0xFFFFFFFF⟩
  | .CLU_FAULT => ⟨0x01000010, [(256, 0x10000)], 0x00000000, 1, false, false, 0x00000000, 0x00007FFE, 0x00007FFE⟩
  | .CLU_FAULT_INFO => ⟨0x01000014, [(256, 0x10000)], 0x00000000, 8, false, false, 0x00000000, 0x00000000, 0x8F07FF7F⟩
  | .CLU_FAULT_DC => ⟨0x01000018, [(256, 0x10000)], 0x00000000, 8, false, false, 0x00000000, 0x00000000, 0xFFFFFFFF⟩
  | .CLU_SENT_CTRL => ⟨0x01000020, [(256, 0x10000)], 0x00000001, 3, false, false, 0x0000FF01, 0x00000000, 0x0000FF01⟩
  | .CLU_SENT_STATUS => ⟨0x01000024, [(256, 0x10000)], 0x00000000, 8, false, false, 0x00000000, 0x00000000, 0xFFFFFFFF⟩
  | .CLU_SENT_LOG => ⟨0x01000028, [(256, 0x10000)], 0x00000000, 8, false, false, 0x00000000, 0x00000000, 0xFFF00F7F⟩
  | .CLU_SENT_LOG_DC => ⟨0x0100002C, [(256, 0x10000)], 0x00000000, 8, false, false, 0x00000000, 0x00000000, 0xFFFFFFFF⟩
  | .CLU_SP_CTRL => ⟨0x01000030, [(256, 0x10000)], 0x00000000, 1, false, false, 0x3000DFFF, 0x00000000, 0x3000DFFF⟩
  | .CLU_SP_STATUS => ⟨0x01000034, [(256, 0x10000)], 0x00000000, 1, false, false, 0x00000000, 0x00000020, 0xFFFF01FF⟩
  | .CLU_SP_HANDOFF => ⟨0x01000038, [(256, 0x10000)], 0x00000000, 1, false, false, 0x00000000, 0x00000000, 0x00000000⟩
  | .CLU_ECC_CNT => ⟨0x01000040, [(256, 0x10000)], 0x00000000, 8, false, false, 0x00000000, 0x00000000, 0xFFFFFFFF⟩
  | .WE_STATUS => ⟨0x01001240, [(256, 0x10000), (4, 0x400)], 0x00000080, 1, false, false, 0x00000000, 0x0000001B, 0xFFFF00DB⟩
  | .WE_FAULT => ⟨0x01001244, [(256, 0x10000), (4, 0x400)], 0x00000000, 1, false, false, 0x00000000, 0x000001FE, 0x000001FE⟩
  | .WE_FAULT_INFO => ⟨0x01001248, [(256, 0x10000), (4, 0x400)], 0x00000000, 8, false, false, 0x00000000, 0x00000000, 0x8F7FF7FF⟩
  | .WE_PC => ⟨0x0100124C, [(256, 0x10000), (4, 0x400)], 0x00000000, 1, false, false, 0x000007FF, 0x00000000, 0x000007FF⟩
  | .WE_LOOP_CTRL => ⟨0x01001250, [(256, 0x10000), (4, 0x400)], 0x00000000, 1, false, false, 0x00000003, 0x00000000, 0x00000003⟩
  | .WE_LPn_ADDR => ⟨0x01001254, [(256, 0x10000), (4, 0x400), (3, 0x8)], 0x00000000, 1, false, false, 0x07FF07FF, 0x00000000, 0x07FF07FF⟩
  | .WE_LPn_CNT => ⟨0x01001258, [(256, 0x10000), (4, 0x400), (3, 0x8)], 0x00000000, 1, false, false, 0x0000FFFF, 0x00000000, 0x0000FFFF⟩
  | .CLU_DMB_RATIOn => ⟨0x01000200, [(256, 0x10000), (4, 0x4)], 0x00000000, 8, true, false, 0x77777777, 0x00000000, 0x77777777⟩
  | .CLU_MEM_FAULT => ⟨0x01000210, [(256, 0x10000)], 0x00000000, 1, false, false, 0x00000000, 0x000001FE, 0x000001FE⟩
  | .CLU_MEM_FAULT_INFO => ⟨0x01000214, [(256, 0x10000)], 0x00000000, 8, false, false, 0x00000000, 0x00000000, 0x8FFFFF7F⟩
  | .CLU_MEM_ECC => ⟨0x01000218, [(256, 0x10000)], 0x00000000, 8, false, false, 0x00000000, 0x00000000, 0xFFFFFFFF⟩
  | .CLU_FMC_CTRL => ⟨0x01000220, [(256, 0x10000)], 0x00000000, 1, false, false, 0x00000000, 0x00000000, 0x00000002⟩
  | .CLU_FMC_HIT => ⟨0x01000224, [(256, 0x10000)], 0x00000000, 1, false, false, 0x00000000, 0x00000000, 0xFFFFFFFF⟩
  | .CLU_FMC_MISS => ⟨0x01000228, [(256, 0x10000)], 0x00000000, 1, false, false, 0x00000000, 0x00000000, 0xFFFFFFFF⟩
  | .CLU_FMP_STATUSn => ⟨0x01000230, [(256, 0x10000), (4, 0x4)], 0x80000000, 1, false, false, 0x00000000, 0x00000000, 0x807F007F⟩
  | .CLU_FREGn_BASE => ⟨0x01000280, [(256, 0x10000), (16, 0x8)], 0x00000000, 8, true, false, 0x007FFFFF, 0x00000000, 0x007FFFFF⟩
  | .CLU_FREGn_CTRL => ⟨0x01000284, [(256, 0x10000), (16, 0x8)], 0x00000000, 8, true, false, 0xF0FFFFFF, 0x00000000, 0xF0FFFFFF⟩
  | .FMC_GRANT_BASEp_s => ⟨0x00700000, [(256, 0x20), (4, 0x8)], 0x00000000, 8, false, false, 0x007FFFFF, 0x00000000, 0x007FFFFF⟩
  | .FMC_GRANT_SIZEp_s => ⟨0x00700004, [(256, 0x20), (4, 0x8)], 0x00000000, 8, false, false, 0x007FFFFF, 0x00000000, 0x007FFFFF⟩
  | .CLU_SLIP_LO => ⟨0x01000300, [(256, 0x10000)], 0x00000000, 1, false, false, 0x00000000, 0x00000000, 0xFFFFFFFF⟩
  | .CLU_SLIP_HI => ⟨0x01000304, [(256, 0x10000)], 0x00000000, 1, false, false, 0x00000000, 0x00000000, 0xFFFFFFFF⟩
  | .CLU_LANE_LATCHn => ⟨0x01000340, [(256, 0x10000), (16, 0x4)], 0x00000000, 1, true, false, 0xFFFFFFFF, 0x00000000, 0xFFFFFFFF⟩
  | .PART_FRZ_CMD => ⟨0x00001000, [(256, 0x40)], 0x00000000, 1, false, false, 0x00000000, 0x00000000, 0x00000000⟩
  | .PART_FRZ_TARGET => ⟨0x00001004, [(256, 0x40)], 0x00000000, 1, false, false, 0xFFFFFFFF, 0x00000000, 0xFFFFFFFF⟩
  | .PART_FRZ_STATUS => ⟨0x00001008, [(256, 0x40)], 0x00000000, 1, false, false, 0x00000000, 0x000000F8, 0xE0FF00F8⟩
  | .PART_FRZ_LAST => ⟨0x0000100C, [(256, 0x40)], 0x00000000, 1, false, false, 0x00000000, 0x00000000, 0xFFFFFFFF⟩
  | .PART_FRZ_ORIGIN => ⟨0x00001010, [(256, 0x40)], 0x00000000, 1, false, false, 0x00000000, 0x00000000, 0xFFFF003F⟩
  | .PART_MARGIN => ⟨0x00001014, [(256, 0x40)], 0x10000012, 2, false, false, 0xFF00FFFF, 0x00000000, 0xFF00FFFF⟩
  | .PART_MARGIN_EFF => ⟨0x00001018, [(256, 0x40)], 0x00000000, 1, false, false, 0x00000000, 0x00000000, 0x00FFFFFF⟩
  | .PART_EQX_TMO => ⟨0x0000101C, [(256, 0x40)], 0x00000032, 2, false, false, 0x000003FF, 0x00000000, 0x000003FF⟩
  | .PART_EQX_WAIT => ⟨0x00001020, [(256, 0x40)], 0x00000000, 1, false, false, 0x00000000, 0x00000000, 0xFF80FFFF⟩
  | .CFG_MAN_CHECK => ⟨0x00100090, [], 0x00000000, 8, false, false, 0x00000000, 0x00000000, 0x80FFFFFF⟩
  | .CFG_MAN_INDEX => ⟨0x00100094, [], 0x00000000, 8, false, false, 0x00000000, 0x00000000, 0xFFFFFFFF⟩
  | .HZ_SLIPk_LO => ⟨0x01000400, [(256, 0x10000), (7, 0x8)], 0x00000000, 1, false, false, 0x00000000, 0x00000000, 0xFFFFFFFF⟩
  | .HZ_SLIPk_HI => ⟨0x01000404, [(256, 0x10000), (7, 0x8)], 0x00000000, 1, false, false, 0x00000000, 0x00000000, 0xFFFFFFFF⟩
  | .HZ_OWNj => ⟨0x01000440, [(256, 0x10000), (5, 0x4)], 0x00000000, 1, false, false, 0x00000000, 0x00000000, 0xFFFFFFFF⟩
  | .HZ_WORST_LEN => ⟨0x01000460, [(256, 0x10000)], 0x00000000, 1, false, false, 0x00000000, 0x00000000, 0xFFFFFFFF⟩
  | .HZ_WORST_AT => ⟨0x01000464, [(256, 0x10000)], 0x00000000, 1, false, false, 0x00000000, 0x00000000, 0xF7FF0000⟩
  | .HZ_WORST_DC => ⟨0x01000468, [(256, 0x10000)], 0x00000000, 1, false, false, 0x00000000, 0x00000000, 0xFFFFFFFF⟩
  | .HZ_BUDGET => ⟨0x01000470, [(256, 0x10000)], 0x0000FFFF, 1, false, false, 0x0000FFFF, 0x00000000, 0x0000FFFF⟩
  | .HZ_OVER => ⟨0x01000474, [(256, 0x10000)], 0x00000000, 1, false, false, 0x00000000, 0x00000000, 0xFFFFFFFF⟩
  | .HZ_CLEAR => ⟨0x01000478, [(256, 0x10000)], 0x00000000, 1, false, false, 0x00000000, 0x00000000, 0x00000000⟩
  | .CFG_CTRL => ⟨0x00100000, [], 0x00000000, 3, false, false, 0x00000000, 0x00000000, 0x00000000⟩
  | .CFG_SRC => ⟨0x00100004, [], 0x00000000, 3, false, false, 0x00000003, 0x00000000, 0x00000003⟩
  | .CFG_STATUS => ⟨0x00100008, [], 0x00000000, 1, false, false, 0x00000000, 0x00000000, 0xF0FF000F⟩
  | .CFG_PROGRESS => ⟨0x0010000C, [], 0x00000000, 1, false, false, 0x00000000, 0x00000000, 0xFFFFFFFF⟩
  | .CFG_ERR_FRAME => ⟨0x00100010, [], 0x00000000, 1, false, false, 0x00000000, 0x00000000, 0xFFFFFFFF⟩
  | .CFG_TMO => ⟨0x00100014, [], 0x00000064, 2, false, false, 0x0000FFFF, 0x00000000, 0x0000FFFF⟩
  | .CFG_FANOUT => ⟨0x00100018, [], 0x001F0000, 2, false, false, 0x001FFFFF, 0x00000000, 0x001FFFFF⟩
  | .CFG_FANOUT_RESULT => ⟨0x0010001C, [], 0x00000000, 1, false, false, 0x00000000, 0x00000000, 0x07FF07FF⟩
  | .CFG_FANOUT_FIRST => ⟨0x00100020, [], 0x00000000, 1, false, false, 0x00000000, 0x00000000, 0xC0FF03FF⟩
  | .CFG_PART_LOADEDn => ⟨0x00100040, [(8, 0x4)], 0x00000000, 1, false, false, 0x00000000, 0x00000000, 0xFFFFFFFF⟩
  | .CFG_IFVER => ⟨0x00100060, [], 0x01020101, 8, false, false, 0x00000000, 0x00000000, 0xFFFFFFFF⟩
  | .CFG_BULK_SEL => ⟨0x00100080, [], 0x00000000, 1, false, false, 0x000000FF, 0x00000000, 0x000000FF⟩
  | .CFG_BULK_STATUS => ⟨0x00100084, [], 0x00000000, 1, false, false, 0x00000000, 0x00000003, 0x00000003⟩
  | .CFG_SCRUB_CTRL => ⟨0x001000A0, [], 0x00001001, 2, false, false, 0x0000FF01, 0x00000000, 0x0000FF01⟩
  | .CFG_SCRUB_STATUS => ⟨0x001000A4, [], 0x00000000, 1, false, false, 0x00000000, 0x00000000, 0xFFFFFFFF⟩
  | .CFG_SCRUB_ERR => ⟨0x001000A8, [], 0x00000000, 1, false, false, 0x00000000, 0x80000000, 0xF0FF7F1F⟩
  | .LNK_CTRLn => ⟨0x00600000, [(16, 0x100)], 0x00000001, 2, false, false, 0x00000005, 0x00000000, 0x00000005⟩
  | .LNK_STATUSn => ⟨0x00600004, [(16, 0x100)], 0x00000000, 1, false, false, 0x00000000, 0x00000000, 0xFFF03FFF⟩
  | .LNK_ERRn => ⟨0x00600008, [(16, 0x100)], 0x00000000, 2, false, false, 0x00000000, 0x0000000F, 0x0000000F⟩
  | .LNK_CNTn => ⟨0x0060000C, [(16, 0x100)], 0x00000000, 1, false, false, 0x00000000, 0x00000000, 0xFFFFFFFF⟩
  | .LNK_FECn => ⟨0x00600010, [(16, 0x100)], 0x00000000, 1, false, false, 0x00000000, 0x00000000, 0xFFFFFFFF⟩
  | .LNK_CRDn_k => ⟨0x00600020, [(16, 0x100), (6, 0x4)], 0x00000000, 1, false, false, 0x00000000, 0x00000000, 0x0FFF0FFF⟩
  | .LNK_SEENn_w => ⟨0x00600040, [(16, 0x100), (8, 0x4)], 0x00000000, 2, false, false, 0x00000000, 0xFFFFFFFF, 0xFFFFFFFF⟩
  | .LNK_DEVID => ⟨0x00601000, [], 0x00000000, 2, false, true, 0x800003FF, 0x00000000, 0x800003FF⟩
  | .LNK_ARB => ⟨0x00601004, [], 0x00000841, 2, false, false, 0x00000FFF, 0x00000000, 0x00000FFF⟩
  | .LNK_CFG => ⟨0x00601008, [], 0x10000310, 2, false, false, 0xFFFF0FFF, 0x00000000, 0xFFFF0FFF⟩
  | .LNK_ROUTEd => ⟨0x00602000, [(1024, 0x4)], 0x00000000, 2, false, false, 0x8000003F, 0x00000000, 0x8000003F⟩
  | .LNK_FRZ_MASKp => ⟨0x00603000, [(256, 0x4)], 0x00000000, 2, false, false, 0x0000FFFF, 0x00000000, 0x0000FFFF⟩
  | .LNK_DROP => ⟨0x0060100C, [], 0x00000000, 1, false, false, 0x00000000, 0x00000000, 0x0000FFFF⟩
  | .TIM_NOW_w => ⟨0x00200000, [(3, 0x4)], 0x00000000, 1, false, false, 0x00000000, 0x00000000, 0xFFFFFFFF⟩
  | .TIM_SET_w => ⟨0x00200010, [(3, 0x4)], 0x00000000, 2, false, false, 0xFFFFFFFF, 0x00000000, 0xFFFFFFFF⟩
  | .TIM_CMD => ⟨0x0020001C, [], 0x00000000, 2, false, false, 0x00000000, 0x00000000, 0x00000000⟩
  | .TIM_RATE => ⟨0x00200020, [], 0x00000000, 1, false, false, 0x00000000, 0x00000000, 0xFFFFFFFF⟩
  | .TIM_OFFSET => ⟨0x00200024, [], 0x00000000, 1, false, false, 0x00000000, 0x00000000, 0xFFFFFFFF⟩
  | .TIM_CTRL => ⟨0x00200040, [], 0x00000001, 2, false, false, 0x0000007F, 0x00000000, 0x0000007F⟩
  | .TIM_SERVO => ⟨0x00200044, [], 0x040A0064, 2, false, false, 0x0FFFFFFF, 0x00000000, 0x0FFFFFFF⟩
  | .TIM_STATUS => ⟨0x00200048, [], 0x00000000, 1, false, false, 0x00000000, 0x000000FF, 0xFFC000FF⟩
  | .TIM_INTERVAL => ⟨0x0020004C, [], 0x00040037, 2, false, false, 0x000F0FFF, 0x00000000, 0x000F0FFF⟩
  | .TIM_MGMT => ⟨0x00200050, [], 0x00010000, 2, false, false, 0x00FFFF01, 0x00000000, 0x00FFFF01⟩
  | .TIM_PPS => ⟨0x00200054, [], 0x00640000, 2, false, false, 0xFFFF0003, 0x00000000, 0xFFFF0003⟩
  | .TIM_PPS_OFS => ⟨0x00200058, [], 0x00000000, 2, false, false, 0xFFFFFFFF, 0x00000000, 0xFFFFFFFF⟩
  | .TIM_PORTn => ⟨0x00200100, [(17, 0x8)], 0x00000000, 2, false, false, 0x000000FF, 0x00000000, 0x000000FF⟩
  | .TIM_MPDn => ⟨0x00200104, [(17, 0x8)], 0x00000000, 1, false, false, 0x00000000, 0x00000000, 0xFFFFFFFF⟩
  | .TIM_EVIn_CTRL => ⟨0x00200200, [(8, 0x10)], 0x00000000, 3, false, false, 0x00000003, 0x01000000, 0x011F0003⟩
  | .TIM_EVIn_TSw => ⟨0x00200204, [(8, 0x10), (3, 0x4)], 0x00000000, 1, false, false, 0x00000000, 0x00000000, 0xFFFFFFFF⟩
  | .TIM_EVOn => ⟨0x00200280, [(8, 0x4)], 0x00000000, 3, false, false, 0x00FFFFF7, 0x00000000, 0x00FFFFF7⟩
  | .TIM_TMRk_STARTw => ⟨0x00200300, [(8, 0x20), (3, 0x4)], 0x00000000, 3, false, false, 0xFFFFFFFF, 0x00000000, 0xFFFFFFFF⟩
  | .TIM_TMRk_PERIOD_LO => ⟨0x0020030C, [(8, 0x20)], 0x00000000, 3, false, false, 0xFFFFFFFF, 0x00000000, 0xFFFFFFFF⟩
  | .TIM_TMRk_PERIOD_HI => ⟨0x00200310, [(8, 0x20)], 0x00000000, 3, false, false, 0xFFFFFFFF, 0x00000000, 0xFFFFFFFF⟩
  | .TIM_TMRk_CTRL => ⟨0x00200314, [(8, 0x20)], 0x00000000, 3, false, false, 0x00000007, 0x00000000, 0x00000007⟩
  | .TIM_TMRk_STATUS => ⟨0x00200318, [(8, 0x20)], 0x00000000, 3, false, false, 0x00000000, 0x60000000, 0xE000FFFF⟩
  | .EVT_ROUTEe => ⟨0x00300000, [(256, 0x4)], 0x00000000, 2, false, false, 0xFFFFFFFF, 0x00000000, 0xFFFFFFFF⟩
  | .EVT_PENDw => ⟨0x00300400, [(8, 0x4)], 0x00000000, 2, false, false, 0x00000000, 0xFFFFFFFF, 0xFFFFFFFF⟩
  | .TDU_CTRL => ⟨0x00301000, [], 0x3C000001, 2, false, false, 0xFFFF0001, 0x00000000, 0xFFFF0001⟩
  | .TDU_QCTRL => ⟨0x00301004, [], 0x0064803F, 2, false, false, 0xFFFF803F, 0x00000000, 0xFFFF803F⟩
  | .TDU_STATUS => ⟨0x00301008, [], 0x00000000, 2, false, false, 0x00000000, 0x000000FF, 0x000000FF⟩
  | .TDU_OCC => ⟨0x0030100C, [], 0x00000000, 1, false, false, 0x00000000, 0x00000000, 0xF0007FFF⟩
  | .TDU_SPILLED => ⟨0x00301010, [], 0x00000000, 1, false, false, 0x00000000, 0x00000000, 0x007FFFFF⟩
  | .TDU_SPILL_BASE => ⟨0x00301014, [], 0x00000000, 2, false, false, 0x007FFFFF, 0x00000000, 0x007FFFFF⟩
  | .TDU_SPILL_SIZE => ⟨0x00301018, [], 0x00000000, 2, false, false, 0x007FFFFF, 0x00000000, 0x007FFFFF⟩
  | .TDU_TICK => ⟨0x0030101C, [], 0x00000000, 1, false, false, 0x00000000, 0x00000000, 0xFFFFFFFF⟩
  | .TDU_EXP_LAST => ⟨0x00301020, [], 0x00000000, 1, false, false, 0x00000000, 0x00000000, 0x83FFFFFF⟩
  | .TDU_CHn_CFG => ⟨0x00320000, [(1024, 0x80)], 0x00000000, 2, false, false, 0xFFFFFFFF, 0x00000000, 0xFFFFFFFF⟩
  | .TDU_CHn_TMPL => ⟨0x00320004, [(1024, 0x80)], 0x00000000, 1, false, false, 0xFFEFFFFF, 0x00000000, 0xFFEFFFFF⟩
  | .TDU_CHn_TGT => ⟨0x00320008, [(1024, 0x80)], 0x00000000, 1, false, false, 0xFFF0FFFF, 0x00000000, 0xFFF0FFFF⟩
  | .TDU_CHn_STATUS => ⟨0x0032000C, [(1024, 0x80)], 0x00000000, 1, false, false, 0x00000000, 0x0000E000, 0x9FFFFFFF⟩
  | .TDU_CHn_DATA_LO => ⟨0x00320010, [(1024, 0x80)], 0x00000000, 1, false, false, 0xFFFFFFFF, 0x00000000, 0xFFFFFFFF⟩
  | .TDU_CHn_DATA_HI => ⟨0x00320014, [(1024, 0x80)], 0x00000000, 1, false, false, 0xFFFFFFFF, 0x00000000, 0xFFFFFFFF⟩
  | .TDU_CHn_POST => ⟨0x00320018, [(1024, 0x80)], 0x00000000, 1, false, false, 0x00000000, 0x00000000, 0x00000000⟩
  | .TDU_CHn_NHEAD => ⟨0x0032001C, [(1024, 0x80)], 0x00000000, 1, false, false, 0x00000000, 0x00000000, 0x8000FFFF⟩
  | .TDU_CHn_NOPk_LO => ⟨0x00320020, [(1024, 0x80), (4, 0x8)], 0x00000000, 1, false, false, 0x00000000, 0x00000000, 0xFFFFFFFF⟩
  | .TDU_CHn_NOPk_HI => ⟨0x00320024, [(1024, 0x80), (4, 0x8)], 0x00000000, 1, false, false, 0x00000000, 0x00000000, 0xFFFFFFFF⟩
  | .DMA_CHn_CFG => ⟨0x00400000, [(64, 0x40)], 0x00000000, 2, false, false, 0x800000FF, 0x00000000, 0x800000FF⟩
  | .DMA_CHn_CMD => ⟨0x00400004, [(64, 0x40)], 0x00000000, 3, false, false, 0x00000000, 0x00000000, 0x00000000⟩
  | .DMA_CHn_STATUS => ⟨0x00400008, [(64, 0x40)], 0x00000000, 1, false, false, 0x00000000, 0x00000000, 0xFFE03FFF⟩
  | .DMA_CHn_EVT => ⟨0x0040000C, [(64, 0x40)], 0x00000080, 1, false, false, 0x000000F0, 0x0000010F, 0x000001FF⟩
  | .DMA_CHn_TRIG => ⟨0x00400010, [(64, 0x40)], 0x00000000, 1, false, false, 0xF3FFFFFF, 0x00000000, 0xF3FFFFFF⟩
  | .DMA_CHn_LCk => ⟨0x00400014, [(64, 0x40), (2, 0x4)], 0x00000000, 1, false, false, 0x00000000, 0x00000000, 0xFFFFFFFF⟩
  | .DMA_CHn_WAITOBJ => ⟨0x0040001C, [(64, 0x40)], 0x00000000, 1, false, false, 0x00000000, 0x00000000, 0x0007FFFF⟩
  | .DMA_CHn_Bk_LO => ⟨0x00400020, [(64, 0x40), (4, 0x8)], 0x00000000, 1, false, false, 0xFFFFFFFF, 0x00000000, 0xFFFFFFFF⟩
  | .DMA_CHn_Bk_HI => ⟨0x00400024, [(64, 0x40), (4, 0x8)], 0x00000000, 1, false, false, 0xFFFFFFFF, 0x00000000, 0xFFFFFFFF⟩
  | .DMA_CHn_RESULT_LO => ⟨0x00401000, [(64, 0x10)], 0x00000000, 1, false, false, 0x00000000, 0x00000000, 0xFFFFFFFF⟩
  | .DMA_CHn_RESULT_HI => ⟨0x00401004, [(64, 0x10)], 0x00000000, 1, false, false, 0x00000000, 0x00000000, 0xFFFFFFFF⟩
  | .DMA_CHn_DONEM_LO => ⟨0x00401008, [(64, 0x10)], 0x00000000, 1, false, false, 0x00000000, 0x00000000, 0xFFFFFFFF⟩
  | .DMA_CHn_DONEM_HI => ⟨0x0040100C, [(64, 0x10)], 0x00000000, 1, false, false, 0x00000000, 0x00000000, 0xFFFFFFFF⟩
  | .DMA_SLOT_OWNs => ⟨0x00402000, [(1024, 0x4)], 0x00000000, 2, false, false, 0x800000FF, 0x00000000, 0xC00000FF⟩
  | .DMA_SLOT_SUM => ⟨0x00401800, [], 0x00000400, 1, false, false, 0x00000000, 0x00000000, 0x07FF07FF⟩
  | .SSP_OWNb => ⟨0x00008000, [(64, 0x4)], 0x00000000, 2, false, false, 0x000007FF, 0x00000000, 0xC00007FF⟩
  | .SSP_PWRb => ⟨0x00008100, [(64, 0x4)], 0x80000002, 3, false, false, 0x00000007, 0x00000000, 0xC0000007⟩
  | .SSP_SUM => ⟨0x00008200, [], 0x00000040, 1, false, false, 0x00000000, 0x00000000, 0x7F7F7F7F⟩
  | .NOC_CTRL => ⟨0x00008300, [], 0x00000001, 2, false, false, 0x00000001, 0x00000000, 0x00000001⟩
  | .NOC_STATn => ⟨0x00008310, [(4, 0x4)], 0x00000000, 1, false, false, 0x00000000, 0x00000000, 0xFFFFFF00⟩
  | .NOC_WAKE => ⟨0x00008320, [], 0x00000000, 1, false, false, 0x00000000, 0x00000000, 0x0000FFFF⟩
  | .MTE_CTRL => ⟨0x00904000, [], 0x00000300, 10, false, false, 0x00000F04, 0x00000000, 0x00000F04⟩
  | .MTE_TGT_LO => ⟨0x00904004, [], 0x00000000, 10, false, false, 0xFFFFFFFF, 0x00000000, 0xFFFFFFFF⟩
  | .MTE_TGT_HI => ⟨0x00904008, [], 0x00000000, 10, false, false, 0xFFFFFFFF, 0x00000000, 0xFFFFFFFF⟩
  | .MTE_LEN => ⟨0x0090400C, [], 0x00000000, 10, false, false, 0xFFFFFFFF, 0x00000000, 0xFFFFFFFF⟩
  | .MTE_STATUS => ⟨0x00904010, [], 0x00000000, 2, false, false, 0x00000000, 0x00000000, 0xE0FFFFFF⟩
  | .MTE_FAIL_LO => ⟨0x00904014, [], 0x00000000, 2, false, false, 0x00000000, 0x00000000, 0xFFFFFFFF⟩
  | .MTE_FAIL_HI => ⟨0x00904018, [], 0x00000000, 2, false, false, 0x00000000, 0x00000000, 0xFFFFFFFF⟩
  | .MTE_FAIL_INFO => ⟨0x0090401C, [], 0x00000000, 2, false, false, 0x00000000, 0x00000000, 0xFE0001FF⟩
  | .TSQ_RULEs_r_W0 => ⟨0x01000500, [(256, 0x10000), (16, 0x10), (2, 0x8)], 0x00000000, 8, true, false, 0xFFFFFFFF, 0x00000000, 0xFFFFFFFF⟩
  | .TSQ_RULEs_r_W1 => ⟨0x01000504, [(256, 0x10000), (16, 0x10), (2, 0x8)], 0x00000000, 8, true, false, 0xF800003F, 0x00000000, 0xF800003F⟩
  | .TSQ_OUTs => ⟨0x01000600, [(256, 0x10000), (16, 0x4)], 0x00000000, 8, true, false, 0x000000FF, 0x00000000, 0x000000FF⟩
  | .TSQ_LIMIT => ⟨0x01000640, [(256, 0x10000)], 0x00000000, 8, true, false, 0xFFFFFFFF, 0x00000000, 0xFFFFFFFF⟩
  | .TSQ_TLIMIT => ⟨0x01000644, [(256, 0x10000)], 0x00000000, 8, true, false, 0x00FFFFFF, 0x00000000, 0x00FFFFFF⟩
  | .TSQ_STATUS => ⟨0x01000648, [(256, 0x10000)], 0x00000000, 1, false, false, 0x00000000, 0x00000000, 0x80000FFF⟩
  | .TSQ_CNT => ⟨0x0100064C, [(256, 0x10000)], 0x00000000, 1, false, false, 0x00000000, 0x00000000, 0x00FFFFFF⟩
  | .TRG_OUTt_OWN => ⟨0x00500800, [(32, 0x4)], 0x00000000, 2, false, false, 0x800000FF, 0x00000000, 0x800000FF⟩
  | .TRG_Qq_OWN => ⟨0x00501200, [(16, 0x4)], 0x00000000, 2, false, false, 0x800000FF, 0x00000000, 0x800000FF⟩
  | .TRC_Sx_OWN => ⟨0x00504800, [(16, 0x4)], 0x00000000, 2, false, false, 0x800000FF, 0x00000000, 0x800000FF⟩
  | .TRG_OUTt_CFG => ⟨0x00500000, [(32, 0x20)], 0x00000000, 1, false, false, 0xE0FFFFFF, 0x00000000, 0xE0FFFFFF⟩
  | .TRG_OUTt_CNT => ⟨0x00500004, [(32, 0x20)], 0x00000000, 1, false, false, 0xFFFFFFFF, 0x00000000, 0xFFFFFFFF⟩
  | .TRG_OUTt_CMD => ⟨0x00500008, [(32, 0x20)], 0x00000000, 1, false, false, 0x00000000, 0x00000000, 0x00000000⟩
  | .TRG_OUTt_STATUS => ⟨0x0050000C, [(32, 0x20)], 0x00000000, 1, false, false, 0x00000000, 0x20000000, 0xE000FFFF⟩
  | .TRG_OUTt_DC => ⟨0x00500010, [(32, 0x20)], 0x00000000, 1, false, false, 0x00000000, 0x00000000, 0xFFFFFFFF⟩
  | .TRG_OUTt_TSw => ⟨0x00500014, [(32, 0x20), (3, 0x4)], 0x00000000, 1, false, false, 0x00000000, 0x00000000, 0xFFFFFFFF⟩
  | .TRG_Qq_CFG => ⟨0x00501000, [(16, 0x10)], 0x00000000, 1, false, false, 0xFC000FFF, 0x00000000, 0xFC000FFF⟩
  | .TRG_Qq_MIN => ⟨0x00501004, [(16, 0x10)], 0x00000000, 1, false, false, 0xFFFFFFFF, 0x00000000, 0xFFFFFFFF⟩
  | .TRG_Qq_MAX => ⟨0x00501008, [(16, 0x10)], 0xFFFFFFFF, 1, false, false, 0xFFFFFFFF, 0x00000000, 0xFFFFFFFF⟩
  | .TRG_Qq_STAT => ⟨0x0050100C, [(16, 0x10)], 0x00000000, 1, false, false, 0x00000000, 0x00000000, 0xFFFFFFFF⟩
  | .TRG_QPER => ⟨0x00501280, [], 0x00000000, 3, false, false, 0x00FFFFFF, 0x00000000, 0x00FFFFFF⟩
  | .TRG_SBRKp_CTRL => ⟨0x00502000, [(256, 0x10)], 0x00000000, 1, false, false, 0x87FFFFFF, 0x00000000, 0x87FFFFFF⟩
  | .TRG_SBRKp_DC => ⟨0x00502004, [(256, 0x10)], 0x00000000, 1, false, false, 0xFFFFFFFF, 0x00000000, 0xFFFFFFFF⟩
  | .TRG_SBRKp_STATUS => ⟨0x00502008, [(256, 0x10)], 0x00000000, 1, false, false, 0x00000000, 0xE0000000, 0xE000FFFF⟩
  | .TRC_Sx_CFG => ⟨0x00504000, [(16, 0x40)], 0x00000000, 1, false, false, 0xFFFFE000, 0x00000000, 0xFFFFE000⟩
  | .TRC_Sx_POSTDC => ⟨0x00504030, [(16, 0x40)], 0x00000000, 1, false, false, 0x00FFFFFF, 0x00000000, 0x00FFFFFF⟩
  | .TRC_Sx_CMD => ⟨0x00504004, [(16, 0x40)], 0x00000000, 1, false, false, 0x00000000, 0x00000000, 0x00000000⟩
  | .TRC_Sx_STATUS => ⟨0x00504008, [(16, 0x40)], 0x00000000, 1, false, false, 0x00000000, 0x00000020, 0xFFFFFFE0⟩
  | .TRC_Sx_PAGES => ⟨0x0050401C, [(16, 0x40)], 0x00000000, 1, false, false, 0x00000000, 0x00000000, 0x03FFFFFF⟩
  | .TRC_Sx_POST_LO => ⟨0x0050400C, [(16, 0x40)], 0x00000000, 1, false, false, 0xFFFF0002, 0x00000000, 0xFFFF0002⟩
  | .TRC_Sx_POST_HI => ⟨0x00504010, [(16, 0x40)], 0x00000000, 1, false, false, 0xFFFFFFFF, 0x00000000, 0xFFFFFFFF⟩
  | .TRC_Sx_DONE_LO => ⟨0x00504014, [(16, 0x40)], 0x00000000, 1, false, false, 0x00000000, 0x00000000, 0xFFFF0007⟩
  | .TRC_Sx_DONE_HI => ⟨0x00504018, [(16, 0x40)], 0x00000000, 1, false, false, 0x00000000, 0x00000000, 0xFFFFFFFF⟩
  | .TRC_Sx_DEAD_DC => ⟨0x00504020, [(16, 0x40)], 0x00000000, 1, false, false, 0x00000000, 0x00000000, 0xFFFFFFFF⟩
  | .TRC_Sx_DEAD_NS_LO => ⟨0x00504024, [(16, 0x40)], 0x00000000, 1, false, false, 0x00000000, 0x00000000, 0xFFFFFFFF⟩
  | .TRC_Sx_DEAD_NS_HI => ⟨0x00504028, [(16, 0x40)], 0x00000000, 1, false, false, 0x00000000, 0x00000000, 0xFFFFFFFF⟩
  | .TRC_Sx_LOST => ⟨0x0050402C, [(16, 0x40)], 0x00000000, 1, false, false, 0x00000000, 0x00000000, 0xFFFFFFFF⟩
  | .VPT_CTRL => ⟨0x00800000, [], 0x000A0021, 2, false, false, 0xFFFF0031, 0x00000000, 0xFFFF0031⟩
  | .VPT_STATUS => ⟨0x00800004, [], 0x00000000, 1, false, false, 0x00000000, 0x00000000, 0xFF00001F⟩
  | .VPT_ERR => ⟨0x00800008, [], 0x00000000, 2, false, false, 0x00000000, 0x0000001F, 0x0000001F⟩
  | .VPT_CNT => ⟨0x0080000C, [], 0x00000000, 1, false, false, 0x00000000, 0x00000000, 0xFFFFFFFF⟩
  | .VPT_Pp_CNT => ⟨0x00801000, [(256, 0x10)], 0x00000000, 1, false, false, 0x00000000, 0x00000000, 0xFFFFFFFF⟩
  | .VPT_Pp_FIRST => ⟨0x00801004, [(256, 0x10)], 0x00000000, 1, false, false, 0x00000000, 0x80000000, 0xC000FFFF⟩
  | .VPT_Pp_FIRST_DC => ⟨0x00801008, [(256, 0x10)], 0x00000000, 1, false, false, 0x00000000, 0x00000000, 0xFFFFFFFF⟩
  | .VPT_CHc_OWN => ⟨0x00808000, [(4096, 0x4)], 0x00000000, 2, false, false, 0xC00000FF, 0x00000000, 0xC00000FF⟩
  | .VPT_CHc_MAP => ⟨0x0080C000, [(4096, 0x4)], 0x00000000, 1, true, false, 0xBFF1FFFF, 0x00000000, 0xFFF1FFFF⟩
  | .VPT_CHc_STAT => ⟨0x00810000, [(4096, 0x4)], 0x00000000, 1, false, false, 0x00000000, 0x00000000, 0xFFFFFFFF⟩
  | .FW_STATUS => ⟨0x00009000, [], 0x00000000, 1, false, false, 0x00000000, 0x00000000, 0xFFFCFFFF⟩
  | .FW_VER_ROM => ⟨0x00009004, [], 0x02000001, 1, false, false, 0x00000000, 0x00000000, 0xFFFFFFFF⟩
  | .FW_VER_HK => ⟨0x00009008, [], 0x00000000, 1, false, false, 0x00000000, 0x00000000, 0xFFFFFFFF⟩
  | .FW_VER_LINK => ⟨0x0000900C, [], 0x00000000, 1, false, false, 0x00000000, 0x00000000, 0xFFFFFFFF⟩
  | .MBX_CTRL => ⟨0x00009800, [], 0x00000000, 3, false, false, 0x00000FFF, 0x00000000, 0x00000FFF⟩
  | .MBX_DOORBELL => ⟨0x00009804, [], 0x00000000, 3, false, false, 0x00000000, 0x00000000, 0x00000000⟩
  | .MBX_STATUS => ⟨0x00009808, [], 0x00000000, 3, false, false, 0x00000000, 0x00000006, 0x00000007⟩
  | .SEM_ACQn => ⟨0x00009C00, [(64, 0x4)], 0x00000000, 3, false, false, 0x00000000, 0x00000000, 0xC00003FF⟩
  | .SEM_PEEKn => ⟨0x00009F00, [(64, 0x4)], 0x00000000, 3, false, false, 0x00000000, 0x00000000, 0xC00003FF⟩
  | .SEM_RELn => ⟨0x00009D00, [(64, 0x4)], 0x00000000, 3, false, false, 0x00000000, 0x00000000, 0x00000000⟩
  | .SEM_CFGn => ⟨0x00009E00, [(64, 0x4)], 0x00000000, 2, false, false, 0x400000FF, 0x00000000, 0x400000FF⟩
  | .SEC_SESSION => ⟨0x00101000, [], 0x00000000, 1, false, false, 0x00000000, 0x00000000, 0x000003FF⟩
  | .SEC_STATUS => ⟨0x00101004, [], 0x00000000, 1, false, false, 0x00000000, 0x00000000, 0xF800FFFF⟩
  | .SEC_AUDIT_SEQ_LO => ⟨0x00101008, [], 0x00000000, 1, false, false, 0x00000000, 0x00000000, 0xFFFFFFFF⟩
  | .SEC_AUDIT_SEQ_HI => ⟨0x0010100C, [], 0x00000000, 1, false, false, 0x00000000, 0x00000000, 0xFFFFFFFF⟩
  | .SEC_AUDIT_STATUS => ⟨0x00101010, [], 0x00000000, 1, false, false, 0x00000000, 0x00000000, 0xC003FFFF⟩
  | .SEC_ASYM_Fn => ⟨0x00101100, [(17, 0x10)], 0x00000000, 1, false, false, 0x00000000, 0x00000000, 0xFFFFFFFF⟩
  | .SEC_ASYM_Un => ⟨0x00101104, [(17, 0x10)], 0x00000000, 1, false, false, 0x00000000, 0x00000000, 0xFFFFFFFF⟩
  | .SEC_ASYM_En => ⟨0x00101108, [(17, 0x10)], 0x00000000, 1, false, false, 0x00000000, 0x00000000, 0xFFFFFFFF⟩
  | .SEC_ASYM_STn => ⟨0x0010110C, [(17, 0x10)], 0x00000000, 1, false, false, 0x00000000, 0x00000000, 0x80000000⟩
  | .SEC_THERM_F => ⟨0x00101300, [], 0x0000585F, 1, false, false, 0x00000000, 0x00000000, 0x8000FFFF⟩
  | .SEC_THERM_U => ⟨0x00101304, [], 0x00000000, 1, false, false, 0x00000000, 0x00000000, 0x8000FFFF⟩
  | .SEC_THERM_E => ⟨0x00101308, [], 0x0000585F, 1, false, false, 0x00000000, 0x00000000, 0x8000FFFF⟩
  | .FLT_STATUS => ⟨0x0000C000, [], 0x00000000, 3, false, false, 0x00001F00, 0x00000000, 0xF0001F1F⟩
  | .FLT_CLR => ⟨0x0000C004, [], 0x00000000, 2, false, false, 0x00000000, 0x00000000, 0x00000000⟩
  | .FLT_CFG => ⟨0x0000C008, [], 0x00000400, 2, false, false, 0x0000FFFF, 0x00000000, 0x0000FFFF⟩
  | .FLT_CORR => ⟨0x0000C00C, [], 0x00000000, 1, false, false, 0x00000000, 0x00000000, 0xFFFFFFFF⟩
  | .FLT_LOGi_W0 => ⟨0x0000C100, [(32, 0x10)], 0x00000000, 1, false, false, 0x00000000, 0x00000000, 0xFFFFFFFF⟩
  | .FLT_LOGi_TSw => ⟨0x0000C104, [(32, 0x10), (3, 0x4)], 0x00000000, 1, false, false, 0x00000000, 0x00000000, 0xFFFFFFFF⟩
  | .CTL_PRSTw => ⟨0x00000100, [(8, 0x4)], 0x00000000, 3, false, false, 0x00000000, 0x00000000, 0x00000000⟩
  | .CTL_PRST_BUSYw => ⟨0x00000120, [(8, 0x4)], 0x00000000, 1, false, false, 0x00000000, 0x00000000, 0xFFFFFFFF⟩
  | .CTL_RST_CAUSE => ⟨0x00000140, [], 0x00000001, 1, false, false, 0x00000000, 0x00000000, 0xFFFF000F⟩
  | .CLK_STATUS => ⟨0x00900000, [], 0x00000000, 1, false, false, 0x00000000, 0x00000000, 0xE000007F⟩
  | .PWR_FROST => ⟨0x00900010, [], 0x00000000, 2, false, false, 0x000000FF, 0x00000000, 0x000000FF⟩
  | .PWR_STATUS => ⟨0x00900014, [], 0x00000000, 1, false, false, 0x00000000, 0x20000000, 0xFC00FFFF⟩
  | .PWR_THROT => ⟨0x00900020, [], 0xBB800C00, 2, false, false, 0xFFC00F00, 0x00000000, 0xFFC0FF00⟩
  | .PWR_TEMPk => ⟨0x00900040, [(9, 0x4)], 0x00000000, 1, false, false, 0x00000000, 0x00000000, 0xFF00FFFF⟩
  | .PWR_POWER => ⟨0x00900080, [], 0x00000000, 1, false, false, 0x00000000, 0x00000000, 0xFFFFFFFF⟩
  | .PWR_EVT => ⟨0x00900084, [], 0x00000000, 1, false, false, 0x00000000, 0x0000000F, 0x0000000F⟩
  | .FMC_STATUSs => ⟨0x00702000, [(4, 0x4)], 0x00000000, 1, false, false, 0x00000000, 0x00000000, 0xFFFF00FF⟩
  | .TSQ_CTR => ⟨0x01000650, [(256, 0x10000)], 0x00000000, 1, false, false, 0x00000000, 0x00000000, 0xFFFFFFFF⟩

/-- Every register name, in the order of the chapters. -/
def RegName.all0 : List RegName :=
  [.CTL_ID, .CLU_STATUS, .CLU_CFG, .CLU_DC_LO, .CLU_DC_HI, .CLU_FAULT, .CLU_FAULT_INFO, .CLU_FAULT_DC, .CLU_SENT_CTRL, .CLU_SENT_STATUS, .CLU_SENT_LOG, .CLU_SENT_LOG_DC, .CLU_SP_CTRL, .CLU_SP_STATUS, .CLU_SP_HANDOFF, .CLU_ECC_CNT, .WE_STATUS, .WE_FAULT, .WE_FAULT_INFO, .WE_PC, .WE_LOOP_CTRL, .WE_LPn_ADDR, .WE_LPn_CNT, .CLU_DMB_RATIOn, .CLU_MEM_FAULT, .CLU_MEM_FAULT_INFO, .CLU_MEM_ECC, .CLU_FMC_CTRL, .CLU_FMC_HIT, .CLU_FMC_MISS, .CLU_FMP_STATUSn, .CLU_FREGn_BASE, .CLU_FREGn_CTRL, .FMC_GRANT_BASEp_s, .FMC_GRANT_SIZEp_s, .CLU_SLIP_LO, .CLU_SLIP_HI, .CLU_LANE_LATCHn, .PART_FRZ_CMD, .PART_FRZ_TARGET]
def RegName.all1 : List RegName :=
  [.PART_FRZ_STATUS, .PART_FRZ_LAST, .PART_FRZ_ORIGIN, .PART_MARGIN, .PART_MARGIN_EFF, .PART_EQX_TMO, .PART_EQX_WAIT, .CFG_MAN_CHECK, .CFG_MAN_INDEX, .HZ_SLIPk_LO, .HZ_SLIPk_HI, .HZ_OWNj, .HZ_WORST_LEN, .HZ_WORST_AT, .HZ_WORST_DC, .HZ_BUDGET, .HZ_OVER, .HZ_CLEAR, .CFG_CTRL, .CFG_SRC, .CFG_STATUS, .CFG_PROGRESS, .CFG_ERR_FRAME, .CFG_TMO, .CFG_FANOUT, .CFG_FANOUT_RESULT, .CFG_FANOUT_FIRST, .CFG_PART_LOADEDn, .CFG_IFVER, .CFG_BULK_SEL, .CFG_BULK_STATUS, .CFG_SCRUB_CTRL, .CFG_SCRUB_STATUS, .CFG_SCRUB_ERR, .LNK_CTRLn, .LNK_STATUSn, .LNK_ERRn, .LNK_CNTn, .LNK_FECn, .LNK_CRDn_k]
def RegName.all2 : List RegName :=
  [.LNK_SEENn_w, .LNK_DEVID, .LNK_ARB, .LNK_CFG, .LNK_ROUTEd, .LNK_FRZ_MASKp, .LNK_DROP, .TIM_NOW_w, .TIM_SET_w, .TIM_CMD, .TIM_RATE, .TIM_OFFSET, .TIM_CTRL, .TIM_SERVO, .TIM_STATUS, .TIM_INTERVAL, .TIM_MGMT, .TIM_PPS, .TIM_PPS_OFS, .TIM_PORTn, .TIM_MPDn, .TIM_EVIn_CTRL, .TIM_EVIn_TSw, .TIM_EVOn, .TIM_TMRk_STARTw, .TIM_TMRk_PERIOD_LO, .TIM_TMRk_PERIOD_HI, .TIM_TMRk_CTRL, .TIM_TMRk_STATUS, .EVT_ROUTEe, .EVT_PENDw, .TDU_CTRL, .TDU_QCTRL, .TDU_STATUS, .TDU_OCC, .TDU_SPILLED, .TDU_SPILL_BASE, .TDU_SPILL_SIZE, .TDU_TICK, .TDU_EXP_LAST]
def RegName.all3 : List RegName :=
  [.TDU_CHn_CFG, .TDU_CHn_TMPL, .TDU_CHn_TGT, .TDU_CHn_STATUS, .TDU_CHn_DATA_LO, .TDU_CHn_DATA_HI, .TDU_CHn_POST, .TDU_CHn_NHEAD, .TDU_CHn_NOPk_LO, .TDU_CHn_NOPk_HI, .DMA_CHn_CFG, .DMA_CHn_CMD, .DMA_CHn_STATUS, .DMA_CHn_EVT, .DMA_CHn_TRIG, .DMA_CHn_LCk, .DMA_CHn_WAITOBJ, .DMA_CHn_Bk_LO, .DMA_CHn_Bk_HI, .DMA_CHn_RESULT_LO, .DMA_CHn_RESULT_HI, .DMA_CHn_DONEM_LO, .DMA_CHn_DONEM_HI, .DMA_SLOT_OWNs, .DMA_SLOT_SUM, .SSP_OWNb, .SSP_PWRb, .SSP_SUM, .NOC_CTRL, .NOC_STATn, .NOC_WAKE, .MTE_CTRL, .MTE_TGT_LO, .MTE_TGT_HI, .MTE_LEN, .MTE_STATUS, .MTE_FAIL_LO, .MTE_FAIL_HI, .MTE_FAIL_INFO, .TSQ_RULEs_r_W0]
def RegName.all4 : List RegName :=
  [.TSQ_RULEs_r_W1, .TSQ_OUTs, .TSQ_LIMIT, .TSQ_TLIMIT, .TSQ_STATUS, .TSQ_CNT, .TRG_OUTt_OWN, .TRG_Qq_OWN, .TRC_Sx_OWN, .TRG_OUTt_CFG, .TRG_OUTt_CNT, .TRG_OUTt_CMD, .TRG_OUTt_STATUS, .TRG_OUTt_DC, .TRG_OUTt_TSw, .TRG_Qq_CFG, .TRG_Qq_MIN, .TRG_Qq_MAX, .TRG_Qq_STAT, .TRG_QPER, .TRG_SBRKp_CTRL, .TRG_SBRKp_DC, .TRG_SBRKp_STATUS, .TRC_Sx_CFG, .TRC_Sx_POSTDC, .TRC_Sx_CMD, .TRC_Sx_STATUS, .TRC_Sx_PAGES, .TRC_Sx_POST_LO, .TRC_Sx_POST_HI, .TRC_Sx_DONE_LO, .TRC_Sx_DONE_HI, .TRC_Sx_DEAD_DC, .TRC_Sx_DEAD_NS_LO, .TRC_Sx_DEAD_NS_HI, .TRC_Sx_LOST, .VPT_CTRL, .VPT_STATUS, .VPT_ERR, .VPT_CNT]
def RegName.all5 : List RegName :=
  [.VPT_Pp_CNT, .VPT_Pp_FIRST, .VPT_Pp_FIRST_DC, .VPT_CHc_OWN, .VPT_CHc_MAP, .VPT_CHc_STAT, .FW_STATUS, .FW_VER_ROM, .FW_VER_HK, .FW_VER_LINK, .MBX_CTRL, .MBX_DOORBELL, .MBX_STATUS, .SEM_ACQn, .SEM_PEEKn, .SEM_RELn, .SEM_CFGn, .SEC_SESSION, .SEC_STATUS, .SEC_AUDIT_SEQ_LO, .SEC_AUDIT_SEQ_HI, .SEC_AUDIT_STATUS, .SEC_ASYM_Fn, .SEC_ASYM_Un, .SEC_ASYM_En, .SEC_ASYM_STn, .SEC_THERM_F, .SEC_THERM_U, .SEC_THERM_E, .FLT_STATUS, .FLT_CLR, .FLT_CFG, .FLT_CORR, .FLT_LOGi_W0, .FLT_LOGi_TSw, .CTL_PRSTw, .CTL_PRST_BUSYw, .CTL_RST_CAUSE, .CLK_STATUS, .PWR_FROST]
def RegName.all6 : List RegName :=
  [.PWR_STATUS, .PWR_THROT, .PWR_TEMPk, .PWR_POWER, .PWR_EVT, .FMC_STATUSs, .TSQ_CTR]

/-- All register names. -/
def RegName.all : List RegName :=
  RegName.all0 ++ RegName.all1 ++ RegName.all2 ++ RegName.all3 ++ RegName.all4 ++ RegName.all5 ++ RegName.all6

end Sys2Proof.Machine
end

