-- ==== Sys2Proof/Machine/State.lean ====
section
/-!
DEFINITION. The state of the module: the register file, the parts of Parts.lean, what has been sent out, and the queue of waiting commands.
-/
namespace Sys2Proof.Machine

/-- The registers: those listed hold the word given, every other its reset value (R16). -/
abbrev RegFile := List (RegKey × BitVec 32)

/-- Everything the spec gives the module. -/
structure Block where
  regs : RegFile := []
  pw : Power := {}
  flt : Flt := {}
  sec : Sec := {}
  fw : Fw := {}
  /-- functions by number: 0 PF0, 1 + v VF v, 257 the management port -/
  funcs : NMap Func := []
  /-- VF Enable and NumVFs of the SR-IOV capability (R453) -/
  vfEnable : Bool := false
  numVfs : Nat := 0
  tdu : Tdu := {}
  dma : NMap Dma := []
  /-- the DMA program store, by 32-bit word, and the owners that wait for slots in handover (R353, R356) -/
  prog : NMap Word := []
  slotNext : NMap Word := []
  tu : Tu := {}
  quals : NMap Qual := []
  outs : NMap TrgOut := []
  streams : NMap Stream := []
  vpt : Vpt := {}
  cfg : Cfg := {}
  noc : Noc := {}
  ssp : Ssp := {}
  march : Option March := none
  links : NMap Link := []
  parts : NMap Part := []
  clus : NMap Cluster := []
  /-- far memory by stack × 2^35 + byte address, and its words known to be uncorrectable by that address / 8 (R149) -/
  far : NMap Byte := []
  farBad : NMap Bool := []
  /-- messages sent to the host and the management port, oldest first -/
  out : List HostMsg := []
  /-- a CTL_CLK cycle and the events whose EVT_PEND bits writes of that cycle have cleared (R554) -/
  evtClr : Nat × List Nat := (0, [])
  /-- a CTL_CLK cycle and the events raised in it (R554) -/
  evtSet : Nat × List Nat := (0, [])
  /-- the bytes that the last read returned -/
  reply : List Byte := []
  /-- the model's own counter: how many free values have been drawn (log entry 2) -/
  drawn : Nat := 0
  /-- the time counter in units of 2^-40 ns (R287) -/
  time : Nat := 0
  /-- the freeze sequence of this module as originator, and the last sequence held per originator (R183) -/
  frzSeq : Nat := 0
  frzSeen : NMap (Option Nat) := []
  /-- the PATH_HOLD and PATH_DOWN sequence of this module per partition, and the last one held per origin × 256 + partition (R266) -/
  pathSeq : NMap Nat := []
  pathSeen : NMap Nat := []
  deriving DecidableEq, Repr

/-- The state: the module, and the commands that wait, first in, first out. -/
structure State where
  pending : List Instr
  b : Block
  deriving DecidableEq, Repr

/-- Reasons to stop with a fault: none. The spec gives every command an effect, so no meaning ends in a fault (safe: nothing is left out by it). -/
inductive Fault where
  deriving DecidableEq, Repr

/-- Reasons to refuse a command. -/
inductive Refusal where
  /-- Raised by exec for a command that has no meaning yet (safe: the machine stops). -/
  | notModelled (mnemonic : String)
  deriving DecidableEq, Repr

/-- The module while a cold reset holds it (R16, R516, R517): every register at its reset value, POR_N low, no command waiting. -/
def State.reset : State := ⟨[], {}⟩

end Sys2Proof.Machine
end

