-- ==== Sys2Proof/Machine/Ops.lean ====
section
/-!
DEFINITION. The shared operations: registers and fields, functions and partitions by number, time stamps, events (R350), the audit log (R484),
the fault log (R498 to R509), control symbols (R265, R266) and the stop of a partition (R84, R186).
-/
namespace Sys2Proof.Machine

/-! ## Registers -/

/-- The order of the register file. -/
def RegKey.before (a b : RegKey) : Bool :=
  if a.name.ctorIdx ≠ b.name.ctorIdx then decide (a.name.ctorIdx < b.name.ctorIdx)
  else if a.i ≠ b.i then decide (a.i < b.i)
  else if a.j ≠ b.j then decide (a.j < b.j)
  else decide (a.k < b.k)

/-- A register without index. -/
def r0 (n : RegName) : RegKey := ⟨n, 0, 0, 0⟩
/-- A register with one index. -/
def r1 (n : RegName) (i : Nat) : RegKey := ⟨n, i, 0, 0⟩
/-- A register with two indices. -/
def r2 (n : RegName) (i j : Nat) : RegKey := ⟨n, i, j, 0⟩
/-- A register with three indices. -/
def r3 (n : RegName) (i j k : Nat) : RegKey := ⟨n, i, j, k⟩

/-- The word listed for a register. -/
def RegFile.find : RegFile → RegKey → Option (BitVec 32)
  | [], _ => none
  | (k, v) :: r, x => if k = x then some v else RegFile.find r x

/-- The file without a register. -/
def RegFile.erase (f : RegFile) (k : RegKey) : RegFile := f.filter (fun e => decide (e.1 ≠ k))

/-- Insert a register in order. -/
def RegFile.insert (k : RegKey) (v : BitVec 32) : RegFile → RegFile
  | [] => [(k, v)]
  | (k', v') :: r => if k.before k' then (k, v) :: (k', v') :: r else (k', v') :: RegFile.insert k v r

/-- Write a register; a register at its reset value is not listed. -/
def RegFile.set (f : RegFile) (k : RegKey) (v : BitVec 32) : RegFile :=
  if v = k.name.info.reset then f.erase k else (f.erase k).insert k v

/-- The word a register holds. -/
def Block.reg (b : Block) (k : RegKey) : Word := (RegFile.find b.regs k).getD k.name.info.reset

/-- Put a word into a register. -/
def Block.setReg (b : Block) (k : RegKey) (v : Word) : Block := { b with regs := RegFile.set b.regs k v }

/-- A field of a register. -/
def Block.fld (b : Block) (k : RegKey) (f : Fld) : Nat := f.get (b.reg k)

/-- Put a number into a field of a register. -/
def Block.setFld (b : Block) (k : RegKey) (f : Fld) (v : Nat) : Block := b.setReg k (f.set (b.reg k) v)

/-- Set a one-bit field. -/
def Block.setBit (b : Block) (k : RegKey) (f : Fld) : Block := b.setFld k f 1

/-- Clear a field. -/
def Block.clrFld (b : Block) (k : RegKey) (f : Fld) : Block := b.setFld k f 0

/-- A one-bit field. -/
def Block.bit (b : Block) (k : RegKey) (f : Fld) : Bool := b.fld k f ≠ 0

/-- Count in a field, saturating at its largest value. -/
def Block.satFld (b : Block) (k : RegKey) (f : Fld) (n : Nat) : Block :=
  b.setFld k f (satAdd (b.fld k f) n (2 ^ f.len - 1))

/-- Count in a field, wrapping. -/
def Block.wrapFld (b : Block) (k : RegKey) (f : Fld) (n : Nat) : Block := b.setFld k f (b.fld k f + n)

/-- Return a register to its reset value. -/
def Block.clrReg (b : Block) (k : RegKey) : Block := b.setReg k k.name.info.reset

/-- Return the registers of a list of names to their reset values, at every index that a test accepts. -/
def Block.clrRegs (b : Block) (p : RegKey → Bool) : Block := { b with regs := b.regs.filter (fun e => !p e.1) }

/-- What a write of `v` leaves in a register by its access codes: RW bits take `v`, W1C bits written 1 clear, others stay (R15, R17). -/
def RegName.merge (n : RegName) (old v : Word) : Word :=
  ((old &&& ~~~ n.info.rwMask) ||| (v &&& n.info.rwMask)) &&& ~~~ (v &&& n.info.w1cMask)

/-- A write by the access codes. -/
def Block.writeCodes (b : Block) (k : RegKey) (v : Word) : Block := b.setReg k (k.name.merge (b.reg k) v)

/-- A 64-bit value over a pair of registers, low word first (R14). -/
def Block.reg64 (b : Block) (lo hi : RegKey) : Nat := (b.reg lo).toNat + 2 ^ 32 * (b.reg hi).toNat

/-- Put a 64-bit value into a pair of registers. -/
def Block.setReg64 (b : Block) (lo hi : RegKey) (v : Nat) : Block :=
  (b.setReg lo (BitVec.ofNat 32 v)).setReg hi (BitVec.ofNat 32 (v / 2 ^ 32))

/-! ## Parts by number -/

/-- A partition. -/
def Block.part (b : Block) (p : Nat) : Part := NMap.get {} b.parts p
/-- Put a partition. -/
def Block.setPart (b : Block) (p : Nat) (x : Part) : Block := { b with parts := b.parts.put p x }
/-- Change a partition. -/
def Block.modPart (b : Block) (p : Nat) (f : Part → Part) : Block := b.setPart p (f (b.part p))
/-- A cluster. -/
def Block.clu (b : Block) (c : Nat) : Cluster := NMap.get {} b.clus c
/-- Put a cluster. -/
def Block.setClu (b : Block) (c : Nat) (x : Cluster) : Block := { b with clus := b.clus.put c x }
/-- Change a cluster. -/
def Block.modClu (b : Block) (c : Nat) (f : Cluster → Cluster) : Block := b.setClu c (f (b.clu c))
/-- A link. -/
def Block.link (b : Block) (n : Nat) : Link := NMap.get {} b.links n
/-- Put a link. -/
def Block.setLink (b : Block) (n : Nat) (x : Link) : Block := { b with links := b.links.put n x }
/-- Change a link. -/
def Block.modLink (b : Block) (n : Nat) (f : Link → Link) : Block := b.setLink n (f (b.link n))
/-- A DMA channel. -/
def Block.dmaCh (b : Block) (n : Nat) : Dma := NMap.get {} b.dma n
/-- Change a DMA channel. -/
def Block.modDma (b : Block) (n : Nat) (f : Dma → Dma) : Block := { b with dma := b.dma.put n (f (b.dmaCh n)) }
/-- A function. -/
def Block.func (b : Block) (n : Nat) : Func := NMap.get {} b.funcs n
/-- Change a function. -/
def Block.modFunc (b : Block) (n : Nat) (f : Func → Func) : Block := { b with funcs := b.funcs.put n (f (b.func n)) }

/-- The number of the function through which a requester acts: the physical function for the units inside. -/
def fnOf : Requester → Nat
  | .pf0 => 0
  | .vf v => 1 + v.toNat
  | .mgmt => 257
  | .dma _ => 0
  | .hkc => 0
  | .fanout => 0

/-- The requester ID of Table 15.9, and the SOURCE codes of Table 16.4. -/
def idOf : Requester → Nat
  | .pf0 => 0
  | .vf v => 0x100 + v.toNat
  | .dma n => 0x200 + n.toNat
  | .mgmt => 0x3FE
  | .hkc => 0x3FF
  | .fanout => 0x3FD

/-! ## Free values -/

/-- The next free value, of w bits. -/
def Block.fresh (b : Block) (w : Nat) : BitVec w := BitVec.ofNat w (Config.freeValue b.drawn)

/-- A free value has been drawn. -/
def Block.draw (b : Block) : Block := { b with drawn := b.drawn + 1 }

/-! ## Time stamps -/

/-- 2^-40 ns units of one second. -/
def unitsPerSecond : Nat := 1000000000 * 2 ^ 40

/-- The stamp of a time (R286): seconds, nanoseconds, units of 2^-16 ns. -/
def stampOf (t : Nat) : Stamp :=
  BitVec.ofNat 96 ((t / unitsPerSecond) * 2 ^ 48 + ((t % unitsPerSecond) / 2 ^ 40) * 2 ^ 16 + (t % 2 ^ 40) / 2 ^ 24)

/-- A stamp as the module takes it: a stamp whose nanoseconds lie within their second, in whole 62.5 ps (R286, R288, R293). -/
def takeStamp (t : Stamp) : Stamp :=
  stampOf ((bitsOf t.toNat 48 48 * 1000000000 + bitsOf t.toNat 16 32) * 2 ^ 40 + bitsOf t.toNat 0 16 * 2 ^ 24) &&& ~~~(0xFFF#96)

/-- The time of the STEP_CLK edge on which an internal instant is taken (R288): that of the last TIME_CLK edge, and the elapsed multiple of 500 ps
scaled by RATE. Which of the four edges it is, is a free value (log entry 130). -/
def Block.stepTime (b : Block) : Nat :=
  if b.bit (r0 .TIM_CTRL) F.TIM_CTRL_RUN then
    ((b.time : Int) + ((Config.stepEdge b.pw.ctl b.drawn).toNat : Int) * (2 ^ 40 + (b.reg (r0 .TIM_RATE)).toInt) / 2).toNat
  else b.time

/-- The present stamp, rounded down to a multiple of 62.5 ps (R288). -/
def Block.now (b : Block) : Stamp := stampOf b.stepTime &&& ~~~(0xFFF#96)

/-! ## Messages to the host -/

/-- Send a message out. -/
def Block.send (b : Block) (m : HostMsg) : Block := { b with out := b.out ++ [m] }

/-- Virtual function v exists (R453). -/
def Block.vfExists (b : Block) (v : Nat) : Bool := b.vfEnable && decide (v < b.numVfs)

/-- The function that serves a partition: its VF when one is enabled, PF0 otherwise (R333). -/
def Block.servingFn (b : Block) (p : Nat) : Nat := if b.vfExists p then 1 + p else 0

/-- The vectors of a function: 2,048 of PF0, 8 of a VF (R350). -/
def vectorsOf (fn : Nat) : Nat := if fn = 0 then 2048 else 8

/-- The message of an event goes out before those of greater event numbers of its cycle (R554). -/
def HostMsg.before : HostMsg → HostMsg → Bool
  | .msix _ _ (some (c, e)), .msix _ _ (some (d, f)) => decide (c = d ∧ e < f)
  | _, _ => false

/-- A message waits for a write through its function that came before it (R456). -/
def HostMsg.behind : HostMsg → HostMsg → Bool
  | .msix f _ _, .write g _ _ => decide (f = g)
  | _, _ => false

/-- Put a message before the first one that it goes before (R554), but behind every write through its function. -/
def insertMsg (l : List HostMsg) (m : HostMsg) : List HostMsg :=
  let t := (l.reverse.takeWhile (fun x => !m.behind x)).reverse
  match t.findIdx? (m.before ·) with
  | some i => l.take (l.length - t.length) ++ t.take i ++ m :: t.drop i
  | none => l ++ [m]

/-- Send an MSI-X message (R350, R456): nothing for a function that does not exist or a vector it does not have; a masked vector becomes pending. -/
def Block.msix (b : Block) (fn vec : Nat) (evt : Option (Nat × Nat)) : Block :=
  if (fn = 0 ∨ (fn ≤ 256 ∧ b.vfExists (fn - 1))) ∧ vec < vectorsOf fn then
    if vec ∈ (b.func fn).unmasked then { b with out := insertMsg b.out (.msix fn vec evt) }
    else b.modFunc fn (fun f => { f with msixPend := if vec ∈ f.msixPend then f.msixPend else f.msixPend ++ [vec] })
  else b

/-! ## Events -/

/-- The numbers that are not raised (R553, Table 20.4). -/
def eventSilent (e : Nat) : Bool :=
  decide ((136 ≤ e ∧ e ≤ 159) ∨ (228 ≤ e ∧ e ≤ 235) ∨ e = 238 ∨ e = 239 ∨ e = 247 ∨ 256 ≤ e)

/-- A fragment reaches the TDU. -/
def Block.pushFrag (b : Block) (f : Frag) : Block := { b with tdu := { b.tdu with queue := b.tdu.queue ++ [(b.pw.ctl, f)] } }

/-- The EVT_PEND bit of an event. -/
def Block.evtPend (b : Block) (e : Nat) : Bool := (b.reg (r1 .EVT_PENDw (e / 32))).getLsbD (e % 32)

/-- Set the EVT_PEND bit of an event. -/
def Block.setPend (b : Block) (e : Nat) : Block :=
  b.setReg (r1 .EVT_PENDw (e / 32)) (b.reg (r1 .EVT_PENDw (e / 32)) ||| BitVec.ofNat 32 (2 ^ (e % 32)))

/-- Clear the EVT_PEND bit of an event. -/
def Block.clrPend (b : Block) (e : Nat) : Block :=
  b.setReg (r1 .EVT_PENDw (e / 32)) (b.reg (r1 .EVT_PENDw (e / 32)) &&& ~~~ (BitVec.ofNat 32 (2 ^ (e % 32))))

/-- The event router's fragment of an event raised with a stamp (Table 10.1). -/
def Block.evtFrag (b : Block) (e : Nat) (t : Stamp) : Block :=
  if b.bit (r1 .EVT_ROUTEe e) F.EVT_ROUTEe_FRAG_EN then
    ({ b with tdu := { b.tdu with calm := 0 } }).pushFrag ⟨.event, b.fld (r1 .EVT_ROUTEe e) F.EVT_ROUTEe_CHAN, e, 0, t.setWidth 64⟩
  else b

/-- The EVT_PEND bit of an event was 1 at the start of the cycle and a write of the cycle has cleared it. -/
def Block.evtCleared (b : Block) (e : Nat) : Bool := decide (b.evtClr.1 = b.pw.ctl ∧ e ∈ b.evtClr.2)

/-- The events raised in the present cycle. -/
def Block.evtRaised (b : Block) : List Nat := if b.evtSet.1 = b.pw.ctl then b.evtSet.2 else []

/-- Raise an event with its stamp (R350): pending bit, message where the bit was 0 before the cycle (R554), fragment on every raising. -/
def Block.raiseAt (b : Block) (e : Nat) (t : Stamp) : Block :=
  if eventSilent e then b
  else
    let b1 : Block := { b.setPend e with evtSet := (b.pw.ctl, e :: b.evtRaised) }
    let b2 := if !b.evtPend e && !b.evtCleared e && b.bit (r1 .EVT_ROUTEe e) F.EVT_ROUTEe_MSIX_EN then
        b1.msix (b.fld (r1 .EVT_ROUTEe e) F.EVT_ROUTEe_FUNC) (b.fld (r1 .EVT_ROUTEe e) F.EVT_ROUTEe_VECTOR) (some (b.pw.ctl, e))
      else b1
    b2.evtFrag e t

/-- Raise an event now. -/
def Block.raise (b : Block) (e : Nat) : Block := b.raiseAt e b.now

/-- Raise an event when a condition holds. -/
def Block.raiseIf (b : Block) (x : Bool) (e : Nat) : Block := if x then b.raise e else b

/-- The group number of a cluster: c[7:3] (R28). -/
def groupOf (c : Nat) : Nat := c / 8

/-- Raise the cluster-group event of a cluster (R28). -/
def Block.raiseCluster (b : Block) (c : Nat) : Block := b.raise (192 + groupOf c)

/-- The groups of a list of clusters, each once. -/
def groupsOf (cs : List Nat) : List Nat := (List.range 32).filter (fun g => cs.any (fun c => decide (groupOf c = g)))

/-- Raise the cluster-group events of a partition's clusters (R192), each once, in ascending order (R554). -/
def Block.raiseGroups (b : Block) (p : Nat) : Block :=
  forEach (groupsOf (b.part p).clusters) b (fun g x => x.raise (192 + g))

/-! ## The audit log -/

/-- Append an entry (R484): a chained hash, the next SEQ; the latest 4,096 stay on chip (R485); event 7 when the unacknowledged entries first exceed 98,304. -/
def Block.auditFull (b : Block) (typ : Nat) (role : Role) (slot src res : Nat) (detail : List Byte) : Block :=
  let t := if b.bit (r0 .TIM_STATUS) F.TIM_STATUS_TIME_VALID then b.now else 0
  let x := b.sec
  let e : AuditEntry := ⟨x.nextSeq, t, BitVec.ofNat 16 typ, role, BitVec.ofNat 8 slot, BitVec.ofNat 16 src, BitVec.ofNat 16 res,
    sliceBytes detail 0 52, auditHash x.lastHash (auditBytes x.nextSeq t typ role slot src res detail)⟩
  let b1 := { b with sec := { x with
      audit := (x.audit ++ [e]).drop (x.audit.length + 1 - max 4096 (x.unmirrored + 1)), unmirrored := x.unmirrored + 1,
      nextSeq := x.nextSeq + 1, lastHash := e.hash } }
  let b2 := b1.setReg64 (r0 .SEC_AUDIT_SEQ_LO) (r0 .SEC_AUDIT_SEQ_HI) x.nextSeq
  b2.raiseIf (decide (x.nextSeq + 1 - x.acked = 98305)) 7

/-- The session of a requester's function. -/
def Block.sessionOf (b : Block) (r : Requester) : Option Session := (b.func (fnOf r)).session

/-- The role with which a requester writes. A DMA channel of scope partition acts as an operator of its partition, one of scope module as an installer (log entry 8). -/
def Block.roleOf (b : Block) (r : Requester) : Role :=
  match r with
  | .dma n => if b.bit (r1 .DMA_CHn_CFG n.toNat) F.DMA_CHn_CFG_SCOPE then .inst else .op
  | .hkc => .hk
  | .fanout => .hk
  | _ => match b.sessionOf r with
    | some x => x.role
    | none => .none

/-- The key slot of a requester's session, 0xFF for none (Table 16.4). -/
def Block.slotOf (b : Block) (r : Requester) : Nat :=
  match b.sessionOf r with
  | some x => x.slot
  | none => 0xFF

/-- An audit entry for an action of a requester. -/
def Block.audit (b : Block) (r : Requester) (typ res : Nat) (detail : List Byte) : Block :=
  b.auditFull typ (b.roleOf r) (b.slotOf r) (idOf r) res detail

/-- An audit entry of the housekeeping firmware. -/
def Block.auditHk (b : Block) (typ : Nat) (detail : List Byte) : Block := b.auditFull typ .hk 0xFF 0x3FF 0 detail

/-! ## Control symbols and freezes -/

/-- The FREEZE symbol (Table 8.5). -/
def freezeToSym (y : FreezeSym) : Sym :=
  ⟨1, BitVec.ofNat 96 (((((b2n y.kind * 2 ^ 8 + y.part.toNat) * 2 ^ 32 + y.target.toNat) * 2 ^ 10 + y.origin.toNat) * 2 ^ 6
    + y.seq.toNat) * 2 ^ 4 + y.cause.toNat) <<< 35⟩

/-- The PATH_HOLD symbol (Table 8.6), or PATH_DOWN. -/
def pathToSym (y : PathSym) (down : Bool) : Sym :=
  ⟨if down then 3 else 2, BitVec.ofNat 96 ((((b2n y.on * 2 ^ 8 + y.part.toNat) * 2 ^ 10 + y.origin.toNat) * 2 ^ 4 + y.link.toNat) * 2 ^ 8
    + y.seq.toNat) <<< 65⟩

/-- The state code of a link (Table 8.2). -/
def Block.lnkState (b : Block) (n : Nat) : Nat := b.fld (r1 .LNK_STATUSn n) F.LNK_STATUSn_STATE

/-- Queue a symbol on a link that is ACTIVE or in RETRAIN; on any other link it cannot be sent (log entry 12). -/
def Block.sendSym (b : Block) (n : Nat) (y : Sym) : Block :=
  if b.lnkState n = 5 ∨ b.lnkState n = 6 then b.modLink n (fun l => { l with ctl := l.ctl ++ [y] }) else b

/-- Flood a symbol on the links of LNK_FRZ_MASKp, but for one link (R183, R266). -/
def Block.flood (b : Block) (p : Nat) (except : Option Nat) (y : Sym) : Block :=
  forEach ((List.range 16).filter (fun n => (b.reg (r1 .LNK_FRZ_MASKp p)).getLsbD n && decide (except ≠ some n))) b
    (fun n x => x.sendSym n y)

/-- The module's device ID. -/
def Block.devId (b : Block) : BitVec 10 := BitVec.ofNat 10 (b.fld (r0 .LNK_DEVID) F.LNK_DEVID_ID)

/-- The module hosts a cluster of partition p. -/
def Block.hosts (b : Block) (p : Nat) : Bool := !(b.part p).clusters.isEmpty

/-- Record the last freeze accepted (Table 5.14). -/
def Block.recordFreeze (b : Block) (p : Nat) (y : FreezeSym) : Block :=
  b.setReg (r1 .PART_FRZ_ORIGIN p)
    (BitVec.ofNat 32 (2 ^ 31 + b2n y.kind * 2 ^ 30 + y.cause.toNat * 2 ^ 26 + y.origin.toNat * 2 ^ 16 + y.seq.toNat))

/-- Form a freeze symbol with a new sequence and send it on the partition's freeze mask (R183). -/
def Block.originate (b : Block) (p : Nat) (kind : Bool) (target : BitVec 32) (cause : Nat) : Block :=
  let q := (b.frzSeq + 1) % 64
  let y : FreezeSym := ⟨kind, BitVec.ofNat 8 p, target, b.devId, BitVec.ofNat 6 q, BitVec.ofNat 4 cause⟩
  (({ b with frzSeq := q }).recordFreeze p y).flood p none (freezeToSym y)

/-- Originate an abort (R186): ABORTED, the symbol, the freeze outcome's cluster-group events (R192). -/
def Block.originateAbort (b : Block) (p : Nat) (cause : Nat) : Block :=
  ((b.setBit (r1 .PART_FRZ_STATUS p) F.PART_FRZ_STATUS_ABORTED).originate p true 0 cause).raiseGroups p

/-- No target is pending any more, and none has been met: PART_FRZ_LAST shows the target last met (Table 5.13). -/
def Block.dropTarget (b : Block) (p : Nat) : Block :=
  ((b.modPart p (fun x => { x with target := none })).clrFld (r1 .PART_FRZ_STATUS p) F.PART_FRZ_STATUS_PENDING).setReg (r1 .PART_FRZ_LAST p) (b.part p).met

/-- STATE after a stop without an Equinox (R84, R501): a FROZEN partition keeps its state, in Frost the state to return to changes. -/
def Part.stopFault (x : Part) : Part :=
  match x.state with
  | .running => { x with state := .stoppedFault, inconsistent := true, slipping := false }
  | .frost => { x with preFrost := if x.preFrost = .running then .stoppedFault else x.preFrost, inconsistent := true }
  | _ => { x with inconsistent := true }

/-- Stop a partition without an Equinox (R84, R501). A target that is pending can no longer be met, because an inconsistent partition does not resume
(R187): it is dropped (DEDUCED, log entry 115). -/
def Block.stopInconsistent (b : Block) (p : Nat) : Block :=
  if (b.part p).state = .winter then b else (b.modPart p Part.stopFault).dropTarget p

/-- A fault in the CTL_CLK cycle of the stop at a freeze target takes precedence over it (R501): the partition has not become FROZEN. -/
def Block.undoFreeze (b : Block) (p : Nat) : Block :=
  let x := b.part p
  let k := r1 .PART_FRZ_STATUS p
  if x.state = .frozen ∧ x.frozenAt = some b.pw.ctl then
    ((b.modPart p (fun y => { y with state := .running, frozenAt := none })).clrFld k F.PART_FRZ_STATUS_FROZEN).clrFld k F.PART_FRZ_STATUS_DRAINED
  else b

/-- The stop of R84 with its abort. A partition in Winter state does not stop. -/
def Block.faultStop (b : Block) (p : Nat) (cause : Nat) : Block :=
  if b.hosts p ∧ (b.part p).state ≠ .winter then ((b.undoFreeze p).stopInconsistent p).originateAbort p cause else b

/-! ## The fault log -/

/-- The level codes of Table 17.10. -/
inductive Level where
  | p
  | l
  | u
  | h
  | x
  deriving DecidableEq, Repr

/-- The code of a level. -/
def Level.code : Level → Nat
  | .p => 1
  | .l => 2
  | .u => 3
  | .h => 4
  | .x => 5

/-- The four words of entry i of the fault log. -/
def fltWords (i : Nat) : List RegKey := [r1 .FLT_LOGi_W0 i, r2 .FLT_LOGi_TSw i 0, r2 .FLT_LOGi_TSw i 1, r2 .FLT_LOGi_TSw i 2]

/-- Two entries of the fault log change places. -/
def Block.fltSwap (b : Block) (i j : Nat) : Block :=
  forEach ((fltWords i).zip (fltWords j)) b (fun e x => (x.setReg e.1 (b.reg e.2)).setReg e.2 (b.reg e.1))

/-- An entry's place among those of its cycle: by class code, then by unit (R508). -/
def Block.fltRank (b : Block) (i : Nat) : Nat := bitsOf (b.reg (r1 .FLT_LOGi_W0 i)).toNat 23 5 * 2 ^ 15 + bitsOf (b.reg (r1 .FLT_LOGi_W0 i)).toNat 8 15

/-- Entry i moves before the n entries of its cycle that stand before it, as far as they come after it. -/
def Block.fltOrder (b : Block) (i : Nat) : Nat → Block
  | 0 => b
  | n + 1 =>
    let j := (i + 31) % 32
    if b.fltRank i < b.fltRank j then Block.fltOrder (b.fltSwap i j) j n else b

/-- Write one entry into the log at HEAD (R508), with its events (R509), its audit entry and FAULT_N (R507). -/
def Block.faultEntry (b : Block) (lv : Level) (cls unit part : Nat) : Block :=
  let i := b.fld (r0 .FLT_STATUS) F.FLT_STATUS_HEAD
  let t := b.now
  let b1 := b.setReg (r1 .FLT_LOGi_W0 i) (BitVec.ofNat 32 (2 ^ 31 + lv.code * 2 ^ 28 + cls * 2 ^ 23 + unit * 2 ^ 8 + part))
  let b2 := forEach [0, 1, 2] b1 (fun w x => x.setReg (r2 .FLT_LOGi_TSw i w) (BitVec.ofNat 32 (t.toNat >>> (32 * w))))
  let full := decide (b2.flt.unacked = 32)
  let n := if b.flt.cycle = b.pw.ctl then min 31 b.flt.inCycle else 0
  let b3 := { (b2.fltOrder i n).setFld (r0 .FLT_STATUS) F.FLT_STATUS_HEAD (i + 1) with
    flt := { b2.flt with unacked := if full then 32 else b2.flt.unacked + 1, cycle := b.pw.ctl, inCycle := n + 1 } }
  let b4 := if lv = .l then b3 else { b3.setBit (r0 .FLT_STATUS) F.FLT_STATUS_FAULT_N_ACT with pw := { b3.pw with faultN := true } }
  let b5 := if lv = .x then b4.setBit (r0 .FLT_STATUS) F.FLT_STATUS_X_HELD else b4
  let b6 := b5.raise (match lv with | .p => 252 | .l => 252 | .u => 253 | .h => 253 | .x => 254)
  let b7 := if full then (b6.setBit (r0 .FLT_STATUS) F.FLT_STATUS_OVF).raise 255 else b6
  if lv = .l then b7 else b7.auditHk 0x60 (leBytes 1 cls ++ leBytes 2 unit)

/-- FLT_CORR has increased by more than CORR_LIM in the current second, and no event has told of it (R509). -/
def Block.corrOver (b : Block) : Bool :=
  let lim := b.fld (r0 .FLT_CFG) F.FLT_CFG_CORR_LIM
  decide (lim ≠ 0xFFFF ∧ b.flt.corrTold = false ∧ lim < (b.reg (r0 .FLT_CORR) - b.flt.corrBase).toNat)

/-- A level C correction (R509): FLT_CORR counts; the first correction after an increase by more than CORR_LIM in one second raises event 252 and sets
CORR_HIGH. -/
def Block.corrected (b : Block) : Block :=
  let b1 := b.setReg (r0 .FLT_CORR) (b.reg (r0 .FLT_CORR) + 1)
  if b.corrOver || b.flt.corrDue then
    ({ b1 with flt := { b1.flt with corrDue := false, corrTold := b.flt.corrTold || b.corrOver } }.setBit (r0 .FLT_STATUS) F.FLT_STATUS_CORR_HIGH).raise 252
  else b1

/-- A number of level C corrections found at once, the symbols that the FEC of one codeword corrects (Table 17.2). -/
def Block.correctedBy (b : Block) : Nat → Block
  | 0 => b
  | n + 1 => b.corrected.correctedBy n

/-- A second of TDU_TICK ends (R509): the next one's corrections count from here. -/
def Block.corrSecond (b : Block) : Block :=
  { b with flt := { b.flt with corrBase := b.reg (r0 .FLT_CORR), corrDue := b.flt.corrDue || b.corrOver, corrTold := false } }

/-- The CAUSE that an abort of a fault class carries (R500). -/
def causeOf (cls : Nat) : Nat :=
  if cls = 0x01 ∨ cls = 0x03 ∨ cls = 0x04 ∨ cls = 0x07 then 2
  else if cls = 0x05 then 3
  else if cls = 0x13 then 5
  else if cls = 0x0A then 6
  else 4

/-- The UNIT of a fault in a cluster: cluster ID and BP, WE or FMP number (Table 17.10). -/
def unitOf (c k : Nat) : Nat := c * 128 + k

/-- A level P fault of one partition (Table 17.2): the entry, the stop and the abort; discarded while a reset of the partition is in progress (R523). -/
def Block.faultP (b : Block) (cls unit p : Nat) : Block :=
  if (b.reg (r1 .CTL_PRST_BUSYw (p / 32))).getLsbD (p % 32) then b else (b.faultEntry .p cls unit p).faultStop p (causeOf cls)

/-- The partitions on the module. -/
def Block.hosted (b : Block) : List Nat := (b.parts.filter (fun e => !e.2.clusters.isEmpty)).map (·.1)

/-- A level U fault (Table 17.2): every partition of a list stops, the unit refuses new work until a warm reset. -/
def Block.faultU (b : Block) (k : CUnit) (cls unit : Nat) (ps : List Nat) : Block :=
  let b1 := b.faultEntry .u cls unit 0
  let b2 := { b1 with flt := { b1.flt with refusing := if k ∈ b1.flt.refusing then b1.flt.refusing else b1.flt.refusing ++ [k] } }
  forEach ps b2 (fun p x => x.faultStop p (causeOf cls))

/-! ## Far memory -/

/-- A range of far memory, by address of Table 11.2 (stack in [36:35]) and length, lies below 24 GiB of one stack and within the grant of partition p. -/
def Block.farGranted (b : Block) (p addr len : Nat) : Bool :=
  let s := addr / 2 ^ 35
  let a := addr % 2 ^ 35
  let lo := b.fld (r2 .FMC_GRANT_BASEp_s p s) F.FMC_GRANT_BASEp_s_VALUE * 4096
  let n := b.fld (r2 .FMC_GRANT_SIZEp_s p s) F.FMC_GRANT_SIZEp_s_VALUE * 4096
  decide (s < 4 ∧ a + len ≤ 24 * 2 ^ 30 ∧ lo ≤ a ∧ a + len ≤ lo + n)

/-- The key of a byte of far memory. -/
def farKey (stack addr : Nat) : Nat := stack * 2 ^ 35 + addr

/-- n bytes of far memory from an address, as a little-endian number. -/
def Block.farRead (b : Block) (stack addr : Nat) : Nat → Nat
  | 0 => 0
  | n + 1 => (NMap.get 0 b.far (farKey stack addr)).toNat + 256 * b.farRead stack (addr + 1) n

/-- n bytes of far memory. -/
def Block.farBytes (b : Block) (stack addr n : Nat) : List Byte :=
  (List.range n).map (fun i => NMap.get 0 b.far (farKey stack (addr + i)))

/-- The 64-bit words wholly inside a span of bytes, as keys of farBad. -/
def wholeWords (stack addr n : Nat) : List Nat :=
  let lo := ceilDiv addr 8
  let hi := (addr + n) / 8
  (List.range (hi - lo)).map (fun i => stack * 2 ^ 32 + lo + i)

/-- The 64-bit words that a span of bytes touches. -/
def touchedWords (stack addr n : Nat) : List Nat :=
  if n = 0 then [] else (List.range ((addr + n - 1) / 8 - addr / 8 + 1)).map (fun i => stack * 2 ^ 32 + addr / 8 + i)

/-- Write bytes into far memory; an uncorrectable mark clears when its whole word is replaced (R149). -/
def Block.farWrite (b : Block) (stack addr : Nat) (l : List Byte) : Block :=
  { b with
    far := forEach ((List.range l.length).zip l) b.far (fun e m => NMap.set 0 m (farKey stack (addr + e.1)) e.2)
    farBad := forEach (wholeWords stack addr l.length) b.farBad (fun k m => m.erase k) }

/-- A span of bytes holds a word known to be uncorrectable. -/
def Block.farPoisoned (b : Block) (stack addr n : Nat) : Bool := (touchedWords stack addr n).any (fun k => NMap.get false b.farBad k)

/-- The controller of a stack reads an uncorrectable word from DRAM (R149, R552): it counts once, until a write replaces the word. -/
def Block.farUncorr (b : Block) (stack addr : Nat) : Block :=
  let k := r1 .FMC_STATUSs stack
  if NMap.get false b.farBad (stack * 2 ^ 32 + addr / 8) then b
  else
    let b1 := { b with farBad := b.farBad.put (stack * 2 ^ 32 + addr / 8) true }
    (b1.satFld k F.FMC_STATUSs_UNCORR 1).raiseIf (decide (b.fld k F.FMC_STATUSs_UNCORR = 0)) (224 + stack)

/-! ## Caches (R145, R146) -/

/-- The set of a line. -/
def lineSet (addr : Nat) : Nat := bitsOf addr 6 8

/-- The tag of a line: the stack with bits [34:14]. -/
def lineTag (stack addr : Nat) : Nat := stack * 2 ^ 21 + bitsOf addr 14 21

/-- The lines of a set, most recently used first. -/
def Cluster.setOf (x : Cluster) (addr : Nat) : List CLine := NMap.get [] x.cache (lineSet addr)

/-- The cache holds a line. -/
def Cluster.hasLine (x : Cluster) (stack addr : Nat) : Bool := (x.setOf addr).any (fun l => decide (l.tag = lineTag stack addr))

/-- Another agent's access is snooped: a write takes the line away, a read leaves it shared. -/
def Cluster.snoop (x : Cluster) (stack addr : Nat) (wr : Bool) : Cluster :=
  let l := x.setOf addr
  let t := lineTag stack addr
  let m := if wr then l.filter (fun e => decide (e.tag ≠ t)) else l.map (fun e => if e.tag = t then ⟨t, 0⟩ else e)
  if x.hasLine stack addr then { x with cache := x.cache.put (lineSet addr) m } else x

/-- Snoop the caches of every cluster but one. -/
def Block.snoop (b : Block) (except : Option Nat) (stack addr : Nat) (wr : Bool) : Block :=
  { b with clus := b.clus.map (fun e => if some e.1 = except then e else (e.1, e.2.snoop stack addr wr)) }

end Sys2Proof.Machine
end

