-- ==== Sys2Proof/Machine/Access.lean ====
section
/-!
DEFINITION. Who may reach a register: readiness (R519), the channel pages of the virtual functions (R453, Table 15.2), roles (R18, R19),
operator scopes (R474), and the wrapper of a host write of a register that does something.
-/
namespace Sys2Proof.Machine

/-- The partition of a cluster, from CLU_CFG; none when SCHED_LEN is 0. -/
def Block.cluPart (b : Block) (c : Nat) : Option Nat :=
  if b.fld (r1 .CLU_CFG c) F.CLU_CFG_SCHED_LEN = 0 then none else some (b.fld (r1 .CLU_CFG c) F.CLU_CFG_PART)

/-- The owner of an object with an OWN register: VALID or OWNED in bit 31, the partition in [7:0]. -/
def ownerField (w : Word) : Option Nat := if w.getLsbD 31 then some (bitsOf w.toNat 0 8) else none

/-- The partition that owns the object of a register (R431, R449, R351, R373, R389). -/
def Block.ownerOf (b : Block) (k : RegKey) : Option Nat :=
  let o := k.name.info.base
  if 0x01000000 ≤ o then b.cluPart k.i
  else if 0x1000 ≤ o ∧ o < 0x5000 then some k.i
  else if o = 0x8100 then
    if b.fld (r1 .SSP_OWNb k.i) F.SSP_OWNb_KIND = 1 then some (b.fld (r1 .SSP_OWNb k.i) F.SSP_OWNb_PART) else none
  else if 0x320000 ≤ o ∧ o < 0x340000 then some (b.fld (r1 .TDU_CHn_CFG k.i) F.TDU_CHn_CFG_PART)
  else if (0x400000 ≤ o ∧ o < 0x401000) ∨ (0x401000 ≤ o ∧ o < 0x401010) then
    if b.bit (r1 .DMA_CHn_CFG k.i) F.DMA_CHn_CFG_SCOPE then none else some (b.fld (r1 .DMA_CHn_CFG k.i) F.DMA_CHn_CFG_PART)
  else if 0x500000 ≤ o ∧ o < 0x500800 then ownerField (b.reg (r1 .TRG_OUTt_OWN k.i))
  else if 0x501000 ≤ o ∧ o < 0x501200 then ownerField (b.reg (r1 .TRG_Qq_OWN k.i))
  else if 0x502000 ≤ o ∧ o < 0x503000 then some k.i
  else if 0x504000 ≤ o ∧ o < 0x504800 then ownerField (b.reg (r1 .TRC_Sx_OWN k.i))
  else if 0x801000 ≤ o ∧ o < 0x802000 then some k.i
  else if 0x80C000 ≤ o ∧ o < 0x820000 then ownerField (b.reg (r1 .VPT_CHc_OWN k.i))
  else none

/-- The mailbox registers, which a function without a session writes. -/
def isMbx (n : RegName) : Bool := n = .MBX_CTRL ∨ n = .MBX_DOORBELL ∨ n = .MBX_STATUS

/-- The CFG registers of a channel page (R250). -/
def isVfCfg (n : RegName) : Bool :=
  n = .CFG_CTRL ∨ n = .CFG_SRC ∨ n = .CFG_STATUS ∨ n = .CFG_PROGRESS ∨ n = .CFG_ERR_FRAME ∨ n = .CFG_PART_LOADEDn ∨ n = .CFG_BULK_SEL ∨ n = .CFG_BULK_STATUS

/-- The semaphore registers of a channel page. -/
def isVfSem (n : RegName) : Bool := n = .SEM_ACQn ∨ n = .SEM_RELn ∨ n = .SEM_PEEKn

/-- The channel page of virtual function v decodes a register (Table 15.2). -/
def Block.vfSees (b : Block) (v : Nat) (k : RegKey) : Bool :=
  k.name = .CTL_ID ∨ isMbx k.name ∨ isVfCfg k.name
    ∨ (isVfSem k.name ∧ b.bit (r1 .SEM_CFGn k.i) F.SEM_CFGn_SCOPE = false ∧ b.fld (r1 .SEM_CFGn k.i) F.SEM_CFGn_PART = v)
    ∨ b.ownerOf k = some v

/-- Safe mode is served (R467). -/
def Block.safeMode (b : Block) : Bool := b.bit (r0 .FW_STATUS) F.FW_STATUS_MODE

/-- The registers that BAR0 serves before the firmware is ready (R519). -/
def isEarly (n : RegName) : Bool :=
  n = .CTL_ID ∨ n = .FW_STATUS ∨ n = .FW_VER_ROM ∨ n = .FW_VER_HK ∨ n = .FW_VER_LINK ∨ n = .CTL_RST_CAUSE ∨ isMbx n

/-- The requester is a virtual function. -/
def isVf : Requester → Bool
  | .vf _ => true
  | _ => false

/-- The requester is a PCIe function that exists (R453). -/
def Block.fnExists (b : Block) : Requester → Bool
  | .pf0 => true
  | .vf v => b.vfExists v.toNat
  | _ => false

/-- A requester's access reaches a register. -/
def Block.reaches (b : Block) (r : Requester) (k : RegKey) : Bool :=
  match r with
  | .hkc => true
  | .fanout => false
  | .mgmt => isMbx k.name
  | .pf0 => b.pw.phase = .ready ∨ (b.pw.phase = .boot ∧ isEarly k.name)
  | .dma _ => b.pw.phase = .ready
  | .vf v => b.pw.phase = .ready ∧ b.vfExists v.toNat
      ∧ (if b.safeMode then k.name = .CTL_ID ∨ isMbx k.name else b.vfSees v.toNat k)

/-- The scope of an operator key slot covers a partition (R479). -/
def Block.slotCovers (b : Block) (slot p : Nat) : Bool :=
  match b.sec.operKeys.find slot with
  | some x => x.scope.getLsbD p
  | none => false

/-- A requester acts as an operator whose scope covers partition p (R474). -/
def Block.operCovers (b : Block) (r : Requester) (p : Nat) : Bool :=
  match r with
  | .dma n => b.bit (r1 .DMA_CHn_CFG n.toNat) F.DMA_CHn_CFG_SCOPE = false ∧ b.fld (r1 .DMA_CHn_CFG n.toNat) F.DMA_CHn_CFG_PART = p
  | _ => match b.sessionOf r with
    | some x => decide (x.role = .op) && b.slotCovers x.slot p
    | none => false

/-- A role is among the letters of a role code (R18). -/
def roleIn (x : Role) (code : BitVec 4) : Bool :=
  match x with
  | .none => false
  | .op => code.getLsbD 0
  | .inst => code.getLsbD 1
  | .maker => code.getLsbD 2
  | .hk => code.getLsbD 3

/-- The requester's role may write the register, and an operator only where its scope covers the object's partition (R18, R474); the HKC also writes
the values of CFG_SRC and SSP_OWNb that are its own, and releases semaphores (Table 7.15, R387, R470); an installer also freezes and resumes a partition whose
image an installer's key has signed (Table 16.1). -/
def Block.roleOk (b : Block) (r : Requester) (k : RegKey) : Bool :=
  isMbx k.name || decide (r = .hkc ∧ (k.name = .CFG_SRC ∨ k.name = .SSP_OWNb ∨ k.name = .SEM_RELn)) ||
  (decide (b.roleOf r = .inst ∧ (k.name = .PART_FRZ_CMD ∨ k.name = .PART_FRZ_TARGET)) && (b.part k.i).instSigned) ||
  (roleIn (b.roleOf r) k.name.info.roles &&
    (if b.roleOf r = .op then (match b.ownerOf k with | some p => b.operCovers r p | none => true) else true))

/-- The offset of a register in BAR0 (R16). -/
def RegKey.addr (k : RegKey) : Nat :=
  k.name.info.base + (match k.name.info.dims with
    | [] => 0
    | [(_, s)] => k.i * s
    | [(_, s), (_, t)] => k.i * s + k.j * t
    | (_, s) :: (_, t) :: (_, u) :: _ => k.i * s + k.j * t + k.k * u)

/-- The indices whose strides make up an offset, the first index having the largest stride; none where something is left over. -/
def locate : List (Nat × Nat) → Nat → Option (List Nat)
  | [], 0 => some []
  | [], _ => none
  | (n, s) :: r, o => if o / s < n then (locate r (o % s)).map (fun l => o / s :: l) else none

/-- The register of a name at an offset of BAR0. -/
def RegName.at (n : RegName) (off : Nat) : Option RegKey :=
  if off < n.info.base then none
  else (locate n.info.dims (off - n.info.base)).map (fun l => ⟨n, l[0]?.getD 0, l[1]?.getD 0, l[2]?.getD 0⟩)

/-- The register at an offset of BAR0 (R16). -/
def regAt (off : Nat) : Option RegKey := RegName.all.findSome? (fun n => n.at off)

/-- A refused register write enters the audit log (R19, R484). -/
def Block.auditRefused (b : Block) (r : Requester) (off : Nat) (v : Word) : Block :=
  b.audit r 0x04 0 (leBytes 4 off ++ leBytes 4 v.toNat)

/-- A write of `v` to a register: nothing where the requester does not reach it; refused and logged without the role; else its effect. -/
def Block.hostWrite (b : Block) (r : Requester) (k : RegKey) (v : Word) (f : Block → Block) : Block :=
  if b.reaches r k then (if b.roleOk r k then f b else b.auditRefused r k.addr v) else b

/-- A requester may write design state that goes with a register `k`: only an operator whose key scope covers the partition (R475). -/
def Block.designOk (b : Block) (r : Requester) (k : RegKey) : Bool :=
  match b.ownerOf k with
  | some p => b.operCovers r p
  | none => false

/-- The same for a word of the design-state windows, which have no register line: the partition is that of the register `k`, the offset is `off` (R475). -/
def Block.windowWrite (b : Block) (r : Requester) (k : RegKey) (off : Nat) (v : Word) (f : Block → Block) : Block :=
  if b.reaches r k then (if b.designOk r k then f b else b.auditRefused r off v) else b

/-- A requester reads a register: it reaches it, and an operator session only objects of partitions that its key scope covers (R19, R474; log entry 50). -/
def Block.mayRead (b : Block) (r : Requester) (k : RegKey) : Bool :=
  b.reaches r k && (if b.roleOf r = .op then (match b.ownerOf k with | some p => b.operCovers r p | none => true) else true)

/-- The offset of a word of the window of cluster c (R27). -/
def cluOff (c off : Nat) : Nat := 0x01000000 + c * 0x10000 + off

/-- A read of a register that does something: its effect where the requester may read the register, else the read returns zero. -/
def Block.hostRead (b : Block) (r : Requester) (k : RegKey) (f : Block → Block × Word) : Block :=
  if b.mayRead r k then { (f b).1 with reply := leBytes 4 (f b).2.toNat } else { b with reply := leBytes 4 0 }

/-- Run a block-level effect as a meaning that always answers a next state. -/
def State.run (s : State) (f : Block → Block) : Host.Outcome State Fault Refusal := .next { s with b := f s.b }

/-- Every partition on the module is in Winter state. -/
def Block.allWinter (b : Block) : Bool := b.parts.all (fun e => e.2.state = .winter)

end Sys2Proof.Machine
end

