-- ==== Sys2Proof/Machine/Operands.lean ====
section
/-!
DEFINITION. Operand forms: the operand selectors of a BP (Table 2.2, Table 2.4), the operand of a WE word (R93),
and the selectors of pack tables and port maps (Table 3.7, R131).
-/
namespace Sys2Proof.Machine

/-- An entry of a BP's value store. -/
def Cluster.value (x : Cluster) (bp a : Nat) : Bool := NMap.get false x.vs (bp * 4096 + a)

/-- The state map declares an entry a state bit (R51). -/
def Cluster.isState (x : Cluster) (bp a : Nat) : Bool := NMap.get false x.map (bp * 4096 + a)

/-- The result latch of a BP (R43). -/
def Cluster.latchOf (x : Cluster) (bp : Nat) : Bool := NMap.get false x.latch bp

/-- A bridge word of the cluster (R102). -/
def Cluster.bridgeWord (x : Cluster) (w : Nat) : BitVec 64 := NMap.get 0 x.bridge w

/-- An inbound lane of cluster c: a bit of CLU_LANE_LATCHn (Table 5.8). -/
def Block.lane (b : Block) (c n : Nat) : Bool := (b.reg (r2 .CLU_LANE_LATCHn c (n / 32))).getLsbD (n % 32)

/-- Latch a bit on an inbound lane. -/
def Block.setLane (b : Block) (c n : Nat) (v : Bool) : Block :=
  let k := r2 .CLU_LANE_LATCHn c (n / 32)
  let m := BitVec.ofNat 32 (2 ^ (n % 32))
  b.setReg k (if v then b.reg k ||| m else b.reg k &&& ~~~m)

/-- The outputs of the cluster's trigger sequencer. -/
def Block.tseq (b : Block) (c : Nat) : Nat := b.fld (r1 .TSQ_STATUS c) F.TSQ_STATUS_TSEQ

/-- A special source (Table 2.4); none for a reserved code. -/
def Block.special (b : Block) (p c : Nat) (code : Nat) : Option Bool :=
  let x := b.part p
  let sp := (b.clu c).sp
  if code = 0 then some false
  else if code = 1 then some true
  else if code = 2 then some (x.dc.getLsbD 0)
  else if code = 3 then some x.firstDc
  else if 0x10 ≤ code ∧ code ≤ 0x1A then some (bitAt x.step (code - 0x10))
  else if 0x40 ≤ code ∧ code ≤ 0x47 then some (bitAt (b.tseq c) (code - 0x40))
  else if code = 0x100 then some sp.loaded
  else if code = 0x101 then some sp.unloaded
  else if 0x110 ≤ code ∧ code ≤ 0x11F then some (sp.tag.getLsbD (code - 0x110))
  else none

/-- The value of a BP operand at the start of the step (Table 2.2); none for a reserved selector (R42). -/
def Block.operand (b : Block) (p c bp : Nat) (sel : BitVec 13) : Option Bool :=
  let n := sel.toNat
  let x := b.clu c
  if n < 4096 then some (x.value bp n)
  else
    let low := n % 1024
    match n / 1024 with
    | 4 => if low < 128 then some (x.latchOf low) else none
    | 5 => if low < 512 then some (b.lane c low) else none
    | 6 => some ((x.bridgeWord (low / 64)).getLsbD (low % 64))
    | _ => b.special p c low

/-- The result of a BP: the truth-table bit that the four operands select (R40). -/
def ttBit (tt : BitVec 16) (a b c d : Bool) : Bool := tt.getLsbD (b2n a + 2 * b2n b + 4 * b2n c + 8 * b2n d)

/-- A selector code of Table 3.7 below 0x82: a result latch, 0 or 1; none for every other code (R131). -/
def Cluster.selBit (x : Cluster) (code : Nat) : Option Bool :=
  if code < 0x80 then some (x.latchOf code) else if code = 0x80 then some false else if code = 0x81 then some true else none

/-- The packed word of selectors j, j + 1, … (Table 3.7): 0x82 repeats the bit before, a reserved code reads 0. -/
def Cluster.packBits (x : Cluster) (entry : BitVec 512) : Nat → Nat → Bool → List Bool
  | 0, _, _ => []
  | n + 1, j, prev =>
    let code := bitsOf entry.toNat (8 * j) 8
    let v := if code = 0x82 then prev else (x.selBit code).getD false
    v :: x.packBits entry n (j + 1) v

/-- The number of a list of bits, least significant first. -/
def bitsNat : List Bool → Nat
  | [] => 0
  | v :: r => b2n v + 2 * bitsNat r

/-- A general register of WE k. -/
def Cluster.gReg (x : Cluster) (k g : Nat) : BitVec 64 := NMap.get 0 x.regs (k * 64 + g)

/-- An accumulator of WE k. -/
def Cluster.aReg (x : Cluster) (k n : Nat) : BitVec 112 := NMap.get 0 x.acc (k * 2 + n)

/-- Operand B of a WE word (R93). -/
def Cluster.opb (x : Cluster) (k : Nat) (w : WeArgs) : BitVec 64 :=
  if w.immb then w.imm.signExtend 64 else x.gReg k (bitsOf w.imm.toNat 0 6)

end Sys2Proof.Machine
end

