-- ==== Sys2Proof/Machine/Flags.lean ====
section
/-!
DEFINITION. Sticky bits and fault records: CLU_FAULT (R83, R85), WE_FAULT and WE_STATUS (R114, R95, R97, R100), CLU_MEM_FAULT (R155).
A record captures the first fault while it is not valid; the cause bits gather every fault.
-/
namespace Sys2Proof.Machine

/-- Set bits of a register. -/
def Block.orReg (b : Block) (k : RegKey) (n : Nat) : Block := b.setReg k (b.reg k ||| BitVec.ofNat 32 n)

/-- The mask of a list of code numbers. -/
def codeMask (l : List Nat) : Nat := l.foldl (fun m k => m ||| 2 ^ k) 0

/-- The lowest code of a list. -/
def lowCode (l : List Nat) : Nat := l.foldl min 15

/-- Record schedule faults of a BP (R83, R85). -/
def Block.schedFault (b : Block) (c bp : Nat) (codes : List Nat) (step : Nat) (dc : BitVec 64) : Block :=
  let b1 := b.orReg (r1 .CLU_FAULT c) (codeMask codes)
  if b.bit (r1 .CLU_FAULT_INFO c) F.CLU_FAULT_INFO_VALID then b1
  else (b1.setReg (r1 .CLU_FAULT_INFO c) (BitVec.ofNat 32 (2 ^ 31 + lowCode codes * 2 ^ 24 + step * 2 ^ 8 + bp))).setReg
    (r1 .CLU_FAULT_DC c) (dc.setWidth 32)

/-- Record faults of WE k (R114). Where one word raises several codes CODE takes the lowest, as R85 has it for CLU_FAULT_INFO (DEDUCED, log entry 105). -/
def Block.weFault (b : Block) (c k : Nat) (codes : List Nat) (step word : Nat) : Block :=
  let b1 := b.orReg (r2 .WE_FAULT c k) (codeMask codes)
  if b.bit (r2 .WE_FAULT_INFO c k) F.WE_FAULT_INFO_VALID then b1
  else b1.setReg (r2 .WE_FAULT_INFO c k) (BitVec.ofNat 32 (2 ^ 31 + lowCode codes * 2 ^ 24 + step * 2 ^ 12 + word))

/-- A memory fault: code, SCRUB, WAIT, operation field, BP (Table 4.12). -/
structure MemFault where
  code : Nat
  scrub : Bool := false
  wait : Bool := false
  field : Nat := 0
  bp : Nat := 0
  deriving DecidableEq, Repr

/-- Record a memory fault (R155). -/
def Block.memFault (b : Block) (c : Nat) (m : MemFault) (step : Nat) : Block :=
  let b1 := b.orReg (r1 .CLU_MEM_FAULT c) (2 ^ m.code)
  if b.bit (r1 .CLU_MEM_FAULT_INFO c) F.CLU_MEM_FAULT_INFO_VALID then b1
  else b1.setReg (r1 .CLU_MEM_FAULT_INFO c)
    (BitVec.ofNat 32 (2 ^ 31 + m.code * 2 ^ 24 + b2n m.scrub * 2 ^ 23 + step * 2 ^ 12 + b2n m.wait * 2 ^ 11 + m.field * 2 ^ 8 + m.bp))

/-- AOVn of WE k. -/
def Block.setAov (b : Block) (c k n : Nat) : Block :=
  b.setBit (r2 .WE_STATUS c k) (if n = 0 then F.WE_STATUS_AOV0 else F.WE_STATUS_AOV1)

/-- The sticky bits that a landing result brings. -/
def Block.weSticky (b : Block) (c k : Nat) (satov rndov : Bool) : Block :=
  let b1 := if satov then b.setBit (r2 .WE_STATUS c k) F.WE_STATUS_SATOV else b
  if rndov then b1.setBit (r2 .WE_STATUS c k) F.WE_STATUS_RNDOV else b1

/-- Clear the bits of a W1C register that a write names (R17). -/
def Block.w1c (b : Block) (k : RegKey) (v : Word) : Block := b.setReg k (b.reg k &&& ~~~(v &&& k.name.info.w1cMask))

/-- A W1C write of a fault register: clearing the last cause bit clears the records (R85, R114, R155); a write that clears nothing changes nothing. -/
def Block.faultClear (b : Block) (k : RegKey) (causes : Nat) (records : List RegKey) (v : Word) : Block :=
  let b1 := b.w1c k v
  if (b.reg k &&& BitVec.ofNat 32 causes ≠ 0) ∧ (b1.reg k &&& BitVec.ofNat 32 causes = 0) then records.foldl Block.clrReg b1 else b1

end Sys2Proof.Machine
end

