-- ==== Sys2Proof/Machine/Units.lean ====
section
/-!
DEFINITION. The control-plane units: who owns their objects, and what a fault of their arrays, queues and state registers does (Table 17.1, classes 0x0B to 0x0D).
-/
namespace Sys2Proof.Machine

/-! ## The owners of objects -/

/-- A DMA channel is of scope module. -/
def Block.dmaModule (b : Block) (n : Nat) : Bool := b.bit (r1 .DMA_CHn_CFG n) F.DMA_CHn_CFG_SCOPE

/-- A DMA channel's PART. -/
def Block.dmaPart (b : Block) (n : Nat) : Nat := b.fld (r1 .DMA_CHn_CFG n) F.DMA_CHn_CFG_PART

/-- The owner of slot s, where it has one. -/
def Block.slotOwner (b : Block) (s : Nat) : Option Nat :=
  if b.bit (r1 .DMA_SLOT_OWNs s) F.DMA_SLOT_OWNs_VALID then some (b.fld (r1 .DMA_SLOT_OWNs s) F.DMA_SLOT_OWNs_PART) else none

/-- The partition that owns a trigger output. -/
def Block.trgOwner (b : Block) (t : Nat) : Option Nat := ownerField (b.reg (r1 .TRG_OUTt_OWN t))

/-- The partition that owns a qualifier. -/
def Block.qualOwner (b : Block) (q : Nat) : Option Nat := ownerField (b.reg (r1 .TRG_Qq_OWN q))

/-- The partition that owns a stream. -/
def Block.strOwner (b : Block) (x : Nat) : Option Nat := ownerField (b.reg (r1 .TRC_Sx_OWN x))

/-- Who accesses the scratchpad: KIND of SSP_OWNb with the partition (Table 12.8). -/
structure SspOwner where
  kind : Nat
  part : Nat
  deriving DecidableEq, Repr

/-- The KIND of a word of SSP_OWNb: 5 to 7 act as 0. -/
def sspKindOf (w : Word) : Nat := if 4 < F.SSP_OWNb_KIND.get w then 0 else F.SSP_OWNb_KIND.get w

/-- The owner that a word of SSP_OWNb names. -/
def sspOwnerOf (w : Word) : SspOwner := ⟨sspKindOf w, if sspKindOf w = 1 then F.SSP_OWNb_PART.get w else 0⟩

/-- The owner of a bank. -/
def Block.sspOwner (b : Block) (k : Nat) : SspOwner := sspOwnerOf (b.reg (r1 .SSP_OWNb k))

/-- The owner that a DMA channel is, to the scratchpad (R387). -/
def Block.dmaOwner (b : Block) (n : Nat) : SspOwner := if b.dmaModule n then ⟨4, 0⟩ else ⟨1, b.dmaPart n⟩

/-- The channels that partition p owns, ascending. -/
def Block.chansOf (b : Block) (p : Nat) : List Nat :=
  b.regs.filterMap (fun e => if e.1.name = .VPT_CHc_OWN ∧ ownerField e.2 = some p then some e.1.i else none)

/-! ## Faults of units -/

/-- Partition p holds an object of a control-plane unit; objects of the time unit and of the networks have no owner (log entry 41). -/
def Block.holdsObject (b : Block) (k : CUnit) (p : Nat) : Bool :=
  match k with
  | .tdu => (List.range 1024).any (fun n => decide (b.fld (r1 .TDU_CHn_CFG n) F.TDU_CHn_CFG_PART = p))
  | .dma => (List.range 64).any (fun n => !b.dmaModule n && decide (b.dmaPart n = p)) || (List.range 1024).any (fun s => decide (b.slotOwner s = some p))
  | .tgu => (List.range 32).any (fun t => decide (b.trgOwner t = some p)) || (List.range 16).any (fun q => decide (b.qualOwner q = some p))
  | .trace => (List.range 16).any (fun x => decide (b.strOwner x = some p))
  | .ssp => (List.range 64).any (fun n => decide (b.sspOwner n = ⟨1, p⟩))
  | .vpt => !(b.chansOf p).isEmpty
  | .sem => (List.range 64).any (fun n => !b.bit (r1 .SEM_CFGn n) F.SEM_CFGn_SCOPE && decide (b.fld (r1 .SEM_CFGn n) F.SEM_CFGn_PART = p))
  | .tu => false
  | .noc => false

/-- A level U fault of a unit: every partition on the module that holds an object of it stops. -/
def Block.unitFault (b : Block) (k : CUnit) (cls unit : Nat) : Block := b.faultU k cls unit (b.hosted.filter (b.holdsObject k))

/-- A unit uses its arrays, queues and state registers (Table 17.1, class 0x0B): what is corrected is counted and has its effect; what is not is a level U
fault at the use, which has no further effect. -/
def Block.unitUse (b : Block) (k : CUnit) (unit : Nat) (e : Ecc) (f : Block → Block) : Block :=
  match e with
  | .ok => f b
  | .corr => f b.corrected
  | .due => b.unitFault k 0x0B unit

end Sys2Proof.Machine
end

