-- ==== Sys2Proof/Machine/Tdu.lean ====
section
/-!
DEFINITION. The transactor dispatch unit (R320 to R347): fragments, matching, readiness, dispatch, retirement, replies, ageing, spill and refill.
-/
namespace Sys2Proof.Machine

/-! ## Channels and credits -/

/-- The credits of a channel: values above 4,096 act as 4,096 (Table 10.15). -/
def Block.tduCredits (b : Block) (n : Nat) : Nat := min (b.fld (r1 .TDU_CHn_CFG n) F.TDU_CHn_CFG_CREDITS) 4096

/-- HELD of a channel. -/
def Block.tduHeld (b : Block) (n : Nat) : Nat := b.fld (r1 .TDU_CHn_STATUS n) F.TDU_CHn_STATUS_HELD

/-- Set HELD and AVAIL of a channel (R324). -/
def Block.tduSetHeld (b : Block) (n h : Nat) : Block :=
  (b.setFld (r1 .TDU_CHn_STATUS n) F.TDU_CHn_STATUS_HELD h).setFld (r1 .TDU_CHn_STATUS n) F.TDU_CHn_STATUS_AVAIL (b.tduCredits n - h)

/-- TDU_TICK. -/
def Block.tick (b : Block) : BitVec 32 := b.reg (r0 .TDU_TICK)

/-- The number of entries on chip. -/
def Tdu.onchip (t : Tdu) : Nat := t.store.length

/-- The spill threshold (Table 10.9). -/
def Block.tduHi (b : Block) : Nat := min (b.fld (r0 .TDU_CTRL) F.TDU_CTRL_HI) 16384

/-- Set a sticky flag of TDU_STATUS and raise its event when it was clear. -/
def Block.tduFlag (b : Block) (f : Fld) (e : Nat) : Block :=
  if b.bit (r0 .TDU_STATUS) f then b else (b.setBit (r0 .TDU_STATUS) f).raise e

/-! ## Replies (R335, R336) -/

/-- A reply word (Table 10.4). -/
def replyWord (fault expired dup refused ok : Bool) (result : BitVec 64) : BitVec 72 :=
  BitVec.ofNat 72 ((b2n fault * 16 + b2n expired * 8 + b2n dup * 4 + b2n refused * 2 + b2n ok) * 2 ^ 64 + result.toNat)

/-- A reply leaves for the FMP request of a cluster. -/
def Block.replyTo (b : Block) (c id : Nat) (w : BitVec 72) : Block :=
  b.modClu c (fun x => { x with replies := x.replies.put id w })

/-- The reply of a fragment, when it comes from the design. -/
def Block.replyFrag (b : Block) (f : Frag) (w : BitVec 72) : Block :=
  match f.src with
  | .design c _ id => b.replyTo c id w
  | _ => b

/-- The owed replies of an entry, in the order of its operands. -/
def Block.replyOwed (b : Block) (e : Entry) (w : BitVec 72) : Block :=
  forEach (List.range 4) b (fun k x => forEach (e.owed.filter (fun o => decide (o.1 = k))) x (fun o y => y.replyTo o.2.1 o.2.2.2 w))

/-! ## The store -/

/-- An entry of a channel with a lower SEQ, by the signed difference modulo 2^32. -/
def seqBefore (a b : BitVec 32) : Bool := (a - b).getLsbD 31

/-- An ORDERED entry is held back by an earlier WAITING or READY entry of its channel (R330). -/
def Tdu.blocked (t : Tdu) (e : Entry) : Bool :=
  e.ordered && (t.store ++ t.spilled.map (·.2)).any (fun o => decide (o.chan = e.chan ∧ o.state ≠ 2) && seqBefore o.seq e.seq)

/-- Insert an entry by its completion number. -/
def insertDone (e : Entry) : List Entry → List Entry
  | [] => [e]
  | x :: r => if e.done < x.done then e :: x :: r else x :: insertDone e r

/-- The entry on chip of a channel and sequence. -/
def Tdu.entryOf (t : Tdu) (chan : Nat) (seq : BitVec 32) : Option Entry := t.store.find? (fun e => decide (e.chan = chan ∧ e.seq = seq))

/-- READY entries that have become eligible in a cycle join the ready lists; those of one cycle stand in the order in which their completing fragments were
applied (R329). -/
def Tdu.joinReady (t : Tdu) (cycle : Nat) : Tdu :=
  let new := t.store.filter (fun e => decide (e.state = 1) && !t.blocked e && !t.ready.any (fun r => decide (r.1 = e.chan ∧ r.2.1 = e.seq)))
  let now := (t.ready.filter (fun r => decide (r.2.2 = cycle))).filterMap (fun r => t.entryOf r.1 r.2.1)
  { t with ready := t.ready.filter (fun r => decide (r.2.2 ≠ cycle)) ++ ((now ++ new).foldr insertDone []).map (fun e => (e.chan, e.seq, cycle)) }

/-- After a change: eligible entries join, and the spill condition of R342 is noted when it ends. -/
def Block.tduSettle (b : Block) : Block :=
  { b with tdu := { b.tdu.joinReady b.pw.ctl with spilling := b.tdu.spilling && decide (b.tduHi < b.tdu.onchip) } }

/-- Remove an entry from the chip and return its credit (R332). -/
def Block.tduFree (b : Block) (e : Entry) : Block :=
  ({ b with
    tdu := { b.tdu with
    store := b.tdu.store.filter (fun o => decide ((o.chan, o.seq) ≠ (e.chan, e.seq))),
    ready := b.tdu.ready.filter (fun r => decide ((r.1, r.2.1) ≠ (e.chan, e.seq))) } }).tduSetHeld e.chan (b.tduHeld e.chan - 1)

/-- Replace an entry on chip. -/
def Block.tduPut (b : Block) (e : Entry) : Block :=
  { b with tdu := { b.tdu with store := b.tdu.store.map (fun o => if (o.chan, o.seq) = (e.chan, e.seq) then e else o) } }

/-- The WAITING entry on chip of a channel and tag (R326). -/
def Tdu.waiting (t : Tdu) (chan tag : Nat) : Option Entry :=
  t.store.find? (fun e => decide (e.state = 0 ∧ e.chan = chan ∧ e.tag = tag))

/-! ## The spill region (R325, R341) -/

/-- The eight words of an entry (Table 10.2). -/
def Entry.words (e : Entry) : List Nat :=
  [2 ^ 63 + e.state * 2 ^ 61 + b2n e.ordered * 2 ^ 60 + e.prio * 2 ^ 57 + e.need.toNat * 2 ^ 53 + e.have_.toNat * 2 ^ 49 + e.action * 2 ^ 47
     + b2n e.defer * 2 ^ 46 + e.chan * 2 ^ 36 + e.tag * 2 ^ 20,
   e.deadline.toNat * 2 ^ 32 + e.seq.toNat,
   e.owed.foldl (fun n o => n + (2 ^ 15 + o.2.1 * 4 + o.2.2.1) * 2 ^ (16 * o.1)) 0,
   e.fwdChan * 2 ^ 22 + e.fwdOp * 2 ^ 20 + e.dmach * 2 ^ 10 + e.slot] ++ e.op.map BitVec.toNat

/-- The 64 bytes of an entry. -/
def Entry.bytes (e : Entry) : List Byte := e.words.flatMap (leBytes 8)

/-- The entry that eight words hold; the numbers of the FMP requests and the orders of allocation are the unit's own. -/
def Entry.ofWords (e : Entry) (w : Nat → Nat) : Entry :=
  let f := bitsOf (w 0)
  { e with
    state := f 61 2, ordered := bitAt (w 0) 60, prio := f 57 3, need := BitVec.ofNat 4 (f 53 4), have_ := BitVec.ofNat 4 (f 49 4)
    action := f 47 2, defer := bitAt (w 0) 46, chan := f 36 10, tag := f 20 16
    deadline := BitVec.ofNat 32 (bitsOf (w 1) 32 32), seq := BitVec.ofNat 32 (bitsOf (w 1) 0 32)
    owed := e.owed.filterMap (fun o => if bitAt (w 2) (16 * o.1 + 15) then
      some (o.1, bitsOf (w 2) (16 * o.1 + 2) 8, bitsOf (w 2) (16 * o.1) 2, o.2.2.2) else none)
    fwdChan := bitsOf (w 3) 22 10, fwdOp := bitsOf (w 3) 20 2, dmach := bitsOf (w 3) 10 6, slot := bitsOf (w 3) 0 10
    op := (List.range 4).map (fun k => BitVec.ofNat 64 (w (4 + k))) }

/-- The stack and address of a place of the spill region (R142). -/
def Block.spillAt (b : Block) (place : Nat) : Nat × Nat :=
  let o := place * 64
  (o / 4096 % 4, b.fld (r0 .TDU_SPILL_BASE) F.TDU_SPILL_BASE_VALUE * 4096 + o / 16384 * 4096 + o % 4096)

/-- The TDU writes bytes at a place through a control-plane FMP; the caches see it (R25, R146). -/
def Block.spillWrite (b : Block) (place : Nat) (l : List Byte) : Block :=
  let a := b.spillAt place
  (b.snoop none a.1 a.2 true).farWrite a.1 a.2 l

/-- The entry that stands at a place of the spill region. -/
def Block.spillRead (b : Block) (x : Nat × Entry) : Entry :=
  let a := b.spillAt x.1
  x.2.ofWords (fun k => b.farRead a.1 (a.2 + 8 * k) 8)

/-- A place of the spill region holds a VALID entry without an uncorrectable word (log entry 170). -/
def Block.spillValid (b : Block) (place : Nat) : Bool :=
  let a := b.spillAt place
  bitAt (b.farRead a.1 a.2 8) 63 && !b.farPoisoned a.1 a.2 8

/-- The controller's findings in the 64 words of the bucket that is read (R149, R552): a correction is one of level C; an uncorrectable word counts in UNCORR,
and where it belongs to an entry it is a level P fault of the partition of the entry's channel (Table 17.1, class 0x08). -/
def Block.bucketRead (b : Block) (k : Nat) (found : List (BitVec 6 × Ecc)) : Block :=
  forEach found b (fun e x => match e.2 with
    | .ok => x
    | .corr => x.corrected
    | .due =>
      let place := 8 * k + e.1.toNat / 8
      let a := x.spillAt place
      let y := x.farUncorr a.1 (a.2 + 8 * (e.1.toNat % 8))
      match x.tdu.spilled.find? (fun q => decide (q.1 = place)) with
      | some q => y.faultP 0x08 q.2.chan (y.fld (r1 .TDU_CHn_CFG q.2.chan) F.TDU_CHn_CFG_PART)
      | none => y)

/-- The spilled entry of a channel and tag, with its place, as its bucket shows it. -/
def Block.away (b : Block) (chan tag : Nat) : Option (Nat × Entry) :=
  (b.tdu.spilled.map (fun x => (x.1, b.spillRead x))).find? (fun x => b.spillValid x.1 && decide (x.2.chan = chan ∧ x.2.tag = tag))

/-- A place of the spill region is given up: its entry is no longer VALID. -/
def Block.spillDrop (b : Block) (place : Nat) : Block :=
  let b1 := b.spillWrite place (leBytes 8 0)
  { b1 with tdu := { b1.tdu with spilled := b1.tdu.spilled.filter (fun x => decide (x.1 ≠ place)) } }

/-- The bucket of a key (R341). -/
def bucketOf (nb chan tag : Nat) : Nat := (((chan * 65536 + tag) * 2654435761) % 2 ^ 32) % nb

/-- The number of buckets. -/
def Block.tduBuckets (b : Block) : Nat := min (b.fld (r0 .TDU_SPILL_SIZE) F.TDU_SPILL_SIZE_VALUE) 4194304 / 8

/-- The first place of an entry's bucket that no entry takes; none where the bucket is full, or lies beyond the 24 GiB of a stack (log entry 134). -/
def Block.spillPlace (b : Block) (e : Entry) : Option Nat :=
  if b.tduBuckets = 0 then none
  else ((List.range 8).map (8 * bucketOf b.tduBuckets e.chan e.tag + ·)).find? (fun k =>
    !b.tdu.spilled.any (fun x => decide (x.1 = k)) && decide ((b.spillAt k).2 + 64 ≤ 24 * 2 ^ 30))

/-- The candidates of R342 in order: lowest priority first, within it the oldest allocation. -/
def insertVictim (e : Entry) : List Entry → List Entry
  | [] => [e]
  | x :: r => if e.prio < x.prio ∨ (e.prio = x.prio ∧ e.order < x.order) then e :: x :: r else x :: insertVictim e r

/-- The entries that may spill, in the order of R342. -/
def Tdu.victims (t : Tdu) : List Entry := (t.store.filter (fun e => decide (e.state = 0))).foldr insertVictim []

/-- An entry can spill (R342). -/
def Block.canSpill (b : Block) : Bool := decide (b.tduHi < b.tdu.onchip) && b.tdu.victims.any (fun e => (b.spillPlace e).isSome)

/-- One entry spills (R342): the first victim whose bucket is not full. -/
def Block.tduSpill (b : Block) : Block :=
  if b.tdu.onchip ≤ b.tduHi ∨ b.tduBuckets = 0 then b
  else
    let full := b.tdu.victims.takeWhile (fun e => (b.spillPlace e).isNone)
    let b1 := if full = [] then b else b.tduFlag F.TDU_STATUS_SPILL_FAIL 131
    match b.tdu.victims.drop full.length with
    | [] => b1
    | v :: _ =>
      match b.spillPlace v with
      | none => b1
      | some k =>
        let b2 := (if b1.tdu.spilling then b1 else b1.raise 130).spillWrite k v.bytes
        ({ b2 with
          tdu := { b2.tdu with
          store := b2.tdu.store.filter (fun o => decide ((o.chan, o.seq) ≠ (v.chan, v.seq))),
          spilled := b2.tdu.spilled ++ [(k, v)], spilling := true } }).tduSettle

/-- The spilled entries of a channel, counted. -/
def Tdu.spilledOf (t : Tdu) (n : Nat) : Nat := (t.spilled.filter (fun x => decide (x.2.chan = n))).length

/-- The partition of a fragment's source, where it has one (R322): a cluster's, or a virtual function's. -/
def Block.fragPart (b : Block) (f : Frag) : Option Nat :=
  match f.src with
  | .design c _ _ => b.cluPart c
  | .host (.vf v) => some v.toNat
  | _ => none

/-- A fragment is refused (R322), also by a unit that refuses new work (level U) and during a release pass (R347). -/
def Block.fragRefused (b : Block) (f : Frag) : Bool :=
  !b.bit (r0 .TDU_CTRL) F.TDU_CTRL_EN || decide (CUnit.tdu ∈ b.flt.refusing)
    || b.bit (r1 .TDU_CHn_STATUS f.chan) F.TDU_CHn_STATUS_RELEASING
    || decide (b.tduCredits f.chan = 0)
    || (b.fragPart f).any (fun p => decide (p ≠ b.fld (r1 .TDU_CHn_CFG f.chan) F.TDU_CHn_CFG_PART))
    || !bitAt (b.fld (r1 .TDU_CHn_TMPL f.chan) F.TDU_CHn_TMPL_NEED) f.op
    || ((b.tdu.waiting f.chan f.tag).isNone && (b.away f.chan f.tag).isNone && decide (b.tduCredits f.chan ≤ b.tduHeld f.chan))

/-- A new entry for a fragment's channel and tag, from TMPL and TGT (R325, R326). -/
def Block.newEntry (b : Block) (chan tag : Nat) : Entry :=
  let tm := r1 .TDU_CHn_TMPL chan
  let tg := r1 .TDU_CHn_TGT chan
  let life := b.fld tm F.TDU_CHn_TMPL_LIFETIME
  let due := b.tick + BitVec.ofNat 32 life
  { state := 0, ordered := b.bit tm F.TDU_CHn_TMPL_ORDERED, prio := b.fld tm F.TDU_CHn_TMPL_PRIO,
    need := BitVec.ofNat 4 (b.fld tm F.TDU_CHn_TMPL_NEED), have_ := 0,
    action := if b.fld tm F.TDU_CHn_TMPL_ACTION = 3 then 1 else b.fld tm F.TDU_CHn_TMPL_ACTION,
    defer := b.bit tm F.TDU_CHn_TMPL_REPLY, chan := chan, tag := tag,
    deadline := if life = 0 then 0 else if due = 0 then 1 else due,
    seq := NMap.get 0 b.tdu.nextSeq chan, owed := [], fwdChan := b.fld tg F.TDU_CHn_TGT_FWD_CHAN, fwdOp := b.fld tg F.TDU_CHn_TGT_FWD_OP,
    dmach := b.fld tg F.TDU_CHn_TGT_DMACH, slot := b.fld tg F.TDU_CHn_TGT_SLOT, op := [0, 0, 0, 0],
    order := b.tdu.nextOrder, done := 0, born := b.tick, readOut := false }

/-- Allocate the entry of a channel and tag: it takes a credit (R324) and the channel's next sequence. -/
def Block.tduAlloc (b : Block) (chan tag : Nat) : Block :=
  let e := b.newEntry chan tag
  ({ b with
    tdu := { b.tdu with
    store := b.tdu.store ++ [e], nextSeq := b.tdu.nextSeq.put chan (e.seq + 1),
    nextOrder := b.tdu.nextOrder + 1 } }).tduSetHeld chan (b.tduHeld chan + 1)

/-- Write a fragment's data into its entry (R326, R328): DEFER notes the owed reply, ACK replies at once (R336). -/
def Block.tduJoin (b : Block) (f : Frag) (e : Entry) : Block :=
  if e.have_.getLsbD f.op then
    -- R327: a duplicate changes nothing but the flags
    ((b.setBit (r1 .TDU_CHn_STATUS f.chan) F.TDU_CHn_STATUS_DUP).tduFlag F.TDU_STATUS_DUP 134).replyFrag f (replyWord false false true false false 0)
  else
    let h := e.have_ ||| BitVec.ofNat 4 (2 ^ f.op)
    let e1 := { e with have_ := h, op := e.op.set f.op f.data }
    let e2 := match f.src with
      | .design c p id => if e.defer then { e1 with owed := e1.owed ++ [(f.op, c, p, id)] } else e1
      | _ => e1
    let full := decide (h = e.need)
    let e3 := if full then { e2 with state := 1, done := b.tdu.nextOrder } else e2
    let b1 := b.tduPut e3
    let b2 : Block := if full then { b1 with tdu := { b1.tdu with nextOrder := b1.tdu.nextOrder + 1 } } else b1
    if e.defer then b2 else b2.replyFrag f (replyWord false false false false true 0)

/-- A spilled entry goes back on chip (R343). -/
def Block.tduRefill (b : Block) (x : Nat × Entry) : Block :=
  let b1 := b.spillDrop x.1
  { b1 with tdu := { b1.tdu with store := b1.tdu.store ++ [x.2] } }

/-- The on-chip store is full and no entry can spill: nothing is accepted (R345). -/
def Block.tduStuck (b : Block) : Bool := decide (16384 ≤ b.tdu.onchip) && !b.canSpill

/-- Room for one entry: a full store spills one first (R342, R346). -/
def Block.tduRoom (b : Block) : Block := if b.tdu.onchip < 16384 then b else b.tduSpill

/-- The channel whose SIGNAL posted a fragment learns whether it was accepted (R369). -/
def Block.sigNote (b : Block) (f : Frag) (ok : Bool) : Block :=
  match f.src with
  | .dma n => if (b.dmaCh n).sig = some none then b.modDma n (fun d => { d with sig := some (some ok) }) else b
  | _ => b

/-- Apply a fragment (R322, R326 to R328). -/
def Block.tduApply (b : Block) (f : Frag) : Block :=
  if b.fragRefused f then
    (((b.sigNote f false).setBit (r1 .TDU_CHn_STATUS f.chan) F.TDU_CHn_STATUS_REFUSED).tduFlag F.TDU_STATUS_REFUSED 133).replyFrag f
      (replyWord false false false true false 0)
  else
    let b0 : Block := { b.sigNote f true with tdu := { b.tdu with armed := true, calm := 0 } }
    match b0.tdu.waiting f.chan f.tag with
    | some e => (b0.tduJoin f e).tduSettle
    | none =>
      let b1 := b0.tduRoom
      ((b1.tduAlloc f.chan f.tag).tduJoin f (b1.newEntry f.chan f.tag)).tduSettle

/-- A fragment finds no WAITING entry on chip, in a channel that has spilled entries: its bucket is read first (R343). -/
def Block.needsRead (b : Block) (f : Frag) : Bool :=
  !b.fragRefused f && (b.tdu.waiting f.chan f.tag).isNone && decide (b.tdu.spilledOf f.chan ≠ 0)

/-- A fragment is taken in: applied, or, accepted too (R348), its bucket is read. -/
def Block.tduTake (b : Block) (f : Frag) : Block :=
  if b.needsRead f then { b with tdu := { b.tdu with reads := b.tdu.reads ++ [f], armed := true, calm := 0 } } else b.tduApply f

/-! ## Which fragment is applied next (R320, R321) -/

/-- The place of a source in the order of R320. -/
def fragRank : FragSrc → Nat
  | .event => 0
  | .forward => 0
  | .dma _ => 1
  | .design c p _ => 2 + c * 4 + p
  | .host _ => 5000

/-- The number of a design fragment within its cluster, in issue order: by step, then by operation field. -/
def FragSrc.issue : FragSrc → Nat
  | .design _ _ id => id
  | _ => 0

/-- Two sources of one cluster. -/
def sameCluster : FragSrc → FragSrc → Bool
  | .design c _ _, .design d _ _ => decide (c = d)
  | _, _ => false

/-- A fragment stands behind another (R320, R321, R343): fragments of an earlier cycle come first, within one the order of R320, events by number (R554);
but fragments of one cluster to one channel keep their issue order. -/
def fragAfter (f g : Nat × Frag) : Bool :=
  if sameCluster f.2.src g.2.src ∧ f.2.chan = g.2.chan then decide (g.2.src.issue < f.2.src.issue)
  else decide (g.1 < f.1 ∨ (g.1 = f.1 ∧ (fragRank g.2.src < fragRank f.2.src ∨ (f.2.src = .event ∧ g.2.src = .event ∧ g.2.tag < f.2.tag))))

/-- An earlier operation field of the cluster that is deferred (R133) will send a fragment to the same channel (R321). -/
def Block.fragBehind (b : Block) (f : Frag) : Bool :=
  match f.src with
  | .design c _ id => (b.clu c).deferred.any (fun o => match o.act with
    | .fmp _ e chan _ _ => decide (e.kind = 2 ∧ chan = f.chan ∧ e.num < id)
    | _ => false)
  | _ => false

/-- A fragment may be applied: its channel waits for no bucket, and no fragment of its cluster has to come before it. -/
def Block.fragReady (b : Block) (f : Frag) : Bool := !b.tdu.reads.any (fun g => decide (g.chan = f.chan)) && !b.fragBehind f

/-- The fragment applied next: the first that stands behind no other. -/
def Block.nextFrag (b : Block) : Option (Nat × Frag) :=
  let q := b.tdu.queue.filter (fun f => b.fragReady f.2)
  match q with
  | [] => none
  | f :: r =>
    let best := r.foldl (fun x y => if fragAfter x y then y else x) f
    some ((q.filter (fun g => sameCluster g.2.src best.2.src && decide (g.2.chan = best.2.chan))).foldl (fun x y => if fragAfter x y then y else x) best)

/-- Remove the first occurrence of a fragment from the queue. -/
def Block.popFrag (b : Block) (f : Nat × Frag) : Block := { b with tdu := { b.tdu with queue := b.tdu.queue.erase f } }

/-- The next fragment is applied; a full store that cannot spill accepts none (R345). -/
def Block.tduNext (b : Block) : Block :=
  match b.nextFrag with
  | none => b
  | some f => if b.tduStuck then b.tduFlag F.TDU_STATUS_STORE_FULL 132 else (b.popFrag f).tduTake f.2

/-- FRAGMENT_APPLY (R326), with what the checks of the unit find (class 0x0B). -/
def execFragmentApply (unit : Ecc) (s : State) : Host.Outcome State Fault Refusal :=
  s.run (fun b => match b.nextFrag with
    | some f => b.unitUse .tdu f.2.chan unit Block.tduNext
    | none => b)

/-- Every fragment that has come is applied, as far as nothing holds it up: what a cycle does before its expiries (R339). -/
def Block.tduDrain (b : Block) : Block := forEach b.tdu.queue b (fun _ x => x.tduNext)

/-- The bucket read of a fragment ends (R343): an entry found there goes back on chip and takes the fragment; none found, the fragment allocates one. -/
def Block.readEnd (b : Block) (f : Frag) : Block :=
  let b1 : Block := { b with tdu := { b.tdu with reads := b.tdu.reads.erase f, late := b.tdu.late.erase f } }
  match b1.away f.chan f.tag with
  | some e => if b1.fragRefused f then b1.tduApply f else (b1.tduRoom.tduRefill e).tduApply f
  | none => b1.tduApply f

/-- REFILL (R343): the oldest bucket read ends, with what the controller found in the bucket. -/
def execRefill (found : List (BitVec 6 × Ecc)) (s : State) : Host.Outcome State Fault Refusal :=
  s.run (fun b =>
    match b.tdu.reads with
    | [] => b
    | f :: _ =>
      if b.tduStuck then b.tduFlag F.TDU_STATUS_STORE_FULL 132
      else (b.bucketRead (bucketOf b.tduBuckets f.chan f.tag) found).readEnd f)

/-- A host post of a fragment (Table 10.1). -/
def Block.tduPost (b : Block) (r : Requester) (n : Nat) (v : Word) : Block :=
  b.pushFrag ⟨.host r, n, F.TDU_CHn_POST_TAG.get v, F.TDU_CHn_POST_OP.get v,
    BitVec.ofNat 64 (b.reg64 (r1 .TDU_CHn_DATA_LO n) (r1 .TDU_CHn_DATA_HI n))⟩

/-- POST (R320): TDU_CHn_POST with CMD = 0. -/
def execPost (r : Requester) (n : BitVec 10) (v : Word) (s : State) : Host.Outcome State Fault Refusal :=
  s.run (fun b => if F.TDU_CHn_POST_CMD.get v = 0 then b.hostWrite r (r1 .TDU_CHn_POST n.toNat) v (·.tduPost r n.toNat v) else b)

/-! ## Retirement -/

/-- Retire an entry (R332, R336): DEFER replies carry the result, the entry is freed. -/
def Block.tduRetire (b : Block) (e : Entry) (result : BitVec 64) (fault : Bool) : Block :=
  (((b.replyOwed e (replyWord fault false false false (!fault) result))).tduFree e).tduSettle

/-- The oldest element of a list of entries by a number. -/
def oldestBy (f : Entry → Nat) (l : List Entry) : Option Entry :=
  l.foldl (fun a e => match a with | none => some e | some x => if f e < f x then some e else some x) none

/-- The ACTIVE NOTIFY entries of a channel. -/
def Tdu.notifies (t : Tdu) (n : Nat) : List Entry :=
  t.store.filter (fun e => decide (e.state = 2 ∧ e.action = 1 ∧ e.chan = n))

/-- A POST with CMD = 1 (R333): the oldest ACTIVE NOTIFY entry with the tag retires with the data registers as its result. -/
def Block.tduRetireNotify (b : Block) (n : Nat) (v : Word) : Block :=
  match oldestBy Entry.done ((b.tdu.notifies n).filter (fun e => decide (e.tag = F.TDU_CHn_POST_TAG.get v))) with
  | some e => b.tduRetire e (BitVec.ofNat 64 (b.reg64 (r1 .TDU_CHn_DATA_LO n) (r1 .TDU_CHn_DATA_HI n))) false
  | none => b

/-- RETIRE_NOTIFY (R333). -/
def execRetireNotify (r : Requester) (n : BitVec 10) (v : Word) (s : State) : Host.Outcome State Fault Refusal :=
  s.run (fun b => if F.TDU_CHn_POST_CMD.get v = 1 then b.hostWrite r (r1 .TDU_CHn_POST n.toNat) v (·.tduRetireNotify n.toNat v) else b)

/-- A read of TDU_CHn_NHEAD (R334): the oldest NOTIFY entry not yet read; its operands go to the latches. -/
def Block.nheadRead (b : Block) (n : Nat) : Block × Word :=
  match oldestBy Entry.done ((b.tdu.notifies n).filter (fun e => !e.readOut)) with
  | none => (b, 0)
  | some e =>
    (forEach (List.range 4) (b.tduPut { e with readOut := true }) (fun k x =>
      x.setReg64 (r2 .TDU_CHn_NOPk_LO n k) (r2 .TDU_CHn_NOPk_HI n k) (e.op.getD k 0).toNat),
     BitVec.ofNat 32 (2 ^ 31 + e.tag))

/-- NHEAD_READ (R334). -/
def execNheadRead (r : Requester) (n : BitVec 10) (s : State) : Host.Outcome State Fault Refusal :=
  s.run (fun b => b.hostRead r (r1 .TDU_CHn_NHEAD n.toNat) (·.nheadRead n.toNat))

/-! ## Dispatch -/

/-- DMA channel n is idle (R357) and the engine takes new work. -/
def Block.dmaIdle (b : Block) (n : Nat) : Bool :=
  decide (b.fld (r1 .DMA_CHn_STATUS n) F.DMA_CHn_STATUS_STATE = 0) && !decide (CUnit.dma ∈ b.flt.refusing)

/-- Start a DMA channel at a slot (R358): RUN at PC 16 × SLOT, counters inactive, ERR cleared; CMD_REFUSED stays but for an accepted command (Table 11.10). -/
def Block.dmaBegin (b : Block) (n slot : Nat) (task : Bool) : Block :=
  let refused := b.bit (r1 .DMA_CHn_STATUS n) F.DMA_CHn_STATUS_CMD_REFUSED
  let b1 := ((b.setReg (r1 .DMA_CHn_STATUS n) (BitVec.ofNat 32 (2 * 2 ^ 29 + b2n task * 2 ^ 22 + b2n refused * 2 ^ 21 + 16 * slot))).setReg (r2 .DMA_CHn_LCk n 0) 0
    ).setReg (r2 .DMA_CHn_LCk n 1) 0 |>.setReg (r1 .DMA_CHn_WAITOBJ n) 0
  { b1 with tdu := { b1.tdu with calm := 0 } }

/-- The entry's target can accept (R331). -/
def Block.canAccept (b : Block) (e : Entry) : Bool :=
  if e.action = 0 then b.dmaIdle e.dmach
  else if e.action = 2 then !b.fragRefused ⟨.forward, e.fwdChan, e.tag, e.fwdOp, 0⟩
  else true

/-- Dispatch one entry (Table 10.3). -/
def Block.tduDispatch (b : Block) (e : Entry) : Block :=
  let a := { e with state := 2, done := b.tdu.nextOrder }
  let b1 := ({ b with
    tdu := { b.tdu with
    nextOrder := b.tdu.nextOrder + 1, armed := true,
    ready := b.tdu.ready.filter (fun r => decide ((r.1, r.2.1) ≠ (e.chan, e.seq))) } }).tduPut a
  if e.action = 0 then
    let b2 := forEach (List.range 4) (b1.dmaBegin e.dmach e.slot true) (fun k x =>
      x.setReg64 (r2 .DMA_CHn_Bk_LO e.dmach k) (r2 .DMA_CHn_Bk_HI e.dmach k) (e.op.getD k 0).toNat)
    (b2.modDma e.dmach (fun d => { d with taskChan := e.chan, taskTag := e.tag, taskSeq := e.seq, ending := none, deadline := none })).tduSettle
  else if e.action = 2 then
    let f : Frag := ⟨.forward, e.fwdChan, e.tag, e.fwdOp, e.op.getD 0 0⟩
    let b2 := b1.tduRetire a (e.op.getD 0 0) false
    -- a fragment that must wait for a bucket, or for room, stands in the queue
    if b2.fragReady f && !b2.tduStuck then b2.tduTake f else b2.pushFrag f
  else
    let p := b.fld (r1 .TDU_CHn_CFG e.chan) F.TDU_CHn_CFG_PART
    (b1.msix (b.servingFn p) (b.fld (r1 .TDU_CHn_CFG e.chan) F.TDU_CHn_CFG_VEC) none).tduSettle

/-- The entries of the ready lists, in the order in which they joined, that can be dispatched at a priority. -/
def Block.dispatchable (b : Block) (prio : Nat) : List Entry :=
  (b.tdu.ready.filterMap (fun r => b.tdu.entryOf r.1 r.2.1)).filter
    (fun e => decide (e.prio = prio) && b.canAccept e)

/-- DISPATCH (R331): the first of the highest priority whose target can accept, with what the checks of the unit find (class 0x0B). -/
def execDispatch (unit : Ecc) (s : State) : Host.Outcome State Fault Refusal :=
  s.run (fun b =>
    match ([7, 6, 5, 4, 3, 2, 1, 0].filterMap (fun p => (b.dispatchable p).head?)).head? with
    | some e => b.unitUse .tdu e.chan unit (·.tduDispatch e)
    | none => b)

/-! ## Ageing -/

/-- An entry expires (R340). -/
def Block.tduExpire (b : Block) (e : Entry) : Block :=
  let b1 := (b.replyOwed e (replyWord false true false false false 0)).tduFree e
  let b2 := (b1.setBit (r1 .TDU_CHn_STATUS e.chan) F.TDU_CHn_STATUS_EXPIRED).setReg (r0 .TDU_EXP_LAST)
    (BitVec.ofNat 32 (2 ^ 31 + e.chan * 2 ^ 16 + e.tag))
  (b2.tduFlag F.TDU_STATUS_EXPIRED 129).tduSettle

/-- TDU_TICK has reached a deadline, counting through the wrap (R338, R344). -/
def Block.deadlinePassed (b : Block) (d : BitVec 32) : Bool := decide (d ≠ 0) && !(b.tick - d).getLsbD 31

/-- ENTRY_EXPIRE (R338, R339): a WAITING entry on chip whose deadline TDU_TICK has reached; the fragments of the cycle are applied before. -/
def execEntryExpire (chan : BitVec 10) (tag : BitVec 16) (s : State) : Host.Outcome State Fault Refusal :=
  s.run (fun b =>
    match b.tdu.waiting chan.toNat tag.toNat with
    | some e =>
      if b.deadlinePassed e.deadline then
        let b1 := b.tduDrain
        match b1.tdu.waiting chan.toNat tag.toNat with
        | some e1 => if e1.seq = e.seq then b1.tduExpire e1 else b1
        | none => b1
      else b
    | none => b)

/-! ## Spill -/

/-- SPILL (R342). -/
def execSpill (s : State) : Host.Outcome State Fault Refusal := s.run Block.tduSpill

/-- An overdue spilled entry, in the cycle in which the sweep reads it (R344, R339): a fragment that waits for it joins it, on chip, with those of the cycle
behind it; the entry expires unless they complete it. -/
def Block.sweepExpire (b : Block) (x : Nat × Entry) : Block :=
  let b1 := match b.tdu.reads.find? (fun f => decide (f.chan = x.2.chan ∧ f.tag = x.2.tag)) with
    | some f => if b.tduStuck then b else (b.readEnd f).tduDrain
    | none => b
  if b1.tdu.spilled.any (fun q => decide (q.1 = x.1)) then (b1.spillDrop x.1).tduExpire x.2
  else match b1.tdu.waiting x.2.chan x.2.tag with
    | some e => if e.seq = x.2.seq then b1.tduExpire e else b1
    | none => b1

/-- SPILL_SWEEP (R344): the fragments of the cycle are applied (R339); one bucket is read, with what the controller finds in it, and its overdue entries
expire. -/
def execSpillSweep (found : List (BitVec 6 × Ecc)) (s : State) : Host.Outcome State Fault Refusal :=
  s.run (fun b0 =>
    let nb := b0.tduBuckets
    if nb = 0 then b0
    else
      let k := b0.tdu.sweep % nb
      let b := b0.tduDrain.bucketRead k found
      let due := (b.tdu.spilled.map (fun x => (x.1, b.spillRead x))).filter (fun x => decide (x.1 / 8 = k) && b.spillValid x.1 && b.deadlinePassed x.2.deadline)
      let b1 := forEach due b (fun x y => y.sweepExpire x)
      { b1 with tdu := { b1.tdu with sweep := (k + 1) % nb } })

/-! ## Handover (R347) -/

/-- A reset of partition p begins the handover of its channels: on-chip entries go at once, without replies. -/
def Block.tduHandover (b : Block) (p : Nat) : Block :=
  let mine := fun (n : Nat) => decide (b.fld (r1 .TDU_CHn_CFG n) F.TDU_CHn_CFG_PART = p)
  let b1 : Block := { b with
    tdu := { b.tdu with
    store := b.tdu.store.filter (fun e => !mine e.chan),
    ready := b.tdu.ready.filter (fun r => !mine r.1) } }
  (forEach ((List.range 1024).filter mine) b1 (fun n x => x.setBit (r1 .TDU_CHn_STATUS n) F.TDU_CHn_STATUS_RELEASING)).tduSettle

/-- RELEASE_PASS_COMPLETE (R347): the channel's spilled entries are gone, RELEASING clears and every credit is available. -/
def execReleasePassComplete (n : BitVec 10) (s : State) : Host.Outcome State Fault Refusal :=
  s.run (fun b =>
    if b.bit (r1 .TDU_CHn_STATUS n.toNat) F.TDU_CHn_STATUS_RELEASING then
      ((forEach ((b.tdu.spilled.filter (fun x => decide (x.2.chan = n.toNat))).map (·.1)) b (fun k x => x.spillDrop k)).clrFld
        (r1 .TDU_CHn_STATUS n.toNat) F.TDU_CHn_STATUS_RELEASING).tduSetHeld n.toNat 0
    else b)

end Sys2Proof.Machine
end

