-- ==== Sys2Proof/Machine/Far.lean ====
section
/-!
DEFINITION. Far memory, the far-memory caches and the queues of the far memory ports (R135 to R152, R321, R335).
The bytes of far memory stand once, as every coherent access sees them (R146); a cache holds tags and line states (log entry 19).
-/
namespace Sys2Proof.Machine

/-! ## Caches (R145, R146) -/

/-- A cluster's access goes through its cache: the line becomes the most recently used one of its set, which keeps four. -/
def Block.cacheUse (b : Block) (c stack addr : Nat) (wr : Bool) : Block :=
  let x := b.clu c
  let t := lineTag stack addr
  let old := (x.setOf addr).find? (fun e => decide (e.tag = t))
  let shared := b.clus.any (fun e => decide (e.1 ≠ c) && e.2.hasLine stack addr)
  let st := if wr then 2 else match old with | some e => e.st | none => if shared then 0 else 1
  let l := ⟨t, st⟩ :: (x.setOf addr).filter (fun e => decide (e.tag ≠ t))
  (b.snoop (some c) stack addr wr).modClu c (fun y => { y with cache := y.cache.put (lineSet addr) (l.take 4) })

/-- The lines that a range touches, by their first byte. -/
def linesOf (addr len : Nat) : List Nat := (List.range ((addr + len - 1) / 64 - addr / 64 + 1)).map (fun i => addr / 64 * 64 + 64 * i)

/-- Snoop every line of a range of far memory (R362). -/
def Block.snoopRange (b : Block) (addr len : Nat) (wr : Bool) : Block :=
  forEach (linesOf (addr % 2 ^ 35) len) b (fun a x => x.snoop none (addr / 2 ^ 35) a wr)

/-- The 64-bit words that an access touches. -/
def wordCount (addr len : Nat) : Nat := (addr + len - 1) / 8 - addr / 8 + 1

/-- What the checks of the n words of an access find: a correction is counted (Table 17.1), an uncorrectable word is dealt with. -/
def Block.wordsFound (b : Block) (n : Nat) (found : Found) (due : Nat → Block → Block) : Block :=
  forEach (found.filter (fun e => decide (e.1.toNat < n))) b (fun e x => match e.2 with
    | .ok => x
    | .corr => x.corrected
    | .due => due e.1.toNat x)

/-- One of the n words of an access is uncorrectable. -/
def foundDue (n : Nat) (found : Found) : Bool := found.any (fun e => decide (e.1.toNat < n ∧ e.2 = .due))

/-- What a far-memory controller finds in the words of an access (R149, R552). -/
def Block.farFound (b : Block) (stack addr len : Nat) (found : Found) : Block :=
  b.wordsFound (wordCount addr len) found (fun i x => x.farUncorr stack (addr / 8 * 8 + 8 * i))

/-! ## FMP queues (R135 to R139) -/

/-- The reserved entries of FMP n, oldest first. -/
def Cluster.fmpQ (x : Cluster) (n : Nat) : List FmpEnt := NMap.get [] x.fmp n

/-- Put the entries of FMP n. -/
def Cluster.setFmpQ (x : Cluster) (n : Nat) (l : List FmpEnt) : Cluster := { x with fmp := x.fmp.put n l }

/-- The oldest reserved entry of queue q: FMP q[1:0], class q[3:2] (R137, R138). -/
def Cluster.oldest (x : Cluster) (q : Nat) : Option FmpEnt := (x.fmpQ (q % 4)).find? (fun e => decide (b2n e.cls = q / 4))

/-- The queue without an entry. -/
def Cluster.dropEnt (x : Cluster) (n num : Nat) : Cluster := x.setFmpQ n ((x.fmpQ n).filter (fun e => decide (e.num ≠ num)))

/-- Queue q is configured for cluster c: bit 2n + k for class k of FMP n (R137). -/
def Block.queueOk (b : Block) (p c q : Nat) : Bool :=
  decide (q < 8) && bitAt (NMap.get 0 (b.part p).man.classes c) (2 * (q % 4) + q / 4)

/-- The stride of a design word (R141). -/
def strideOf (dw : Nat) : Nat := if dw ≤ 64 then 8 else 16

/-- The stack and in-stack address of a word index in region n of cluster c (R141, R142). -/
def Block.farAddr (b : Block) (c region dw idx : Nat) : Nat × Nat :=
  let base := b.fld (r2 .CLU_FREGn_BASE c region) F.CLU_FREGn_BASE_BASE * 4096
  let o := idx * strideOf dw
  if b.bit (r2 .CLU_FREGn_CTRL c region) F.CLU_FREGn_CTRL_MODE then ((o / 4096) % 4, base + (o / 16384) * 4096 + o % 4096)
  else (b.fld (r2 .CLU_FREGn_CTRL c region) F.CLU_FREGn_CTRL_STACK, base + o)

/-- A line is filled from DRAM for cluster c (R149): what the controller finds in its eight words. -/
def Block.lineFill (b : Block) (c stack addr : Nat) (found : List (BitVec 3 × Ecc)) : Block :=
  forEach found b (fun e x => match e.2 with
    | .ok => x
    | .corr => (x.satFld (r1 .CLU_MEM_ECC c) F.CLU_MEM_ECC_FAR_CORR 1).corrected
    | .due => x.farUncorr stack (addr / 64 * 64 + 8 * e.1.toNat))

/-- A request hits a line of its cluster's cache (R145): what the SECDED of the words that it touches finds. A correction is one of level C (Table 17.1, class
0x08); an uncorrectable word is poisoned as one that fills a line is (DEDUCED, log entry 158). -/
def Block.lineHit (b : Block) (e : FmpEnt) (found : List (BitVec 3 × Ecc)) : Block :=
  let key (f : BitVec 3 × Ecc) : Nat := e.stack * 2 ^ 32 + e.addr / 64 * 8 + f.1.toNat
  forEach (found.filter (fun f => decide (key f ∈ touchedWords e.stack e.addr (ceilDiv e.dw 8)))) b (fun f x => match f.2 with
    | .ok => x
    | .corr => x.corrected
    | .due => { x with farBad := x.farBad.put (key f) true })

/-- A request acts on far memory through the cache of its cluster (R141, R145, R149); a miss fills the line. -/
def Block.fmpAct (b : Block) (c n : Nat) (e : FmpEnt) (found : List (BitVec 3 × Ecc)) : Block :=
  let hit := (b.clu c).hasLine e.stack e.addr
  let b1 := b.wrapFld (r1 (if hit then .CLU_FMC_HIT else .CLU_FMC_MISS) c) ⟨0, 32⟩ 1
  let b2 := b1.cacheUse c e.stack e.addr (decide (e.kind = 1))
  let b3 := if hit then b2.lineHit e found else b2.lineFill c e.stack e.addr found
  let put (x : Block) (d : FmpEnt) : Block :=
    x.modClu c (fun y => y.setFmpQ n ((y.fmpQ n).map (fun f => if f.num = e.num then d else f)))
  if e.kind = 1 then put (b3.farWrite e.stack e.addr (leBytes (strideOf e.dw) (e.data.toNat % 2 ^ e.dw))) { e with acted := true, ack := true }
  else put b3 { e with
    acted := true
    data := BitVec.ofNat 72 (b3.farRead e.stack e.addr (strideOf e.dw) % 2 ^ e.dw)
    err := b3.farPoisoned e.stack e.addr (ceilDiv e.dw 8) }

/-- The requests of cluster c to one line issued before a given one that have not acted, in issue order, with their FMPs (R147). -/
def Cluster.earlier (x : Cluster) (e : FmpEnt) : List (Nat × FmpEnt) :=
  let all := (List.range 4).flatMap (fun n => (x.fmpQ n).map (fun f => (n, f)))
  sortBy (fun f g => decide (f.2.num ≤ g.2.num))
    (all.filter (fun f => decide (f.2.kind < 2 ∧ f.2.acted = false ∧ f.2.num < e.num ∧ f.2.stack = e.stack ∧ f.2.addr / 64 = e.addr / 64)))

/-- Mark an entry's response present. -/
def Block.fmpPresent (b : Block) (c n num : Nat) : Block :=
  b.modClu c (fun y => y.setFmpQ n ((y.fmpQ n).map (fun f => if f.num = num then { f with present := true } else f)))

/-- The oldest entry of a class whose response is absent. -/
def Cluster.awaited (x : Cluster) (n : Nat) (cls : Bool) : Option FmpEnt :=
  (x.fmpQ n).find? (fun e => decide (e.cls = cls ∧ e.present = false))

/-- A response reaches FMP n of cluster c (R138), with what the fill of its line finds: of class 0 from memory, of class 1 the TDU's reply when it is on its way (R335).
A request that was answered RETRY is not answered before it is reissued (R380), nor one whose packet was dropped (R381). -/
def Block.fmpArrive (b : Block) (c n : Nat) (cls : Bool) (found : List (BitVec 3 × Ecc)) : Block :=
  match (b.clu c).awaited n cls with
  | none => b
  | some e =>
    if e.lost ∨ (b.noc.fmpRetry.find (c * 4096 + e.num % 4096)).isSome then b
    else if cls then
      match (b.clu c).replies.find e.num with
      | none => b
      | some w =>
        b.modClu c (fun y => { y.setFmpQ n ((y.fmpQ n).map (fun f => if f.num = e.num then { f with present := true, data := w } else f)) with
          replies := y.replies.erase e.num })
    else
      let b1 := forEach ((b.clu c).earlier e) b (fun f x => x.fmpAct c f.1 f.2 found)
      let b2 := if e.acted then b1 else b1.fmpAct c n e found
      b2.fmpPresent c n e.num

/-- FMP_RESPONSE_ARRIVAL (R138, R140). -/
def execFmpResponseArrival (c : ClusterId) (n : FmpNo) (cls : Bool) (found : List (BitVec 3 × Ecc)) (s : State) :
    Host.Outcome State Fault Refusal := s.run (·.fmpArrive c.toNat n.toNat cls found)

/-- One more response of a stack is delayed by a refresh (R551). -/
def Block.refDelay (b : Block) (k : Nat) : Block := b.satFld (r1 .FMC_STATUSs k) F.FMC_STATUSs_REFDLY 1

/-- A waiting response that no refresh has delayed yet: whether this one does is not stated, a free value (log entry 20). -/
def Block.refreshOne (b : Block) (k : Nat) (mark : Block → Block) : Block :=
  (if (b.fresh 1).getLsbD 0 then mark (b.refDelay k) else b).draw

/-- The bucket of a fragment's read lies in a stack. -/
def Block.readIn (b : Block) (k : Nat) (f : Frag) : Bool := decide ((b.spillAt (8 * bucketOf b.tduBuckets f.chan f.tag)).1 = k)

/-- A refresh of stack k (R151, R551): each response that waits, of a cluster's FMP, of the DMA engine and of the TDU, counts at most once. -/
def Block.refresh (b : Block) (k : Nat) : Block :=
  let b1 := forEach b.clus b (fun e x => forEach (List.range 4) x (fun n y =>
    forEach ((e.2.fmpQ n).filter (fun f => decide (f.cls = false ∧ f.present = false ∧ f.stack = k ∧ f.late = false))) y (fun f z =>
      z.refreshOne k (fun w => w.modClu e.1 (fun u => u.setFmpQ n ((u.fmpQ n).map (fun g => if g.num = f.num then { g with late := true } else g)))))))
  let b2 := forEach (b1.noc.sent.filter (fun q => decide (q.space = 1 ∧ q.addr / 2 ^ 35 = k ∧ q.late = false))) b1 (fun q x =>
    x.refreshOne k (fun w => { w with noc := { w.noc with sent := w.noc.sent.map (fun r => if r = q then { r with late := true } else r) } }))
  forEach (b2.tdu.reads.filter (fun f => b2.readIn k f && decide (f ∉ b2.tdu.late))) b2 (fun f x =>
    x.refreshOne k (fun w => { w with tdu := { w.tdu with late := f :: w.tdu.late } }))

/-- DRAM_REFRESH (R151). -/
def execDramRefresh (k : BitVec 2) (s : State) : Host.Outcome State Fault Refusal := s.run (·.refresh k.toNat)

/-- The partition of cluster c, where it is on the module. -/
def Block.partOf (b : Block) (c : Nat) : Option Nat := b.cluPart c

/-- STATE of a cluster (Table 2.11): WINTER for a cluster of no partition; from the end of Frost entry to the end of Thaw FROST for every cluster (R527). -/
def Block.cluState (b : Block) (c : Nat) : PState :=
  if 2 ≤ b.fld (r0 .PWR_STATUS) F.PWR_STATUS_STATE then .frost
  else match b.cluPart c with | some p => (b.part p).state | none => .winter

/-- A write of CLU_FMC_CTRL.FLUSH (R150). -/
def Block.flush (b : Block) (c : Nat) : Block :=
  if b.cluState c = .running then b else b.setBit (r1 .CLU_FMC_CTRL c) F.CLU_FMC_CTRL_FLUSH_BUSY

/-- The write-back ends: every modified line is exclusive (R150). -/
def Block.flushEnd (b : Block) (c : Nat) : Block :=
  if b.bit (r1 .CLU_FMC_CTRL c) F.CLU_FMC_CTRL_FLUSH_BUSY then
    (b.modClu c (fun x => { x with cache := x.cache.map (fun e => (e.1, e.2.map (fun l => if l.st = 2 then { l with st := 1 } else l))) })).clrFld
      (r1 .CLU_FMC_CTRL c) F.CLU_FMC_CTRL_FLUSH_BUSY
  else b

/-- FLUSH (R150). -/
def execFlush (r : Requester) (c : ClusterId) (s : State) : Host.Outcome State Fault Refusal :=
  s.run (fun b => b.hostWrite r (r1 .CLU_FMC_CTRL c.toNat) 1 (·.flush c.toNat))

/-- FLUSH_COMPLETE (R150). -/
def execFlushComplete (c : ClusterId) (s : State) : Host.Outcome State Fault Refusal := s.run (·.flushEnd c.toNat)

end Sys2Proof.Machine
end

