-- ==== Sys2Proof/Machine/Freeze.lean ====
section
/-!
DEFINITION. Inbound frames (R167 to R170, R177, R178), the stop of the Equinox wait (R179), and freezes: originating, accepting, meeting (R180 to R187).
-/
namespace Sys2Proof.Machine

/-! ## Inbound frames -/

/-- A frame buffer of a path: i is 0 for the frame applied next, 1 for the one after. -/
def Part.buf (x : Part) (path i : Nat) : FrameBuf := NMap.get {} x.inBuf (path * 2 + i)

/-- The frame in a buffer is complete (R168). -/
def FrameBuf.complete (f : FrameBuf) (slots : Nat) : Bool := f.last && decide (f.got.length = slots)

/-- The inbound paths whose next frame is incomplete. -/
def Part.missing (x : Part) : List InPath := x.man.ins.filter (fun q => !(x.buf q.path 0).complete q.slots.length)

/-- The frame that the next step 0 needs is the one applied next: the DC before the counter. -/
def Part.needsFrame (x : Part) : Bool := decide (x.base ≠ x.dc.setWidth 32)

/-- The state in which a partition stands, seen through Frost. -/
def Part.base_ (x : Part) : PState := if x.state = .frost then x.preFrost else x.state

/-- Frames are awaited, in Frost too: at step 0 of a DC, or with frames of the stopping DC outstanding (R177, R178). -/
def Part.awaits (x : Part) : Bool :=
  x.needsFrame && !x.missing.isEmpty &&
    (decide (x.base_ = .running ∧ x.dcp = .start ∧ x.noWait = false) || decide (x.base_ = .frozen))

/-- The wait timer of the partition runs: frames are awaited, and the module is not in Frost, during which the timer stands still and does not expire
(DESIGN CHOICE, log entry 155: R177 does not speak of Frost). -/
def Part.waiting (x : Part) : Bool := decide (x.state ≠ .frost) && x.awaits

/-- The timer pauses (R269). -/
def Block.waitPaused (b : Block) (p : Nat) : Bool :=
  !(b.part p).holds.isEmpty ||
    b.links.any (fun e => decide (p ∈ e.2.arr) && (e.2.nakOut || decide (b.lnkState e.1 = 6)))

/-- Write the slots of a complete frame to their lanes. -/
def Block.applyPath (b : Block) (x : Part) (q : InPath) : Block :=
  forEach ((List.range q.slots.length).zip q.slots) b
    (fun e y => y.setLane e.2.1 e.2.2 (NMap.get false (x.buf q.path 0).got e.1))

/-- Apply every inbound frame of the DC and move on to the next (R168). -/
def Block.applyFrames (b : Block) (p : Nat) : Block :=
  let x := b.part p
  let b1 := forEach x.man.ins b (fun q y => y.applyPath x q)
  b1.modPart p (fun y => { y with
    inBuf := (y.inBuf.filter (fun e => decide (e.1 % 2 = 1))).map (fun e => (e.1 - 1, e.2))
    base := y.base + 1, counted := 0, held := 0, frameHold := 0 })

/-- A partition stopped at a target whose frames are all in applies them, and DRAINED is set (R178). -/
def Block.drain (b : Block) (p : Nat) : Block :=
  let x := b.part p
  if x.state = .frozen ∧ b.bit (r1 .PART_FRZ_STATUS p) F.PART_FRZ_STATUS_DRAINED = false ∧ x.missing.isEmpty then
    (if x.needsFrame then b.applyFrames p else b).setBit (r1 .PART_FRZ_STATUS p) F.PART_FRZ_STATUS_DRAINED
  else if x.state = .frozen ∧ x.needsFrame = false then b.setBit (r1 .PART_FRZ_STATUS p) F.PART_FRZ_STATUS_DRAINED
  else b

/-- A segment of a configured path and an expected DC, within the path (R167). A path counts as configured from the Spring commit of its partition on, when
the DCs that its buffers expect are set (DESIGN CHOICE, log entry 116). -/
def Block.segmentOk (b : Block) (y : Segment) : Bool :=
  let x := b.part y.part.toNat
  match x.man.ins.find? (fun q => decide (q.path = y.path.toNat)) with
  | some q => decide (x.state ≠ .winter) && decide ((y.dc - x.base).toNat < 2) && decide (y.first.toNat + y.count.toNat ≤ q.slots.length)
  | none => false

/-- Take an accepted segment into its buffer (R167), and complete a drain. -/
def Block.takeSegment (b : Block) (y : Segment) : Block :=
  let p := y.part.toNat
  let b1 := b.modPart p (fun x =>
    let i := (y.dc - x.base).toNat
    let f := x.buf y.path.toNat i
    let got := forEach ((List.range y.count.toNat).zip (y.payload ++ List.replicate (y.count.toNat - y.payload.length) false)) f.got
      (fun e m => m.put (y.first.toNat + e.1) e.2)
    { x with inBuf := x.inBuf.put (y.path.toNat * 2 + i) ⟨got, f.last || y.last⟩ })
  b1.drain p

/-! ## The stop of the Equinox wait (R179) -/

/-- Stop a partition whose frames will not come: the sticky bit, the log entry of the class, the stop and the abort. -/
def Block.frameStop (b : Block) (p cls unit : Nat) (f : Fld) : Block :=
  (b.setBit (r1 .PART_FRZ_STATUS p) f).faultP cls unit p

/-- A path is down and the partition awaits frames (R179, R269): it stops at once, in Frost too. -/
def Block.pathDownStop (b : Block) (p : Nat) : Block :=
  let x := b.part p
  if x.pathDown ∧ x.awaits ∧ x.inconsistent = false then b.frameStop p 0x0A 0 F.PART_FRZ_STATUS_PATH_DOWN else b

/-- The time after which the wait timer expires, in CTL_CLK cycles (Table 5.17). -/
def Block.waitLimit (b : Block) (p : Nat) : Nat :=
  250 * min 1000 (max 1 (b.fld (r1 .PART_EQX_TMO p) F.PART_EQX_TMO_TIMEOUT))

/-- EQX_WAIT_TIMEOUT (R177, R179): never while a link of the route is in replay or retrain (R503), so that the bound of 1 ms too acts when the pause ends
(DEDUCED, log entry 156). -/
def execEqxWaitTimeout (p : PartNo) (s : State) : Host.Outcome State Fault Refusal :=
  s.run (fun b =>
    let x := b.part p.toNat
    if x.waiting ∧ b.waitPaused p.toNat = false ∧ x.inconsistent = false ∧ (b.waitLimit p.toNat ≤ x.counted ∨ 250000 ≤ x.held) then
      b.frameStop p.toNat 0x13 0 F.PART_FRZ_STATUS_TIMEOUT
    else b)

/-! ## Freezes -/

/-- The partition enters FROZEN (R184): FROZEN is set, the groups report, frames that are in are applied, and a path that is already down ends the wait
for those that are missing (R178, R179). -/
def Block.enterFrozen (b : Block) (p : Nat) : Block :=
  let k := r1 .PART_FRZ_STATUS p
  let b1 := b.modPart p (fun x => { x with
    state := if x.state = .frost then .frost else .frozen
    preFrost := if x.state = .frost then .frozen else x.preFrost
    stopAfter := false, slipping := false, frozenFor := 0, frozenAt := some b.pw.ctl, counted := 0, held := 0 })
  (((((b1.setBit k F.PART_FRZ_STATUS_FROZEN).clrFld k F.PART_FRZ_STATUS_DRAINED).drain p).raiseGroups p)).pathDownStop p

/-- The partition has reached target t: PENDING clears (R184). -/
def Block.meet (b : Block) (p : Nat) (t : BitVec 32) : Block :=
  ((b.modPart p (fun x => { x with target := none, met := t })).clrFld (r1 .PART_FRZ_STATUS p) F.PART_FRZ_STATUS_PENDING).setReg (r1 .PART_FRZ_LAST p) t

/-- The signed difference of two DC numbers is negative (R184). -/
def dcBefore (a b : BitVec 32) : Bool := (a - b).getLsbD 31

/-- No step of the DC of the counter has executed. -/
def Part.fresh (x : Part) : Bool := decide (x.dcp = .start) || decide (x.dcp = .run ∧ x.step = 0)

/-- The module has passed DC t (R185): it has executed a step of DC t + 1 or later. -/
def Part.passed (x : Part) (t : BitVec 32) : Bool :=
  let c := x.dc.setWidth 32
  dcBefore t c && !(decide (t = c - 1) && x.fresh)

/-- Note a pending target (R184, Table 5.13). -/
def Block.setTarget (b : Block) (p : Nat) (t : BitVec 32) : Block :=
  ((b.modPart p (fun x => { x with target := some t })).setBit (r1 .PART_FRZ_STATUS p) F.PART_FRZ_STATUS_PENDING).setReg (r1 .PART_FRZ_LAST p) t

/-- The stop of a freeze that comes late (R185): STOPPED_FAULT from every state; in Frost the state to return to changes. -/
def Part.lateStop (x : Part) : Part :=
  match x.state with
  | .frost => { x with preFrost := .stoppedFault, inconsistent := true }
  | _ => { x with state := .stoppedFault, inconsistent := true, slipping := false }

/-- A freeze whose target is the DC before the counter, of which nothing has executed since (R184): it is met as it stands. A larger target that is pending
is superseded and counts in IGNORED (DEDUCED from Table 5.12, log entry 117). -/
def Block.meetNow (b : Block) (p : Nat) (t : BitVec 32) : Block :=
  let x := b.part p
  if x.base_ ≠ .running then b
  else
    let b1 := (if x.target.isSome then b.satFld (r1 .PART_FRZ_STATUS p) F.PART_FRZ_STATUS_IGNORED 1 else b).meet p t
    if x.stopAfter ∨ x.clusters.any (fun c => (b.clu c).sp.due || decide ((b.clu c).sp.groups ≠ 0)) then b1.modPart p (fun y => { y with stopAfter := true })
    else b1.enterFrozen p

/-- Accept a target freeze (R184, R185). -/
def Block.acceptTarget (b : Block) (p : Nat) (t : BitVec 32) : Block :=
  let x := b.part p
  if x.state = .winter then b
  else if x.passed t then
    ((((b.dropTarget p).modPart p Part.lateStop).setBit (r1 .PART_FRZ_STATUS p) F.PART_FRZ_STATUS_LATE).raiseGroups p)
  else if dcBefore t (x.dc.setWidth 32) then b.meetNow p t
  else
    match x.target with
    | none => b.setTarget p t
    | some u =>
      if t = u then b
      else (if dcBefore t u then b.setTarget p t else b).satFld (r1 .PART_FRZ_STATUS p) F.PART_FRZ_STATUS_IGNORED 1

/-- An abort takes effect on the partition (R186). -/
def Block.abortStop (b : Block) (p : Nat) : Block :=
  (((b.stopInconsistent p).modPart p (fun x => { x with abortPend := false, stopAfter := false })).setBit
    (r1 .PART_FRZ_STATUS p) F.PART_FRZ_STATUS_ABORTED).raiseGroups p

/-- A DC is under way whose Equinox is still to come, and its step 0 is not held (R186). -/
def Part.withinDc (x : Part) : Bool :=
  decide (x.base_ = .running ∧ x.dcp ≠ .start) && !(decide (x.dcp = .run ∧ x.step = 0) && x.slipping)

/-- Accept an abort (R186): at the next Equinox of a DC under way, else at once. -/
def Block.acceptAbort (b : Block) (p : Nat) : Block :=
  let x := b.part p
  if x.state = .winter then b
  else if x.withinDc then b.modPart p (fun y => { y with abortPend := true })
  else b.abortStop p

/-- Act on a freeze that concerns a hosted partition. -/
def Block.acceptFreeze (b : Block) (y : FreezeSym) : Block :=
  let p := y.part.toNat
  if b.hosts p ∧ (b.part p).state ≠ .winter then
    let b1 := b.recordFreeze p y
    if y.kind then b1.acceptAbort p else b1.acceptTarget p y.target
  else b

/-- A FREEZE symbol from a link (R183); the sequence that a module holds for itself is that of its last own freeze (log entry 24). -/
def Block.freezeSym (b : Block) (n : Nat) (y : FreezeSym) : Block :=
  if b.frzSeen.find y.origin.toNat = some (some y.seq.toNat) ∨ (y.origin = b.devId ∧ y.seq.toNat = b.frzSeq) then b
  else ((({ b with frzSeen := b.frzSeen.put y.origin.toNat (some y.seq.toNat) }).acceptFreeze y).flood y.part.toNat (some n) (freezeToSym y))

/-- Originate a target freeze and act on it (R181). -/
def Block.freezeTarget (b : Block) (p : Nat) (t : BitVec 32) (cause : Nat) : Block :=
  (b.originate p false t cause).acceptTarget p t

/-- The target of FREEZE: the counter plus EFF. -/
def Block.marginTarget (b : Block) (p : Nat) : BitVec 32 :=
  (b.part p).dc.setWidth 32 + BitVec.ofNat 32 (b.fld (r1 .PART_MARGIN_EFF p) F.PART_MARGIN_EFF_EFF)

/-- A partition with a schedule to stop. -/
def Block.live (b : Block) (p : Nat) : Bool := b.hosts p && decide ((b.part p).state ≠ .winter)

/-- FREEZE (R181). -/
def Block.freeze (b : Block) (p : Nat) : Block := if b.live p then b.freezeTarget p (b.marginTarget p) 0 else b

/-- FREEZE_AT (R181): a target already passed is refused with TGT_PAST. -/
def Block.freezeAt (b : Block) (p : Nat) : Block :=
  let t := b.reg (r1 .PART_FRZ_TARGET p)
  if b.live p then
    if (b.part p).passed t then b.setBit (r1 .PART_FRZ_STATUS p) F.PART_FRZ_STATUS_TGT_PAST else b.freezeTarget p t 0
  else b

/-- The effective margin (R182). -/
def marginOf (set hops diam len : Nat) : Nat × Nat :=
  let d := max diam hops
  (d, if len = 0 then set else max set (d + ceilDiv (d * 172) len + 1))

/-- The HKC computes the effective margin. -/
def Block.margin (b : Block) (p : Nat) : Block :=
  let v := b.reg (r1 .PART_MARGIN p)
  let m := marginOf (F.PART_MARGIN_SET.get v) (F.PART_MARGIN_HOPS.get v) (b.part p).man.diam (b.part p).len
  b.setReg (r1 .PART_MARGIN_EFF p) (BitVec.ofNat 32 (m.1 * 2 ^ 16 + m.2 % 2 ^ 16))

/-- A write of a freeze register of partition p: a module that hosts no cluster of p ignores it (R191). -/
def Block.frzWrite (b : Block) (r : Requester) (n : RegName) (p : Nat) (v : Word) (f : Block → Block) : Block :=
  b.hostWrite r (r1 n p) v (fun x => if x.hosts p then f x else x)

/-- FREEZE (R181). -/
def execFreeze (r : Requester) (p : PartNo) (s : State) : Host.Outcome State Fault Refusal :=
  s.run (fun b => b.frzWrite r .PART_FRZ_CMD p.toNat 1 (·.freeze p.toNat))

/-- FREEZE_AT (R181). -/
def execFreezeAt (r : Requester) (p : PartNo) (s : State) : Host.Outcome State Fault Refusal :=
  s.run (fun b => b.frzWrite r .PART_FRZ_CMD p.toNat 2 (·.freezeAt p.toNat))

/-- FREEZE_SYMBOL_RECEIVE (R183). -/
def execFreezeSymbolReceive (n : LinkNo) (y : FreezeSym) (s : State) : Host.Outcome State Fault Refusal :=
  s.run (·.freezeSym n.toNat y)

/-- A write of PART_MARGIN: the HKC computes the margin (R182). -/
def Block.marginWrite (b : Block) (p : Nat) (v : Word) : Block := (b.setReg (r1 .PART_MARGIN p) (v &&& 0xFF00FFFF#32)).margin p

/-- PART_MARGIN_WRITE (R182). -/
def execPartMarginWrite (r : Requester) (p : PartNo) (v : Word) (s : State) : Host.Outcome State Fault Refusal :=
  s.run (fun b => b.frzWrite r .PART_MARGIN p.toNat v (·.marginWrite p.toNat v))

end Sys2Proof.Machine
end

