-- ==== Sys2Proof/Machine/Time.lean ====
section
/-!
DEFINITION. The time unit (chapter 9): the timing symbols, offsets and path delays, the servo and its master changes, pulse and event pins,
timers. Offsets and delays are integers in units of 2^-16 ns.
-/
namespace Sys2Proof.Machine

/-! ## Times -/

/-- A stamp in units of 2^-16 ns. -/
def stampUnits (t : Stamp) : Nat := (bitsOf t.toNat 48 48 * 1000000000 + bitsOf t.toNat 16 32) * 65536 + bitsOf t.toNat 0 16

/-- The stamp of a number of units of 2^-16 ns. -/
def unitsStamp (n : Nat) : Stamp := stampOf (n * 2 ^ 24)

/-- A stamp that the module takes, in units of 2^-16 ns (R286, R288, R293). -/
def takenUnits (t : Stamp) : Int := stampUnits (takeStamp t)

/-- The time counter in units of 2^-16 ns. -/
def Block.units (b : Block) : Nat := b.time / 2 ^ 24

/-- TIM_PPS_OFS in units of 2^-16 ns. -/
def Block.ppsOfs (b : Block) : Int := (b.reg (r0 .TIM_PPS_OFS)).toInt * 65536
/-- One second in units of 2^-16 ns. -/
def oneSecond : Int := 65536000000000

/-- The module's time counter runs (R289). -/
def Block.timeRuns (b : Block) : Bool := b.bit (r0 .TIM_CTRL) F.TIM_CTRL_RUN

/-- What one TIME_CLK edge adds (R287): 2 ns × (1 + RATE × 2^-40). -/
def Block.edgeLen (b : Block) : Int := if b.timeRuns then 2 * 2 ^ 40 + 2 * (b.reg (r0 .TIM_RATE)).toInt else 0

/-- n TIME_CLK edges pass (R287). -/
def Block.timeEdges (b : Block) (n : Nat) : Block :=
  if b.timeRuns then { b with time := (b.time + (n : Int) * b.edgeLen : Int).toNat } else b

/-! ## Event outputs (R312) -/

/-- SEL of event output n; 5 to 7 act as 0 (Table 9.20). -/
def Block.evoSel (b : Block) (n : Nat) : Nat :=
  if 4 < b.fld (r1 .TIM_EVOn n) F.TIM_EVOn_SEL then 0 else b.fld (r1 .TIM_EVOn n) F.TIM_EVOn_SEL

/-- An edge of event output n is placed at a time, to 62.5 ps (R312). -/
def Block.evoEdge (b : Block) (n at_ : Nat) (level : Bool) : Block :=
  { b with tu := { b.tu with evo := b.tu.evo.put n level, evoAt := b.tu.evoAt.put n (at_ / 4096 * 4096) } }

/-- Event output n starts a pulse of WIDTH ns at a time. -/
def Block.evoPulse (b : Block) (n at_ : Nat) : Block :=
  let w := max 2 (b.fld (r1 .TIM_EVOn n) F.TIM_EVOn_WIDTH)
  let b1 := b.evoEdge n at_ true
  { b1 with tu := { b1.tu with evoEnd := b1.tu.evoEnd.put n (at_ / 4096 * 4096 + w * 65536) } }

/-- Event outputs that select a timer or a trigger output act at a time (R312, R313, R411). -/
def Block.evoDrive (b : Block) (trig : Bool) (idx at_ : Nat) : Block :=
  forEach (List.range 8) b (fun n x =>
    if x.fld (r1 .TIM_EVOn n) F.TIM_EVOn_IDX ≠ idx then x
    else if trig then (if x.evoSel n = 4 then x.evoPulse n at_ else x)
    else if x.evoSel n = 1 then x.evoPulse n at_
    else if x.evoSel n = 2 then x.evoEdge n at_ (!NMap.get false x.tu.evo n)
    else x)

/-- The level of event output n: low until the module is ready (Table 18.3), then as TIM_EVOn selects. -/
def Block.evoLevel (b : Block) (n : Nat) : Bool :=
  decide (b.pw.phase = .ready) && (match b.evoSel n with
  | 0 => false
  | 3 => b.bit (r1 .TIM_EVOn n) F.TIM_EVOn_LEVEL
  | _ => NMap.get false b.tu.evo n)

/-- EVENT_OUTPUT_PULSE_END (R312, R313). -/
def execEventOutputPulseEnd (n : BitVec 3) (s : State) : Host.Outcome State Fault Refusal :=
  s.run (fun b =>
    let n := n.toNat
    if (b.evoSel n = 1 ∨ b.evoSel n = 4) ∧ NMap.get false b.tu.evo n ∧ NMap.get 0 b.tu.evoEnd n ≤ b.units then
      { b with tu := { b.tu with evo := b.tu.evo.put n false } }
    else b)

/-! ## Timers (R313 to R317) -/

/-- ARMED of timer k. -/
def Block.tmrArmed (b : Block) (k : Nat) : Bool := b.bit (r1 .TIM_TMRk_STATUS k) F.TIM_TMRk_STATUS_ARMED

/-- PERIOD of timer k: 0 for a one-shot timer, at least 16 ns for another (R313). -/
def Block.tmrPeriod (b : Block) (k : Nat) : Nat :=
  let p := b.reg64 (r1 .TIM_TMRk_PERIOD_LO k) (r1 .TIM_TMRk_PERIOD_HI k)
  if p = 0 then 0 else max p (16 * 65536)

/-- A stamp held in three registers. -/
def Block.reg96 (b : Block) (n : RegName) (k : Nat) : Stamp :=
  BitVec.ofNat 96 ((b.reg (r2 n k 0)).toNat + 2 ^ 32 * (b.reg (r2 n k 1)).toNat + 2 ^ 64 * (b.reg (r2 n k 2)).toNat)

/-- Put a stamp into three registers. -/
def Block.setReg96 (b : Block) (n : RegName) (k : Nat) (t : Stamp) : Block :=
  forEach [0, 1, 2] b (fun w x => x.setReg (r2 n k w) (BitVec.ofNat 32 (t.toNat >>> (32 * w))))

/-- A timer is late: LATE, event 22. -/
def Block.tmrLate (b : Block) (k : Nat) : Block :=
  ((b.setBit (r1 .TIM_TMRk_STATUS k) F.TIM_TMRk_STATUS_LATE).setBit (r0 .TIM_STATUS) F.TIM_STATUS_LATE).raise 22

/-- A target of timer k meets the time e of an edge, as when ARM takes effect there, or after a forward step; next_ is the edge after it (R314 to R317). -/
def Block.tmrTarget (b : Block) (k start e next_ : Nat) : Block :=
  let p := b.tmrPeriod k
  let st := r1 .TIM_TMRk_STATUS k
  let runs := b.bit (r1 .TIM_TMRk_CTRL k) F.TIM_TMRk_CTRL_RUN_IF_LATE
  let put (x : Block) (t : Tmr) : Block := { x with tu := { x.tu with tmr := x.tu.tmr.put k t } }
  if e < start then put b ⟨start, none⟩
  else if p = 0 then
    let b1 := b.tmrLate k
    if runs then put b1 ⟨start, some next_⟩ else b1.clrFld st F.TIM_TMRk_STATUS_ARMED
  else
    let n := (e - start) / p + 1
    let b1 := (b.tmrLate k).satFld st F.TIM_TMRk_STATUS_MISSED (if runs then n - 1 else n)
    put b1 ⟨start + n * p, if runs then some next_ else none⟩

/-- The time of the TIME_CLK edge that is n edges away. -/
def Block.edgeAt (b : Block) (n : Int) : Nat := (b.time + n * b.edgeLen).toNat / 2 ^ 24

/-- A request for Thaw (R528): in FROST it starts, during entry it waits for the end of the entry. -/
def Block.thawStart (b : Block) : Block :=
  match b.fld (r0 .PWR_STATUS) F.PWR_STATUS_STATE with
  | 1 => { b with pw := { b.pw with thawReq := true } }
  | 2 => b.setFld (r0 .PWR_STATUS) F.PWR_STATUS_STATE 3
  | _ => b

/-- Timer k reaches the timer latch of DMA channel n; a bit already set is an overrun (R368). -/
def Block.tmrLatch (b : Block) (k n : Nat) : Block :=
  let b1 := if (b.dmaCh n).timers.getLsbD k then b.setBit (r1 .DMA_CHn_EVT n) F.DMA_CHn_EVT_OVERRUN else b
  b1.modDma n (fun d => { d with timers := d.timers ||| BitVec.ofNat 8 (2 ^ k) })

/-- Timer k expires at a time (R313): FIRED, event 24 + k, the outputs, the timer latch of every DMA channel (R368), and a Thaw (R528). -/
def Block.tmrRun (b : Block) (k at_ : Nat) : Block :=
  let b1 := b.setBit (r1 .TIM_TMRk_STATUS k) F.TIM_TMRk_STATUS_FIRED
  let b2 := b1.raiseIf (b.bit (r1 .TIM_TMRk_CTRL k) F.TIM_TMRk_CTRL_EVENT) (24 + k)
  let b3 := forEach (List.range 64) (b2.evoDrive false k at_) (fun n x => x.tmrLatch k n)
  if bitAt (b.fld (r0 .PWR_FROST) F.PWR_FROST_WAKE_TMR) k then b3.thawStart else b3

/-- Timer k has an expiry due at an edge of time u. -/
def Block.tmrDue (b : Block) (k u : Nat) : Bool :=
  let t := NMap.get {} b.tu.tmr k
  b.tmrArmed k && (t.late.any (fun e => decide (e ≤ u)) || decide (t.late = none ∧ t.next ≤ u))

/-- The expiry of timer k that is due at an edge of time u runs (R313); a late run stands before the next expiry. -/
def Block.tmrExpire (b : Block) (k u : Nat) : Block :=
  let t := NMap.get {} b.tu.tmr k
  let p := b.tmrPeriod k
  let put (x : Block) (t : Tmr) : Block := { x with tu := { x.tu with tmr := x.tu.tmr.put k t } }
  if b.tmrDue k u then
    let b1 := b.tmrRun k (t.late.getD t.next)
    if p = 0 then b1.clrFld (r1 .TIM_TMRk_STATUS k) F.TIM_TMRk_STATUS_ARMED
    else if t.late.isSome then put b1 { t with late := none }
    else put b1 { t with next := t.next + p }
  else b

/-- Every timer with an expiry due at an edge of time u acts in that edge, in timer order (R313). -/
def Block.tmrEdge (b : Block) (u : Nat) : Block := forEach (List.range 8) b (fun k x => x.tmrExpire k u)

/-- TIMER_EXPIRE (R313): an armed timer whose time has come; with it the timers that expire on the same edge, after those of the edge before. -/
def execTimerExpire (k : BitVec 3) (s : State) : Host.Outcome State Fault Refusal :=
  s.run (fun b =>
    if b.tmrDue k.toNat b.units then
      let b1 := b.tmrEdge (b.edgeAt (-1))
      if b.tmrDue k.toNat (b.edgeAt (-1)) then b1 else b1.tmrEdge b.units
    else b)

/-- A write of ARM = 1 (R314): an armed timer keeps its target (log entry 35). -/
def Block.tmrArm (b : Block) (k : Nat) (v : Word) : Block :=
  let st := r1 .TIM_TMRk_STATUS k
  let b1 := b.setReg (r1 .TIM_TMRk_CTRL k) (v &&& 7)
  if b.tmrArmed k ∨ CUnit.tu ∈ b.flt.refusing then b1
  else ((b1.setBit st F.TIM_TMRk_STATUS_ARMED).clrFld st F.TIM_TMRk_STATUS_MISSED).tmrTarget k
    (stampUnits (b.reg96 .TIM_TMRk_STARTw k)) b.units (b.edgeAt 1)

/-- A write of ARM = 0: an expiry whose time has come counts as having occurred before it (R314). -/
def Block.tmrDisarm (b : Block) (k : Nat) (v : Word) : Block :=
  ((b.tmrExpire k b.units).setReg (r1 .TIM_TMRk_CTRL k) (v &&& 6)).clrFld (r1 .TIM_TMRk_STATUS k) F.TIM_TMRk_STATUS_ARMED

/-- A write of TIM_TMRk_CTRL. -/
def Block.tmrCtrl (b : Block) (k : Nat) (v : Word) : Block := if v.getLsbD 0 then b.tmrArm k v else b.tmrDisarm k v

/-- TIMER_ARM (R314). -/
def execTimerArm (r : Requester) (k : BitVec 3) (v : Word) (s : State) : Host.Outcome State Fault Refusal :=
  s.run (fun b => b.hostWrite r (r1 .TIM_TMRk_CTRL k.toNat) (v ||| 1) (·.tmrCtrl k.toNat (v ||| 1)))

/-- TIMER_DISARM (R314): the other bits of the register keep their values. -/
def execTimerDisarm (r : Requester) (k : BitVec 3) (s : State) : Host.Outcome State Fault Refusal :=
  s.run (fun b =>
    let v := b.reg (r1 .TIM_TMRk_CTRL k.toNat) &&& 6
    b.hostWrite r (r1 .TIM_TMRk_CTRL k.toNat) v (·.tmrCtrl k.toNat v))

/-- The time is stepped (R290): before it the expiries that are due run. A forward step applies R314 to R316 to every armed timer as armed at the edge after
the step; after a backward step targets are unchanged (R317). A whole second passed over gives no edge of PPS_OUT, and pulses keep their lengths. -/
def Block.timeStep (b : Block) (t : Int) : Block :=
  let k := r0 .TIM_STATUS
  let b0 := b.tmrEdge b.units
  let d : Int := ((t.toNat : Int) - (b.time : Int)) / 2 ^ 24
  let tu : Tu := { b0.tu with
    eviLast := []
    ppsSec := some (((t.toNat / 2 ^ 24 : Nat) - b.ppsOfs - 1) / oneSecond)
    ppsEnd := ((b0.tu.ppsEnd : Int) + d).toNat
    evoEnd := b0.tu.evoEnd.map (fun e => (e.1, ((e.2 : Int) + d).toNat)) }
  let b1 := ((({ b0 with time := t.toNat, tu := tu }).setBit k F.TIM_STATUS_STEPPED).setBit k F.TIM_STATUS_TIME_VALID).raise 23
  if b.time < t.toNat then
    forEach ((List.range 8).filter b0.tmrArmed) b1 (fun j x =>
      if (NMap.get {} x.tu.tmr j).next ≤ x.edgeAt 1 then x.tmrTarget j (NMap.get {} x.tu.tmr j).next (x.edgeAt 1) (x.edgeAt 2) else x)
  else b1

/-! ## The servo (R301 to R308) -/

/-- SRC; 5 to 7 act as 0 (Table 9.11). -/
def Block.timSrc (b : Block) : Nat := if 4 < b.fld (r0 .TIM_CTRL) F.TIM_CTRL_SRC then 0 else b.fld (r0 .TIM_CTRL) F.TIM_CTRL_SRC
/-- STATE of the servo. -/
def Block.servo (b : Block) : Nat := b.fld (r0 .TIM_STATUS) F.TIM_STATUS_STATE
/-- Enter a servo state: event 16 on a change. -/
def Block.setServo (b : Block) (v : Nat) : Block :=
  if b.servo = v then b else (b.setFld (r0 .TIM_STATUS) F.TIM_STATUS_STATE v).raise 16
/-- The active domain and port. -/
def Block.actDom (b : Block) : Bool := b.bit (r0 .TIM_STATUS) F.TIM_STATUS_ACT_DOM
/-- The active port; 31 none. -/
def Block.actPort (b : Block) : Nat := b.fld (r0 .TIM_STATUS) F.TIM_STATUS_ACT_PORT
/-- Make a port active. -/
def Block.setPort (b : Block) (n : Nat) : Block := b.setFld (r0 .TIM_STATUS) F.TIM_STATUS_ACT_PORT n
/-- Change the time unit. -/
def Block.modTu (b : Block) (f : Tu → Tu) : Block := { b with tu := f b.tu }
/-- A port in a domain. -/
def Block.pt (b : Block) (n : Nat) (d : Bool) : PortTime := NMap.get {} b.tu.port (2 * n + b2n d)
/-- Change a port in a domain. -/
def Block.modPt (b : Block) (n : Nat) (d : Bool) (f : PortTime → PortTime) : Block :=
  b.modTu (fun t => { t with port := t.port.put (2 * n + b2n d) (f (b.pt n d)) })

/-- The largest magnitude of RATE: 200 ppm (R287). -/
def rateMax : Int := 219902325

/-- A free value between −n and n. -/
def Block.freshIn (b : Block) (n : Nat) : Int := ((b.fresh 64).toNat % (2 * n + 1) : Nat) - (n : Int)

/-- Put RATE, within its limits. -/
def Block.setRate (b : Block) (v : Int) : Block := b.setReg (r0 .TIM_RATE) (BitVec.ofInt 32 (max (-rateMax) (min rateMax v)))

/-- A new frequency estimate: its computation is not stated, a free value within ±200 ppm (log entry 2). -/
def Block.newFreq (b : Block) : Block := (b.modTu (fun t => { t with freq := b.freshIn rateMax.toNat })).draw

/-- SLEW in units of 2^-40 (Table 9.12). -/
def Block.slewMax (b : Block) : Nat := min 200 (max 1 (b.fld (r0 .TIM_SERVO) F.TIM_SERVO_SLEW)) * 2 ^ 40 / 1000000
/-- THRESH in units of 2^-16 ns. -/
def Block.thresh (b : Block) : Nat := max 1 (b.fld (r0 .TIM_SERVO) F.TIM_SERVO_THRESH) * 65536

/-- In LOCKING and LOCKED the correction, RATE less the frequency estimate, lies within SLEW (R303). -/
def Block.slewBound (b : Block) : Block :=
  if b.servo = 2 ∨ b.servo = 3 then
    b.setRate (max (b.tu.freq - b.slewMax) (min (b.tu.freq + b.slewMax) (b.reg (r0 .TIM_RATE)).toInt))
  else b

/-- The servo enters LOCKING. -/
def Block.enterLocking (b : Block) : Block := (b.setServo 2).slewBound

/-- One sample steers RATE (R303): the gains are not stated, the correction is a free value within SLEW (log entry 36). The frequency estimate moves with the
samples, but for the one that REF10M_IN gives (R301). -/
def Block.steer (b : Block) : Block :=
  let b1 := if b.timSrc = 4 then b else b.newFreq
  (b1.setRate (b1.tu.freq + b1.freshIn b1.slewMax)).draw

/-- HOLDOVER (Table 9.4): RATE is frozen at the frequency estimate. -/
def Block.holdover (b : Block) : Block := (b.setRate b.tu.freq).setServo 4

/-- The median of the samples: the mean of the two in the middle (log entry 37). -/
def medianOf (l : List Int) : Int :=
  let s := sortBy (fun a b => decide (a ≤ b)) l
  ((s[s.length / 2 - 1]?.getD 0) + (s[s.length / 2]?.getD 0)) / 2

/-- Forget the runs and samples of the servo. -/
def Tu.clear (t : Tu) : Tu := { t with samples := [], lockRun := 0, outRun := 0, okRun := 0, changing := false, refused := none }

/-- A master change is accepted (R306). -/
def Block.acceptChange (b : Block) : Block :=
  (((b.modTu Tu.clear).setBit (r0 .TIM_STATUS) F.TIM_STATUS_MASTER_CHG).enterLocking).raise 17

/-- The eight samples of a master change decide it (R306); without the guard it is accepted (R307). -/
def Block.decideChange (b : Block) (o : Int) : Block :=
  if b.bit (r0 .TIM_CTRL) F.TIM_CTRL_MODE ∨ o.natAbs ≤ b.thresh then b.acceptChange
  else (((b.modTu (fun t => { t.clear with refused := some o })).setBit (r0 .TIM_STATUS) F.TIM_STATUS_JUMP_REFUSED).holdover).raise 17

/-- ACQUIRE has its eight samples (R302). -/
def Block.acquireEnd (b : Block) (l : List Int) : Block :=
  if b.bit (r0 .TIM_STATUS) F.TIM_STATUS_TIME_VALID then b.decideChange (medianOf l)
  else
    let b1 := if b.timSrc = 4 then b else b.newFreq
    (((b1.setRate b1.tu.freq).timeStep ((b.time : Int) - medianOf l * 2 ^ 24)).modTu Tu.clear).setServo 2

/-- The lock counts of a sample (Table 9.4, R303). -/
def Block.lockRuns (b : Block) (off : Int) : Block :=
  let n := if off.natAbs ≤ 10 * 65536 then b.tu.lockRun + 1 else 0
  let m := if 50 * 65536 < off.natAbs then b.tu.outRun + 1 else 0
  let b1 := b.modTu (fun t => { t with lockRun := min n 16, outRun := min m 4 })
  if b.servo = 2 ∧ 16 ≤ n then b1.setServo 3 else if b.servo = 3 ∧ 4 ≤ m then b1.setServo 2 else b1

/-- One offset sample of the source in use (R301, R302, R303, R306). -/
def Block.sample (b : Block) (off : Int) : Block :=
  let b1 := b.setReg (r0 .TIM_OFFSET) (BitVec.ofInt 32 (max (-(2 ^ 31)) (min (2 ^ 31 - 1) off)))
  let l := b.tu.samples ++ [off]
  match b.servo with
  | 1 => if l.length < 8 then b1.modTu (fun t => { t with samples := l }) else b1.acquireEnd l
  | 2 => (b1.steer).lockRuns off
  | 3 => (b1.steer).lockRuns off
  | 4 =>
    match b.tu.refused with
    | some _ =>
      let n := if off.natAbs ≤ b.thresh then b.tu.okRun + 1 else 0
      if 8 ≤ n then b1.acceptChange else b1.modTu (fun t => { t with okRun := n })
    | none =>
      if b.tu.changing then (if l.length < 8 then b1.modTu (fun t => { t with samples := l }) else b1.decideChange (medianOf l)) else b1
  | _ => b1

/-- The role of port n in a domain (Table 9.18). -/
def Block.portRole (b : Block) (n : Nat) (d : Bool) : Nat :=
  let r := b.fld (r1 .TIM_PORTn n) (if d then F.TIM_PORTn_ROLE1 else F.TIM_PORTn_ROLE0)
  if n = 16 ∧ r = 1 then 0 else r
/-- The priority of port n in a domain. -/
def Block.portPrio (b : Block) (n : Nat) (d : Bool) : Nat := b.fld (r1 .TIM_PORTn n) (if d then F.TIM_PORTn_PRIO1 else F.TIM_PORTn_PRIO0)

/-- SRC admits port n: the links, or the management port (log entry 131). -/
def Block.sourcePort (b : Block) (n : Nat) : Bool := decide ((b.timSrc = 1 ∧ n < 16) ∨ (b.timSrc = 2 ∧ n = 16))

/-- A domain is in use (Table 9.2). -/
def Block.domIn (b : Block) (d : Bool) : Bool := !d || b.bit (r0 .TIM_CTRL) F.TIM_CTRL_DOM1_EN

/-- Port n is a candidate with a valid path delay, and its link is ACTIVE. -/
def Block.candidate (b : Block) (d : Bool) (n : Nat) : Bool :=
  b.sourcePort n && b.domIn d && decide (b.portRole n d = 2) && b.bit (r1 .TIM_MPDn n) F.TIM_MPDn_VALID && decide (n = 16 ∨ b.lnkState n = 5)

/-- The candidate of a domain with the lowest PRIO, in port order, but for one port (R304). -/
def Block.bestPort (b : Block) (d : Bool) (except : Nat) : Option Nat :=
  let l := (List.range 17).filter (fun n => decide (n ≠ except) && b.candidate d n)
  [0, 1, 2, 3].findSome? (fun p => l.find? (fun n => decide (b.portPrio n d = p)))

/-- The active port of a domain; 31 none (R307). -/
def Block.portOf (b : Block) (d : Bool) : Nat := if d = b.actDom then b.actPort else b.tu.alt

/-- Port n is made the active port of the active domain. -/
def Block.takePort (b : Block) (n : Nat) : Block := (b.setPort n).modTu (fun t => { t.clear with since := b.pw.ctl })

/-- Port n is made the active port of the other domain. -/
def Block.takeAlt (b : Block) (n : Nat) : Block := b.modTu (fun t => { t with alt := n, altSince := b.pw.ctl })

/-- A master change to port n begins (R304, R306, R308). -/
def Block.beginChange (b : Block) (n : Nat) : Block :=
  let b1 := b.takePort n
  if b.servo = 1 then b1 else (b1.holdover).modTu (fun t => { t with changing := true })

/-- A source has become valid where there was none: ACQUIRE (Table 9.4, log entry 132). -/
def Block.sourceBack (b : Block) (n : Nat) : Block := (b.takePort n).setServo 1

/-- A Sync interval in CTL_CLK cycles. -/
def intervalOf (n : Nat) : Nat := 250000000 / 2 ^ (min n 10)
/-- The Sync timeout (R304). -/
def Block.syncTmo (b : Block) : Nat :=
  max 1 (b.fld (r0 .TIM_INTERVAL) F.TIM_INTERVAL_TMO) * intervalOf (b.fld (r0 .TIM_INTERVAL) F.TIM_INTERVAL_SYNC_N)

/-- A CTL_CLK cycle lies within the Sync timeout. -/
def Block.inTmo (b : Block) (c : Nat) : Bool := decide (b.pw.ctl - c < b.syncTmo)

/-- A port's last accepted Sync lies within the timeout. -/
def Block.syncFresh (b : Block) (n : Nat) (d : Bool) : Bool := (b.pt n d).lastSync.any b.inTmo

/-- The master of the active port n of a domain is lost (R304): its link is not ACTIVE, or it has been active for TMO intervals without a Sync. -/
def Block.portLost (b : Block) (d : Bool) (n since : Nat) : Bool :=
  decide (n < 16 ∧ b.lnkState n ≠ 5) || (decide (n ≤ 16) && !b.inTmo since && !b.syncFresh n d)

/-- A domain has accepted a sample within TMO Sync intervals (R307). -/
def Block.domFresh (b : Block) (d : Bool) : Bool := (b.tu.lastSample.find (b2n d)).any b.inTmo

/-- The servo goes over to the other domain, with its active port (R307). -/
def Block.switchDom (b : Block) (back : Bool) : Block :=
  let d := b.actDom
  let b1 := ((b.setFld (r0 .TIM_STATUS) F.TIM_STATUS_ACT_DOM (b2n (!d))).setPort b.tu.alt).setBit (r0 .TIM_STATUS) F.TIM_STATUS_DOM_SWITCH
  let b2 := b1.modTu (fun t => { t.clear with
    alt := b.actPort, altSince := t.since, since := t.altSince, orig := if back then none else some d, origRun := 0 })
  (if b.servo = 1 then b2 else b2.enterLocking).raise 18

/-- The master of the active port is lost (R304, R307). -/
def Block.masterLost (b : Block) : Block :=
  let d := b.actDom
  if b.timSrc = 0 then b
  else match b.bestPort d b.actPort with
    | some n => b.beginChange n
    | none =>
      if b.bit (r0 .TIM_CTRL) F.TIM_CTRL_MODE ∧ b.bit (r0 .TIM_CTRL) F.TIM_CTRL_DOM1_EN ∧ b.tu.alt ≤ 16 ∧ b.domFresh (!d) then
        (b.takePort 31).switchDom false
      else ((b.takePort 31).holdover).raise 17

/-- The master of the other domain's active port is lost: its next candidate. -/
def Block.altLost (b : Block) : Block := b.takeAlt ((b.bestPort (!b.actDom) b.tu.alt).getD 31)

/-- The active ports of both domains are looked at (R304, R307). -/
def Block.watchMasters (b : Block) : Block :=
  let b1 := if b.portLost (!b.actDom) b.tu.alt b.tu.altSince then b.altLost else b
  if b1.portLost b1.actDom b1.actPort b1.tu.since then b1.masterLost else b1

/-- MASTER_LOSS (R304): the link of an active port is not ACTIVE, or no Sync came for TMO intervals. -/
def execMasterLoss (s : State) : Host.Outcome State Fault Refusal := s.run Block.watchMasters

/-- A link leaves ACTIVE: its exchanges and its path delay are void (log entry 133), and its master is lost (R299, R304). -/
def Block.timLinkLost (b : Block) (n : Nat) : Block :=
  let clr (p : PortTime) : PortTime := { p with req := none, sync := none, hi := none }
  let b1 := (((b.modPt n false clr).modPt n true clr).modTu (fun t => { t with mpd := t.mpd.erase n })).setReg (r1 .TIM_MPDn n) 0
  let b2 := if b1.tu.alt = n then b1.altLost else b1
  if b2.timSrc = 1 ∧ b2.actPort = n then b2.masterLost else b2

/-- A port has become valid in a domain, as a candidate with a path delay and a master that is heard (R304, R305). -/
def Block.portValid (b : Block) (n : Nat) (d : Bool) : Block :=
  let better := b.bit (r0 .TIM_CTRL) F.TIM_CTRL_REVERT && decide (b.portPrio n d < b.portPrio (b.portOf d) d)
  if b.candidate d n = false ∨ n = b.portOf d then b
  else if d = b.actDom then (if 16 < b.actPort then b.sourceBack n else if better then b.beginChange n else b)
  else if 16 < b.tu.alt ∨ better then b.takeAlt n
  else b

/-- A grandmaster is reported on a port (R305). -/
def Block.noteGm (b : Block) (n : Nat) (d : Bool) (g : BitVec 64) : Block :=
  let old := (b.pt n d).gm
  let b1 := b.modPt n d (fun p => { p with gm := some g })
  if old.isSome ∧ old ≠ some g ∧ b.sourcePort n ∧ b.actPort = n ∧ b.actDom = d then
    (b1.setBit (r0 .TIM_STATUS) F.TIM_STATUS_GM_CHANGE).raise 17
  else b1

/-- The effective asymmetry A_n. -/
def Block.asym (b : Block) (n : Nat) : Int := (b.reg (r1 .SEC_ASYM_En n)).toInt
/-- The mean path delay of port n. -/
def Block.mpd (b : Block) (n : Nat) : Int := b.fld (r1 .TIM_MPDn n) F.TIM_MPDn_MPD

/-- The timing of a link is served: the link is ACTIVE. -/
def Block.timLink (b : Block) (n : Nat) : Bool := decide (b.lnkState n = 5)

/-- A sample in the domain that the servo has left counts towards the return (R307). -/
def Block.origSample (b : Block) (d : Bool) : Block :=
  if b.tu.orig = some d then
    let n := b.tu.origRun + 1
    if 8 ≤ n ∧ b.bit (r0 .TIM_CTRL) F.TIM_CTRL_REVERT then b.switchDom true else b.modTu (fun t => { t with origRun := min n 8 })
  else b

/-- Port n is a SLAVE candidate in a domain: only there are Sync and Announce taken (R295, Table 9.18). -/
def Block.slave (b : Block) (n : Nat) (d : Bool) : Bool := decide (b.portRole n d = 2)

/-- A Sync is accepted on a SLAVE port n with its master's time, and with the asymmetry in force at its arrival (R294, R295, R301, R307, R492): a port that was not heard, or whose domain has no active port, has become valid;
on the active port of its domain it gives a sample. The filtered offset of a domain is not stated, a free value (log entry 36). -/
def Block.syncAccept (b : Block) (n : Nat) (d : Bool) (t2 t1 a : Int) : Block :=
  if b.slave n d then
    let b1 := b.modPt n d (fun p => { p with lastSync := some b.pw.ctl })
    let b2 := if b.syncFresh n d ∧ b.portOf d ≤ 16 then b1 else b1.portValid n d
    if b2.bit (r1 .TIM_MPDn n) F.TIM_MPDn_VALID ∧ b2.sourcePort n ∧ n = b2.portOf d then
      let off := t2 - t1 - (b2.mpd n + a)
      let b3 := (b2.modTu (fun t => { t with
        lastSample := t.lastSample.put (b2n d) b.pw.ctl, offset := t.offset.put (b2n d) (b2.fresh 64).toInt })).draw
      if d = b3.actDom then b3.sample off else b3.origSample d
    else b2
  else b

/-- A timing symbol of a domain is taken from a link: the link is ACTIVE and the domain is in use (Table 9.2). -/
def Block.timTaken (b : Block) (n : Nat) (d : Bool) : Bool := b.timLink n && b.domIn d

/-- A Sync or Announce of a domain is taken from a link. -/
def Block.timHeard (b : Block) (n : Nat) (d : Bool) : Bool := b.timTaken n d && b.slave n d

/-- A SYNC arrives (R296, R301): it waits for its pair; one that waited is discarded. -/
def Block.syncIn (b : Block) (n : Nat) (y : SyncBody) (stamp : Stamp) : Block :=
  if b.timHeard n y.dom then
    (b.noteGm n y.dom (y.gm.setWidth 64)).modPt n y.dom (fun p =>
      { p with sync := some (y.seq, takenUnits stamp, b.pw.ctl), hi := none, asymAt := b.asym n, steps := y.steps })
  else b

/-- SYNC. -/
def execSync (n : LinkNo) (y : SyncBody) (stamp : Stamp) (s : State) : Host.Outcome State Fault Refusal := s.run (·.syncIn n.toNat y stamp)

/-- The first half of a pair (R297): an unpaired half is discarded. -/
def Block.fupHi (b : Block) (n : Nat) (dom : Bool) (seq : BitVec 16) (void : Bool) (sec : Nat) : Block :=
  if b.timTaken n dom ∧ (b.pt n dom).sync.any (fun y => decide (y.1 = seq)) then b.modPt n dom (fun p => { p with hi := some (void, sec) }) else b

/-- FUP_HI. -/
def execFupHi (n : LinkNo) (dom : Bool) (seq : BitVec 16) (void : Bool) (sec : BitVec 48) (s : State) : Host.Outcome State Fault Refusal :=
  s.run (·.fupHi n.toNat dom seq void sec.toNat)

/-- The second half of a pair completes a Sync (R297, R298). -/
def Block.fupLo (b : Block) (n : Nat) (d : Bool) (seq : BitVec 16) (nsf : Nat) : Block :=
  match (b.pt n d).sync, (b.pt n d).hi with
  | some y, some h =>
    if b.timTaken n d ∧ y.1 = seq then
      let b1 := b.modPt n d (fun p => { p with sync := none, hi := none })
      if h.1 ∨ 2500 < b.pw.ctl - y.2.2 then b1 else b1.syncAccept n d y.2.1 ((h.2 * 1000000000 * 65536 + nsf : Nat) : Int) (b.pt n d).asymAt
    else b
  | _, _ => b

/-- FUP_LO (R297). -/
def execFupLo (n : LinkNo) (dom : Bool) (seq : BitVec 16) (nsf : BitVec 48) (s : State) : Host.Outcome State Fault Refusal :=
  s.run (·.fupLo n.toNat dom seq nsf.toNat)

/-- SYNC_PAIR_TIMEOUT (R297). -/
def execSyncPairTimeout (n : LinkNo) (dom : Bool) (s : State) : Host.Outcome State Fault Refusal :=
  s.run (fun b =>
    if (b.pt n.toNat dom).sync.any (fun y => decide (2500 ≤ b.pw.ctl - y.2.2)) then b.modPt n.toNat dom (fun p => { p with sync := none, hi := none })
    else b)

/-! ## Peer delay (R299) -/

/-- The head of every timing symbol body: DOM and SEQ (Table 9.3). -/
def timHead (d : Bool) (seq : BitVec 16) : Nat := b2n d * 2 ^ 95 + seq.toNat * 2 ^ 79

/-- Send a timing symbol. -/
def Block.sendTim (b : Block) (n typ body : Nat) : Block := b.sendSym n ⟨BitVec.ofNat 8 typ, BitVec.ofNat 96 body⟩

/-- The role of a link in a domain is not OFF, and the link is ACTIVE. -/
def Block.timServed (b : Block) (n : Nat) (d : Bool) : Bool :=
  b.timTaken n d && decide (b.portRole n d ≠ 0)

/-- A PDLY_REQ (R299): on an ACTIVE link every one is answered with PDLY_RESP and PDLY_FUP, whatever the role. -/
def Block.pdlyReq (b : Block) (n : Nat) (dom : Bool) (seq : BitVec 16) (t2 t3 : Stamp) : Block :=
  if b.timLink n then
    (b.sendTim n 0x14 (timHead dom seq)).sendTim n 0x15 (timHead dom seq + ((takenUnits t3 - takenUnits t2) % 2 ^ 64).toNat * 2 ^ 14)
  else b

/-- PDLY_REQ. -/
def execPdlyReq (n : LinkNo) (dom : Bool) (seq : BitVec 16) (t2 t3 : Stamp) (s : State) : Host.Outcome State Fault Refusal :=
  s.run (·.pdlyReq n.toNat dom seq t2 t3)

/-- A PDLY_RESP (R299): the response is stamped. -/
def Block.pdlyResp (b : Block) (n : Nat) (dom : Bool) (seq : BitVec 16) (t4 : Stamp) : Block :=
  if b.timLink n then
    b.modPt n dom (fun p => match p.req with
      | some q => if q.1 = seq then { p with req := some (q.1, q.2.1, some (takenUnits t4)) } else p
      | none => p)
  else b

/-- PDLY_RESP. -/
def execPdlyResp (n : LinkNo) (dom : Bool) (seq : BitVec 16) (t4 : Stamp) (s : State) : Host.Outcome State Fault Refusal :=
  s.run (·.pdlyResp n.toNat dom seq t4)

/-- A path delay of port n joins the average of the last eight, valid after four (R299). -/
def Block.addMpd (b : Block) (n : Nat) (v : Int) : Block :=
  let l := (NMap.get [] b.tu.mpd n ++ [v]).drop ((NMap.get [] b.tu.mpd n).length + 1 - 8)
  let b1 := b.modTu (fun t => { t with mpd := t.mpd.put n l })
  if l.length < 4 then b1
  else
    let b2 := b1.setReg (r1 .TIM_MPDn n) (BitVec.ofNat 32 (2 ^ 31 + (l.foldl (· + ·) 0 / (l.length : Int)).toNat % 2 ^ 31))
    if b.bit (r1 .TIM_MPDn n) F.TIM_MPDn_VALID then b2 else (b2.portValid n false).portValid n true

/-- A PDLY_FUP (R299, R294): the exchange is complete; VOID gives no sample (R298). -/
def Block.pdlyFup (b : Block) (n : Nat) (dom : Bool) (seq : BitVec 16) (void : Bool) (turn : Nat) : Block :=
  match (b.pt n dom).req with
  | some (q, t1, some t4) =>
    if b.timLink n ∧ q = seq then
      let b1 := b.modPt n dom (fun p => { p with req := none })
      if void then b1 else b1.addMpd n ((t4 - t1 - (turn : Int)) / 2)
    else b
  | _ => b

/-- PDLY_FUP. -/
def execPdlyFup (n : LinkNo) (dom : Bool) (seq : BitVec 16) (void : Bool) (turn : BitVec 64) (s : State) : Host.Outcome State Fault Refusal :=
  s.run (·.pdlyFup n.toNat dom seq void turn.toNat)

/-- An interval of TIM_INTERVAL has passed since the last sending, or nothing was sent yet (R299). -/
def Block.intervalDue (b : Block) (f : Fld) (last : Option Nat) : Bool :=
  last.all (fun c => decide (intervalOf (b.fld (r0 .TIM_INTERVAL) f) ≤ b.pw.ctl - c))

/-- PDELAY_INTERVAL (R299): PDLY_REQ leaves with its egress stamp. -/
def execPdelayInterval (n : LinkNo) (dom : Bool) (egress : Stamp) (s : State) : Host.Outcome State Fault Refusal :=
  s.run (fun b =>
    let p := b.pt n.toNat dom
    if b.timServed n.toNat dom ∧ b.intervalDue F.TIM_INTERVAL_PDLY_N p.atPdly then
      (b.sendTim n.toNat 0x13 (timHead dom p.txPdly)).modPt n.toNat dom (fun p =>
        { p with req := some (p.txPdly, takenUnits egress, none), txPdly := p.txPdly + 1, atPdly := some b.pw.ctl })
    else b)

/-! ## Serving time (R299, R300) -/

/-- STEPS_REMOVED and GM that the module announces: its own ID where SRC makes it a grandmaster, 0x3FF behind the management port, else its master's. -/
def Block.gmOf (b : Block) (d : Bool) : Nat × Nat :=
  let p := b.pt (b.portOf d) d
  match b.timSrc with
  | 1 => (min 255 (p.steps.toNat + 1), (p.gm.getD 0x3FF).toNat % 1024)
  | 2 => (min 255 (p.steps.toNat + 1), 0x3FF)
  | _ => (0, b.devId.toNat)

/-- SRC makes the module a grandmaster: free, or a pulse source (log entry 38). -/
def Block.isGm (b : Block) : Bool := decide (b.timSrc = 0 ∨ b.timSrc = 3 ∨ b.timSrc = 4)

/-- SYNC_INTERVAL (R299, R300): a MASTER port sends SYNC and its pair, with the module's own time in the active domain and the egress stamp less the filtered
offset held in the other. -/
def Block.syncOut (b : Block) (n : Nat) (d : Bool) (egress : Stamp) : Block :=
  let p := b.pt n d
  if b.timServed n d ∧ b.portRole n d = 1 ∧ b.intervalDue F.TIM_INTERVAL_SYNC_N p.atSync then
    let q := p.txSync
    let g := b.gmOf d
    let valid := b.isGm || (decide (b.servo = 3) && decide (d = b.actDom))
    let b1 := b.sendTim n 0x10 (timHead d q + g.1 * 2 ^ 71 + g.2 * 2 ^ 61 + b2n valid * 2 ^ 60)
    let st := (unitsStamp (takenUnits egress - (if d = b.actDom then 0 else NMap.get 0 b.tu.offset (b2n d))).toNat).toNat
    ((b1.sendTim n 0x11 (timHead d q + bitsOf st 48 48 * 2 ^ 30)).sendTim n 0x12 (timHead d q + bitsOf st 0 48 * 2 ^ 31)).modPt n d
      (fun p => { p with txSync := q + 1, atSync := some b.pw.ctl })
  else b

/-- SYNC_INTERVAL. -/
def execSyncInterval (n : LinkNo) (dom : Bool) (egress : Stamp) (s : State) : Host.Outcome State Fault Refusal := s.run (·.syncOut n.toNat dom egress)

/-- ANNOUNCE_INTERVAL (R299): GM_CLASS and TRACEABLE of the module's own clock are not stated, free values. -/
def execAnnounceInterval (n : LinkNo) (dom : Bool) (s : State) : Host.Outcome State Fault Refusal :=
  s.run (fun b =>
    let n := n.toNat
    if b.timServed n dom ∧ b.portRole n dom = 1 ∧ b.intervalDue F.TIM_INTERVAL_ANN_N (b.pt n dom).atAnn then
      let q := (b.pt n dom).txAnn
      let g := b.gmOf dom
      let up := b.pt (b.portOf dom) dom
      let own := (b.fresh 9).toNat
      let c := if b.isGm then own else up.cls.toNat * 2 + b2n up.traceable
      ((if b.isGm then b.draw else b).sendTim n 0x16 (timHead dom q + g.1 * 2 ^ 71 + g.2 * 2 ^ 61 + c * 2 ^ 52)).modPt n dom
        (fun p => { p with txAnn := q + 1, atAnn := some b.pw.ctl })
    else b)

/-- An ANNOUNCE (R305). -/
def Block.announceIn (b : Block) (n : Nat) (y : AnnounceBody) : Block :=
  if b.timHeard n y.dom then
    (b.noteGm n y.dom (y.gm.setWidth 64)).modPt n y.dom (fun p => { p with steps := y.steps, cls := y.gmClass, traceable := y.traceable })
  else b

/-- ANNOUNCE. -/
def execAnnounce (n : LinkNo) (y : AnnounceBody) (s : State) : Host.Outcome State Fault Refusal := s.run (·.announceIn n.toNat y)

/-! ## The management port (R292, R294, R295) -/

/-- The domain of a message on the management port, by its transport and its domainNumber (Table 9.15). -/
def Block.mgDom (b : Block) (annexC : Bool) (k : BitVec 8) : Option Bool :=
  if annexC ≠ b.bit (r0 .TIM_MGMT) F.TIM_MGMT_TRANSPORT then none
  else if k.toNat = b.fld (r0 .TIM_MGMT) F.TIM_MGMT_DOMNUM0 then some false
  else if k.toNat = b.fld (r0 .TIM_MGMT) F.TIM_MGMT_DOMNUM1 ∧ b.bit (r0 .TIM_CTRL) F.TIM_CTRL_DOM1_EN then some true else none

/-- Port 16 is a slave in a domain. -/
def Block.mgServed (b : Block) (d : Bool) : Bool := b.slave 16 d

/-- MGMT_SYNC (R292). -/
def execMgmtSync (annexC : Bool) (k : BitVec 8) (seq : BitVec 16) (stamp : Stamp) (s : State) : Host.Outcome State Fault Refusal :=
  s.run (fun b => match b.mgDom annexC k with
    | some d => if b.mgServed d then (b.modTu (fun t => { t with mgSync := t.mgSync.put (b2n d) (seq, takenUnits stamp) })).modPt 16 d (fun p => { p with asymAt := b.asym 16 }) else b
    | none => b)

/-- MGMT_FOLLOW_UP (R292): t1 comes, and a Delay_Req leaves at t3. -/
def execMgmtFollowUp (annexC : Bool) (k : BitVec 8) (seq : BitVec 16) (t1 t3 : Stamp) (s : State) : Host.Outcome State Fault Refusal :=
  s.run (fun b => match b.mgDom annexC k with
    | some d => match b.tu.mgSync.find (b2n d) with
      | some y =>
        if b.mgServed d ∧ y.1 = seq then
          let b1 := b.modTu (fun t => { t with
            mgSync := t.mgSync.erase (b2n d), mgReq := t.mgReq.put (b2n d) (seq, y.2 - (stampUnits t1 : Int), takenUnits t3) })
          (b1.send (.delayReq annexC k seq)).syncAccept 16 d y.2 (stampUnits t1 : Int) (b.pt 16 d).asymAt
        else b
      | none => b
    | none => b)

/-- MGMT_DELAY_RESP (R294): the end-to-end delay. -/
def execMgmtDelayResp (annexC : Bool) (k : BitVec 8) (seq : BitVec 16) (t4 : Stamp) (s : State) : Host.Outcome State Fault Refusal :=
  s.run (fun b => match b.mgDom annexC k with
    | some d => match b.tu.mgReq.find (b2n d) with
      | some y =>
        if b.mgServed d ∧ y.1 = seq then
          let v := (y.2.1 + ((stampUnits t4 : Int) - y.2.2)) / 2
          let b1 := (b.modTu (fun t => { t with mgReq := t.mgReq.erase (b2n d) })).setReg (r1 .TIM_MPDn 16)
            (BitVec.ofNat 32 (2 ^ 31 + v.toNat % 2 ^ 31))
          if b.bit (r1 .TIM_MPDn 16) F.TIM_MPDn_VALID then b1 else (b1.portValid 16 false).portValid 16 true
        else b
      | none => b
    | none => b)

/-- MGMT_ANNOUNCE (R295, R305): the grandmaster lies outside the system. -/
def execMgmtAnnounce (annexC : Bool) (k : BitVec 8) (steps : BitVec 16) (gmClass : BitVec 8) (gm : BitVec 64) (traceable : Bool) (s : State) :
    Host.Outcome State Fault Refusal :=
  s.run (fun b => match b.mgDom annexC k with
    | some d =>
      if b.mgServed d then (b.noteGm 16 d gm).modPt 16 d (fun p =>
        { p with steps := BitVec.ofNat 8 (min 255 steps.toNat), cls := gmClass, traceable := traceable })
      else b
    | none => b)

/-! ## Pulse, reference and event pins (R301, R310, R311) -/

/-- PPS_IN_EDGE (R301): the sample lies within half a second of the whole second. With SRC = 4 a lost 10 MHz reference leaves no valid source, and no sample is
taken (DEDUCED, log entry 132). -/
def execPpsInEdge (stamp : Stamp) (s : State) : Host.Outcome State Fault Refusal :=
  s.run (fun b =>
    let b1 := b.modTu (fun t => { t with lastPps := some b.pw.ctl })
    if b.timSrc = 3 ∨ (b.timSrc = 4 ∧ b.tu.refLost = false) then
      let m := (takenUnits stamp - b.ppsOfs) % oneSecond
      let off := if oneSecond / 2 ≤ m then m - oneSecond else m
      let b2 := if b.servo = 4 ∧ b.tu.changing = false ∧ b.tu.refused = none then b1.sourceBack 31 else b1
      b2.sample off
    else b1)

/-- REF10M_COUNT_WINDOW (R301): the reference is there; with SRC = 4 the count gives the frequency estimate; how is not stated, a free function of the count (log entry 36). -/
def execRef10mCountWindow (count : BitVec 32) (s : State) : Host.Outcome State Fault Refusal :=
  s.run (fun b =>
    let b1 := b.modTu (fun t => { t with refLost := false })
    if b.timSrc = 4 then (b1.modTu (fun t => { t with freq := max (-rateMax) (min rateMax (Config.refRate count)) })).slewBound else b1)

/-- REFERENCE_INPUT_LOSS (R310, R304). -/
def execReferenceInputLoss (ref10m : Bool) (s : State) : Host.Outcome State Fault Refusal :=
  s.run (fun b =>
    let lost := ref10m || (match b.tu.lastPps with | some c => decide (275000000 ≤ b.pw.ctl - c) | none => false)
    if lost then
      let b1 := (b.setBit (r0 .TIM_STATUS) F.TIM_STATUS_REF_LOSS).raise 19
      let b2 := b1.modTu (fun t => if ref10m then { t with refLost := true } else { t with lastPps := none })
      if b.timSrc = 4 ∨ (b.timSrc = 3 ∧ !ref10m) then b2.masterLost else b2
    else b)

/-- PPS_OUT may pulse (R310). -/
def Block.ppsOn (b : Block) : Bool :=
  b.bit (r0 .TIM_PPS) F.TIM_PPS_OUT_FORCE || (b.bit (r0 .TIM_PPS) F.TIM_PPS_OUT_EN && decide (b.servo = 3 ∨ b.servo = 4))

/-- The level of PPS_OUT: low but for its pulses, and until the module is ready (R310, Table 18.3). -/
def Block.ppsLevel (b : Block) : Bool := decide (b.pw.phase = .ready) && b.tu.pps && b.ppsOn

/-- The last whole second whose instant, TIM_PPS_OFS after it, the time has reached (R310). -/
def Block.ppsNow (b : Block) : Int := ((b.units : Int) - b.ppsOfs) / oneSecond

/-- The time has reached a further whole second plus the offset (R310): the edge is placed there, and the pulse lasts WIDTH from it. -/
def Block.ppsEdge (b : Block) : Block :=
  let sec := b.ppsNow
  if b.tu.ppsSec.any (fun t => decide (sec ≤ t)) then b
  else if b.ppsOn then
    b.modTu (fun t => { t with
      pps := true, ppsSec := some sec
      ppsEnd := (sec * oneSecond + b.ppsOfs).toNat + max 1 (b.fld (r0 .TIM_PPS) F.TIM_PPS_WIDTH) * 65536000 })
  else b.modTu (fun t => { t with ppsSec := some sec })

/-- PPS_OUT_EDGE (R310). -/
def execPpsOutEdge (s : State) : Host.Outcome State Fault Refusal := s.run Block.ppsEdge

/-- A write of TIM_PPS_OFS (R310): an edge whose time has come counts as having occurred before it, and the next one is that of the new offset. -/
def Block.ppsOfsWrite (b : Block) (v : Word) : Block :=
  let b1 := b.ppsEdge.setReg (r0 .TIM_PPS_OFS) v
  b1.modTu (fun t => { t with ppsSec := some b1.ppsNow })

/-- A write of TIM_SERVO: the correction in force follows a new SLEW (R303). -/
def Block.servoWrite (b : Block) (v : Word) : Block := (b.writeCodes (r0 .TIM_SERVO) v).slewBound

/-- PPS_OUT_FALL (R310). -/
def execPpsOutFall (s : State) : Host.Outcome State Fault Refusal :=
  s.run (fun b => if b.tu.pps ∧ (b.tu.ppsEnd ≤ b.units ∨ b.ppsOn = false) then b.modTu (fun t => { t with pps := false }) else b)

/-- EVENT_INPUT_EDGE (R311). -/
def execEventInputEdge (n : BitVec 3) (rising : Bool) (stamp : Stamp) (s : State) : Host.Outcome State Fault Refusal :=
  s.run (fun b =>
    let n := n.toNat
    let k := r1 .TIM_EVIn_CTRL n
    let e := b.fld k F.TIM_EVIn_CTRL_EDGE
    let t := takenUnits stamp
    let close := (b.tu.eviLast.find n).any (fun u => decide (u ≤ t ∧ t - u < 2 * 65536))
    if (if rising then e = 1 ∨ e = 3 else e = 2 ∨ e = 3) ∧ !close then
      let q := NMap.get [] b.tu.evi n
      let b1 := b.modTu (fun u => { u with eviLast := u.eviLast.put n t })
      if q.length < 16 then
        ((b1.modTu (fun u => { u with evi := u.evi.put n (q ++ [takeStamp stamp]) })).setFld k F.TIM_EVIn_CTRL_COUNT (q.length + 1)).raiseIf q.isEmpty 20
      else ((b1.setBit k F.TIM_EVIn_CTRL_OVF).setBit (r0 .TIM_STATUS) F.TIM_STATUS_EVI_OVF).raise 21
    else b)

/-- A read of TIM_EVIn_TS2 (R319): the word latched, and the head of the queue is removed; a read of an empty queue returns zero. -/
def Block.eviPop (b : Block) (n : Nat) : Block × Word :=
  match NMap.get [] b.tu.evi n with
  | [] => (b, 0)
  | _ :: r => ((b.modTu (fun u => { u with evi := u.evi.put n r })).setFld (r1 .TIM_EVIn_CTRL n) F.TIM_EVIn_CTRL_COUNT r.length,
      b.reg (r2 .TIM_EVIn_TSw n 2))

/-- A read of TIM_EVIn_TS0 latches the three words of the head (R319). -/
def Block.eviLatch (b : Block) (n : Nat) : Block × Word :=
  match NMap.get [] b.tu.evi n with
  | [] => (b.setReg96 .TIM_EVIn_TSw n 0, 0)
  | t :: _ => (b.setReg96 .TIM_EVIn_TSw n t, t.setWidth 32)

/-- EVI_QUEUE_POP (R319). -/
def execEviQueuePop (r : Requester) (n : BitVec 3) (s : State) : Host.Outcome State Fault Refusal :=
  s.run (fun b => b.hostRead r (r2 .TIM_EVIn_TSw n.toNat 2) (·.eviPop n.toNat))

/-- A read of TIM_NOW_0 latches all 96 bits (R319). -/
def Block.nowLatch (b : Block) : Block × Word :=
  let t := stampOf b.time
  (forEach [0, 1, 2] b (fun w x => x.setReg (r1 .TIM_NOW_w w) (BitVec.ofNat 32 (t.toNat >>> (32 * w)))), t.setWidth 32)

/-- TIME_READ_LATCH (R319). -/
def execTimeReadLatch (r : Requester) (s : State) : Host.Outcome State Fault Refusal :=
  s.run (fun b => b.hostRead r (r1 .TIM_NOW_w 0) Block.nowLatch)

/-! ## Commands -/

/-- TIM_CMD.SET (R290): refused unless SRC = 0 or TIME_VALID = 0 (Table 9.8). -/
def Block.timSet (b : Block) : Block :=
  if b.timSrc = 0 ∨ b.bit (r0 .TIM_STATUS) F.TIM_STATUS_TIME_VALID = false then
    b.timeStep ((stampUnits (BitVec.ofNat 96 ((b.reg (r1 .TIM_SET_w 0)).toNat + 2 ^ 32 * (b.reg (r1 .TIM_SET_w 1)).toNat
      + 2 ^ 64 * (b.reg (r1 .TIM_SET_w 2)).toNat)) * 2 ^ 24 : Nat) : Int)
  else b

/-- TIM_CMD.RELOCK (R306). -/
def Block.timRelock (b : Block) : Block :=
  match b.tu.refused with
  | some o => if b.servo = 4 then (b.timeStep ((b.time : Int) - o * 2 ^ 24)).acceptChange else b
  | none => b

/-- A write of TIM_CMD. -/
def Block.timCmd (b : Block) (v : Word) : Block :=
  let b1 := if v.getLsbD 0 then b.timSet else b
  if v.getLsbD 1 then b1.timRelock else b1

/-- SET (R290). -/
def execTimSet (r : Requester) (s : State) : Host.Outcome State Fault Refusal := s.run (fun b => b.hostWrite r (r0 .TIM_CMD) 1 (·.timCmd 1))

/-- RELOCK (R306). -/
def execRelock (r : Requester) (s : State) : Host.Outcome State Fault Refusal := s.run (fun b => b.hostWrite r (r0 .TIM_CMD) 2 (·.timCmd 2))

/-- The source has changed (R301, R302): FREE with RATE 0, or ACQUIRE with the best candidates of both domains. -/
def Block.newSource (b : Block) : Block :=
  let b1 := (b.takeAlt ((b.bestPort (!b.actDom) 31).getD 31)).modTu (fun t => { t with orig := none, origRun := 0 })
  let b2 := b1.takePort ((b.bestPort b.actDom 31).getD 31)
  if b.timSrc = 0 then (b2.setRate 0).setServo 0 else b2.setServo 1

/-- A write of TIM_CTRL (R302). -/
def Block.timCtrl (b : Block) (v : Word) : Block :=
  let b1 := b.setReg (r0 .TIM_CTRL) (v &&& 0x7F#32)
  if b1.timSrc = b.timSrc then b1 else b1.newSource

/-- TIM_CTRL_WRITE (R302). -/
def execTimCtrlWrite (r : Requester) (v : Word) (s : State) : Host.Outcome State Fault Refusal :=
  s.run (fun b => b.hostWrite r (r0 .TIM_CTRL) v (·.timCtrl v))

end Sys2Proof.Machine
end

