-- ==== Sys2Proof/Machine/Links.lean ====
section
/-!
DEFINITION. Phisan links (chapter 8): states and training, messages and routing, flits, replay, credits, path holds.
What arrives is delivered in LinkRx.lean.
-/
namespace Sys2Proof.Machine

/-! ## Errors and states -/

/-- A bit of LNK_ERRn sets; event 33 + 2n when all were clear (R283). -/
def Block.lnkErr (b : Block) (n : Nat) (f : Fld) : Block :=
  (b.setBit (r1 .LNK_ERRn n) f).raiseIf (decide (b.reg (r1 .LNK_ERRn n) = 0)) (33 + 2 * n)

/-- A link protocol error (R263). -/
def Block.proto (b : Block) (n : Nat) : Block := (b.satFld (r1 .LNK_CNTn n) F.LNK_CNTn_PROTO 1).lnkErr n F.LNK_ERRn_PROTO

/-- Enter a link state; the time of entry is kept. -/
def Block.lnkEnter (b : Block) (n st : Nat) : Block :=
  (b.setFld (r1 .LNK_STATUSn n) F.LNK_STATUSn_STATE st).modLink n (fun l => { l with since := b.pw.ctl })

/-- The partitions of LNK_SEENn. -/
def Block.seen (b : Block) (n : Nat) : List Nat :=
  (List.range 256).filter (fun p => (b.reg (r2 .LNK_SEENn_w n (p / 32))).getLsbD (p % 32))

/-- A segment of partition p crosses link n (R267). -/
def Block.see (b : Block) (n p : Nat) : Block :=
  let k := r2 .LNK_SEENn_w n (p / 32)
  b.setReg k (b.reg k ||| BitVec.ofNat 32 (2 ^ (p % 32)))

/-! ## Path symbols (R266 to R269) -/

/-- PATH_DOWN for partition p (R268, R269): it ends every hold of its ORIGIN and LINK, and is the report of R179 where p is hosted. -/
def Block.takeDown (b : Block) (p origin link : Nat) : Block :=
  let b1 : Block := { b with parts := b.parts.map (fun e => (e.1, { e.2 with holds := e.2.holds.filter (fun h => decide (h ≠ origin * 16 + link)) })) }
  if b1.hosts p then (b1.modPart p (fun x => { x with pathDown := true })).pathDownStop p else b1

/-- PATH_HOLD for partition p (R269). -/
def Block.takeHold (b : Block) (p origin link : Nat) (on : Bool) : Block :=
  let h := origin * 16 + link
  b.modPart p (fun x => { x with holds := (x.holds.filter (fun g => decide (g ≠ h))) ++ (if on then [h] else []) })

/-- Originate a path symbol for partition p, and act on it. -/
def Block.pathOut (b : Block) (n p : Nat) (down on : Bool) : Block :=
  let q := (NMap.get 0 b.pathSeq p + 1) % 256
  let y : PathSym := ⟨on, BitVec.ofNat 8 p, b.devId, BitVec.ofNat 4 n, BitVec.ofNat 8 q⟩
  let b1 := ({ b with pathSeq := b.pathSeq.put p q }).flood p none (pathToSym y down)
  if down then b1.takeDown p b.devId.toNat n else b1.takeHold p b.devId.toNat n on

/-- PATH_HOLD ON for every partition seen on the link (R267); with none seen nothing is originated, and none is outstanding. -/
def Block.holdOn (b : Block) (n : Nat) : Block :=
  let ps := b.seen n
  (forEach ps b (fun p x => x.pathOut n p false true)).modLink n (fun l => { l with
    holdOut := l.holdOut || !ps.isEmpty, holdFor := l.holdFor ++ ps.filter (fun p => decide (p ∉ l.holdFor)) })

/-- PATH_HOLD OFF for the same partitions. -/
def Block.holdOff (b : Block) (n : Nat) : Block :=
  (forEach (b.link n).holdFor b (fun p x => x.pathOut n p false false)).modLink n (fun l => { l with holdOut := false, holdFor := [] })

/-- A path symbol from a link: dropped when its sequence is the one held, else acted on and flooded (R266). -/
def Block.pathIn (b : Block) (n : Nat) (y : PathSym) (down : Bool) : Block :=
  let k := y.origin.toNat * 256 + y.part.toNat
  let p := y.part.toNat
  if b.pathSeen.find k = some y.seq.toNat ∨ (y.origin = b.devId ∧ b.pathSeq.find p = some y.seq.toNat) then b
  else
    let b1 := { b with pathSeen := b.pathSeen.put k y.seq.toNat }
    let b2 := if down then b1.takeDown p y.origin.toNat y.link.toNat else b1.takeHold p y.origin.toNat y.link.toNat y.on
    b2.flood p (some n) (pathToSym y down)

/-! ## Messages and routing (R278 to R280) -/

/-- The class of a message. -/
def Msg.cls : Msg → Nat
  | .seg _ => 1
  | .pkt _ => 2
  | .cfg _ => 3

/-- The destination device of a message that has one. -/
def Msg.dest : Msg → Nat
  | .seg s => s.dst.toNat
  | .pkt p => p.ddev.toNat
  | .cfg _ => 0

/-- The port of a device ID: 16 is the module itself (R278); none for an entry that is not valid. -/
def Block.route (b : Block) (d : Nat) : Option (Nat × Bool) :=
  if d = b.devId.toNat then some (16, false)
  else
    let k := r1 .LNK_ROUTEd d
    let port := b.fld k F.LNK_ROUTEd_PORT
    if b.bit k F.LNK_ROUTEd_VALID ∧ port ≤ 16 then some (port, b.bit k F.LNK_ROUTEd_VC) else none

/-- A message of the module that is discarded is counted in LNK_DROP, one that arrived on a link as a protocol error there (R280, R557). -/
def Block.discard (b : Block) (from_ : Option Nat) : Block :=
  match from_ with
  | some n => b.proto n
  | none => b.satFld (r0 .LNK_DROP) F.LNK_DROP_COUNT 1

/-- The header of a segment (Table 5.2). -/
def segHeader (y : Segment) : Nat :=
  y.src.toNat * 2 ^ 118 + y.dst.toNat * 2 ^ 108 + y.part.toNat * 2 ^ 100 + y.path.toNat * 2 ^ 92 + y.dc.toNat * 2 ^ 60
    + y.first.toNat * 2 ^ 44 + y.count.toNat * 2 ^ 33 + b2n y.last * 2 ^ 32

/-- The header of a packet (Table 12.2). -/
def pktHeader (p : Packet) : Nat :=
  p.kind.toNat * 2 ^ 123 + p.ddev.toNat * 2 ^ 113 + p.dnode.toNat * 2 ^ 104 + p.snode.toNat * 2 ^ 95 + p.sdev.toNat * 2 ^ 85
    + p.age.toNat * 2 ^ 69 + p.txn.toNat * 2 ^ 57 + p.part.toNat * 2 ^ 49 + p.size.toNat * 2 ^ 46 + p.addr.toNat

/-- The kinds of packet of the data network (Table 12.3). -/
def pktHasData (p : Packet) : Bool := p.kind = 0x02 ∨ p.kind = 0x03 ∨ p.kind = 0x04 ∨ p.kind = 0x0B

/-- Cut a number of n bits into flit payloads, lowest bits first (log entry 21). -/
def chunk (v n : Nat) : List (BitVec 416) := (List.range (ceilDiv n 416)).map (fun i => BitVec.ofNat 416 (v >>> (416 * i)))

/-- The flit payloads of a message (R261). -/
def Msg.payloads : Msg → List (BitVec 416)
  | .seg s => chunk (segHeader s + bitsNat s.payload * 2 ^ 128) (128 + 64 * ceilDiv s.count.toNat 64)
  | .pkt p => if pktHasData p then chunk (pktHeader p + p.data.toNat * 2 ^ 128) 640 else chunk (pktHeader p) 128
  | .cfg m => Config.cfgFlits m

/-- The flits of a message, without their sequence numbers. -/
def Msg.flits (m : Msg) (vc : Bool) : List TxFlit :=
  let l := m.payloads
  ((List.range l.length).zip l).map (fun e =>
    ⟨m.cls, 0, if m.cls = 3 then 0 else m.dest, vc, decide (e.1 = 0), decide (e.1 + 1 = l.length), e.2⟩)

/-- Put a message into the transmit queue of a link. -/
def Block.enqueue (b : Block) (n : Nat) (m : TxMsg) : Block := b.modLink n (fun l => { l with queue := l.queue ++ [m] })

/-- Flits of a message that came over a link leave its receive buffer: their credit is freed (R276). -/
def Block.free (b : Block) (from_ : Option (Nat × Nat)) (flits : Nat) : Block :=
  match from_ with
  | some (n, k) => b.modLink n (fun l => { l with
      freed := l.freed.put k ((NMap.get 0 l.freed k + flits) % 4096), held := l.held.put k (NMap.get 0 l.held k - flits) })
  | none => b

/-- A port by which a message can leave: an ACTIVE link or one in RETRAIN (R280). -/
def Block.portOpen (b : Block) (port : Nat) : Bool := decide (b.lnkState port = 5 ∨ b.lnkState port = 6)

/-- The network of a kind of packet (Table 12.3); none for a reserved kind. -/
def pktNet (k : Nat) : Option Nat :=
  if k = 0x01 then some 0
  else if k = 0x02 ∨ k = 0x03 ∨ k = 0x04 ∨ k = 0x0B then some 3
  else if k = 0x05 ∨ k = 0x06 ∨ k = 0x07 ∨ k = 0x0A then some 1
  else if k = 0x08 ∨ k = 0x09 then some 2
  else none

/-- The node of the link gateway to which link n is attached (Table 12.1). -/
def gateNode (n : Nat) : Nat := 17 * (n / 4) + 8

/-- A packet is delivered on this module: its DDEV is the module's own ID, or routed to it (R278). -/
def Block.pktOwn (b : Block) (p : Packet) : Bool := (b.route p.ddev.toNat).any (fun r => decide (r.1 = 16))

/-- The node to which the meshes bring a packet: DNODE, or the gateway of the link by which it leaves (R382); none for a DNODE above 288. -/
def Block.meshDest (b : Block) (p : Packet) : Option Nat :=
  if b.pktOwn p then (if p.dnode.toNat < 289 then some p.dnode.toNat else none)
  else some (match b.route p.ddev.toNat with | some r => gateNode r.1 | none => gateNode 0)

/-- A packet is dropped: a fault of the networks (R381, Table 17.1), of which no partition holds an object. -/
def Block.nocDrop (b : Block) : Block := b.faultU .noc 0x09 0 []

/-- A packet waits at a node for its injection; one of a reserved kind is dropped at its first router (Table 12.3), as is one to a node that does not exist. -/
def Block.inject (b : Block) (node : Nat) (p : Packet) : Block :=
  match pktNet p.kind.toNat, b.meshDest p with
  | some n, some _ => { b with noc := { b.noc with tx := b.noc.tx ++ [{ net := n, node := node, pkt := { p with age := 0 } }] } }
  | _, _ => b.nocDrop

/-- A message of the module is delivered to the module itself (R278); a segment that fails R167 there is discarded. -/
def Block.deliverOwn (b : Block) (m : Msg) : Block :=
  match m with
  | .seg y => if b.segmentOk y then b.takeSegment y else b.discard none
  | .pkt p => b.inject (gateNode 0) p
  | .cfg _ => b

/-- Send a signal or packet message that the module forms itself, by its route (R278 to R280, R557). -/
def Block.sendMsg (b : Block) (m : Msg) : Block :=
  match b.route m.dest with
  | none => b.discard none
  | some (port, vc) =>
    if port = 16 then b.deliverOwn m
    else if b.portOpen port then b.enqueue port { cls := m.cls, vc := vc, flits := m.flits vc } else b.discard none

/-! ## Transmitting (R262 to R265, R276) -/

/-- The bits of a flit (Table 8.3); the CRC is taken over bits [511:32] as bytes, the least significant first (log entry 21). -/
def flitWord (f : TxFlit) (ack : Nat) (nak : Bool) (buf cnt : Nat) : BitVec 512 :=
  let body := f.cls * 2 ^ 509 + f.seq % 4096 * 2 ^ 497 + ack % 4096 * 2 ^ 485 + b2n nak * 2 ^ 484 + (1 + buf / 2) * 2 ^ 482 + (buf % 2) * 2 ^ 481
    + cnt % 4096 * 2 ^ 469 + f.dest % 1024 * 2 ^ 459 + b2n f.vc * 2 ^ 458 + b2n f.som * 2 ^ 457 + b2n f.eom * 2 ^ 456 + f.payload.toNat * 2 ^ 32
  BitVec.ofNat 512 (body + (crc32 (leBytes 60 (body / 2 ^ 32))).toNat)

/-- The tag of the codeword that a link begins after so many flits (R254): an alignment mark once every 4,096 codewords, else zero. -/
def cwTag (flits : Nat) : BitVec 20 := if flits / 10 % 4096 = 0 then Config.alignMark else 0

/-- Put a flit on the wire with the acknowledgement, the NAK and the next buffer's freed count; the first of ten begins a codeword (R254). -/
def Block.putFlit (b : Block) (n : Nat) (f : TxFlit) : Block :=
  b.modLink n (fun l => { l with
    wire := l.wire ++ [flitWord f l.rxSeq l.sendNak l.turn (NMap.get 0 l.freed l.turn)]
    tags := if l.txPos % 10 = 0 then l.tags ++ [cwTag l.txPos] else l.tags
    txPos := l.txPos + 1, sendNak := false, turn := (l.turn + 1) % 6 })

/-- Send a new sequenced flit, kept until it is acknowledged (R262). -/
def Block.putNew (b : Block) (n : Nat) (f : TxFlit) : Block :=
  let g := { f with seq := (b.link n).txSeq }
  (b.putFlit n g).modLink n (fun l => { l with txSeq := (l.txSeq + 1) % 4096, unacked := l.unacked ++ [g] })

/-- The credits of a class and virtual channel. -/
def Block.credit (b : Block) (n cls : Nat) (vc : Bool) : Nat := b.fld (r2 .LNK_CRDn_k n (2 * (cls - 1) + b2n vc)) F.LNK_CRDn_k_AVAIL

/-- Change the available credits of a buffer. -/
def Block.setAvail (b : Block) (n k : Nat) (f : Nat → Nat) : Block :=
  let r := r2 .LNK_CRDn_k n k
  b.setFld r F.LNK_CRDn_k_AVAIL (f (b.fld r F.LNK_CRDn_k_AVAIL))

/-- The message of a class whose next flit could be sent now (R261, R264): the one in progress, else the oldest that has a flit ready and a credit. -/
def Block.readyMsg (b : Block) (n cls : Nat) : Option TxMsg :=
  let l := (b.link n).queue.filter (fun m => decide (m.cls = cls))
  let ok (m : TxMsg) : Bool := !m.flits.isEmpty && decide (0 < b.credit n cls m.vc)
  match l.find? (·.started) with
  | some m => if ok m then some m else none
  | none => l.find? ok

/-- The weight of a class (Table 8.18). -/
def Block.arbWeight (b : Block) (cls : Nat) : Nat :=
  max 1 (b.fld (r0 .LNK_ARB) (if cls = 1 then F.LNK_ARB_SIG_W else if cls = 2 then F.LNK_ARB_PKT_W else F.LNK_ARB_CFG_W))

/-- The class that the weighted round robin serves: the one in turn while it has weight left, else the next ready one in the order signal, packet, configuration (log entry 25). -/
def Block.arbitrate (b : Block) (n : Nat) : Option Nat :=
  let l := b.link n
  let ready (c : Nat) : Bool := (b.readyMsg n c).isSome
  if 0 < l.rrLeft ∧ ready l.rrCls then some l.rrCls
  else (([1, 2, 3].map (fun i => (l.rrCls + i - 1) % 3 + 1)).find? ready)

/-- A signal segment crosses the link with its first flit (R267). -/
def Block.seeFlit (b : Block) (n : Nat) (cls : Nat) (som : Bool) (payload : BitVec 416) : Block :=
  if cls = 1 ∧ som then b.see n (bitsOf payload.toNat 100 8) else b

/-- Send the next flit of a class: one credit is consumed, and a flit that came over a link leaves its buffer. A message leaves the queue with its last flit. -/
def Block.sendCls (b : Block) (n cls : Nat) : Block :=
  match b.readyMsg n cls with
  | none => b
  | some m => match m.flits with
    | [] => b
    | f :: r =>
      let l := b.link n
      let left := if l.rrCls = cls ∧ 0 < l.rrLeft then l.rrLeft - 1 else b.arbWeight cls - 1
      let q := if m.whole && r.isEmpty then l.queue.erase m else updFirst (fun e => decide (e = m)) (fun e => { e with flits := r, started := true }) l.queue
      let b1 := (((b.putNew n f).modLink n (fun y => { y with queue := q, rrCls := cls, rrLeft := left })).free m.from_ 1).seeFlit n cls f.som f.payload
      b1.setAvail n (2 * (cls - 1) + b2n f.vc) (· - 1)

/-- A control flit of up to four symbols (R265). -/
def ctlFlit (l : List Sym) : TxFlit :=
  let w (i : Nat) : Nat := match l[i]? with | some y => y.typ.toNat * 2 ^ 96 + y.body.toNat | none => 0
  ⟨4, 0, 0, false, true, true, BitVec.ofNat 416 (w 0 + w 1 * 2 ^ 104 + w 2 * 2 ^ 208 + w 3 * 2 ^ 312)⟩

/-- A symbol may join the symbols of a flit: at most four; FUP_HI leaves room for its FUP_LO (R297), and a follow-up does not share
the flit of its event symbol, so that it can still be marked VOID when that flit is resent (R298). -/
def symFits (t : List Sym) (y : Sym) : Bool :=
  decide (t.length < (if y.typ = 0x11 then 3 else 4))
    && !(t.any (fun e => decide (((y.typ = 0x11 ∧ e.typ = 0x10) ∨ (y.typ = 0x15 ∧ e.typ = 0x14)) ∧ e.body >>> 79 = y.body >>> 79)))

/-- The symbols of the next control flit: the oldest ones that fit. -/
def packSyms : List Sym → List Sym → List Sym
  | t, [] => t
  | t, y :: r => if symFits t y then packSyms (t ++ [y]) r else t

/-- The four symbols of a control flit. -/
def flitSyms (f : TxFlit) : List Sym :=
  (List.range 4).map (fun i => ⟨BitVec.ofNat 8 (bitsOf f.payload.toNat (104 * i + 96) 8), BitVec.ofNat 96 (bitsOf f.payload.toNat (104 * i) 96)⟩)

/-- Set VOID in a follow-up whose event symbol is among those resent (R298). -/
def voidSym (evs : List Sym) (y : Sym) : Sym :=
  if evs.any (fun e => decide (((y.typ = 0x11 ∧ e.typ = 0x10) ∨ (y.typ = 0x15 ∧ e.typ = 0x14)) ∧ e.body >>> 79 = y.body >>> 79))
  then { y with body := y.body ||| (1#96 <<< 78) } else y

/-- The flits of a link are resent (R298): follow-ups of event symbols among them carry VOID, and an own PDLY_REQ among them gives no sample. -/
def Block.voidFups (b : Block) (n : Nat) : Block :=
  let l := b.link n
  let evs := (l.replay.filter (fun f => decide (f.cls = 4))).flatMap flitSyms
  let fix (f : TxFlit) : TxFlit := if f.cls = 4 then { f with payload := (ctlFlit ((flitSyms f).map (voidSym evs))).payload } else f
  let b1 := b.setLink n { l with ctl := l.ctl.map (voidSym evs), unacked := l.unacked.map fix, replay := l.replay.map fix }
  forEach [false, true] b1 (fun d x => x.modPt n d (fun t =>
    match t.req with
    | some (q, _, _) => if evs.any (fun e => decide (e.typ = 0x13 ∧ e.body >>> 79 = BitVec.ofNat 96 (b2n d * 2 ^ 16 + q.toNat))) then { t with req := none } else t
    | none => t))

/-- The next flit of a replay (R271, R272): the resends of flit ACK + 1 are counted; after a retrain the resend takes a credit of the new count (R273). -/
def Block.sendReplay (b : Block) (n : Nat) (f : TxFlit) (r : List TxFlit) : Block :=
  let l := b.link n
  let first := decide ((l.unacked.head?).map (·.seq) = some f.seq)
  let b1 := (b.putFlit n f).modLink n (fun y => { y with
    replay := r, resends := if first then y.resends + 1 else y.resends, owed := y.owed.filter (fun q => decide (q ≠ f.seq)) })
  if f.seq ∈ l.owed ∧ f.cls ≠ 4 then b1.setAvail n (2 * (f.cls - 1) + b2n f.vc) (· - 1) else b1

/-- A flit boundary of an ACTIVE link (R264): replay, control, a credited class, idle. A sender holds at most 512 flits unacknowledged (R271). -/
def Block.transmit (b : Block) (n : Nat) : Block :=
  if b.lnkState n ≠ 5 then b
  else
    let l := b.link n
    let idle := b.putFlit n ⟨0, 0, 0, false, false, false, 0⟩
    match l.replay with
    | f :: r => b.sendReplay n f r
    | [] =>
      if 512 ≤ l.unacked.length then idle
      else if l.ctl.isEmpty then
        match b.arbitrate n with
        | some c => b.sendCls n c
        | none => idle
      else
        let g := packSyms [] l.ctl
        (b.putNew n (ctlFlit g)).modLink n (fun y => { y with ctl := y.ctl.drop g.length })

/-! ## Training (R255 to R258) -/

/-- The link may train: EN, a valid device ID, and link firmware that runs (R255, R466). -/
def Block.lnkMayTrain (b : Block) (n : Nat) : Bool :=
  b.bit (r1 .LNK_CTRLn n) F.LNK_CTRLn_EN && b.bit (r0 .LNK_DEVID) F.LNK_DEVID_VALID && !b.fw.linksOff && !b.safeMode && decide (b.pw.phase = .ready)

/-- The training attempt has begun. -/
def Block.startTrain (b : Block) (n : Nat) : Block := b.lnkEnter n 2

/-- 1 ms in DOWN (R255): to DETECT; a link that EN lets train but that has no valid device ID stays, and DOWN_WHY says so (Table 8.11; log entry 129). -/
def Block.downEnds (b : Block) (n : Nat) : Block :=
  if b.lnkState n = 0 ∧ 250000 ≤ b.pw.ctl - (b.link n).since then
    if b.lnkMayTrain n then b.lnkEnter n 1
    else if b.bit (r1 .LNK_CTRLn n) F.LNK_CTRLn_EN ∧ b.bit (r0 .LNK_DEVID) F.LNK_DEVID_VALID = false then
      b.setFld (r1 .LNK_STATUSn n) F.LNK_STATUSn_DOWN_WHY 6
    else b
  else b

/-- DOWN_TIMEOUT (R255). -/
def execDownTimeout (n : LinkNo) (s : State) : Host.Outcome State Fault Refusal := s.run (·.downEnds n.toNat)

/-- DETECTION_PATTERN_SEEN (R255, R256): a DOWN link goes to DETECT at once, a link in DETECT starts its attempt. -/
def execDetectionPatternSeen (n : LinkNo) (s : State) : Host.Outcome State Fault Refusal :=
  s.run (fun b =>
    if b.lnkState n.toNat = 0 ∧ b.lnkMayTrain n.toNat then b.lnkEnter n.toNat 1
    else if b.lnkState n.toNat = 1 then b.startTrain n.toNat
    else b)

/-- DETECT_TIMEOUT (R255): 2 ms without the pattern. -/
def execDetectTimeout (n : LinkNo) (s : State) : Host.Outcome State Fault Refusal :=
  s.run (fun b => if b.lnkState n.toNat = 1 ∧ 500000 ≤ b.pw.ctl - (b.link n.toNat).since then b.lnkEnter n.toNat 0 else b)

/-- The buffer sizes (R276). -/
def bufSize (k : Nat) : Nat := if k < 2 then 256 else if k < 4 then 128 else 32

/-- This end requests conservative mode (R258). -/
def Block.wantsCons (b : Block) (n : Nat) : Bool := b.bit (r1 .LNK_CTRLn n) F.LNK_CTRLn_CONS || decide (b.fld (r0 .FW_STATUS) F.FW_STATUS_PAIR = 1)

/-- What this end sends in CONFIG (R257, R258, R273): its ID and link number, its request, the free count of each receive buffer, and the last sequence
number accepted. -/
def Block.configInfo (b : Block) (n : Nat) : ConfigInfo :=
  let l := b.link n
  ⟨b.devId, BitVec.ofNat 4 n, b.wantsCons n, (List.range 6).map (fun k => bufSize k - NMap.get 0 l.held k), BitVec.ofNat 12 l.rxSeq⟩

/-- TRAIN_COMPLETE (R255); inside RETRAIN the same states follow (Table 8.2). -/
def execTrainComplete (n : LinkNo) (s : State) : Host.Outcome State Fault Refusal :=
  s.run (fun b => if b.lnkState n.toNat = 2 then b.setFld (r1 .LNK_STATUSn n.toNat) F.LNK_STATUSn_STATE 3
    else if b.lnkState n.toNat = 6 ∧ (b.link n.toNat).phase = 0 then b.modLink n.toNat (fun l => { l with phase := 1 }) else b)

/-- CONFIG begins: this end sends its part, and counts what its buffers free from there. -/
def Block.configBegin (b : Block) (n : Nat) : Block := b.modLink n (fun l => { l with phase := 2, cfgOut := some (b.configInfo n), freed := [] })

/-- ALIGN_COMPLETE (R255). -/
def execAlignComplete (n : LinkNo) (s : State) : Host.Outcome State Fault Refusal :=
  s.run (fun b => if b.lnkState n.toNat = 3 then (b.setFld (r1 .LNK_STATUSn n.toNat) F.LNK_STATUSn_STATE 4).configBegin n.toNat
    else if b.lnkState n.toNat = 6 ∧ (b.link n.toNat).phase = 1 then b.configBegin n.toNat else b)

/-- The rest of a message that link n receives into buffer k and forwards by a port does not come: what waits of it is discarded (log entry 127). -/
def Block.cutForward (b : Block) (n k port : Nat) : Block :=
  match (b.link port).queue.find? (fun m => decide (m.from_ = some (n, k)) && !m.whole) with
  | none => b
  | some m => (b.modLink port (fun y => { y with queue := y.queue.erase m })).free (some (n, k)) m.flits.length

/-- A message that is being received ends without its EOM. -/
def Block.dropRx (b : Block) (n cls : Nat) (m : RxMsg) : Block :=
  let k := 2 * (cls - 1) + b2n m.vc
  match m.route with
  | some (port, _) => if port < 16 then b.cutForward n k port else b.free (some (n, k)) m.flits.length
  | none => b.free (some (n, k)) m.flits.length

/-- A message that link n was receiving ends with the link (R274): of one that is forwarded the flits that were accepted are still delivered, one for the
module cannot become whole. -/
def Block.endRx (b : Block) (n cls : Nat) (m : RxMsg) : Block :=
  let k := 2 * (cls - 1) + b2n m.vc
  match m.route with
  | some (port, _) => if port < 16 then b.modLink port (fun y => { y with
      queue := (y.queue.map (fun e => if e.from_ = some (n, k) then { e with whole := true } else e)).filter (fun e => !(e.whole && e.flits.isEmpty)) })
      else b.free (some (n, k)) m.flits.length
  | none => b.free (some (n, k)) m.flits.length

/-- Discard what a link still held (R280): a message that came over a link counts there, one of the module in LNK_DROP. -/
def Block.dropHeld (b : Block) (l : Link) : Block :=
  forEach l.queue b (fun m x =>
    let y := x.free m.from_ m.flits.length
    if m.cls = 3 then y else y.discard (m.from_.map (·.1)))

/-- What stays of a link when it leaves its states for DOWN or starts anew: the buffers of messages that still wait elsewhere, the window, what was sent. -/
def Link.anew (l : Link) (since : Nat) : Link := { since := since, wire := l.wire, tags := l.tags, arr := l.arr, window := l.window, held := l.held }

/-- The partitions that stop when link n goes DOWN (R268, R179). -/
def Block.downStops (b : Block) (n : Nat) : List Nat :=
  (b.seen n).filter (fun p => b.hosts p && (b.part p).awaits && !(b.part p).inconsistent)

/-- The link state when a link has left ACTIVE or RETRAIN for DOWN: replay and queues are discarded (R274, R280), one level L entry (R504) names the first of the
partitions that stop (Table 17.10, log entry 23), PATH_DOWN for what it carried (R268). -/
def Block.linkDown (b : Block) (n why : Nat) : Block :=
  let was := b.lnkState n
  let live := decide (was = 5 ∨ was = 6)
  let l := b.link n
  let b0 := forEach l.rx ((b.setFld (r1 .LNK_STATUSn n) F.LNK_STATUSn_DOWN_WHY why).lnkEnter n 0) (fun e x => x.endRx n e.1 e.2)
  let b2 := (b0.clrFld (r1 .LNK_STATUSn n) F.LNK_STATUSn_TRIES).modLink n (fun x => x.anew b.pw.ctl)
  let b3 := forEach (List.range 6) b2 (fun k x => x.setReg (r2 .LNK_CRDn_k n k) 0)
  let b4 := if live then b3.dropHeld l else b3
  let b5 := if was = 5 then (b4.raise (32 + 2 * n)).timLinkLost n else b4
  let b6 := if live then b5.faultEntry .l 0x0A n ((b5.downStops n).headD 0) else b5
  if live then forEach (b.seen n) b6 (fun p x => x.pathOut n p true true) else b6

/-- Conservative mode and its reason (R258); where several hold, forced stands before firmware pairing, and that before the partner's request (DEDUCED, log
entry 167). -/
def Block.consWhy (b : Block) (n : Nat) (partner : Bool) : Nat :=
  if b.bit (r1 .LNK_CTRLn n) F.LNK_CTRLn_CONS then 1
  else if b.fld (r0 .FW_STATUS) F.FW_STATUS_PAIR = 1 then 2
  else if partner then 3 else 0

/-- Drop the flits that the partner has accepted up to ACK. -/
def ackDrop (l : List TxFlit) (ack : Nat) : List TxFlit := l.filter (fun f => decide (0 < (f.seq + 4096 - ack) % 4096 ∧ (f.seq + 4096 - ack) % 4096 < 2048))

/-- CONFIG ends (R257, R258, R273): an ID conflict goes to DOWN, else the link is ACTIVE with the partner's free counts as credit; after a retrain the sender
resends from the partner's ACK + 1, and a resend takes its credit from the new count (DEDUCED from R277, log entry 128); after a training from DOWN the
sequences start anew. DOWN_WHY clears on entry to ACTIVE, and CONS, CONS_WHY, NBR_ID and NBR_LINK stand until the next CONFIG (DEDUCED, log entry 168). -/
def Block.configEnd (b : Block) (n : Nat) (x : ConfigInfo) : Block :=
  let st := b.lnkState n
  if st = 4 ∨ (st = 6 ∧ (b.link n).phase = 2) then
    if x.devId = b.devId then b.linkDown n 5
    else
      let why := b.consWhy n x.cons
      let k := r1 .LNK_STATUSn n
      let b1 := ((((b.setFld k F.LNK_STATUSn_NBR_ID x.devId.toNat).setFld k F.LNK_STATUSn_NBR_LINK x.link.toNat).setFld k F.LNK_STATUSn_CONS
        (b2n (decide (why ≠ 0)))).setFld k F.LNK_STATUSn_CONS_WHY why).clrFld k F.LNK_STATUSn_TRIES
      let b2 := forEach (List.range 6) b1 (fun j y => y.setReg (r2 .LNK_CRDn_k n j)
        (BitVec.ofNat 32 (bufSize j * 2 ^ 16 + min (bufSize j) (x.free[j]?.getD 0))))
      let b3 := if st = 6 then (b2.modLink n (fun l =>
          let u := ackDrop l.unacked x.ack.toNat
          { l with
            unacked := u, replay := u, owed := u.map (·.seq), resends := 0, nakOut := false, sendNak := false, freedIn := [], credFix := false
            cwPos := 0, cwBad := false, txPos := 0 })).voidFups n
        else b2.modLink n (fun l => { l.anew l.since with freed := l.freed })
      let b4 := ((b3.lnkEnter n 5).clrFld k F.LNK_STATUSn_DOWN_WHY).raise (32 + 2 * n)
      if st = 6 ∧ (b.link n).credFix then b4.corrected else b4
  else b

/-- The tries of a retrain (Table 8.19). -/
def Block.tries (b : Block) : Nat := min 3 (max 1 (b.fld (r0 .LNK_CFG) F.LNK_CFG_TRIES))

/-- An attempt has not reached ACTIVE (R256, R274): one from DETECT returns to DOWN; a retrain tries again or goes DOWN. -/
def Block.attemptFails (b : Block) (n : Nat) : Block :=
  let st := b.lnkState n
  if st = 2 ∨ st = 3 ∨ st = 4 then b.lnkEnter n 0
  else if st = 6 then
    let t := b.fld (r1 .LNK_STATUSn n) F.LNK_STATUSn_TRIES + 1
    if b.tries ≤ t then (b.linkDown n 2).lnkErr n F.LNK_ERRn_RETRAIN_FAIL
    else (b.setFld (r1 .LNK_STATUSn n) F.LNK_STATUSn_TRIES t).modLink n (fun l => { l with since := b.pw.ctl, phase := 0 })
  else b

/-- An ACTIVE link enters RETRAIN (R272, R273, R267); LIMIT reads 0 outside ACTIVE (Table 8.15). -/
def Block.retrain (b : Block) (n : Nat) : Block :=
  if b.lnkState n = 5 then
    let b1 := ((b.lnkEnter n 6).modLink n (fun l => { l with phase := 0 })).satFld (r1 .LNK_CNTn n) F.LNK_CNTn_RETRAINS 1
    let b2 := forEach (List.range 6) b1 (fun k x => x.clrFld (r2 .LNK_CRDn_k n k) F.LNK_CRDn_k_LIMIT)
    ((b2.raise (32 + 2 * n)).holdOn n).timLinkLost n
  else b

/-- RETRAIN (R272). -/
def execRetrain (r : Requester) (n : LinkNo) (s : State) : Host.Outcome State Fault Refusal :=
  s.run (fun b => b.hostWrite r (r1 .LNK_CTRLn n.toNat) ((b.reg (r1 .LNK_CTRLn n.toNat)) ||| 2) (·.retrain n.toNat))

/-- ALIGNMENT_LOSS (R272). -/
def execAlignmentLoss (n : LinkNo) (s : State) : Host.Outcome State Fault Refusal := s.run (·.retrain n.toNat)

/-- The flits of a replay in progress go out, and then the symbols that wait (R264). -/
def Block.flushCtl (b : Block) (n : Nat) : Nat → Block
  | 0 => b
  | i + 1 =>
    let l := b.link n
    match l.replay with
    | f :: r => (b.sendReplay n f r).flushCtl n i
    | [] =>
      if l.ctl.isEmpty then b
      else
        let g := packSyms [] l.ctl
        ((b.putNew n (ctlFlit g)).modLink n (fun y => { y with ctl := y.ctl.drop g.length })).flushCtl n i

/-- LINK_RESET is the last symbol before a deliberate down (R282): it goes out behind a replay in progress, so that the partner accepts it in sequence (R264,
R270). -/
def Block.deliberateDown (b : Block) (n why : Nat) : Block :=
  if b.lnkState n = 5 then
    let b1 := b.modLink n (fun l => { l with ctl := l.ctl ++ [⟨4, 0⟩] })
    (b1.flushCtl n ((b1.link n).replay.length + (b1.link n).ctl.length)).linkDown n why
  else if b.lnkState n = 6 then b.linkDown n why
  else (b.setFld (r1 .LNK_STATUSn n) F.LNK_STATUSn_DOWN_WHY why).lnkEnter n 0

/-- A write of LNK_CTRLn: CONS is kept, EN = 0 disables after LINK_RESET, EN = 1 enables to DOWN (R255, R282) unless the firmware keeps every link DISABLED
(R466, R467). -/
def Block.lnkCtrl (b : Block) (n : Nat) (v : Word) : Block :=
  let k := r1 .LNK_CTRLn n
  let b1 := b.setReg k (v &&& 5)
  let b2 := if v.getLsbD 0 then (if b.lnkState n = 7 ∧ b.fw.linksOff = false then b1.lnkEnter n 0 else b1)
    else if b.lnkState n = 7 then b1 else (b1.deliberateDown n 4).lnkEnter n 7
  if v.getLsbD 1 then b2.retrain n else b2

/-- The states follow EN of LNK_CTRLn, however it was written (Table 8.2). -/
def Block.linksFollow (b : Block) : Block :=
  forEach (List.range 16) b (fun n x =>
    if x.bit (r1 .LNK_CTRLn n) F.LNK_CTRLn_EN then (if x.lnkState n = 7 then x.lnkEnter n 0 else x)
    else if x.lnkState n = 7 then x else (x.deliberateDown n 4).lnkEnter n 7)

/-- A write of LNK_DEVID: no effect while a link is in a state other than DOWN or DISABLED (Table 8.17); links left DOWN for want of an ID say why. -/
def Block.lnkDevid (b : Block) (v : Word) : Block :=
  if (List.range 16).all (fun n => decide (b.lnkState n = 0 ∨ b.lnkState n = 7)) then b.setReg (r0 .LNK_DEVID) (v &&& 0x800003FF#32) else b

/-- LNK_DEVID_WRITE (R255). -/
def execLnkDevidWrite (r : Requester) (v : Word) (s : State) : Host.Outcome State Fault Refusal :=
  s.run (fun b => b.hostWrite r (r0 .LNK_DEVID) v (·.lnkDevid v))

/-- PATH_HOLD_END (R267): 1 µs since the last NAK, the link ACTIVE throughout. -/
def execPathHoldEnd (n : LinkNo) (s : State) : Host.Outcome State Fault Refusal :=
  s.run (fun b =>
    let l := b.link n.toNat
    if l.holdOut ∧ b.lnkState n.toNat = 5 ∧ 250 ≤ b.pw.ctl - l.nakAt ∧ 250 ≤ b.pw.ctl - l.since then b.holdOff n.toNat else b)

/-- PATH_HOLD (R266, R269). -/
def execPathHold (n : LinkNo) (y : PathSym) (s : State) : Host.Outcome State Fault Refusal := s.run (·.pathIn n.toNat y false)

/-- PATH_DOWN (R266, R269). -/
def execPathDown (n : LinkNo) (y : PathSym) (s : State) : Host.Outcome State Fault Refusal := s.run (·.pathIn n.toNat y true)

/-- The partner resets its link (R282). -/
def Block.linkReset (b : Block) (n : Nat) : Block := if b.lnkState n = 5 ∨ b.lnkState n = 6 then b.linkDown n 3 else b

/-- FEC_WINDOW (R283): the 1 ms window ends. -/
def execFecWindow (n : LinkNo) (s : State) : Host.Outcome State Fault Refusal :=
  s.run (fun b =>
    let b1 := if b.fld (r0 .LNK_CFG) F.LNK_CFG_DEGRADE < (b.link n.toNat).window then b.lnkErr n.toNat F.LNK_ERRn_FEC_DEGRADE else b
    b1.modLink n.toNat (fun l => { l with window := 0 }))

/-! ## Replay (R270, R271) -/

/-- The receiver sends a NAK with its current ACK, and PATH_HOLD with it (R267, R270). -/
def Block.sendNak (b : Block) (n : Nat) : Block :=
  let b1 := b.modLink n (fun l => { l with nakOut := true, sendNak := true, nakAt := b.pw.ctl, nakSent := b.pw.ctl })
  if (b.link n).holdOut then b1 else b1.holdOn n

/-- NAK_RESEND_TIMEOUT (R270): 300 ns after the NAK. -/
def execNakResendTimeout (n : LinkNo) (s : State) : Host.Outcome State Fault Refusal :=
  s.run (fun b => if (b.link n.toNat).nakOut ∧ b.lnkState n.toNat = 5 ∧ 75 ≤ b.pw.ctl - (b.link n.toNat).nakSent then b.sendNak n.toNat else b)

/-- The partner acknowledges up to ACK. -/
def Block.ackIn (b : Block) (n ack : Nat) : Block :=
  b.modLink n (fun l =>
    let u := ackDrop l.unacked ack
    { l with unacked := u, replay := ackDrop l.replay ack, resends := if u.length = l.unacked.length then l.resends else 0 })

/-- A NAK (R271, R272): every flit from ACK + 1 is resent; one resent REPLAY_LIMIT times already starts a retrain. Of the causes of R272 only this one sets
LNK_ERRn.REPLAY_LIMIT, as the name of the bit says (DEDUCED, log entry 166). -/
def Block.nakIn (b : Block) (n ack : Nat) : Block :=
  if b.lnkState n ≠ 5 then b
  else
    let b1 := (b.ackIn n ack).satFld (r1 .LNK_CNTn n) F.LNK_CNTn_REPLAYS 1
    let l := b1.link n
    if max 1 (b.fld (r0 .LNK_CFG) F.LNK_CFG_REPLAY_LIMIT) ≤ l.resends ∧ !l.unacked.isEmpty then
      ((b1.lnkErr n F.LNK_ERRn_REPLAY_LIMIT).modLink n (fun y => { y with nakAt := b.pw.ctl })).retrain n
    else
      let b2 := b1.modLink n (fun y => { y with replay := y.unacked, nakAt := b.pw.ctl })
      (b2.voidFups n).corrected

/-- NAK_RECEIVE (R271). -/
def execNakReceive (n : LinkNo) (ack : BitVec 12) (s : State) : Host.Outcome State Fault Refusal := s.run (·.nakIn n.toNat ack.toNat)

/-- The credits of link n are out of balance: it retrains, which mends them (Table 17.4). -/
def Block.credBad (b : Block) (n : Nat) : Block := if b.lnkState n = 5 then (b.modLink n (fun l => { l with credFix := true })).retrain n else b

/-- A freed count of buffer k reaches the sender (R276). A count that frees more flits than were sent breaks the balance of Table 17.4: flits sent less flits
freed would exceed LIMIT, modulo 4,096. -/
def Block.creditIn (b : Block) (n k cnt : Nat) : Block :=
  let d := (cnt + 4096 - NMap.get 0 (b.link n).freedIn k) % 4096
  if bufSize k < b.fld (r2 .LNK_CRDn_k n k) F.LNK_CRDn_k_AVAIL + d then b.credBad n
  else (b.setAvail n k (fun a => a + d)).modLink n (fun l => { l with freedIn := l.freedIn.put k cnt })

end Sys2Proof.Machine
end

