-- ==== Sys2Proof/Machine/Bp.lean ====
section
/-!
DEFINITION. Boolean processors (R39 to R59): decoding, evaluation, effects and faults of one instruction, routes and frame segments (R158, R164, R165),
and the instructions as commands of their own. Every instruction reads the state at the start of its step.
-/
namespace Sys2Proof.Machine

/-! ## The instruction word (Table 2.1) -/

/-- The operation code of a word. -/
def bpOpc (w : BitVec 96) : Nat := bitsOf w.toNat 84 4

/-- The other fields of a word. -/
def bpArgs (w : BitVec 96) : BpArgs :=
  ⟨w.extractLsb' 68 16, w.extractLsb' 55 13, w.extractLsb' 42 13, w.extractLsb' 29 13, w.extractLsb' 16 13, w.extractLsb' 4 12,
    w.extractLsb' 1 3, w.getLsbD 0⟩

/-- What one instruction does: fault codes, result, value-store write, next value, lane, TRIG input, response queue, probe. -/
structure BpOut where
  codes : List Nat := []
  res : Option Bool := none
  write : Option (Nat × Bool) := none
  next : Option (Nat × Bool) := none
  lane : Option (Nat × Bool) := none
  trig : Option Nat := none
  wait : Option Nat := none
  probe : Option Bool := none
  deriving DecidableEq, Repr

/-- The route recorded for an outbound lane at a step (R53). -/
def Part.routeAt (x : Part) (c step lane : Nat) : Option Route :=
  x.man.routes.find? (fun r => decide (r.c = c ∧ r.step = step ∧ r.lane = lane))

/-- Code k when a condition holds. -/
def when_ (x : Bool) (k : Nat) : List Nat := if x then [k] else []

/-- The operand values and the result of an evaluating instruction (R40); none when a selector is reserved (R42). -/
def Block.evalBp (b : Block) (p c bp : Nat) (w : BpArgs) : Option Bool :=
  match b.operand p c bp w.a, b.operand p c bp w.b, b.operand p c bp w.c, b.operand p c bp w.d with
  | some va, some vb, some vc, some vd => some (ttBit w.tt va vb vc vd)
  | _, _, _, _ => none

/-- The address of EVALS (R55). -/
def Block.evalsAddr (b : Block) (c : Nat) (w : BpArgs) : Nat := b.fld (r1 .CLU_CFG c) F.CLU_CFG_EVALS_PAGE * 64 + w.dst.toNat / 64

/-- The codes that an operation code's own rules raise (Table 2.6). -/
def Block.bpCodes (b : Block) (p c bp opc : Nat) (w : BpArgs) : List Nat :=
  let x := b.part p
  let q := b.clu c
  let dst := w.dst.toNat
  let noRoute := (x.routeAt c x.step (dst % 64)).isNone
  let src := (b.evalBp p c bp w).isNone
  when_ (decide (8 ≤ opc)) 1 ++ when_ (decide (w.flg ≠ 0)) 2
    ++ when_ (decide (opc ≠ 0 ∧ opc ≠ 5 ∧ opc < 8) && src) 3
    ++ when_ (decide (opc = 1 ∨ opc = 7) && q.isState bp dst) 4
    ++ when_ ((decide (opc = 2) && !q.isState bp dst) || (decide (opc = 4) && !q.isState bp (b.evalsAddr c w))) 5
    ++ when_ ((decide (opc = 3) && (decide (64 ≤ dst) || noRoute)) || (decide (opc = 4) && noRoute)) 6
    ++ when_ (decide (decide (opc = 7) ≠ decide (x.step + 1 = x.len))) 8
    ++ when_ (decide (opc = 6 ∧ 8 ≤ dst)) 10
    ++ when_ (decide (opc = 5) && !b.queueOk p c (w.a.toNat % 16)) 11

/-- What the instruction of BP `bp` does at the current step (R43 to R59): a faulting instruction has no effect. -/
def Block.bpOut (b : Block) (p c bp opc : Nat) (w : BpArgs) : BpOut :=
  let codes := b.bpCodes p c bp opc w
  let dst := w.dst.toNat
  if codes ≠ [] then { codes := codes }
  else if opc = 0 then {}
  else if opc = 5 then { wait := some (w.a.toNat % 16) }
  else
    let v := (b.evalBp p c bp w).getD false
    let o : BpOut := { res := some v, probe := if w.prb then some v else none }
    match opc with
    | 2 => { o with next := some (dst, v) }
    | 3 => { o with lane := some (dst, v) }
    | 4 => { o with next := some (b.evalsAddr c w, v), lane := some (dst % 64, v) }
    | 6 => { o with trig := if v then some dst else none }
    | _ => { o with write := some (dst, v) }

/-- Two or more BPs on one lane (R54): each of them faults with 0x07 and has no effect, but the lane carries the value of the lowest. -/
def resolveLanes (outs : List (Nat × BpOut)) : List (Nat × BpOut) :=
  outs.map (fun e => match e.2.lane with
    | none => e
    | some (l, v) =>
      let same := outs.filter (fun f => match f.2.lane with | some (m, _) => decide (m = l) | none => false)
      if same.length < 2 then e
      else (e.1, { codes := [7], lane := if (same.head?.map (·.1)) = some e.1 then some (l, v) else none }))

/-! ## Routes and frame segments -/

/-- The index of an outbound path. -/
def Part.outIdx (x : Part) (dev path : Nat) : Option Nat := firstIdx (fun q => decide (q.dev = dev ∧ q.path = path)) x.man.outs

/-- A bit is driven on an outbound lane (R52): it enters the network for each on-die destination, and each frame slot takes it. -/
def Block.driveLane (b : Block) (p c lane : Nat) (v : Bool) : Block :=
  b.modPart p (fun x =>
    match x.routeAt c x.step lane with
    | none => x
    | some r => forEach r.dests x (fun d y => match d with
      | .die c2 l lat => { y with bits := y.bits ++ [⟨c2, l, v, lat⟩] }
      | .frame dev path slot => match y.outIdx dev path with
        | some i => { y with outHeld := y.outHeld.put (i * 65536 + slot) v }
        | none => y))

/-- The slots of segment g of a path. -/
def OutPath.slotsOf (q : OutPath) (g : Nat) : List Nat := (List.range q.segs.length).filter (fun j => decide ((q.segs[j]?.map (·.1)) = some g))

/-- The segment numbers of a path, ascending (0xFF names none). -/
def OutPath.segNums (q : OutPath) : List Nat := (List.range 255).filter (fun g => q.segs.any (fun e => decide (e.1 = g)))

/-- The last step at which a recorded route writes a slot of segment g (R165). -/
def Part.segStep (x : Part) (q : OutPath) (g : Nat) : Option Nat :=
  let steps := x.man.routes.filterMap (fun r =>
    if r.dests.any (fun d => match d with
      | .frame dev path slot => decide (dev = q.dev ∧ path = q.path ∧ (q.segs[slot]?.map (·.1)) = some g)
      | .die _ _ _ => false) then some r.step else none)
  if steps.isEmpty then none else some (steps.foldl max 0)

/-- Runs of consecutive numbers of an ascending list: first and length. -/
def runsOf : List Nat → List (Nat × Nat)
  | [] => []
  | j :: r => match runsOf r with
    | (f, n) :: t => if j + 1 = f then (j, n + 1) :: t else (j, 1) :: (f, n) :: t
    | [] => [(j, 1)]

/-- Emit one segment of Table 5.2. -/
def Block.emitRun (b : Block) (p i : Nat) (q : OutPath) (first count : Nat) (last : Bool) : Block :=
  let x := b.part p
  let y : Segment := ⟨b.devId, BitVec.ofNat 10 q.dev, BitVec.ofNat 8 p, BitVec.ofNat 8 q.path, x.dc.setWidth 32, BitVec.ofNat 16 first,
    BitVec.ofNat 11 count, last, (List.range count).map (fun j => NMap.get false x.outHeld (i * 65536 + first + j))⟩
  b.sendMsg (.seg y)

/-- Emit manifest segment g of path i: one segment for each run of consecutive slots (R165). -/
def Block.emitSeg (b : Block) (p i : Nat) (q : OutPath) (g : Nat) (last : Bool) : Block :=
  let rs := runsOf (q.slotsOf g)
  (forEach ((List.range rs.length).zip rs) b (fun e x => x.emitRun p i q e.2.1 e.2.2 (last && decide (e.1 + 1 = rs.length)))).modPart p
    (fun x => { x with emitted := x.emitted ++ [i * 256 + g] })

/-- The outbound paths with their indices. -/
def Part.outPaths (x : Part) : List (Nat × OutPath) := (List.range x.man.outs.length).zip x.man.outs

/-- Emit every segment that is complete at the end of step s and not yet emitted (R165); those of the END step go at the Equinox. -/
def Block.emitAt (b : Block) (p s : Nat) : Block :=
  let x := b.part p
  if s + 1 = x.len then b
  else forEach x.outPaths b (fun e y => forEach e.2.segNums y (fun g z =>
    if i256 e.1 g ∈ (z.part p).emitted then z
    else match x.segStep e.2 g with
      | some t => if t = s then z.emitSeg p e.1 e.2 g false else z
      | none => if s = 0 then z.emitSeg p e.1 e.2 g false else z))
where
  /-- the number of a segment among those of all paths -/
  i256 (i g : Nat) : Nat := i * 256 + g

/-- At the Equinox every segment not yet sent goes, the last with LAST; a closing segment where none is left (R165). -/
def Block.emitRest (b : Block) (p : Nat) : Block :=
  let x := b.part p
  (forEach x.outPaths b (fun e y =>
    let rest := e.2.segNums.filter (fun g => decide (e.1 * 256 + g ∉ x.emitted))
    match rest.getLast? with
    | none => y.emitRun p e.1 e.2 0 0 true
    | some z => forEach rest y (fun g w => w.emitSeg p e.1 e.2 g (decide (g = z))))).modPart p (fun y => { y with emitted := [] })

/-! ## Effects -/

/-- The effects of one instruction on its cluster but for lanes and WAIT: latch, value store, next value, TRIG input, probe. -/
def Cluster.applyOut (x : Cluster) (bp step : Nat) (o : BpOut) : Cluster :=
  let x1 := match o.res with | some v => { x with latch := NMap.set false x.latch bp v } | none => x
  let x2 := match o.write with | some (a, v) => { x1 with vs := NMap.set false x1.vs (bp * 4096 + a) v } | none => x1
  let x3 := match o.next with | some (a, v) => { x2 with next := x2.next.put (bp * 4096 + a) v } | none => x2
  let x4 := match o.trig with | some i => { x3 with trigIn := x3.trigIn ||| BitVec.ofNat 8 (2 ^ i) } | none => x3
  match o.probe with | some v => { x4 with probes := x4.probes ++ [(step, bp, v)] } | none => x4

/-- A fault of a step: the CAUSE of its abort, and the class and unit of its log entry where it has one. -/
abbrev StepFault := Nat × Option (Nat × Nat)

/-- Enter the faults of a step in the log, then stop the partition once, with the CAUSE of the first fault (R84, R180). -/
def Block.stepFaults (b : Block) (p : Nat) (fs : List StepFault) : Block :=
  let b1 := forEach (fs.filterMap (·.2)) b (fun e x => x.faultEntry .p e.1 e.2 p)
  match fs with
  | [] => b1
  | f :: _ => b1.faultStop p f.1

/-- The queues that the WAITs of a step name, each once with its lowest-numbered BP (R138). -/
def waitsOf (outs : List (Nat × BpOut)) : List (Nat × Nat) :=
  (List.range 16).filterMap (fun q => (outs.find? (fun e => decide (e.2.wait = some q))).map (fun e => (q, e.1)))

/-- A WAIT takes the oldest entry of its queue (R138, R139): its data are due on the lanes after `left` further ends of steps. A WAIT that raises FAR_DUE
has consumed its entry, as R138 says of every WAIT (DEDUCED, log entry 107). -/
def Block.waitTake (b : Block) (c q bp left : Nat) : Block × List StepFault :=
  let step := (b.part ((b.cluPart c).getD 0)).step
  match (b.clu c).oldest q with
  | none => (b.memFault c { code := 6, wait := true, bp := bp } step, [(4, none)])
  | some e =>
    if !e.present then (b, [])
    else
      let b1 := b.modClu c (fun x => x.dropEnt (q % 4) e.num)
      if e.err then (b1.memFault c { code := 7, wait := true, bp := bp } step, [(4, some (8, unitOf c (q % 4)))])
      else if e.ack then (b1, [])
      else (b1.modClu c (fun x => { x with rets := x.rets ++ [⟨true, q, bp, e.base, e.dw, e.data, left⟩] }), [])

/-- Fold a function that yields faults over a list. -/
def foldFaults {α : Type} (l : List α) (b : Block) (f : α → Block → Block × List StepFault) : Block × List StepFault :=
  l.foldl (fun z a => let y := f a z.1; (y.1, z.2 ++ y.2)) (b, [])

/-- The schedule faults of a step in the order of their records (R85): by BP, then by code; each with the step that its record shows. `due` lists the words
of BP stores whose scrub errors fault at this step (R249). -/
def faultOrder (bad : List (Nat × BpOut)) (due : List (Nat × Nat)) (step : Nat) : List (Nat × List Nat × Nat) :=
  sortBy (fun e f => decide (e.1 * 16 + lowCode e.2.1 ≤ f.1 * 16 + lowCode f.2.1))
    (bad.map (fun e => (e.1, e.2.codes, step)) ++ due.map (fun e => (e.1, [9], e.2)))

/-- The effects of the instructions of a cluster's BPs in one step (R43 to R59, R83 to R85). -/
def Block.applyBps (b : Block) (p c : Nat) (outs0 : List (Nat × BpOut)) (due : List (Nat × Nat)) (left : Nat) : Block × List StepFault :=
  let x := b.part p
  let outs := resolveLanes outs0
  let b1 := b.modClu c (fun q => outs.foldl (fun y e => y.applyOut e.1 x.step e.2) q)
  let b2 := forEach outs b1 (fun e y => match e.2.lane with | some (l, v) => y.driveLane p c l v | none => y)
  let bad := outs.filter (fun e => decide (e.2.codes ≠ []))
  let b3 := forEach (faultOrder bad due x.step) b2 (fun e y => y.schedFault c e.1 e.2.1 e.2.2 x.dc)
  let w := foldFaults (waitsOf outs) b3 (fun e y => y.waitTake c e.1 e.2 left)
  (w.1, due.map (fun e => (2, some (1, unitOf c e.1))) ++ bad.map (fun _ => (2, none)) ++ w.2)

/-! ## The instructions as commands -/

/-- The partition of a cluster when it runs within a DC. -/
def Block.inDc (b : Block) (c : Nat) : Option Nat :=
  match b.cluPart c with
  | some p => if (b.part p).state = .running ∧ (b.part p).dcp = .run ∧ c ∈ (b.part p).clusters then some p else none
  | none => none

/-- One BP executes one instruction at the current step. A segment that its send completes is emitted (R165). -/
def Block.bpCmd (b : Block) (c bp opc : Nat) (w : BpArgs) : Block :=
  match b.inDc c with
  | none => b
  | some p =>
    let z := b.applyBps p c [(bp, b.bpOut p c bp opc w)] [] 0
    let b1 := if (b.bpOut p c bp opc w).lane.isSome then z.1.emitAt p (b.part p).step else z.1
    b1.stepFaults p z.2

/-- NOP (R46). -/
def execNop (c : ClusterId) (k : BpNo) (w : BpArgs) (s : State) : Host.Outcome State Fault Refusal := s.run (·.bpCmd c.toNat k.toNat 0 w)
/-- EVAL (R47). -/
def execEval (c : ClusterId) (k : BpNo) (w : BpArgs) (s : State) : Host.Outcome State Fault Refusal := s.run (·.bpCmd c.toNat k.toNat 1 w)
/-- EVALQ (R49). -/
def execEvalq (c : ClusterId) (k : BpNo) (w : BpArgs) (s : State) : Host.Outcome State Fault Refusal := s.run (·.bpCmd c.toNat k.toNat 2 w)
/-- SEND (R52). -/
def execSend (c : ClusterId) (k : BpNo) (w : BpArgs) (s : State) : Host.Outcome State Fault Refusal := s.run (·.bpCmd c.toNat k.toNat 3 w)
/-- EVALS (R55). -/
def execEvals (c : ClusterId) (k : BpNo) (w : BpArgs) (s : State) : Host.Outcome State Fault Refusal := s.run (·.bpCmd c.toNat k.toNat 4 w)
/-- WAIT (R56): while the response due is absent, nothing happens and the partition slips. -/
def execWait (c : ClusterId) (k : BpNo) (w : BpArgs) (s : State) : Host.Outcome State Fault Refusal := s.run (·.bpCmd c.toNat k.toNat 5 w)
/-- TRIG (R57). -/
def execTrig (c : ClusterId) (k : BpNo) (w : BpArgs) (s : State) : Host.Outcome State Fault Refusal := s.run (·.bpCmd c.toNat k.toNat 6 w)
/-- END (R58). -/
def execBpEnd (c : ClusterId) (k : BpNo) (w : BpArgs) (s : State) : Host.Outcome State Fault Refusal := s.run (·.bpCmd c.toNat k.toNat 7 w)

end Sys2Proof.Machine
end

