-- ==== Sys2Proof/Machine/We.lean ====
section
/-!
DEFINITION. Word engines (chapter 3): arithmetic, holds (R107 to R109), results in flight (R106), block repeat (R111 to R113), faults (R114),
the register window (R116), and the words as commands of their own.
-/
namespace Sys2Proof.Machine

/-! ## Arithmetic (R94 to R100) -/

/-- Clamp an integer to the signed range of w bits. -/
def clampS (w : Nat) (v : Int) : Int := max (-(2 ^ (w - 1) : Int)) (min v ((2 ^ (w - 1) : Int) - 1))

/-- The 64-bit word of an integer. -/
def w64 (v : Int) : BitVec 64 := BitVec.ofInt 64 v

/-- An exact signed sum, wrapped or saturated (R95). -/
def satW (sat : Bool) (v : Int) : BitVec 64 × Bool := if sat then (w64 (clampS 64 v), decide (clampS 64 v ≠ v)) else (w64 v, false)

/-- Convergent rounding (R96). -/
def cround (v : Int) (k : Nat) : Int :=
  if k = 0 then v
  else
    let q := v / (2 ^ k : Int)
    let r := v - q * 2 ^ k
    if (2 ^ (k - 1) : Int) < r then q + 1 else if r < 2 ^ (k - 1) then q else q + q % 2

/-- The redundant sign bits of a number of w bits (R98). -/
def redundant (w n : Nat) : Nat :=
  let s := n.testBit (w - 1)
  match (List.range (w - 1)).find? (fun i => n.testBit (w - 2 - i) != s) with
  | some i => i
  | none => w - 1

/-- The highest set bit of a number below 2^w. -/
def highBit (w n : Nat) : Nat := ((List.range w).filter (fun i => n.testBit i)).foldl max 0

/-- EXPX (R99). -/
def expx (ga mw ew : Nat) (nospec : Bool) : BitVec 64 :=
  let m := bitsOf ga 0 mw
  let e := bitsOf ga mw ew
  let bias : Int := 2 ^ (ew - 1) - 1
  if e = 0 ∧ m = 0 then 0x8000000000000000#64
  else if e = 0 then w64 (1 - bias - ((mw : Int) - highBit mw m))
  else if e = 2 ^ ew - 1 ∧ !nospec then 0x7FFFFFFFFFFFFFFF#64
  else w64 ((e : Int) - bias)

/-- The field gd[P+W−1:P] replaced by the low bits of ga (BFI). -/
def bfi (gd ga : BitVec 64) (p w : Nat) : BitVec 64 :=
  let m := BitVec.ofNat 64 ((2 ^ w - 1) <<< p)
  (gd &&& ~~~m) ||| ((ga <<< p) &&& m)

/-- The product of the low words, signed or unsigned. -/
def mul32 (signed : Bool) (a b : BitVec 64) : Int :=
  if signed then (a.setWidth 32).toInt * (b.setWidth 32).toInt else ((a.setWidth 32).toNat * (b.setWidth 32).toNat : Nat)

/-! ## The words (Table 3.1, Table 3.2) -/

/-- The operation code and fields of a program word. -/
def weOp (w : BitVec 72) : Nat := bitsOf w.toNat 58 6
/-- The fields of a program word below OP. -/
def weArgs (w : BitVec 72) : WeArgs :=
  ⟨w.extractLsb' 52 6, w.extractLsb' 46 6, w.getLsbD 45, w.getLsbD 44, w.extractLsb' 37 7, w.extractLsb' 0 32⟩

/-- P, W and the fields of EXPX. -/
def WeP (w : WeArgs) : Nat := bitsOf w.sh.toNat 0 6
/-- W of the field operations. -/
def WeW (w : WeArgs) : Nat := bitsOf w.imm.toNat 0 6 + 1
/-- EW of EXPX. -/
def WeEw (w : WeArgs) : Nat := bitsOf w.imm.toNat 0 4

/-- The operations that read opb (Table 3.2). -/
def usesB (op : Nat) : Bool := op ∈ [0x01, 0x02, 0x04, 0x05, 0x06, 0x07, 0x08, 0x09, 0x0A, 0x0B, 0x10, 0x11, 0x12, 0x13, 0x14, 0x1A, 0x20, 0x21, 0x24, 0x25, 0x26, 0x27, 0x2A]
/-- The operations that read ga. -/
def usesA (op : Nat) : Bool := op ∈ [0x01, 0x02, 0x04, 0x05, 0x06, 0x07, 0x08, 0x09, 0x0A, 0x0B, 0x0C, 0x0D, 0x0E, 0x10, 0x11, 0x12, 0x13, 0x14, 0x15, 0x18, 0x19, 0x1A, 0x1D, 0x20, 0x21, 0x24, 0x25, 0x26, 0x27, 0x29]
/-- The operations that read gd. -/
def usesD (op : Nat) : Bool := op ∈ [0x0E, 0x17]
/-- The operations that read aM when they issue. -/
def usesM (op : Nat) : Bool := op ∈ [0x2A, 0x2B, 0x2C, 0x2D]
/-- The operations listed in Table 3.2. -/
def weKnown (op : Nat) : Bool :=
  usesA op || usesM op || decide (op ∈ [0x00, 0x16, 0x17, 0x1C, 0x1E, 0x28, 0x3E])
/-- The MAC class (R109). -/
def macClass (op : Nat) : Bool := op ∈ [0x24, 0x25, 0x26, 0x27]
/-- The latency of an operation. -/
def weLatency (op : Nat) : Nat := if op = 0x20 ∨ op = 0x21 then 3 else if macClass op then 4 else 1

/-- Where an operation's result lands; none for NOP and REP, and for a code that Table 3.2 does not list, which writes nothing. -/
def weDest (k op : Nat) (w : WeArgs) : Option WeDest :=
  if op = 0 ∨ op = 0x3E ∨ weKnown op = false then none
  else if macClass op ∨ op = 0x28 ∨ op = 0x29 then some (.acc (w.gd.toNat % 2))
  else if op = 0x1D then some (.bridge (4 * k + w.imm.toNat % 4))
  else some (.reg w.gd.toNat)

/-- What an operation reads. -/
def weReads (op : Nat) (w : WeArgs) : List WeDest :=
  (if usesA op then [.reg w.ga.toNat] else []) ++ (if usesB op && !w.immb then [.reg (w.imm.toNat % 64)] else [])
    ++ (if usesD op then [.reg w.gd.toNat] else []) ++ (if usesM op then [.acc (w.ga.toNat % 2)] else [])

/-- The word is held (R107, R108, R109). -/
def Cluster.weHeld (x : Cluster) (k op : Nat) (w : WeArgs) : Bool :=
  let fl := x.flight.filter (fun f => decide (f.we = k))
  (weReads op w).any (fun d => fl.any (fun f => decide (f.dest = d)))
    || match weDest k op w with
      | some d => !macClass op && fl.any (fun f => decide (f.dest = d ∧ weLatency op ≤ f.left))
      | none => false

/-- A parameter is out of range (R101). -/
def weParamBad (op : Nat) (w : WeArgs) (opb : BitVec 64) : Bool :=
  match op with
  | 0x0C => decide (64 < WeP w + WeW w)
  | 0x0D => decide (64 < WeP w + WeW w)
  | 0x0E => decide (64 < WeP w + WeW w)
  | 0x19 => decide (WeP w = 0 ∨ WeEw w < 2 ∨ 64 < 1 + WeEw w + WeP w)
  | 0x1A => decide (63 < bitsOf opb.toNat 0 7)
  | 0x2A => decide (111 < bitsOf opb.toNat 0 7)
  | 0x29 => decide (48 < w.sh.toNat)
  | _ => false

/-- The 112-bit word that carries a 64-bit result. -/
def w112 (v : BitVec 64) : BitVec 112 := v.setWidth 112

/-- A landing value without sticky bits. -/
def put64 (v : BitVec 64) : WeAct × Bool × Bool := (.put (w112 v), false, false)

/-- The result of an operation: what lands, and the SATOV and RNDOV it brings (R94 to R100). -/
def Cluster.weResult (x : Cluster) (k op : Nat) (w : WeArgs) : WeAct × Bool × Bool :=
  let ga := x.gReg k w.ga.toNat
  let gd := x.gReg k w.gd.toNat
  let am := x.aReg k (w.ga.toNat % 2)
  let opb := x.opb k w
  let n := bitsOf opb.toNat 0 6
  match op with
  | 0x01 => let r := satW w.sat (ga.toInt + opb.toInt); (.put (w112 r.1), r.2, false)
  | 0x02 => let r := satW w.sat (ga.toInt - opb.toInt); (.put (w112 r.1), r.2, false)
  | 0x04 => put64 (ga &&& opb)
  | 0x05 => put64 (ga ||| opb)
  | 0x06 => put64 (ga ^^^ opb)
  | 0x07 => put64 (ga &&& ~~~opb)
  | 0x08 => put64 (ga <<< n)
  | 0x09 => put64 (ga >>> n)
  | 0x0A => put64 (ga.sshiftRight n)
  | 0x0B => put64 ((ga >>> n) ||| (ga <<< (64 - n)))
  | 0x0C => put64 (BitVec.ofNat 64 (bitsOf ga.toNat (WeP w) (WeW w)))
  | 0x0D => put64 (w64 (sInt (WeW w) (bitsOf ga.toNat (WeP w) (WeW w))))
  | 0x0E => put64 (bfi gd ga (WeP w) (WeW w))
  | 0x10 => put64 (BitVec.ofNat 64 (b2n (decide (ga = opb))))
  | 0x11 => put64 (BitVec.ofNat 64 (b2n (decide (ga.toInt < opb.toInt))))
  | 0x12 => put64 (BitVec.ofNat 64 (b2n (decide (ga.toNat < opb.toNat))))
  | 0x13 => put64 (if ga.toInt ≤ opb.toInt then ga else opb)
  | 0x14 => put64 (if ga.toInt ≤ opb.toInt then opb else ga)
  | 0x15 => let r := satW true (Int.natAbs ga.toInt); (.put (w112 r.1), r.2, false)
  | 0x16 => put64 (w.imm.signExtend 64)
  | 0x17 => put64 (BitVec.ofNat 64 (w.imm.toNat * 2 ^ 32 + gd.toNat % 2 ^ 32))
  | 0x18 => put64 (BitVec.ofNat 64 (redundant 64 ga.toNat))
  | 0x19 => put64 (expx ga.toNat (WeP w) (WeEw w) (w.imm.getLsbD 4))
  | 0x1A => put64 (w64 (cround ga.toInt (bitsOf opb.toNat 0 7)))
  | 0x1C => put64 (BitVec.ofNat 64 (bitsNat (x.packBits (NMap.get 0 x.pack (k * 16 + w.imm.toNat % 16)) 64 0 false)))
  | 0x1D => put64 ga
  | 0x1E => put64 (x.bridgeWord (w.imm.toNat % 16))
  | 0x20 => put64 (w64 (mul32 true ga opb))
  | 0x21 => put64 (w64 (mul32 false ga opb))
  | 0x24 => (.accum (mul32 true ga opb) w.sat, false, false)
  | 0x25 => (.accum (mul32 false ga opb) w.sat, false, false)
  | 0x26 => (.accum (-(mul32 true ga opb)) w.sat, false, false)
  | 0x27 => (.put (BitVec.ofInt 112 (mul32 true ga opb)), false, false)
  | 0x28 => (.put 0, false, false)
  | 0x29 => (.put (BitVec.ofInt 112 (ga.toInt * 2 ^ w.sh.toNat)), false, false)
  | 0x2A =>
    let v := cround am.toInt (bitsOf opb.toNat 0 7)
    let ov := decide (clampS 64 v ≠ v)
    (.put (w112 (if w.sat then w64 (clampS 64 v) else w64 v)), false, ov)
  | 0x2B => put64 (am.setWidth 64)
  | 0x2C => put64 (w64 (sInt 48 (am.toNat / 2 ^ 64)))
  | 0x2D => put64 (BitVec.ofNat 64 (redundant 112 am.toNat))
  | _ => put64 0

/-! ## Loops (R111 to R113) -/

/-- The next word of WE k. -/
def Block.wpc (b : Block) (c k : Nat) : Nat := b.fld (r2 .WE_PC c k) F.WE_PC_PC
/-- The active levels of WE k. -/
def Block.depth (b : Block) (c k : Nat) : Nat := b.fld (r2 .WE_LOOP_CTRL c k) F.WE_LOOP_CTRL_DEPTH
/-- START, END and LEFT of a level. -/
def Block.level (b : Block) (c k n : Nat) : Nat × Nat × Nat :=
  (b.fld (r3 .WE_LPn_ADDR c k n) F.WE_LPn_ADDR_START, b.fld (r3 .WE_LPn_ADDR c k n) F.WE_LPn_ADDR_END, b.fld (r3 .WE_LPn_CNT c k n) F.WE_LPn_CNT_LEFT)

/-- The fault codes of REP at word e (R113). -/
def Block.repCodes (b : Block) (c k e : Nat) (w : WeArgs) : List Nat :=
  let len := bitsOf w.imm.toNat 0 11
  let d := b.depth c k
  when_ (decide (len = 0 ∨ 2047 < e + len)) 4 ++ when_ (decide (3 ≤ d)) 5
    ++ when_ (decide (0 < d ∧ (b.level c k (d - 1)).2.1 < e + len)) 6

/-- REP pushes a level (R111). -/
def Block.repPush (b : Block) (c k e : Nat) (w : WeArgs) : Block :=
  let d := b.depth c k
  let b1 := b.setReg (r3 .WE_LPn_ADDR c k d) (BitVec.ofNat 32 ((e + bitsOf w.imm.toNat 0 11) * 2 ^ 16 + (e + 1)))
  (b1.setReg (r3 .WE_LPn_CNT c k d) (BitVec.ofNat 32 (w.imm.toNat / 2 ^ 16))).setFld (r2 .WE_LOOP_CTRL c k) F.WE_LOOP_CTRL_DEPTH (d + 1)

/-- After word e the innermost level is tested, popped levels outward in the same step (R112). -/
def Block.repTest (b : Block) (c k e : Nat) : Nat → Block
  | 0 => b.setFld (r2 .WE_PC c k) F.WE_PC_PC (e + 1)
  | n + 1 =>
    let d := b.depth c k
    let l := b.level c k (d - 1)
    if d = 0 ∨ e ≠ l.2.1 then b.setFld (r2 .WE_PC c k) F.WE_PC_PC (e + 1)
    else if 0 < l.2.2 then (b.setFld (r3 .WE_LPn_CNT c k (d - 1)) F.WE_LPn_CNT_LEFT (l.2.2 - 1)).setFld (r2 .WE_PC c k) F.WE_PC_PC l.1
    else (b.setFld (r2 .WE_LOOP_CTRL c k) F.WE_LOOP_CTRL_DEPTH (d - 1)).repTest c k e n

/-- The checks of R117 hold for WE k at held step s. -/
def Block.loopStateOk (b : Block) (c k s : Nat) : Bool :=
  let d := b.depth c k
  let pc := b.wpc c k
  (List.range d).all (fun n => decide ((b.level c k n).1 ≤ (b.level c k n).2.1))
    && (List.range (d - 1)).all (fun n => decide ((b.level c k n).1 ≤ (b.level c k (n + 1)).1 ∧ (b.level c k (n + 1)).2.1 ≤ (b.level c k n).2.1))
    && (decide (d = 0) || decide ((b.level c k (d - 1)).1 ≤ pc ∧ pc ≤ (b.level c k (d - 1)).2.1))
    && decide (pc ≤ s)

/-! ## Issue and landing (R106, R114) -/

/-- Issue a word of WE k that is not held: faults, or the result in flight, the loop effect and the next word (R91, R94, R111 to R114).
The state `s0` is that of the start of the step. -/
def Block.weIssue (b : Block) (s0 : Block) (p c k op : Nat) (w : WeArgs) : Block × List StepFault :=
  let x := s0.clu c
  let step := (s0.part p).step
  let e := s0.wpc c k
  let codes := when_ (!weKnown op) 1 ++ when_ (weParamBad op w (x.opb k w)) 3 ++ (if op = 0x3E then s0.repCodes c k e w else [])
  if codes ≠ [] then (b.weFault c k codes step e, [(3, none)])
  else
    let r := x.weResult k op w
    let b1 := match weDest k op w with
      | some d => b.modClu c (fun y => { y with flight := y.flight ++ [(⟨k, d, r.1, weLatency op, r.2.1, r.2.2⟩ : Flight)] })
      | none => b
    let b2 := (if op = 0x3E then b1.repPush c k e w else b1).repTest c k e 4
    if step + 1 = (s0.part p).len ∧ b2.depth c k ≠ 0 then (b2.weFault c k [7] step e, [(3, none)]) else (b2, [])

/-- A cycle passes in the pipelines of the WEs that a test accepts (R106). -/
def Cluster.weCycle (x : Cluster) (sel : Nat → Bool) : Cluster :=
  { x with flight := x.flight.map (fun f => if sel f.we then { f with left := f.left - 1 } else f) }

/-- Land a result (R100, R106). -/
def Block.landOne (b : Block) (c : Nat) (f : Flight) : Block :=
  let b1 := (b.modClu c (fun x => { x with flight := x.flight.erase f })).weSticky c f.we f.satov f.rndov
  match f.dest, f.act with
  | .reg g, .put v => b1.modClu c (fun x => { x with regs := NMap.set 0 x.regs (f.we * 64 + g) (v.setWidth 64) })
  | .bridge n, .put v => b1.modClu c (fun x => { x with bridge := NMap.set 0 x.bridge n (v.setWidth 64) })
  | .acc n, .put v => b1.modClu c (fun x => { x with acc := NMap.set 0 x.acc (f.we * 2 + n) v })
  | .acc n, .accum d sat =>
    let v := ((b.clu c).aReg f.we n).toInt + d
    let wraps := decide (clampS 112 v ≠ v)
    let b2 := b1.modClu c (fun x => { x with acc := NMap.set 0 x.acc (f.we * 2 + n) (BitVec.ofInt 112 (if sat then clampS 112 v else v)) })
    if wraps then b2.setAov c f.we n else b2
  | _, .accum _ _ => b1

/-- A check finds a result faulty: it is not written, and the partition stops at level P (R556). -/
def Block.landBad (b : Block) (c : Nat) (f : Flight) : Block × List StepFault :=
  (b.modClu c (fun x => { x with flight := x.flight.erase f }), [(3, some (5, unitOf c f.we))])

/-- Land every result of a cluster that is due. -/
def Block.landDue (b : Block) (c : Nat) : Block :=
  forEach ((b.clu c).flight.filter (fun f => decide (f.left = 0))) b (fun f x => x.landOne c f)

/-- Land every result of a cluster in the order in which they become readable. -/
def Block.landAll (b : Block) (c : Nat) : Block :=
  forEach (sortBy (fun f g => decide (f.left ≤ g.left)) (b.clu c).flight) b (fun f x => x.landOne c f)

/-- The result of WE k that lands next: one that is due, or the first to come when no step runs (R106). -/
def Block.landing (b : Block) (c k : Nat) : Option Flight :=
  let fl := sortBy (fun f g => decide (f.left ≤ g.left)) ((b.clu c).flight.filter (fun f => decide (f.we = k)))
  match fl.head? with
  | some f => if f.left = 0 ∨ b.cluState c ≠ .running then some f else none
  | none => none

/-- WE_RESULT_LAND (R106, R556). -/
def execWeResultLand (c : ClusterId) (k : WeNo) (checkFails : Bool) (s : State) : Host.Outcome State Fault Refusal :=
  s.run (fun b => match b.landing c.toNat k.toNat with
    | none => b
    | some f =>
      if checkFails then
        let p := (b.cluPart c.toNat).getD 0
        let z := b.landBad c.toNat f
        z.1.stepFaults p z.2
      else b.landOne c.toNat f)

/-! ## The WE window (R116, Table 3.11) -/

/-- The 32-bit word w of the window of WE k, offsets 0x000 to 0x23F. -/
def Cluster.weWord (x : Cluster) (k w : Nat) : Word :=
  if w < 128 then BitVec.ofNat 32 (((x.gReg k (w / 2)).toNat) >>> (32 * (w % 2)))
  else if w < 136 then
    let a := x.aReg k ((w - 128) / 4)
    let i := (w - 128) % 4
    if i < 3 then BitVec.ofNat 32 (a.toNat >>> (32 * i)) else BitVec.ofInt 32 (sInt 16 (a.toNat >>> 96))
  else if w < 144 then BitVec.ofNat 32 ((x.bridgeWord (4 * k + (w - 136) / 2)).toNat >>> (32 * (w % 2)))
  else 0

/-- Replace w bits of a number from a bit position. -/
def patch (n lo w v : Nat) : Nat := n - bitsOf n lo w * 2 ^ lo + (v % 2 ^ w) * 2 ^ lo

/-- Write a word of the window: registers, accumulators (bits [31:16] of the fourth word are ignored), bridge words. -/
def Cluster.setWeWord (x : Cluster) (k w : Nat) (v : Word) : Cluster :=
  if w < 128 then
    let g := k * 64 + w / 2
    { x with regs := NMap.set 0 x.regs g (BitVec.ofNat 64 (patch (NMap.get 0 x.regs g).toNat (32 * (w % 2)) 32 v.toNat)) }
  else if w < 136 then
    let a := k * 2 + (w - 128) / 4
    let i := (w - 128) % 4
    { x with acc := NMap.set 0 x.acc a (BitVec.ofNat 112 (patch (NMap.get 0 x.acc a).toNat (32 * i) (if i = 3 then 16 else 32) v.toNat)) }
  else if w < 144 then
    let n := 4 * k + (w - 136) / 2
    { x with bridge := NMap.set 0 x.bridge n (BitVec.ofNat 64 (patch (NMap.get 0 x.bridge n).toNat (32 * (w % 2)) 32 v.toNat)) }
  else x

/-- A write through the WE window has an effect only while STATE is FROZEN (R116). -/
def Block.weWrite (b : Block) (c k w : Nat) (v : Word) : Block :=
  if b.cluState c = .frozen then b.modClu c (fun x => x.setWeWord k w v) else b

/-- WE_REGISTER_WRITE (R116). -/
def execWeRegisterWrite (r : Requester) (c : ClusterId) (k : WeNo) (w : BitVec 8) (v : Word) (s : State) : Host.Outcome State Fault Refusal :=
  s.run (fun b => b.windowWrite r (r2 .WE_PC c.toNat k.toNat) (cluOff c.toNat (0x1000 + k.toNat * 0x400 + 4 * w.toNat)) v
    (·.weWrite c.toNat k.toNat w.toNat v))

/-- The loop registers by their word from 0x24C: WE_PC, WE_LOOP_CTRL, then ADDR and CNT of levels 0 to 2. -/
def loopReg (c k w : Nat) : Option RegKey :=
  if w = 0 then some (r2 .WE_PC c k)
  else if w = 1 then some (r2 .WE_LOOP_CTRL c k)
  else if w < 8 then some (if w % 2 = 0 then r3 .WE_LPn_ADDR c k ((w - 2) / 2) else r3 .WE_LPn_CNT c k ((w - 2) / 2))
  else none

/-- WE k of cluster c has a result in flight. -/
def Cluster.inFlight (x : Cluster) (k : Nat) : Bool := x.flight.any (fun f => decide (f.we = k))

/-- MIDDC of WE k of cluster c (R115): its partition was stopped within a DC and every result in flight has landed. -/
def Block.midDc (b : Block) (c k : Nat) : Bool :=
  match b.cluPart c with | some p => (b.part p).midDc && decide ((b.part p).state = .frozen) && !(b.clu c).inFlight k | none => false

/-- A write of WE_PC, WE_LOOP_CTRL or a loop register: only while MIDDC is 1 (R116). -/
def Block.loopWrite (b : Block) (r : Requester) (c k w : Nat) (v : Word) : Block :=
  match loopReg c k w with
  | some q => b.hostWrite r q v (fun x => if x.midDc c k then x.setReg q (v &&& q.name.info.rwMask) else x)
  | none => b

/-- WE_LOOP_STATE_WRITE (R116). -/
def execWeLoopStateWrite (r : Requester) (c : ClusterId) (k : WeNo) (w : BitVec 4) (v : Word) (s : State) : Host.Outcome State Fault Refusal :=
  s.run (·.loopWrite r c.toNat k.toNat w.toNat v)

/-- WE_FAULT_CLEAR (R114). -/
def execWeFaultClear (r : Requester) (c : ClusterId) (k : WeNo) (v : Word) (s : State) : Host.Outcome State Fault Refusal :=
  s.run (fun b => b.hostWrite r (r2 .WE_FAULT c.toNat k.toNat) v
    (·.faultClear (r2 .WE_FAULT c.toNat k.toNat) 0x1FE [r2 .WE_FAULT_INFO c.toNat k.toNat] v))

/-- MEM_FAULT_CLEAR (R155). -/
def execMemFaultClear (r : Requester) (c : ClusterId) (v : Word) (s : State) : Host.Outcome State Fault Refusal :=
  s.run (fun b => b.hostWrite r (r1 .CLU_MEM_FAULT c.toNat) v (·.faultClear (r1 .CLU_MEM_FAULT c.toNat) 0x1FE [r1 .CLU_MEM_FAULT_INFO c.toNat] v))

/-- A write of CLU_FAULT: the fault records follow CAUSE, the sentinel log follows SENT_MISMATCH (R85, Table 2.16). -/
def Block.faultWrite (b : Block) (c : Nat) (v : Word) : Block :=
  let b1 := b.faultClear (r1 .CLU_FAULT c) 0xFFE [r1 .CLU_FAULT_INFO c, r1 .CLU_FAULT_DC c] v
  if v.getLsbD 12 ∧ b.bit (r1 .CLU_FAULT c) F.CLU_FAULT_SENT_MISMATCH then (b1.clrReg (r1 .CLU_SENT_LOG c)).clrReg (r1 .CLU_SENT_LOG_DC c) else b1

/-- FAULT_RECORD_CLEAR (R85). -/
def execFaultRecordClear (r : Requester) (c : ClusterId) (v : Word) (s : State) : Host.Outcome State Fault Refusal :=
  s.run (fun b => b.hostWrite r (r1 .CLU_FAULT c.toNat) v (·.faultWrite c.toNat v))

end Sys2Proof.Machine
end

