-- ==== Sys2Proof/Machine/Slot.lean ====
section
/-!
DEFINITION. The memory slot program: operation fields, port maps and DMB geometry (R120 to R132), port conflicts and deferred operations (R133, R134),
DMB scrub (R126), and what latches onto inbound lanes at the end of a step (R123, R132, R139, R159, R162).
-/
namespace Sys2Proof.Machine

/-! ## Geometry (Table 4.1, R223) -/

/-- The ratio code of DMB d (Table 4.10). -/
def Block.ratio (b : Block) (c d : Nat) : Nat := bitsOf (b.reg (r2 .CLU_DMB_RATIOn c (d / 8))).toNat (4 * (d % 8)) 3

/-- Address bits of a ratio code below 7. -/
def ratioAddr (k : Nat) : Nat := 16 - k

/-- Word width of a ratio code below 7. -/
def ratioWidth (k : Nat) : Nat := if k < 3 then 2 ^ k else 9 * 2 ^ (k - 3)

/-- Row and first bit of word i (R223). -/
def dmbPlace (k i : Nat) : Nat × Nat :=
  let n := if k < 3 then 64 else 72
  (i * ratioWidth k / n, i * ratioWidth k % n)

/-- A row of a DMB. -/
def Cluster.dmbRow (x : Cluster) (d r : Nat) : BitVec 72 := NMap.get 0 x.dmb (d * 1024 + r)

/-! ## Operation fields and port maps (Table 4.2 to Table 4.4) -/

/-- V and KIND of operation field j. -/
def slotKind (e : BitVec 160) (j : Nat) : Option Nat := if e.getLsbD (18 * j + 17) then some (bitsOf e.toNat (18 * j + 14) 3) else none

/-- UNIT, PORT and MAP of operation field j. -/
def slotArgs (e : BitVec 160) (j : Nat) : OpArgs := ⟨e.extractLsb' (18 * j + 9) 5, e.getLsbD (18 * j + 8), e.extractLsb' (18 * j) 8⟩

/-- Selector i of a port-map entry: ASELi below 32, DSEL(i − 32) above. -/
def Cluster.pmapSel (x : Cluster) (m i : Nat) : Nat := bitsOf (NMap.get 0 x.pmap (m * 14 + i / 8)).toNat (8 * (i % 8)) 8

/-- A field of word 13 of a port-map entry. -/
def Cluster.pmapFld (x : Cluster) (m lo len : Nat) : Nat := bitsOf (NMap.get 0 x.pmap (m * 14 + 13)).toNat lo len

/-- The bits that n selectors from i name; none when one is reserved (R131). -/
def Cluster.gather (x : Cluster) (m i : Nat) : Nat → Option (List Bool)
  | 0 => some []
  | n + 1 => match x.selBit (x.pmapSel m i), x.gather m (i + 1) n with
    | some v, some r => some (v :: r)
    | _, _ => none

/-- The data bits of an operation: n from DSEL, or the low 64 from a bridge word (R131). -/
def Cluster.gatherData (x : Cluster) (m n : Nat) : Option Nat :=
  if x.pmapFld m 36 1 = 1 then
    (x.gather m 96 (n - 64)).map (fun l => (x.bridgeWord (x.pmapFld m 32 4)).toNat % 2 ^ (min n 64) + bitsNat l * 2 ^ 64)
  else (x.gather m 32 n).map bitsNat

/-- What an operation field does: a fault of its step, DMB_DUE at the next one, DMB corrections, the operation that takes a port. -/
structure OpOut where
  code : Option Nat := none
  due : Bool := false
  corr : Nat := 0
  op : Option SlotOp := none
  deriving DecidableEq, Repr

/-- A field that meets a condition of R129. -/
def Block.opReserved (b : Block) (p c kind : Nat) (o : OpArgs) : Bool :=
  let x := b.clu c
  let m := o.map.toNat
  let dw := x.pmapFld m 16 7
  decide (5 ≤ kind) || (decide (2 ≤ kind) && (decide (4 ≤ o.unit.toNat ∨ dw = 0 ∨ 72 < dw ∨ 32 < x.pmapFld m 10 6)))
    || (decide (kind < 2) && decide (b.ratio c o.unit.toNat = 7))
    || (decide (kind = 0) && decide ((b.part p).step + 1 = (b.part p).len))

/-- A DMB operation with its address (R121 to R123): the error that its row read finds, if it reads the row. -/
def Cluster.dmbOp (x : Cluster) (ratio kind j : Nat) (o : OpArgs) (idx data : Nat) (row : Ecc) : OpOut :=
  let d := o.unit.toNat
  let w := ratioWidth ratio
  let q := dmbPlace ratio idx
  let port := 2 * d + b2n o.port
  let reads := decide (kind = 0 ∨ ratio ≠ 6)
  if reads ∧ row = .due then { due := true, op := some ⟨port, .nothing⟩ }
  else
    let act : SlotAct := if kind = 0 then
        .read ⟨false, j, 0, x.pmapFld o.map.toNat 23 9, w, BitVec.ofNat 72 (bitsOf (x.dmbRow d q.1).toNat q.2 w), 0⟩
      else .write d q.1 (BitVec.ofNat 72 ((2 ^ w - 1) * 2 ^ q.2)) (BitVec.ofNat 72 (data % 2 ^ w * 2 ^ q.2))
    { corr := if reads ∧ row = .corr then 1 else 0, op := some ⟨port, act⟩ }

/-- An FMP operation with its word index: the reserved entry (R135, R141), or QUEUE_FULL (R136). -/
def Block.fmpOp (b : Block) (c kind num used : Nat) (x : Cluster) (o : OpArgs) (idx data : Nat) : OpOut :=
  let n := o.unit.toNat % 4
  let m := o.map.toNat
  let dw := x.pmapFld m 16 7
  if 64 ≤ used then { code := some 5 }
  else
    let a := b.farAddr c (x.pmapFld m 6 4) dw idx
    let e : FmpEnt := { num := num, cls := decide (kind = 4), kind := kind - 2, dw := dw, base := x.pmapFld m 23 9, stack := a.1, addr := a.2,
                        data := BitVec.ofNat 72 data }
    { op := some ⟨64 + n, .fmp n e (x.pmapFld m 38 10) (idx % 65536) (bitsOf idx 16 2)⟩ }

/-- What operation field j does, read at the start of the step (R128 to R132). A field that raises any fault takes no port: R133 says it of MSP_RSVD and
SEL_RSVD, and the model holds it for MSP_DUE and QUEUE_FULL too (DESIGN CHOICE, log entry 108). `num` is the number of the next FMP request, `used` the entries its FMP has reserved. -/
def Block.opOut (b : Block) (p c j kind num used : Nat) (o : OpArgs) (row pm : Ecc) : OpOut :=
  let x := b.clu c
  let m := o.map.toNat
  let k := b.ratio c o.unit.toNat
  let aw := if kind < 2 then ratioAddr k else x.pmapFld m 10 6
  let dn := if kind = 1 then ratioWidth k else if kind = 3 ∨ kind = 4 then x.pmapFld m 16 7 else 0
  if b.opReserved p c kind o then { code := some 1 }
  else if pm = .due then { code := some 2 }
  else match x.gather m 0 aw, (if dn = 0 then some 0 else x.gatherData m dn) with
    | some idx, some data =>
      if kind < 2 then x.dmbOp k kind j o (bitsNat idx) data row else b.fmpOp c kind num used x o (bitsNat idx) data
    | _, _ => { code := some 3 }

/-! ## Effects -/

/-- Merge the bits of a mask into a row. -/
def mergeRow (old mask data : BitVec 72) : BitVec 72 := (old &&& ~~~mask) ||| (data &&& mask)

/-- An operation executes on its port (R122, R135, R320): `left` is the number of ends of steps until a read latches. -/
def Block.runAct (b : Block) (c left : Nat) (a : SlotAct) : Block :=
  match a with
  | .read r => b.modClu c (fun x => { x with rets := x.rets ++ [({ r with left := left } : MemRet)] })
  | .write d row mask data => b.modClu c (fun x => { x with dmb := NMap.set 0 x.dmb (d * 1024 + row) (mergeRow (x.dmbRow d row) mask data) })
  | .fmp n e chan tag op =>
    let b1 := b.modClu c (fun x => x.setFmpQ n (x.fmpQ n ++ [e]))
    if e.kind = 2 then b1.pushFrag ⟨.design c n e.num, chan, tag, op, e.data.setWidth 64⟩ else b1
  | .nothing => b

/-- The first operation of each port, and the others, in order (R133). -/
def splitPorts : List SlotOp → List Nat → List SlotOp × List SlotOp
  | [], _ => ([], [])
  | o :: r, used =>
    if o.port ∈ used then (let z := splitPorts r used; (z.1, o :: z.2)) else (let z := splitPorts r (o.port :: used); (o :: z.1, z.2))

/-- A write that a lower field's write to the same word overrules becomes nothing (R124). -/
def overrule : List SlotOp → List SlotAct → List SlotOp
  | [], _ => []
  | o :: r, seen =>
    match o.act with
    | .write d row mask _ =>
      if seen.any (fun a => match a with | .write d' row' mask' _ => decide (d' = d ∧ row' = row ∧ mask' = mask) | _ => false) then
        ⟨o.port, .nothing⟩ :: overrule r seen
      else o :: overrule r (o.act :: seen)
    | _ => o :: overrule r seen

/-- Run operations: the first of each port now, the others in the slip steps that follow (R133). -/
def Block.runOps (b : Block) (c : Nat) (ops : List SlotOp) : Block :=
  let z := splitPorts (overrule ops []) []
  (forEach z.1 b (fun o x => x.runAct c 2 o.act)).modClu c (fun x => { x with deferred := x.deferred ++ z.2 })

/-- The faults, corrections and errors of an operation field, without its operation (R121, R155). -/
def Block.opNote (b : Block) (c j step : Nat) (u : OpOut) : Block × List StepFault :=
  let b1 := if u.due then b.modClu c (fun x => { x with dmbDue := x.dmbDue ++ [(false, j)] }) else b
  let b2 := if u.corr = 0 then b1 else (b1.satFld (r1 .CLU_MEM_ECC c) F.CLU_MEM_ECC_DMB_CORR 1).corrected
  match u.code with
  | none => (b2, [])
  | some k => (b2.memFault c { code := k, field := j } step, [(4, if k = 2 then some (2, unitOf c 0) else none)])

/-- One operation field of the step: resolved against the start of the step, noted; the operation is kept for the end. -/
def Block.opField (b s0 : Block) (p c j kind : Nat) (o : OpArgs) (ops : List SlotOp) (row pm : Ecc) : Block × List SlotOp × List StepFault :=
  let n := o.unit.toNat % 4
  let used := ((b.clu c).fmpQ n).length + (ops.filter (fun q => decide (q.port = 64 + n))).length
  let u := s0.opOut p c j kind (b.clu c).nextReq used o row pm
  let z := b.opNote c j (s0.part p).step u
  let b1 := if pm = .corr ∧ u.code ≠ some 1 then z.1.corrected else z.1
  (b1.modClu c (fun x => { x with nextReq := x.nextReq + 1 }), ops ++ u.op.toList, z.2)

/-- The slot entry of a step (R127 to R134): what each field's row and port-map reads find is given. It answers the ports used. -/
def Block.slotStep (b s0 : Block) (p c : Nat) (entry : BitVec 160) (row pm : Nat → Ecc) : Block × List Nat × List StepFault :=
  let z := (List.range 8).foldl (fun (z : Block × List SlotOp × List StepFault) j =>
    match slotKind entry j with
    | none => z
    | some k => let y := z.1.opField s0 p c j k (slotArgs entry j) z.2.1 (row j) (pm j); (y.1, y.2.1, z.2.2 ++ y.2.2)) (b, [], [])
  (z.1.runOps c z.2.1, z.2.1.map (·.port), z.2.2)

/-- The scrub reads of one executed step (R126): each port that no operation uses reads the row at the pointer of its DMB. -/
def Block.dmbScrub (b : Block) (c : Nat) (used : List Nat) (found : Nat → Bool → Ecc) : Block :=
  forEach (List.range 32) b (fun d x =>
    if x.ratio c d = 7 then x
    else forEach [false, true] x (fun port y =>
      if 2 * d + b2n port ∈ used then y
      else
        let y1 := y.modClu c (fun q => { q with dmbPtr := NMap.set 0 q.dmbPtr d ((NMap.get 0 q.dmbPtr d + 1) % 1024) })
        match found d port with
        | .ok => y1
        | .corr => (y1.satFld (r1 .CLU_MEM_ECC c) F.CLU_MEM_ECC_DMB_CORR 1).corrected
        | .due => y1.modClu c (fun q => { q with dmbDue := q.dmbDue ++ [(true, 0)] })))

/-! ## Deferred operations (R133) -/

/-- The first deferred operation of each port executes: its read, issued at the step before, latches at the end of the held step. They execute in slip
steps, and in the cycles after the partition has stopped (R134). Those of entry L − 1 hold step 0 of the next DC (DEDUCED, log entry 109). -/
def Block.deferRound (b : Block) (c : Nat) : Block :=
  if (b.clu c).defRun ∨ b.cluState c ≠ .running then
    let z := splitPorts (b.clu c).deferred []
    (forEach z.1 b (fun o x => x.runAct c 1 o.act)).modClu c (fun x => { x with deferred := z.2, defRun := false })
  else b

/-- All deferred operations of a cluster execute, in order. -/
def Block.runDeferredClu (b : Block) (c : Nat) : Block :=
  (forEach (b.clu c).deferred b (fun o x => x.runAct c 1 o.act)).modClu c (fun x => { x with deferred := [], defRun := false })

/-- All deferred operations of a partition execute. -/
def Block.runDeferred (b : Block) (p : Nat) : Block := forEach (b.part p).clusters b (fun c x => x.runDeferredClu c)

/-- What runs on in the STEP_CLK cycles of a partition that does not run: results land (R106) and deferred operations execute (R134). -/
def Block.stoppedClu (b : Block) (c : Nat) : Block := (b.landAll c).runDeferredClu c

/-- One CTL_CLK cycle, eight steps, of the partitions that do not run. -/
def Block.stoppedTick (b : Block) : Block :=
  forEach ((b.parts.filter (fun e => decide (e.2.state ≠ .running))).flatMap (fun e => e.2.clusters)) b (fun c x => x.stoppedClu c)

/-! ## Latching (R132, R159, R162) -/

/-- The offset of lane n from the first lane of a return. -/
def MemRet.off (r : MemRet) (n : Nat) : Nat := (n + 512 - r.base % 512) % 512

/-- A return latches lane n. -/
def MemRet.covers (r : MemRet) (n : Nat) : Bool := decide (r.off n < r.width)

/-- The place of a return in the order of R132. -/
def MemRet.place (r : MemRet) : Nat := if r.wait then r.rank else 16 + r.rank

/-- The returns due at a cluster, highest rank first. -/
def Cluster.retsDue (x : Cluster) : List MemRet := sortBy (fun r q => decide (r.place ≤ q.place)) (x.rets.filter (fun r => decide (r.left = 0)))

/-- The lanes of cluster c that frame slots map to (R164). -/
def Part.frameLane (x : Part) (c n : Nat) : Bool := x.man.ins.any (fun q => q.slots.any (fun e => decide (e = (c, n))))

/-- The lowest lane on which returns conflict with one another, with a route or with a frame lane, and the return that the record names. -/
def laneConflict (x : Part) (c : Nat) (bits : List Bit) (rs : List MemRet) : Option MemRet :=
  (List.range 512).findSome? (fun n =>
    match rs.filter (fun r => r.covers n) with
    | [] => none
    | [r] => if bits.any (fun t => decide (t.lane = n)) || x.frameLane c n then some r else none
    | _ :: r :: _ => some r)

/-- What is due at the end of the last step latches onto the lanes of cluster c. -/
def Block.latchDue (b : Block) (p c : Nat) : Block × List StepFault :=
  let x := b.part p
  let bits := x.bits.filter (fun t => decide (t.c = c ∧ t.left = 0))
  let rs := (b.clu c).retsDue
  let b1 := (b.modPart p (fun y => { y with bits := y.bits.filter (fun t => !decide (t.c = c ∧ t.left = 0)) })).modClu c
    (fun y => { y with rets := y.rets.filter (fun r => !decide (r.left = 0)) })
  let b2 := forEach bits b1 (fun t y => y.setLane c t.lane t.v)
  let b3 := forEach rs.reverse b2 (fun r y => forEach (List.range r.width) y (fun j z => z.setLane c ((r.base + j) % 512) (r.data.getLsbD j)))
  match laneConflict x c bits rs with
  | none => (b3, [])
  | some r => (b3.memFault c { code := 8, wait := r.wait, field := if r.wait then 0 else r.rank, bp := r.bp } x.last, [(4, none)])

/-- Everything due on the clusters of a partition latches. -/
def Block.latchPart (b : Block) (p : Nat) : Block :=
  let z := foldFaults (b.part p).clusters b (fun c x => x.latchDue p c)
  z.1.stepFaults p z.2

/-- The latches of one cluster, as a command. -/
def Block.latchClu (b : Block) (c : Nat) : Block :=
  match b.cluPart c with
  | none => b
  | some p => let z := b.latchDue p c; z.1.stepFaults p z.2

/-- What stands out of the last step and the last slip step of partition p takes place before the next one: results land, deferred operations run, lanes latch. -/
def Block.settle (b : Block) (p : Nat) : Block :=
  (forEach (b.part p).clusters b (fun c x => (x.landDue c).deferRound c)).latchPart p

/-! ## The operations as commands -/

/-- One slot operation at the current step, alone on its port (log entry 27). -/
def Block.slotCmd (b : Block) (c j kind : Nat) (o : OpArgs) (row : Ecc) : Block :=
  match b.inDc c with
  | none => b
  | some p =>
    let z := b.opField b p c j kind o [] row .ok
    (z.1.runOps c z.2.1).stepFaults p z.2.2

/-- DMB_RD (R122, R123). -/
def execDmbRd (c : ClusterId) (j : BitVec 3) (o : OpArgs) (e : Ecc) (s : State) : Host.Outcome State Fault Refusal :=
  s.run (·.slotCmd c.toNat j.toNat 0 o e)

/-- DMB_WR (R121, R122). -/
def execDmbWr (c : ClusterId) (j : BitVec 3) (o : OpArgs) (e : Ecc) (s : State) : Host.Outcome State Fault Refusal :=
  s.run (·.slotCmd c.toNat j.toNat 1 o e)

/-- FMP_RD (R135, R141). -/
def execFmpRd (c : ClusterId) (j : BitVec 3) (o : OpArgs) (s : State) : Host.Outcome State Fault Refusal := s.run (·.slotCmd c.toNat j.toNat 2 o .ok)

/-- FMP_WR (R135, R141). -/
def execFmpWr (c : ClusterId) (j : BitVec 3) (o : OpArgs) (s : State) : Host.Outcome State Fault Refusal := s.run (·.slotCmd c.toNat j.toNat 3 o .ok)

/-- FMP_MSG (R135, R320). -/
def execFmpMsg (c : ClusterId) (j : BitVec 3) (o : OpArgs) (s : State) : Host.Outcome State Fault Refusal := s.run (·.slotCmd c.toNat j.toNat 4 o .ok)

/-- DEFERRED_PORT_OP (R133). -/
def execDeferredPortOp (c : ClusterId) (s : State) : Host.Outcome State Fault Refusal := s.run (·.deferRound c.toNat)

/-- DMB_READ_RETURN (R123, R132): the lanes latch when a DMB read is due. -/
def execDmbReadReturn (c : ClusterId) (s : State) : Host.Outcome State Fault Refusal :=
  s.run (fun b => if (b.clu c.toNat).rets.any (fun r => decide (r.left = 0 ∧ r.wait = false)) then b.latchClu c.toNat else b)

/-- WAIT_COMPLETE (R139, R132): the data of the WAIT of BP k on queue q latch. -/
def execWaitComplete (c : ClusterId) (k : BpNo) (q : BitVec 4) (s : State) : Host.Outcome State Fault Refusal :=
  s.run (fun b =>
    if (b.clu c.toNat).rets.any (fun r => decide (r.left = 0 ∧ r.wait = true ∧ r.rank = q.toNat ∧ r.bp = k.toNat)) then b.latchClu c.toNat else b)

/-- ROUTE_LATCH (R159). -/
def execRouteLatch (p : PartNo) (s : State) : Host.Outcome State Fault Refusal := s.run (·.latchPart p.toNat)

end Sys2Proof.Machine
end

