-- ==== Sys2Proof/Machine/StatePort.lean ====
section
/-!
DEFINITION. The state port (R67 to R78) and the sentinel's position and lock (R80, R82).
-/
namespace Sys2Proof.Machine

/-! ## The state port -/

/-- MODE of the settings in effect; 3 is treated as OFF (Table 2.21). -/
def StatePort.mode (x : StatePort) : Nat := if F.CLU_SP_CTRL_MODE.get x.eff = 3 then 0 else F.CLU_SP_CTRL_MODE.get x.eff
/-- LOAD_EN of a word of settings. -/
def spLoad (w : Word) : Bool := w.getLsbD 15
/-- UNLOAD_EN of a word of settings. -/
def spUnload (w : Word) : Bool := w.getLsbD 14
/-- COUNT of a word of settings. -/
def spCount (w : Word) : Nat := min (F.CLU_SP_CTRL_COUNT.get w) 4096

/-- NEXT of a cluster: buffer B is next. -/
def Block.spNext (b : Block) (c : Nat) : Bool := b.bit (r1 .CLU_SP_STATUS c) F.CLU_SP_STATUS_NEXT
/-- The flag of load buffer A or B. -/
def loadFull (buf : Bool) : Fld := if buf then F.CLU_SP_STATUS_LOAD_B_FULL else F.CLU_SP_STATUS_LOAD_A_FULL
/-- The flag of unload buffer A or B. -/
def unloadFull (buf : Bool) : Fld := if buf then F.CLU_SP_STATUS_UNLOAD_B_FULL else F.CLU_SP_STATUS_UNLOAD_A_FULL

/-- The buffers are ready for the settings w (R73). -/
def Block.spReady (b : Block) (c : Nat) (w : Word) : Bool :=
  let k := r1 .CLU_SP_STATUS c
  (!spLoad w || b.bit k (loadFull (b.spNext c))) && (!spUnload w || !b.bit k (unloadFull (b.spNext c)))

/-- A select-list entry in a transfer: index, BP, address, and its effective direction (R68). -/
structure SelEnt where
  j : Nat
  bp : Nat
  a : Nat
  load : Bool
  unload : Bool
  deriving DecidableEq, Repr

/-- The entries of the list that take part in a transfer (R68, R69). -/
def Cluster.selEntries (x : Cluster) (w : Word) : List SelEnt :=
  (List.range (spCount w)).filterMap (fun j =>
    let e := (NMap.get 0 x.sp.sel j).toNat
    let d : SelEnt := ⟨j, bitsOf e 12 7, bitsOf e 0 12, bitAt e 30 && spLoad w, bitAt e 31 && spUnload w⟩
    if (d.load || d.unload) && x.isState d.bp d.a then some d else none)

/-- An entry of the list that is not skipped names no state bit (R69). The spec does not say whether an entry whose effective direction is 0b00 counts as
reached: here every entry below COUNT whose DIR is not 0b00 does (DESIGN CHOICE, log entry 103). -/
def Cluster.selBad (x : Cluster) (w : Word) : Bool :=
  (List.range (spCount w)).any (fun j =>
    let e := (NMap.get 0 x.sp.sel j).toNat
    decide (bitsOf e 30 2 ≠ 0) && !x.isState (bitsOf e 12 7) (bitsOf e 0 12))

/-- The number of groups (R75): `seen` holds the BPs of the group in progress. -/
def groupCount : List SelEnt → List Nat → Nat
  | [], seen => if seen.isEmpty then 0 else 1
  | e :: r, seen => if seen.length = 64 ∨ e.bp ∈ seen then groupCount r [e.bp] + 1 else groupCount r (e.bp :: seen)

/-- The words of the unload buffer that a transfer produces: the DC, and the unloaded bits (R71). -/
def Cluster.unloadBits (x : Cluster) (l : List SelEnt) : Nat :=
  l.foldl (fun n e => if e.unload && x.value e.bp e.a then n ||| 2 ^ e.j else n) 0

/-- The data bits of a buffer, words 1 to 64 (R71). -/
def StatePort.bits (x : StatePort) (buf : Nat) : Nat :=
  (List.range 64).foldl (fun n w => n + (NMap.get 0 x.buf (buf * 65 + 1 + w)).toNat * 2 ^ (64 * w)) 0

/-- Fill an unload buffer. -/
def StatePort.fill (x : StatePort) (buf dc data : Nat) : StatePort :=
  { x with
    buf := forEach (List.range 64) (NMap.set 0 x.buf (buf * 65) (BitVec.ofNat 64 (dc % 2 ^ 32)))
      (fun w m => NMap.set 0 m (buf * 65 + 1 + w) (BitVec.ofNat 64 (bitsOf data (64 * w) 64))) }

/-- The transfer ends (R77): the load buffer is empty, the unload buffer full, the turn changes. -/
def Block.spFinish (b : Block) (c : Nat) : Block :=
  let k := r1 .CLU_SP_STATUS c
  let w := (b.clu c).sp.inUse
  let buf := b.spNext c
  let b1 := if spLoad w then b.clrFld k (loadFull buf) else b
  let b2 := if spUnload w then b1.setBit k (unloadFull buf) else b1
  (b2.setFld k F.CLU_SP_STATUS_NEXT (b2n (!buf))).wrapFld k F.CLU_SP_STATUS_TRANSFERS 1

/-- A due transfer starts when its buffers are ready (R72, R73, R75): the unload samples, then the loads in index order. -/
def Block.spTransfer (b : Block) (p c : Nat) : Block :=
  let x := b.clu c
  let w := x.sp.eff
  if x.sp.due && b.spReady c w then
    let l := x.selEntries w
    let n := b2n (b.spNext c)
    let sp1 := if spUnload w then x.sp.fill (2 + n) (((b.part p).dc - 1).toNat) (x.unloadBits l) else x.sp
    let data := x.sp.bits n
    let sp2 : StatePort := { sp1 with
      due := false, groups := groupCount l [], inUse := w, loaded := spLoad w, unloaded := spUnload w
      tag := if spLoad w then (NMap.get 0 x.sp.buf (n * 65)).setWidth 16 else 0 }
    let vs := l.foldl (fun m e => if e.load then NMap.set false m (e.bp * 4096 + e.a) (bitAt data e.j) else m) x.vs
    let before := l.foldl (fun m e => if e.load && (m.find (e.bp * 4096 + e.a)).isNone then m.put (e.bp * 4096 + e.a) (x.value e.bp e.a) else m) x.before
    let b1 := b.setClu c { x with sp := sp2, vs := vs, before := before }
    let b2 := if x.selBad w then b1.setBit (r1 .CLU_FAULT c) F.CLU_FAULT_SP_MAP else b1
    if groupCount l [] = 0 then b2.spFinish c else b2
  else b

/-- A state port of the partition transfers or waits for its buffers. -/
def Block.spBusy (b : Block) (p : Nat) : Bool :=
  (b.part p).clusters.any (fun c => (b.clu c).sp.due || decide ((b.clu c).sp.groups ≠ 0))

/-- A stop at an Equinox that waited for the transfers takes place when they have ended (R184). -/
def Block.spStop (b : Block) (p : Nat) : Block :=
  if (b.part p).stopAfter ∧ (b.part p).state = .running ∧ b.spBusy p = false then b.enterFrozen p else b

/-- One slip step of a transfer (R76). -/
def Block.spGroup (b : Block) (c : Nat) : Block :=
  let g := (b.clu c).sp.groups
  let b1 := b.modClu c (fun x => { x with sp := { x.sp with groups := x.sp.groups - 1 } })
  if g = 0 then b else if g = 1 then b1.spFinish c else b1

/-- A pending write of CLU_SP_CTRL takes effect (R78). -/
def Block.spEffect (b : Block) (c : Nat) : Block :=
  let k := r1 .CLU_SP_STATUS c
  if b.bit k F.CLU_SP_STATUS_CTRL_PENDING then
    let w := b.reg (r1 .CLU_SP_CTRL c)
    ((b.modClu c (fun x => { x with sp := { x.sp with eff := w } })).clrFld k F.CLU_SP_STATUS_CTRL_PENDING).setFld k
      F.CLU_SP_STATUS_MODE_EFF (F.CLU_SP_CTRL_MODE.get w)
  else b

/-- The Equinox of cluster c (R72, R73): pending settings take effect, the sources of the state port clear, and a transfer falls due. -/
def Block.spEquinox (b : Block) (c : Nat) : Block :=
  let b1 := b.spEffect c
  let w := (b1.clu c).sp.eff
  let mode := (b1.clu c).sp.mode
  let go := (spLoad w || spUnload w) && (decide (mode = 1) || (decide (mode = 2) && b1.spReady c w))
  b1.modClu c (fun x => { x with sp := { x.sp with loaded := false, unloaded := false, tag := 0, due := go } })

/-- A write of CLU_SP_CTRL (R78): the settings are pending. -/
def Block.spCtrl (b : Block) (c : Nat) (v : Word) : Block :=
  (b.setReg (r1 .CLU_SP_CTRL c) (v &&& 0x3000DFFF#32)).setBit (r1 .CLU_SP_STATUS c) F.CLU_SP_STATUS_CTRL_PENDING

/-- CLU_SP_CTRL_WRITE (R78). -/
def execCluSpCtrlWrite (r : Requester) (c : ClusterId) (v : Word) (s : State) : Host.Outcome State Fault Refusal :=
  s.run (fun b => b.hostWrite r (r1 .CLU_SP_CTRL c.toNat) v (·.spCtrl c.toNat v))

/-- SP_CTRL_TAKE_EFFECT (R78): while no Equinox is due. -/
def execSpCtrlTakeEffect (c : ClusterId) (s : State) : Host.Outcome State Fault Refusal :=
  s.run (fun b => if b.cluState c.toNat = .running then b else b.spEffect c.toNat)

/-- A write of an entry of the select list (R70). -/
def Block.selWrite (b : Block) (c j : Nat) (v : Word) : Block :=
  if (b.clu c).sp.mode = 0 ∧ b.bit (r1 .CLU_SP_STATUS c) F.CLU_SP_STATUS_CTRL_PENDING = false then
    b.modClu c (fun x => { x with sp := { x.sp with sel := NMap.set 0 x.sp.sel j (v &&& 0xC007FFFF#32) } })
  else b

/-- SELECT_LIST_WRITE (R70). -/
def execSelectListWrite (r : Requester) (c : ClusterId) (j : BitVec 12) (v : Word) (s : State) : Host.Outcome State Fault Refusal :=
  s.run (fun b => b.windowWrite r (r1 .CLU_SP_CTRL c.toNat) (cluOff c.toNat (0x4000 + 4 * j.toNat)) v (·.selWrite c.toNat j.toNat v))

/-- The bits of 32-bit word w of a load buffer that are not reserved (R71): word 0 carries the tag in its low 16 bits. -/
def loadMask (w : Nat) : Word := if w = 0 then 0xFFFF#32 else if w = 1 then 0#32 else 0xFFFFFFFF#32

/-- A write of 32-bit word w of a load buffer (R77): a full buffer takes nothing and sets OVERRUN. The buffer has 65 words of 64 bits (R71); the rest of
its window is a reserved range (DEDUCED, log entry 104). -/
def Block.loadWrite (b : Block) (c : Nat) (buf : Bool) (w : Nat) (v : Word) : Block :=
  if 130 ≤ w then b
  else if b.bit (r1 .CLU_SP_STATUS c) (loadFull buf) then
    (b.setBit (r1 .CLU_SP_STATUS c) F.CLU_SP_STATUS_OVERRUN).setBit (r1 .CLU_FAULT c) F.CLU_FAULT_SP_OVERRUN
  else
    let k := b2n buf * 65 + w / 2
    b.modClu c (fun x => { x with
      sp := { x.sp with
      buf := NMap.set 0 x.sp.buf k (BitVec.ofNat 64 (patch (NMap.get 0 x.sp.buf k).toNat (32 * (w % 2)) 32 (v &&& loadMask w).toNat)) } })

/-- LOAD_BUFFER_WRITE (R71, R77). -/
def execLoadBufferWrite (r : Requester) (c : ClusterId) (buf : Bool) (w : BitVec 8) (v : Word) (s : State) : Host.Outcome State Fault Refusal :=
  s.run (fun b => b.windowWrite r (r1 .CLU_SP_CTRL c.toNat) (cluOff c.toNat (0x8000 + b2n buf * 0x400 + 4 * w.toNat)) v
    (·.loadWrite c.toNat buf w.toNat v))

/-- A write of CLU_SP_HANDOFF (R77, Table 2.23). -/
def Block.spHandoff (b : Block) (c : Nat) (v : Word) : Block :=
  let k := r1 .CLU_SP_STATUS c
  let b1 := if v.getLsbD 0 then b.setBit k (loadFull false) else b
  let b2 := if v.getLsbD 1 then b1.setBit k (loadFull true) else b1
  let b3 := if v.getLsbD 2 then b2.clrFld k (unloadFull false) else b2
  if v.getLsbD 3 then b3.clrFld k (unloadFull true) else b3

/-- FREE_UNLOAD (R77). -/
def execFreeUnload (r : Requester) (c : ClusterId) (buf : Bool) (s : State) : Host.Outcome State Fault Refusal :=
  let v : Word := if buf then 8 else 4
  s.run (fun b => b.hostWrite r (r1 .CLU_SP_HANDOFF c.toNat) v (·.spHandoff c.toNat v))

/-- FULL_LOAD (R77). -/
def execFullLoad (r : Requester) (c : ClusterId) (buf : Bool) (s : State) : Host.Outcome State Fault Refusal :=
  let v : Word := if buf then 2 else 1
  s.run (fun b => b.hostWrite r (r1 .CLU_SP_HANDOFF c.toNat) v (·.spHandoff c.toNat v))

/-! ## The sentinel's position (R80, R82) -/

/-- The lock that CLU_SENT_CTRL asks for. -/
def Block.sentWant (b : Block) (c : Nat) : Option Nat :=
  if b.bit (r1 .CLU_SENT_CTRL c) F.CLU_SENT_CTRL_LOCK then some (b.fld (r1 .CLU_SENT_CTRL c) F.CLU_SENT_CTRL_LOCK_BP) else none

/-- Put position and lock, and show POS (Table 2.18). -/
def Block.sentPut (b : Block) (c pos : Nat) (lock : Option Nat) : Block :=
  (b.modClu c (fun x => { x with sentPos := pos, sentLock := lock })).setFld (r1 .CLU_SENT_STATUS c) F.CLU_SENT_STATUS_POS (lock.getD pos)

/-- The sentinel advances at an Equinox (R80) unless a lock is in effect, then a change of LOCK takes effect (R82, log entry 30). -/
def Block.sentAdvance (b : Block) (c : Nat) : Block :=
  let x := b.clu c
  if x.sentLock.isSome then b.sentPut c x.sentPos (b.sentWant c)
  else if x.sentPos = 128 then (b.wrapFld (r1 .CLU_SENT_STATUS c) F.CLU_SENT_STATUS_SWEEPS 1).sentPut c 0 (b.sentWant c)
  else b.sentPut c (x.sentPos + 1) (b.sentWant c)

/-- A write of CLU_SENT_CTRL (R82): LOCK takes effect at once unless the partition runs. One that is pending when the partition stops without an Equinox
stays pending (DEDUCED, log entry 157). -/
def Block.sentWrite (b : Block) (c : Nat) (v : Word) : Block :=
  let b1 := b.setReg (r1 .CLU_SENT_CTRL c) (v &&& 0xFF01#32)
  if b.cluState c = .running then b1 else b1.sentPut c (b.clu c).sentPos (b1.sentWant c)

/-- CLU_SENT_CTRL_WRITE (R82). -/
def execCluSentCtrlWrite (r : Requester) (c : ClusterId) (v : Word) (s : State) : Host.Outcome State Fault Refusal :=
  s.run (fun b => b.hostWrite r (r1 .CLU_SENT_CTRL c.toNat) v (·.sentWrite c.toNat v))

end Sys2Proof.Machine
end

