-- ==== Sys2Proof/Machine/Manifest.lean ====
section
/-!
DEFINITION. The manifest (R195 to R197, R220, R221): its records, the checks of Table 6.4, and what an accepted manifest sets on the module.
-/
namespace Sys2Proof.Machine

/-- A manifest record (Table 7.6), with its index. -/
structure ManRec where
  idx : Nat
  typ : Nat
  dev : Nat
  clu : Nat
  body : List Byte
  deriving DecidableEq, Repr

/-- The records of a manifest; none when one runs past its end (R220), or has a length that no record can have (DEDUCED, log entry 162). -/
def parseRecs : Nat → Nat → List Byte → Option (List ManRec)
  | 0, _, _ => some []
  | n + 1, i, l =>
    let len := leAt l 8 4
    if l.length < 12 ∨ len < 12 ∨ l.length < len ∨ len % 4 ≠ 0 then none
    else (parseRecs n (i + 1) (l.drop len)).map (fun r => ⟨i, leAt l 0 2, leAt l 2 2, leAt l 4 1, (l.take len).drop 12⟩ :: r)

/-- A manifest: its head (Table 7.5) and its records. -/
structure Man where
  ver : Nat
  part : Nat
  diam : Nat
  len : Nat
  budget : Nat
  startDc : Nat
  recs : List ManRec
  deriving DecidableEq, Repr

/-- Read a manifest; none when it breaks R220. -/
def parseMan (l : List Byte) : Option Man :=
  if l.length < 64 ∨ 64 * 2 ^ 20 < l.length then none
  else (parseRecs (min (leAt l 0x10 4) l.length) 0 (l.drop 64)).map (fun r => ⟨leAt l 0 2, leAt l 2 1, leAt l 3 1, leAt l 4 2, leAt l 6 2, leAt l 8 8, r⟩)

/-- Records of a type. -/
def Man.of (m : Man) (t : Nat) : List ManRec := m.recs.filter (fun r => decide (r.typ = t))

/-- The clusters of a device: bit i of byte floor(c / 8), i = c mod 8. -/
def Man.clusters (m : Man) (d : Nat) : List Nat :=
  (List.range 256).filter (fun c => (m.of 1).any (fun r => decide (r.dev = d) && bitAt (leAt r.body (c / 8) 1) (c % 8)))

/-- The manifest names a cluster of a device other than d. -/
def Man.remote (m : Man) (d : Nat) : Bool := (m.of 1).any (fun r => decide (r.dev ≠ d ∧ leAt r.body 0 32 ≠ 0))

/-- A route destination (Table 7.8). -/
def destOf (w0 w1 : Nat) : RDest :=
  if bitAt w0 31 then .frame (bitsOf w0 0 10) (bitsOf w1 24 8) (bitsOf w1 0 16) else .die (bitsOf w0 16 8) (bitsOf w0 0 9) (bitsOf w0 24 6)

/-- A ROUTE record. -/
def routeOf (r : ManRec) : Route :=
  ⟨r.clu, leAt r.body 0 2, leAt r.body 2 1, (List.range (leAt r.body 3 1)).map (fun i => destOf (leAt r.body (4 + 8 * i) 4) (leAt r.body (8 + 8 * i) 4))⟩

/-- The routes of a device. -/
def Man.routes (m : Man) (d : Nat) : List Route := ((m.of 3).filter (fun r => decide (r.dev = d))).map routeOf

/-- A FRAME_PATH record: receiver, sender, number, SLOTS, and its slot words. -/
structure ManPath where
  dev : Nat
  sender : Nat
  path : Nat
  slots : Nat
  words : List Nat
  deriving DecidableEq, Repr

/-- A FRAME_PATH record. -/
def pathOf (r : ManRec) : ManPath :=
  let n := leAt r.body 4 4
  ⟨r.dev, leAt r.body 0 2, leAt r.body 2 1, n, (List.range (min n (r.body.length / 4))).map (fun i => leAt r.body (8 + 4 * i) 4)⟩

/-- The frame paths. -/
def Man.paths (m : Man) : List ManPath := (m.of 4).map pathOf

/-- The lanes of a path's slots: cluster and lane. -/
def ManPath.lanes (p : ManPath) : List (Nat × Nat) := p.words.map (fun w => (bitsOf w 16 8, bitsOf w 0 9))

/-- A REGION record of a device: cluster, number, interleaved, stack, BASE, SIZE, NEED. -/
structure ManRegion where
  c : Nat
  n : Nat
  inter : Bool
  stack : Nat
  base : Nat
  size : Nat
  need : Nat
  deriving DecidableEq, Repr

/-- The regions of a device. -/
def Man.regions (m : Man) (d : Nat) : List ManRegion :=
  ((m.of 5).filter (fun r => decide (r.dev = d))).map (fun r =>
    ⟨r.clu, leAt r.body 0 1 % 16, bitAt (leAt r.body 1 1) 7, leAt r.body 1 1 % 4, leAt r.body 4 4, leAt r.body 8 4, leAt r.body 12 4⟩)

/-! ## The checks of Table 6.4 -/

/-- What a failed check names: cluster and index (Table 6.5, Table 6.6). -/
abbrev CheckAt := Nat × Nat

/-- The routes with their index within their cluster. -/
def numbered (l : List Route) : List (Nat × Route) :=
  ((List.range l.length).zip l).map (fun e => (((l.take e.1).filter (fun r => decide (r.c = e.2.c))).length, e.2))

/-- The lanes that a route latches on the die: cluster, lane, step. -/
def Route.latches (r : Route) : List (Nat × Nat × Nat) :=
  r.dests.filterMap (fun d => match d with | .die c l lat => some (c, l, r.step + lat) | .frame _ _ _ => none)

/-- The first route that satisfies a test. -/
def badRoute (l : List Route) (f : Route → Bool) : Option CheckAt := ((numbered l).find? (fun e => f e.2)).map (fun e => (e.2.c, e.1))

/-- Check 0x04. -/
def check04 (l : List Route) (len : Nat) : Option CheckAt :=
  badRoute l (fun r => r.dests.any (fun d => match d with
    | .die _ _ lat => decide (lat < 4 ∨ 40 < lat ∨ len < r.step + lat)
    | .frame _ _ _ => false))

/-- Check 0x05. -/
def check05 (l : List Route) (cs : List Nat) : Option CheckAt :=
  badRoute l (fun r => decide (r.dests.length = 0 ∨ 16 < r.dests.length) || r.dests.any (fun d => match d with
    | .die c _ _ => decide (c ∉ cs)
    | .frame _ _ _ => false))

/-- Check 0x06: a route latches a lane in a step in which an earlier one does. -/
def check06 (l : List Route) : Option CheckAt :=
  let n := numbered l
  (((List.range n.length).zip n).find? (fun e => e.2.2.latches.any (fun x => (n.take e.1).any (fun g => g.2.latches.contains x)))).map
    (fun e => (e.2.2.c, e.2.1))

/-- Check 0x07: a route latches a frame lane. -/
def check07 (l : List Route) (frame : List (Nat × Nat)) : Option CheckAt :=
  badRoute l (fun r => r.latches.any (fun x => frame.contains (x.1, x.2.1)))

/-- Check 0x08: a path that has an end on the module has no reverse path; the index is the device at its far end. -/
def check08 (ps : List ManPath) (d : Nat) : Option CheckAt :=
  (ps.find? (fun p => decide (p.dev = d ∨ p.sender = d) && !ps.any (fun q => decide (q.dev = p.sender ∧ q.sender = p.dev)))).map
    (fun p => (0, if p.dev = d then p.sender else p.dev))

/-- The slots of the paths that end on device d, as path number × 65,536 + slot, with their lanes. -/
def inSlots (ps : List ManPath) (d : Nat) : List (Nat × Nat × Nat) :=
  (ps.filter (fun p => decide (p.dev = d))).flatMap (fun p => ((List.range p.lanes.length).zip p.lanes).map (fun e => (p.path * 65536 + e.1, e.2.1, e.2.2)))

/-- A slot whose lane an earlier slot has. -/
def dupSlot (l : List (Nat × Nat × Nat)) : Option Nat :=
  (((List.range l.length).zip l).find? (fun e => (l.take e.1).any (fun g => decide (g.2 = e.2.2)))).map (fun e => e.2.1)

/-- Check 0x09. -/
def check09 (ps : List ManPath) (rs : List Route) (d : Nat) : Option CheckAt :=
  match ps.find? (fun p => decide ((p.dev = d ∨ p.sender = d) ∧ 65536 < p.slots)) with
  | some p => some (0, p.path * 65536 + 65536)
  | none => match dupSlot (inSlots ps d) with
    | some n => some (0, n)
    | none => ((rs.flatMap (fun r => r.dests.filterMap (fun x => match x with
        | .frame dev path slot =>
          if ps.any (fun p => decide (p.dev = dev ∧ p.sender = d ∧ p.path = path ∧ slot < p.slots)) then none else some (path * 65536 + slot)
        | .die _ _ _ => none))).head?).map (fun n => (0, n))

/-- Check 0x0A: the frame lanes of all partitions would exceed 131,072; the index is the number requested. -/
def Block.check0A (b : Block) (ps : List ManPath) (p d : Nat) : Option CheckAt :=
  let own := (inSlots ps d).length
  let others := ((b.parts.filter (fun e => decide (e.1 ≠ p))).map (fun e => (e.2.man.ins.map (fun q => q.slots.length)).sum)).sum
  if 131072 < own + others then some (0, own + others) else none

/-- The window of a partition in a stack contains a range given in units of 4 KiB. -/
def Block.inGrant (b : Block) (p s base n : Nat) : Bool :=
  let lo := b.fld (r2 .FMC_GRANT_BASEp_s p s) F.FMC_GRANT_BASEp_s_VALUE
  decide (lo ≤ base ∧ base + n ≤ lo + b.fld (r2 .FMC_GRANT_SIZEp_s p s) F.FMC_GRANT_SIZEp_s_VALUE)

/-- A region lies within the grants of the stacks that it occupies (R142, R143). -/
def Block.regionOk (b : Block) (p : Nat) (r : ManRegion) : Bool :=
  if r.inter then (List.range 4).all (fun s => b.inGrant p s r.base r.size) else b.inGrant p r.stack r.base (4 * r.size)

/-- Check 0x0E: a slot of no segment, or a segment of more than 1,024 slots. -/
def check0E (ps : List ManPath) (d : Nat) : Option CheckAt :=
  ((ps.filter (fun p => decide (p.dev = d ∨ p.sender = d))).flatMap (fun p => ((List.range p.words.length).zip p.words).filterMap (fun e =>
    let g := bitsOf e.2 24 8
    if g = 0xFF ∨ 1024 < (p.words.filter (fun w => decide (bitsOf w 24 8 = g))).length then some (0, p.path * 65536 + e.1) else none))).head?

/-- A record type is defined or optional (Table 7.7). -/
def typeOk (t : Nat) : Bool := decide ((1 ≤ t ∧ t ≤ 5) ∨ 0x8000 ≤ t)

/-- Check 0x03: a cluster that belongs to another partition; cluster 0 where PART itself is in use (R195). -/
def Block.check03 (b : Block) (p : Nat) (cs : List Nat) : Option CheckAt :=
  match cs.find? (fun c => match b.cluPart c with | some q => decide (q ≠ p) | none => false) with
  | some c => some (c, 0)
  | none => if (b.part p).state ≠ .winter then some (0, 0) else none

/-- The checks of Table 6.4 in the order of their codes. Those that name no cluster, path end or region (0x01, 0x02, 0x0B, 0x0F) run on every module that the
manifest reaches (DEDUCED, log entry 163). -/
def Block.manChecks (b : Block) (m : Man) : List (Nat × Option CheckAt) :=
  let d := b.devId.toNat
  let cs := m.clusters d
  let rs := m.routes d
  let ps := m.paths
  let fail (x : Bool) : Option CheckAt := if x then some (0, 0) else none
  let reg (f : ManRegion → Bool) : Option CheckAt := ((m.regions d).find? f).map (fun r => (r.c, r.n))
  [(1, fail (decide (m.ver / 256 ≠ b.fld (r0 .CFG_IFVER) F.CFG_IFVER_MAN_MAJOR))), (2, fail (decide (m.len < 16 ∨ 2048 < m.len))), (3, b.check03 m.part cs),
   (4, check04 rs m.len), (5, check05 rs cs), (6, check06 rs), (7, check07 rs ((inSlots ps d).map (·.2))), (8, check08 ps d), (9, check09 ps rs d),
   (10, b.check0A ps m.part d), (11, fail (!ps.isEmpty && decide (m.diam = 0))), (12, reg (fun r => decide (r.size < r.need))),
   (13, reg (fun r => !b.regionOk m.part r)), (14, check0E ps d),
   (15, (m.recs.find? (fun r => !typeOk r.typ)).map (fun r => (0, r.idx)))]

/-- The first failed check: its code and what it names. -/
def Block.manFail (b : Block) (m : Man) : Option (Nat × CheckAt) := (b.manChecks m).findSome? (fun e => e.2.map (fun x => (e.1, x)))

/-- The status of a failed check (Table 6.4). -/
def checkStatus (code : Nat) : Nat := if code = 1 ∨ code = 15 then 0x0A else 0x09

/-- Record the first failed check (R195). -/
def Block.manRecord (b : Block) (code p c i : Nat) : Block :=
  if b.bit (r0 .CFG_MAN_CHECK) F.CFG_MAN_CHECK_VALID then b
  else (b.setReg (r0 .CFG_MAN_CHECK) (BitVec.ofNat 32 (2 ^ 31 + code * 2 ^ 16 + p * 2 ^ 8 + c))).setReg (r0 .CFG_MAN_INDEX) (BitVec.ofNat 32 i)

/-! ## An accepted manifest -/

/-- What the module keeps of a manifest (Table 6.3). -/
def Man.keep (m : Man) (d : Nat) : Manifest :=
  { startDc := BitVec.ofNat 64 m.startDc, diam := m.diam, budget := m.budget, routes := m.routes d
    ins := (m.paths.filter (fun p => decide (p.dev = d))).map (fun p => ⟨p.path, p.sender, p.lanes⟩)
    outs := (m.paths.filter (fun p => decide (p.sender = d))).map (fun p => ⟨p.dev, p.path, p.words.map (fun w => (bitsOf w 24 8, bitAt w 15))⟩)
    classes := ((m.of 2).filter (fun r => decide (r.dev = d))).foldl (fun n r => NMap.set 0 n r.clu (leAt r.body 1 1)) []
    framePaths := !m.paths.isEmpty, remote := m.remote d }

/-- A cluster takes its configuration: CLU_CFG, the rest values of its lanes (R190), no region. -/
def Block.manCluster (b : Block) (m : Man) (c : Nat) : Block :=
  let body := (((m.of 2).find? (fun r => decide (r.dev = b.devId.toNat ∧ r.clu = c))).map (·.body)).getD []
  let b1 := b.setReg (r1 .CLU_CFG c) (BitVec.ofNat 32 (m.len * 2 ^ 16 + leAt body 0 1 % 64 * 2 ^ 8 + m.part))
  let b2 := forEach (List.range 16) b1 (fun n x => x.setReg (r2 .CLU_LANE_LATCHn c n) (BitVec.ofNat 32 (leAt body (4 + 4 * n) 4)))
  forEach (List.range 16) b2 (fun n x => (x.setReg (r2 .CLU_FREGn_BASE c n) 0).setReg (r2 .CLU_FREGn_CTRL c n) 0)

/-- A region takes its place (Table 4.18). -/
def Block.manRegion (b : Block) (r : ManRegion) : Block :=
  (b.setReg (r2 .CLU_FREGn_BASE r.c r.n) (BitVec.ofNat 32 (r.base % 2 ^ 23))).setReg (r2 .CLU_FREGn_CTRL r.c r.n)
    (BitVec.ofNat 32 (2 ^ 31 + b2n r.inter * 2 ^ 30 + r.stack * 2 ^ 28 + r.size % 2 ^ 24))

/-- An accepted manifest sets up its partition in Winter state; clusters that an earlier load gave it and this one does not are free. -/
def Block.manInstall (b : Block) (m : Man) : Block :=
  let d := b.devId.toNat
  let cs := m.clusters d
  let old := (b.part m.part).clusters.filter (fun c => decide (c ∉ cs))
  let b1 := forEach old b (fun c x => x.setReg (r1 .CLU_CFG c) 0)
  let b2 := forEach cs b1 (fun c x => x.manCluster m c)
  let b3 := forEach ((m.regions d).filter (fun r => decide (r.c ∈ cs))) b2 (fun r x => x.manRegion r)
  b3.modPart m.part (fun x => { x with clusters := cs, len := m.len, man := m.keep d })

end Sys2Proof.Machine
end

