-- ==== Sys2Proof/Machine/Store.lean ====
section
/-!
DEFINITION. The store space of a cluster (R222 to R226, Table 7.9): bytes by offset, the response queues, and the bulk window.
-/
namespace Sys2Proof.Machine

/-! ## The ranges of Table 7.9 -/

/-- A write of n bytes lies wholly in the defined ranges (R216); ranges that adjoin are one. The next-value plane is read-only and no place for a frame
(DEDUCED, log entry 111). -/
def storeDefined (off n : Nat) : Bool :=
  [(0, 0x420000), (0x440000, 0x22000), (0x480000, 0x80000), (0x500000, 0x18000), (0x520000, 0x1000)].any
    (fun e => decide (e.1 ≤ off ∧ off + n ≤ e.1 + e.2))

/-- The regions of Table 7.10. -/
inductive Region where
  | code
  | values
  | tables
  | next
  | dmb
  | queues
  | none
  deriving DecidableEq, Repr

/-- The region of an offset. -/
def regionOf (off : Nat) : Region :=
  if off < 0x400000 ∨ (0x440000 ≤ off ∧ off < 0x460000) ∨ (0x500000 ≤ off ∧ off < 0x510000) then .code
  else if off < 0x410000 then .values
  else if off < 0x420000 ∨ (0x460000 ≤ off ∧ off < 0x462000) ∨ (0x510000 ≤ off ∧ off < 0x518000) then .tables
  else if off < 0x430000 then .next
  else if 0x480000 ≤ off ∧ off < 0x500000 then .dmb
  else if 0x520000 ≤ off ∧ off < 0x521000 then .queues
  else .none

/-! ## Bytes -/

/-- Byte i of a number. -/
def byteAt (n i : Nat) : Byte := BitVec.ofNat 8 (n >>> (8 * i))

/-- A number with byte i replaced. -/
def setByteAt (n i : Nat) (v : Byte) : Nat := patch n (8 * i) 8 v.toNat

/-- Eight entries of a plane as a byte. -/
def planeByte (m : NMap Bool) (off : Nat) : Byte := BitVec.ofNat 8 (bitsNat ((List.range 8).map (fun j => NMap.get false m (off * 8 + j))))

/-- Write eight entries of a plane. -/
def setPlaneByte (m : NMap Bool) (off : Nat) (v : Byte) : NMap Bool :=
  forEach (List.range 8) m (fun j x => NMap.set false x (off * 8 + j) (v.getLsbD j))

/-- A word of a store that the scrub covers: store and word index. -/
def scrubWordOf (off : Nat) : Option (StoreSel × Nat) :=
  if off < 0x400000 then some (.bp (BitVec.ofNat 7 (off / 0x8000)), off / 16 % 2048)
  else if 0x440000 ≤ off ∧ off < 0x460000 then some (.we (BitVec.ofNat 2 ((off - 0x440000) / 0x8000)), (off - 0x440000) / 16 % 2048)
  else if 0x500000 ≤ off ∧ off < 0x510000 then some (.slot, (off - 0x500000) / 32)
  else none

/-- The number of a scrubbed store within its cluster. -/
def storeNo : StoreSel → Nat
  | .bp b => b.toNat
  | .we k => 128 + k.toNat
  | .slot => 132

/-- A pointer in the scrub frame of word w goes back to the first word of the frame (R248). -/
def restartAt (ptr w : Nat) : Nat := if ptr / 64 = w / 64 then ptr / 64 * 64 else ptr

/-- A write of a scrubbed word discards its pending correction (R65), and the pass of its scrub frame restarts where it is under way (R248). -/
def Cluster.dropFix (x : Cluster) (off : Nat) : Cluster :=
  match scrubWordOf off with
  | some w => { x with
      scrubFix := x.scrubFix.filter (fun e => decide (e ≠ w))
      scrubAt := NMap.set 0 x.scrubAt (storeNo w.1) (restartAt (NMap.get 0 x.scrubAt (storeNo w.1)) w.2) }
  | none => x

/-- Write a byte of the store space but for the response queues; reserved bytes and the next-value plane ignore it. -/
def Cluster.putByte (x0 : Cluster) (off : Nat) (v : Byte) : Cluster :=
  let x := x0.dropFix off
  if off < 0x400000 then
    if off % 16 < 12 then { x with instr := NMap.set 0 x.instr (off / 16) (BitVec.ofNat 96 (setByteAt (NMap.get 0 x.instr (off / 16)).toNat (off % 16) v)) } else x
  else if off < 0x410000 then { x with initVs := setPlaneByte x.initVs (off - 0x400000) v }
  else if off < 0x420000 then { x with map := setPlaneByte x.map (off - 0x410000) v }
  else if 0x440000 ≤ off ∧ off < 0x460000 then
    let o := off - 0x440000
    if o % 16 < 9 then { x with prog := NMap.set 0 x.prog (o / 16) (BitVec.ofNat 72 (setByteAt (NMap.get 0 x.prog (o / 16)).toNat (o % 16) v)) } else x
  else if 0x460000 ≤ off ∧ off < 0x461000 then
    let o := off - 0x460000
    { x with pack := NMap.set 0 x.pack (o / 64) (BitVec.ofNat 512 (setByteAt (NMap.get 0 x.pack (o / 64)).toNat (o % 64) v)) }
  else if 0x461000 ≤ off ∧ off < 0x462000 then
    let o := off - 0x461000
    let w := o % 0x400 / 4
    let k := o / 0x400 * 256 + w
    if w < 144 then { x with init := NMap.set 0 x.init k (BitVec.ofNat 32 (setByteAt (NMap.get 0 x.init k).toNat (o % 4) v)) } else x
  else if 0x480000 ≤ off ∧ off < 0x500000 then
    let o := off - 0x480000
    if o % 16 < 9 then { x with dmb := NMap.set 0 x.dmb (o / 16) (BitVec.ofNat 72 (setByteAt (NMap.get 0 x.dmb (o / 16)).toNat (o % 16) v)) } else x
  else if 0x500000 ≤ off ∧ off < 0x510000 then
    let o := off - 0x500000
    if o % 32 < 20 then { x with slot := NMap.set 0 x.slot (o / 32) (BitVec.ofNat 160 (setByteAt (NMap.get 0 x.slot (o / 32)).toNat (o % 32) v)) } else x
  else if 0x510000 ≤ off ∧ off < 0x518000 then
    let o := off - 0x510000
    let i := o % 128 / 8
    let k := o / 128 * 14 + i
    if i < 14 then { x with pmap := NMap.set 0 x.pmap k (BitVec.ofNat 64 (setByteAt (NMap.get 0 x.pmap k).toNat (o % 8) v)) } else x
  else x

/-- The live value of an entry, or in Winter state the initial plane (Table 7.10). -/
def Cluster.plane (x : Cluster) (winter : Bool) : NMap Bool := if winter then x.initVs else x.vs

/-- A saved response-queue entry (Table 4.5) as a number of 128 bits. -/
def FmpEnt.saved (e : FmpEnt) : Nat :=
  bitsOf e.data.toNat 0 64 + 2 ^ 64 * (bitsOf e.data.toNat 64 8 + b2n e.cls * 2 ^ 8 + b2n e.ack * 2 ^ 9 + b2n e.err * 2 ^ 10 + e.base * 2 ^ 11 + e.dw * 2 ^ 20)

/-- Read a byte of the store space. -/
def Cluster.getByte (x : Cluster) (winter : Bool) (off : Nat) : Byte :=
  if off < 0x400000 then (if off % 16 < 12 then byteAt (NMap.get 0 x.instr (off / 16)).toNat (off % 16) else 0)
  else if off < 0x410000 then planeByte (x.plane winter) (off - 0x400000)
  else if off < 0x420000 then planeByte x.map (off - 0x410000)
  else if off < 0x430000 then
    let o := (off - 0x420000) * 8
    BitVec.ofNat 8 (bitsNat ((List.range 8).map (fun j => (x.next.find (o + j)).getD (NMap.get false x.vs (o + j)))))
  else if 0x440000 ≤ off ∧ off < 0x460000 then
    let o := off - 0x440000
    if o % 16 < 9 then byteAt (NMap.get 0 x.prog (o / 16)).toNat (o % 16) else 0
  else if 0x460000 ≤ off ∧ off < 0x461000 then byteAt (NMap.get 0 x.pack ((off - 0x460000) / 64)).toNat (off % 64)
  else if 0x461000 ≤ off ∧ off < 0x462000 then
    let o := off - 0x461000
    let w := o % 0x400 / 4
    if w < 144 then byteAt (NMap.get 0 x.init (o / 0x400 * 256 + w)).toNat (o % 4) else 0
  else if 0x480000 ≤ off ∧ off < 0x500000 then
    let o := off - 0x480000
    if o % 16 < 9 then byteAt (NMap.get 0 x.dmb (o / 16)).toNat (o % 16) else 0
  else if 0x500000 ≤ off ∧ off < 0x510000 then
    let o := off - 0x500000
    if o % 32 < 20 then byteAt (NMap.get 0 x.slot (o / 32)).toNat (o % 32) else 0
  else if 0x510000 ≤ off ∧ off < 0x518000 then
    let o := off - 0x510000
    let i := o % 128 / 8
    if i < 14 then byteAt (NMap.get 0 x.pmap (o / 128 * 14 + i)).toNat (o % 8) else 0
  else if 0x520000 ≤ off ∧ off < 0x521000 then
    let o := off - 0x520000
    match ((x.fmpQ (o / 1024)).filter (fun e => e.present))[o / 16 % 64]? with
    | some e => byteAt e.saved (o % 16)
    | none => 0
  else 0

/-! ## The response queues (R153, R225) -/

/-- Append a saved entry to the queue of FMP n: it counts as reserved and present. -/
def Cluster.appendSaved (x : Cluster) (n v : Nat) : Cluster :=
  let e : FmpEnt := { num := x.nextReq, cls := bitAt v 72, kind := 0, dw := bitsOf v 84 7, base := bitsOf v 75 9, stack := 0, addr := 0,
                      data := BitVec.ofNat 72 (bitsOf v 0 72), acted := true, present := true, err := bitAt v 74, ack := bitAt v 73 }
  { x.setFmpQ n (x.fmpQ n ++ [e]) with nextReq := x.nextReq + 1 }

/-- A write of bytes in the queue range at offset o: the entry at the index of the next one lands with its word 1, word 0 having been written;
none where the write is refused. -/
def Cluster.queueWrite (x : Cluster) (o : Nat) (l : List Byte) : Option Cluster :=
  let n := o / 1024
  let i := o / 16 % 64
  if i ≠ (x.fmpQ n).length ∨ 16 < o % 16 + l.length then none
  else
    let pend := forEach ((List.range l.length).zip l) x.qPend (fun e m => m.put (o + e.1) e.2)
    let at_ (j : Nat) : Nat := (NMap.get 0 pend (o / 16 * 16 + j)).toNat
    if o % 16 ≤ 8 ∧ 8 < o % 16 + l.length then
      if (List.range 8).all (fun j => (pend.find (o / 16 * 16 + j)).isSome) then
        some { (x.appendSaved n ((List.range 16).foldl (fun a j => a + at_ j * 2 ^ (8 * j)) 0)) with qPend := pend.clearRange (o / 16 * 16) 16 }
      else none
    else some { x with qPend := pend }

/-- Cut a run of queue bytes at the entry boundaries. -/
def queueRuns : Nat → Nat → List Byte → List (Nat × List Byte)
  | 0, _, _ => []
  | n + 1, o, l =>
    let k := 16 - o % 16
    if l.isEmpty then [] else (o, l.take k) :: queueRuns n (o + k) (l.drop k)

/-- The offset of a byte lies in the response queues. -/
def inQueues (o : Nat) : Bool := decide (regionOf o = .queues)

/-- Write a run of bytes to the store space of a cluster; none where a queue write is refused. The bytes of the response queues adjoin. -/
def Cluster.putBytes (x : Cluster) (off : Nat) (l : List Byte) : Option Cluster :=
  let all := ((List.range l.length).zip l).map (fun e => (off + e.1, e.2))
  let q := all.filter (fun e => inQueues e.1)
  let y := forEach (all.filter (fun e => !inQueues e.1)) x (fun e z => z.putByte e.1 e.2)
  match q with
  | [] => some y
  | (o, _) :: _ => (queueRuns (l.length / 16 + 2) (o - 0x520000) (q.map (·.2))).foldl (fun z e => z.bind (fun w => w.queueWrite e.1 e.2)) (some y)

/-! ## The bulk window (R224 to R226) -/

/-- The cluster named by CFG_BULK_SEL. -/
def Block.bulkSel (b : Block) : Nat := b.fld (r0 .CFG_BULK_SEL) F.CFG_BULK_SEL_CLUSTER

/-- The cluster's queues may be read: every entry of FMP n has its response (R153). -/
def Block.fmpDrained (b : Block) (c n : Nat) : Bool := ((b.clu c).fmpQ n).all (fun e => e.present)

/-- Table 7.10: a read of a region in a state. -/
def bulkReadOk (st : PState) (g : Region) : Bool :=
  match st with
  | .frost => false
  | .winter => decide (g ≠ .next ∧ g ≠ .queues)
  | .running => decide (g = .code ∨ g = .none)
  | .frozen => true
  | .stoppedFault => decide (g ≠ .queues)

/-- Table 7.10: a write of a region in a state. -/
def bulkWriteOk (st : PState) (g : Region) : Bool :=
  match st with
  | .winter => decide (g ≠ .next)
  | .frozen => decide (g = .code ∨ g = .dmb ∨ g = .none)
  | _ => decide (g = .none)

/-- The session of the requester reaches the store of cluster c (R226, R475). -/
def Block.bulkRight (b : Block) (r : Requester) (c : Nat) : Bool :=
  match b.cluPart c with
  | none => false
  | some p => b.operCovers r p && (match r with | .vf v => decide (v.toNat = p) | _ => true)

/-- A bulk access is refused: the bit of CFG_BULK_STATUS sets. -/
def Block.bulkRefuse (b : Block) (f : Fld) : Block := b.setBit (r0 .CFG_BULK_STATUS) f

/-- The byte at an offset of the store space may be read (Table 7.10, R153). -/
def Block.bulkByteOk (b : Block) (c off : Nat) : Bool :=
  bulkReadOk (b.cluState c) (regionOf off) && (!inQueues off || b.fmpDrained c ((off - 0x520000) / 1024))

/-- The bank of a store that a fetch takes in the present cycle (R62, R63, R92, R127): that of the step, or of the word at WPC; none in a cycle without a
fetch. -/
def Block.busyBank (b : Block) (c : Nat) (st : StoreSel) : Option Nat :=
  match b.inDc c with
  | none => none
  | some p =>
    if (b.part p).slipping then none
    else some (match st with | .we k => b.wpc c k.toNat % 2 | _ => (b.part p).step % 2)

/-- The bank of word w of a store has a free slot now. -/
def Block.slotFree (b : Block) (c : Nat) (st : StoreSel) (w : Nat) : Bool := decide (b.busyBank c st ≠ some (w % 2))

/-- The words of the scrubbed stores that a range touches. -/
def storeWords (off len : Nat) : List (StoreSel × Nat) := ((List.range len).filterMap (fun i => scrubWordOf (off + i))).eraseDups

/-- Two words share a bank of one store. -/
def sameBank (v w : StoreSel × Nat) : Bool := decide (v.1 = w.1 ∧ v.2 % 2 = w.2 % 2)

/-- A bulk read waits for the bank of a word (R65). -/
def Cluster.bulkAhead (x : Cluster) (w : StoreSel × Nat) : Bool := x.bulkWait.any (fun e => e.words.any (sameBank w))

/-- The words of a bulk read that wait: of each bank all but the first, and that one too where a fetch takes the bank or an earlier bulk read waits for it. -/
def Block.bulkLeft (b : Block) (c : Nat) (l : List (StoreSel × Nat)) : List (StoreSel × Nat) :=
  l.filter (fun w => !(b.slotFree c w.1 w.2 && !(b.clu c).bulkAhead w && decide (l.find? (sameBank w) = some w)))

/-- The bytes of a range of the store space of a cluster. -/
def Block.storeBytes (b : Block) (c off len : Nat) : List Byte :=
  (List.range len).map (fun i => (b.clu c).getByte (decide (b.cluState c = .winter)) (off + i))

/-- A requester may read a range through the bulk window: an access that Table 7.10 refuses for any of its bytes is refused whole (DEDUCED, log entry 110). -/
def Block.bulkReadRight (b : Block) (r : Requester) (off len : Nat) : Bool :=
  b.bulkRight r b.bulkSel && (List.range len).all (fun i => b.bulkByteOk b.bulkSel (off + i))

/-- A read through the bulk window, at once; one within a register-space access waits inside that access (log entry 114). -/
def Block.bulkRead (b : Block) (r : Requester) (off len : Nat) : Block :=
  if b.bulkReadRight r off len then { b with reply := b.storeBytes b.bulkSel off len }
  else { b.bulkRefuse F.CFG_BULK_STATUS_REFUSED_RD with reply := List.replicate len 0 }

/-- BULK_READ of `len` bytes at an offset: of a running store each word takes a free slot of its bank, and the read is answered with its last word (R65);
until then it has returned no byte. -/
def Block.bulkFetch (b : Block) (r : Requester) (off len : Nat) : Block :=
  let c := b.bulkSel
  let left := b.bulkLeft c (storeWords off len)
  if b.bulkReadRight r off len && decide (b.cluState c = .running) && !left.isEmpty then
    { b.modClu c (fun x => { x with bulkWait := x.bulkWait ++ [⟨off, len, left⟩] }) with reply := [] }
  else b.bulkRead r off len

/-- A free slot of the bank of a word serves the oldest bulk read that waits for it; a read whose last word it was is answered. -/
def Block.bulkSlot (b : Block) (c : Nat) (w : StoreSel × Nat) : Block :=
  let x := b.clu c
  match x.bulkWait.find? (fun e => e.words.any (sameBank w)) with
  | none => b
  | some e =>
    let left := dropFirst (sameBank w) e.words
    if left.isEmpty then { b.setClu c { x with bulkWait := x.bulkWait.erase e } with reply := b.storeBytes c e.off e.len }
    else b.setClu c { x with bulkWait := x.bulkWait.map (fun f => if f = e then { e with words := left } else f) }

/-- The requester reaches BAR0. -/
def Block.bulkReach (b : Block) (r : Requester) : Bool := b.reaches r (r0 .CFG_BULK_SEL)

/-- BULK_READ (R224). -/
def execBulkRead (r : Requester) (off : BitVec 25) (len : BitVec 7) (s : State) : Host.Outcome State Fault Refusal :=
  s.run (fun b => if b.bulkReach r then b.bulkFetch r off.toNat len.toNat else { b with reply := List.replicate len.toNat 0 })

/-- A bulk write (R224, R225); it is refused whole where Table 7.10 refuses any of its bytes. -/
def Block.bulkWrite (b : Block) (r : Requester) (off : Nat) (l : List Byte) : Block :=
  let c := b.bulkSel
  if b.bulkRight r c ∧ (List.range l.length).all (fun i => bulkWriteOk (b.cluState c) (regionOf (off + i))) then
    match (b.clu c).putBytes off l with
    | some x => b.setClu c x
    | none => b.bulkRefuse F.CFG_BULK_STATUS_REFUSED_WR
  else b.bulkRefuse F.CFG_BULK_STATUS_REFUSED_WR

/-- BULK_WRITE (R224). -/
def execBulkWrite (r : Requester) (off : BitVec 25) (bytes : List Byte) (s : State) : Host.Outcome State Fault Refusal :=
  s.run (fun b => if b.bulkReach r then b.bulkWrite r off.toNat bytes else b)

end Sys2Proof.Machine
end

