-- ==== Sys2Proof/Machine/Trace.lean ====
section
/-!
DEFINITION. Trace streams (R416 to R429): pages and their queues, records, the capture of a DC, rate reduction, loss and dead time,
start, stop, post-trigger capture, and the commands of a stream.
-/
namespace Sys2Proof.Machine

/-- A stream. -/
def Block.stream (b : Block) (x : Nat) : Stream := NMap.get {} b.streams x

/-- Put a stream, and show its queues in STATUS and PAGES (Table 13.16). -/
def Block.setStream (b : Block) (x : Nat) (s : Stream) : Block :=
  let k := r1 .TRC_Sx_STATUS x
  let n := b2n s.fill.isSome
  ((((({ b with streams := b.streams.put x s }).setFld k F.TRC_Sx_STATUS_FREE s.free.length).setFld k F.TRC_Sx_STATUS_DONE s.done.length).setFld k
    F.TRC_Sx_STATUS_FILLING n).setFld k F.TRC_Sx_STATUS_FACTOR s.factor).setFld (r1 .TRC_Sx_PAGES x) F.TRC_Sx_PAGES_HELD
    (s.free.length + n + s.done.length)

/-- Change a stream. -/
def Block.modStream (b : Block) (x : Nat) (f : Stream → Stream) : Block := b.setStream x (f (b.stream x))

/-- The state of a stream (R427). -/
def Block.strState (b : Block) (x : Nat) : Nat := b.fld (r1 .TRC_Sx_STATUS x) F.TRC_Sx_STATUS_STATE

/-- Enter a state. -/
def Block.strEnter (b : Block) (x st : Nat) : Block := b.setFld (r1 .TRC_Sx_STATUS x) F.TRC_Sx_STATUS_STATE st

/-- A bit of a stream's CFG. -/
def Block.strCfg (b : Block) (x : Nat) (f : Fld) : Bool := b.bit (r1 .TRC_Sx_CFG x) f

/-- The streams that partition p owns, in RUN or POST, which do not end. -/
def Block.strLive (b : Block) (p : Nat) : List Nat :=
  (List.range 16).filter (fun x => decide (b.strOwner x = some p) && decide (b.strState x = 1 ∨ b.strState x = 2) && (b.stream x).ending.isNone)

/-- The DC of partition p whose items are handed over next (R33): one that is closed waits while a transfer is due. -/
def Block.handNext (b : Block) (p : Nat) : Nat :=
  match (b.part p).hand with
  | some e => e.1
  | none => (b.part p).dc.toNat

/-! ## Pages -/

/-- The size of a page (R418). -/
def pageBytes : Nat := 65536

/-- The record bytes that a page holds behind its header. -/
def pageRoom : Nat := pageBytes - 64

/-- The header of a page (Table 13.7). -/
def pageHeader (x part dev seq : Nat) (f : TrcFill) (last : Bool) : List Byte :=
  leBytes 4 0x5254594C ++ leBytes 1 x ++ leBytes 1 part ++ leBytes 2 dev ++ leBytes 4 seq ++ leBytes 4 (64 + f.recs.length) ++ leBytes 8 f.dc
    ++ leBytes 12 f.ts.toNat ++ leBytes 1 f.factor ++ leBytes 1 (b2n last) ++ leBytes 26 0

/-- Write bytes to a page: host memory through the serving function, or far memory, coherent with the caches (R418, R146). -/
def Block.trcWrite (b : Block) (p : Nat) (g : TrcPage) (l : List Byte) : Block :=
  if g.space then
    let s := g.addr / 2 ^ 35
    let a := g.addr % 2 ^ 35
    (forEach (List.range (l.length / 64)) b (fun i y => y.snoop none s (a + 64 * i) true)).farWrite s a l
  else b.send (.write (b.servingFn p) g.addr l)

/-- Close the page being filled, with its LAST flag; false while DONE is full (R418). -/
def Block.closePage (b : Block) (x : Nat) (last : Bool) : Block × Bool :=
  let s := b.stream x
  match s.fill with
  | none => (b, true)
  | some f =>
    if 256 ≤ s.done.length then (b, false)
    else
      let p := (b.strOwner x).getD 0
      let l := pageHeader x p b.devId.toNat s.seq f last ++ f.recs
      ((b.trcWrite p f.page (l ++ List.replicate (pageBytes - l.length) 0)).setStream x
        { s with fill := none, done := s.done ++ [f.page], seq := s.seq + 1, closeDue := none }, true)

/-- Close the page now, or as soon as DONE has room. -/
def Block.closeOrWait (b : Block) (x : Nat) (last : Bool) : Block :=
  match b.closePage x last with
  | (b1, true) => b1
  | (b1, false) => b1.modStream x (fun s => { s with closeDue := some last })

/-- The DC record (Table 13.8). -/
def dcRecord (dc : Nat) (ts : Stamp) (f : Nat) : List Byte := leBytes 1 0x10 ++ leBytes 1 f ++ leBytes 2 0 ++ leBytes 8 dc ++ leBytes 12 ts.toNat

/-- A page begun with the record of the current DC (R422). -/
def Stream.begun (s : Stream) (g : TrcPage) : Option TrcFill :=
  s.cur.map (fun c => ⟨{ g with empty := false }, dcRecord c.1 c.2.1 c.2.2, c.1, c.2.1, c.2.2⟩)

/-- Take a page and begin it (R418, R422); with WRAP the oldest DONE page is taken back (R424). -/
def Block.openPage (b : Block) (x : Nat) : Option Block :=
  let s := b.stream x
  match s.cur, s.free, s.done with
  | none, _, _ => none
  | some _, g :: r, _ => some (b.setStream x { s with free := r, fill := s.begun g })
  | some _, [], g :: r =>
    if b.strCfg x F.TRC_Sx_CFG_WRAP then
      some ((b.setStream x { s with done := r, fill := s.begun g }).satFld (r1 .TRC_Sx_PAGES x) F.TRC_Sx_PAGES_RECLAIMED 1)
    else none
  | some _, [], [] => none

/-- Close the page and take the next; where DONE is full, its oldest page is taken back first (R424). -/
def Block.turnPage (b : Block) (x : Nat) : Option Block :=
  match b.closePage x false with
  | (b1, true) => b1.openPage x
  | (_, false) =>
    let s := b.stream x
    match s.free, s.done with
    | [], g :: r =>
      if b.strCfg x F.TRC_Sx_CFG_WRAP then
        let b1 := ((b.setStream x { s with done := r }).closePage x false).1
        some ((b1.modStream x (fun y => { y with fill := y.begun g })).satFld (r1 .TRC_Sx_PAGES x) F.TRC_Sx_PAGES_RECLAIMED 1)
      else none
    | _, _ => none

/-- Append bytes to the page being filled. -/
def Block.addRec (b : Block) (x : Nat) (r : List Byte) : Block :=
  b.modStream x (fun s => { s with fill := s.fill.map (fun f => { f with recs := f.recs ++ r }) })

/-- Record bytes that still fit: a page that is yet to be taken begins with its DC record. -/
def Block.trcRoom (b : Block) (x : Nat) : Nat :=
  match (b.stream x).fill with
  | none => pageRoom - 24
  | some f => pageRoom - f.recs.length

/-- Write one record (R422); none when no page is available. -/
def Block.putRec (b : Block) (x : Nat) (r : List Byte) : Option Block :=
  match (b.stream x).fill with
  | none => (b.openPage x).map (fun y => y.addRec x r)
  | some f => if f.recs.length + r.length ≤ pageRoom then some (b.addRec x r) else (b.turnPage x).map (fun y => y.addRec x r)

/-- Write the DC record of a new current DC: a new page begins with it. -/
def Block.putDc (b : Block) (x dc : Nat) (ts : Stamp) (f : Nat) : Option Block :=
  let b1 := b.modStream x (fun s => { s with cur := some (dc, ts, f) })
  match (b1.stream x).fill with
  | none => b1.openPage x
  | some g => if g.recs.length + 24 ≤ pageRoom then some (b1.addRec x (dcRecord dc ts f)) else b1.turnPage x

/-- Write records in order as far as pages are available; the others wait in the input buffer. -/
def Block.putAll (x : Nat) : List (List Byte) → Block → Block
  | [], b => b.modStream x (fun s => { s with wait := [] })
  | r :: rest, b => match b.putRec x r with
    | some y => Block.putAll x rest y
    | none => b.modStream x (fun s => { s with wait := r :: rest })

/-- A stream that ends and has written its records closes its page with LAST as soon as DONE has room, and enters its state (R427, R429). -/
def Block.strSettle (b : Block) (x : Nat) : Block :=
  match (b.stream x).ending with
  | none => b
  | some st =>
    if (b.stream x).wait.isEmpty then
      match b.closePage x true with
      | (b1, true) =>
        let b2 := (b1.modStream x (fun s => { s with ending := none, cur := none, stopAt := none })).strEnter x st
        if st = 0 then b2.clrFld (r1 .TRC_Sx_STATUS x) F.TRC_Sx_STATUS_RELEASING else b2
      | (_, false) => b
    else b

/-- Write the records that wait, once the stream has a DC record to begin a page with (R422). -/
def Block.putWaiting (b : Block) (x : Nat) : Block := (if (b.stream x).cur.isSome then Block.putAll x (b.stream x).wait b else b).strSettle x

/-- A QUAL, TRIG, LOSS or RATE record (R421). -/
def Block.noteRec (b : Block) (x : Nat) (r : List Byte) : Block := (b.modStream x (fun s => { s with wait := s.wait ++ [r] })).putWaiting x

/-! ## The entries of a cluster (R421) -/

/-- An entry: a probe result (step, BP, value) or a changed state bit (BP, address, value). -/
inductive TrcEnt where
  | probe (step bp : Nat) (v : Bool)
  | state (bp a : Nat) (v : Bool)
  deriving DecidableEq, Repr

/-- A varint of a step delta: 7 bits a byte, low group first. -/
def varint (d : Nat) : List Byte := if d < 128 then leBytes 1 d else leBytes 1 (128 + d % 128) ++ leBytes 1 (d / 128)

/-- The bytes of an entry, `prev` being the step of the probe before it in the record. -/
def TrcEnt.code (prev : Nat) : TrcEnt → List Byte
  | .probe s bp v => varint (s - prev) ++ leBytes 1 (b2n v * 128 + bp)
  | .state bp a v => leBytes 3 (b2n v * 2 ^ 23 + bp * 2 ^ 16 + a)

/-- A CLUSTER record being formed. -/
structure CluRec where
  np : Nat := 0
  ns : Nat := 0
  prev : Nat := 0
  bytes : List Byte := []
  deriving DecidableEq, Repr

/-- The record with an entry more. -/
def CluRec.add (r : CluRec) (e : TrcEnt) : CluRec :=
  match e with
  | .probe s _ _ => { r with np := r.np + 1, prev := s, bytes := r.bytes ++ e.code r.prev }
  | .state _ _ _ => { r with ns := r.ns + 1, bytes := r.bytes ++ e.code r.prev }

/-- The bytes of a CLUSTER record (Table 13.8). -/
def CluRec.encode (r : CluRec) (c : Nat) : List Byte := leBytes 1 0x20 ++ leBytes 1 c ++ leBytes 3 r.np ++ leBytes 3 r.ns ++ r.bytes

/-- Add an entry: where it does not fit, the record is written and another begins on the next page (R422). -/
def Block.putEnt (x c : Nat) (z : Option (Block × CluRec)) (e : TrcEnt) : Option (Block × CluRec) :=
  match z with
  | none => none
  | some (b, r) =>
    if 8 + (r.add e).bytes.length ≤ b.trcRoom x then some (b, r.add e)
    else (if r.bytes.isEmpty then some b else b.putRec x (r.encode c)).bind (fun b1 =>
      (b1.turnPage x).map (fun b2 => (b2, ({} : CluRec).add e)))

/-- Write the entries of one cluster. -/
def Block.putClu (b : Block) (x c : Nat) (l : List TrcEnt) : Option Block :=
  match l.foldl (Block.putEnt x c) (some (b, {})) with
  | none => none
  | some (b1, r) => if r.bytes.isEmpty then some b1 else b1.putRec x (r.encode c)

/-- What one cluster hands over at an Equinox (R33, action 6): probe results by step and BP, changed state bits by BP and address. -/
structure Handed where
  c : Nat
  probes : List TrcEnt
  states : List TrcEnt
  deriving DecidableEq, Repr

/-- The entries of a cluster that a stream selects (R416). -/
def Block.selected (b : Block) (x : Nat) (h : Handed) : List TrcEnt :=
  (if b.strCfg x F.TRC_Sx_CFG_PRB then h.probes else []) ++ (if b.strCfg x F.TRC_Sx_CFG_STATE then h.states else [])

/-- The bytes that a DC takes in the input buffer. -/
def Block.dcBytes (b : Block) (x : Nat) (hs : List Handed) : Nat :=
  hs.foldl (fun n h =>
    let l := b.selected x h
    if l.isEmpty then n else n + 8 + (l.foldl CluRec.add {}).bytes.length) 24

/-- The LOSS record (Table 13.8). -/
def lossRecord (n first : Nat) : List Byte := leBytes 1 0x30 ++ leBytes 3 0 ++ leBytes 4 n ++ leBytes 8 first

/-- Write the LOSS record of the DCs lost since the last one, before the next group of a captured DC (R421, R424). -/
def Block.putLoss (b : Block) (x : Nat) : Block :=
  match (b.stream x).lost with
  | some (n, first) => (b.modStream x (fun s => { s with lost := none })).noteRec x (lossRecord n first)
  | none => b

/-- Capture a whole DC (R417, R421); none when a page for it is not available. -/
def Block.captureDc (b : Block) (x dc : Nat) (ts : Stamp) (hs : List Handed) : Option Block :=
  let b0 := b.putLoss x
  let b1 := b0.putDc x dc ts (b0.stream x).factor
  (hs.foldl (fun z h => z.bind (fun y => y.putClu x h.c (y.selected x h))) b1).map (fun y => y.putWaiting x)

/-! ## Loss, dead time and rate reduction (R423 to R425) -/

/-- A DC is lost: LOST counts (R424). -/
def Block.loseDc (b : Block) (x dc : Nat) : Block :=
  (b.setReg (r1 .TRC_Sx_LOST x) (b.reg (r1 .TRC_Sx_LOST x) + 1)).modStream x (fun s =>
    { s with lost := some (match s.lost with | some (n, f) => (n + 1, f) | none => (1, dc)) })

/-- Dead time (R425): the stamps in units of 2^-16 ns. -/
def Block.deadDc (b : Block) (x ns : Nat) : Block :=
  let lo := r1 .TRC_Sx_DEAD_NS_LO x
  let hi := r1 .TRC_Sx_DEAD_NS_HI x
  (b.setReg (r1 .TRC_Sx_DEAD_DC x) (b.reg (r1 .TRC_Sx_DEAD_DC x) + 1)).setReg64 lo hi (b.reg64 lo hi + ns)

/-- FIX; above 8 acts as 8. -/
def Block.trcFix (b : Block) (x : Nat) : Nat := min 8 (b.fld (r1 .TRC_Sx_CFG x) F.TRC_Sx_CFG_FIX)

/-- MAXF; above 8 acts as 8, below FIX as FIX. -/
def Block.trcMax (b : Block) (x : Nat) : Nat := max (b.trcFix x) (min 8 (b.fld (r1 .TRC_Sx_CFG x) F.TRC_Sx_CFG_MAXF))

/-- The first multiple of 2^f after a DC. -/
def nextSelected (dc f : Nat) : Nat := (dc / 2 ^ f + 1) * 2 ^ f

/-- A new factor is in force after DC dc; its RATE record names the first DC captured under it (R423). -/
def Block.setFactor (b : Block) (x dc f : Nat) : Block :=
  (b.modStream x (fun s => { s with factor := f, calm := 0 })).noteRec x
    (leBytes 1 0x40 ++ leBytes 1 f ++ leBytes 2 0 ++ leBytes 8 (nextSelected dc f))

/-- Automatic rate reduction at an Equinox (R423), `level` being the bytes in the 1 MiB input buffer. -/
def Block.autoRate (b : Block) (x dc level : Nat) : Block :=
  let s := b.stream x
  if b.strCfg x F.TRC_Sx_CFG_AUTO = false then b
  else if 3 * 2 ^ 18 < level then (if s.factor < b.trcMax x then b.setFactor x dc (s.factor + 1) else b.setStream x { s with calm := 0 })
  else if level < 2 ^ 18 then
    (if s.calm + 1 = 256 ∧ b.trcFix x < s.factor then b.setFactor x dc (s.factor - 1) else b.setStream x { s with calm := min 255 (s.calm + 1) })
  else b.setStream x { s with calm := 0 }

/-! ## Stop and post-trigger capture (R427, R428) -/

/-- The STOP record (Table 13.8). -/
def stopRecord (dc : Nat) : List Byte := leBytes 1 0x60 ++ leBytes 3 0 ++ leBytes 8 dc

/-- The stream ends: it writes STOP naming a DC after the records that wait, closes the page with LAST and enters a state. A stream that captured nothing has no
page. -/
def Block.finish (b : Block) (x dc st : Nat) : Block :=
  let b1 := b.putLoss x
  (b1.modStream x (fun s => { s with
    ending := some st, wait := if s.cur.isSome then s.wait ++ [stopRecord dc] else [], closeDue := none })).putWaiting x

/-- The input buffer of a stream has drained for ns at no more than 32 bytes a nanosecond (R417): how far is a free value (log entry 34). -/
def Block.trcDrain (b : Block) (x ns : Nat) : Block :=
  (b.modStream x (fun s => { s with level := s.level - (b.fresh 64).toNat % (min s.level (32 * ns) + 1) })).draw

/-- The trace writer empties its input buffers into pages (R527). -/
def Block.trcEmpty (b : Block) : Block := forEach (List.range 16) b (fun x y => y.modStream x (fun s => { s with level := 0 }))

/-- The Equinox of DC dc reaches a stream in RUN or POST (R423 to R428), which captures from its first DC on. -/
def Block.trcDc (b : Block) (dc ns : Nat) (ts : Stamp) (hs : List Handed) (x : Nat) : Block :=
  let b0 := b.trcDrain x ns
  let sel := decide (dc % 2 ^ (b0.stream x).factor = 0)
  let level := (b0.stream x).level + b0.dcBytes x hs
  let got : Option Block := if sel && decide (level ≤ 2 ^ 20) then (b0.captureDc x dc ts hs).map (fun y => y.modStream x (fun s => { s with level := level })) else none
  let b1 : Block := match got with
    | some y => y
    | none => (if sel then b0.loseDc x dc else b0).deadDc x ns
  let b2 := (b1.modStream x (fun s => { s with last := dc })).autoRate x dc (b1.stream x).level
  if dc < (b.stream x).first then b
  else if (b2.stream x).stopAt.isSome then b2.finish x dc 3
  else if b2.strState x = 2 ∧ (b2.stream x).postEnd ≤ dc then b2.finish x (b2.stream x).postEnd 3
  else b2

/-- TRACE_CAPTURE (R417) and POST_TRIGGER_END (R428): the Equinox of DC dc of partition p at a stamp, `ns` after the one before. -/
def Block.trcEquinox (b : Block) (p dc ns : Nat) (ts : Stamp) (hs : List Handed) : Block :=
  forEach (b.strLive p) b (fun x y => y.trcDc dc ns ts hs x)

/-- A trigger output fires with fire DC f (R411, R428): the TRIG record, POST, and the end at once when DC F + POST_DC has been handed over. -/
def Block.trcFire (b : Block) (p t f : Nat) (ts : Stamp) : Block :=
  let xs := (b.strLive p).filter (fun x => decide (b.strState x = 1 ∧ (b.stream x).stopAt = none) && b.strCfg x F.TRC_Sx_CFG_TRIG_EN
    && decide (b.fld (r1 .TRC_Sx_CFG x) F.TRC_Sx_CFG_TRIG = t))
  forEach xs b (fun x y =>
    let e := f + y.fld (r1 .TRC_Sx_POSTDC x) F.TRC_Sx_POSTDC_POST_DC
    let y1 := ((y.noteRec x (leBytes 1 0x50 ++ leBytes 1 t ++ leBytes 2 0 ++ leBytes 8 f ++ leBytes 12 ts.toNat)).modStream x
      (fun s => { s with postEnd := e })).strEnter x 2
    if e < y.handNext p then y1.finish x e 3 else y1)

/-- A qualifier of partition p fires on the sample of DC dc (R407, R416). -/
def Block.trcQual (b : Block) (p q dc et : Nat) : Block :=
  forEach ((b.strLive p).filter (fun x => b.strCfg x F.TRC_Sx_CFG_QUAL)) b (fun x y =>
    y.noteRec x (leBytes 1 0x51 ++ leBytes 1 q ++ leBytes 2 0 ++ leBytes 8 dc ++ leBytes 2 et ++ leBytes 2 0))

/-! ## Commands -/

/-- A START in IDLE or STOPPED (R427); one while a page waits for room in DONE has no effect. -/
def Block.trcStart (b : Block) (x : Nat) : Block :=
  match b.strOwner x with
  | none => b
  | some p =>
    let s := b.stream x
    let dc := (b.part p).dc.toNat
    if (b.strState x = 0 ∨ b.strState x = 3) ∧ s.closeDue = none ∧ b.bit (r1 .TRC_Sx_STATUS x) F.TRC_Sx_STATUS_RELEASING = false
        ∧ CUnit.trace ∉ b.flt.refusing then
      let b1 := [r1 .TRC_Sx_DEAD_DC x, r1 .TRC_Sx_DEAD_NS_LO x, r1 .TRC_Sx_DEAD_NS_HI x, r1 .TRC_Sx_LOST x].foldl Block.clrReg b
      (b1.setStream x { s with
        seq := 0, cur := none, first := dc, last := dc - 1, lost := none, wait := [], level := 0, factor := b.trcFix x, calm := 0, stopAt := none }).strEnter x 1
    else b

/-- A STOP in RUN or POST (R427): a DC that its Equinox has closed and that waits for its hand-over is captured first. -/
def Block.trcStop (b : Block) (x : Nat) : Block :=
  let p := (b.strOwner x).getD 0
  if (b.strState x = 1 ∨ b.strState x = 2) ∧ (b.stream x).ending = none then
    if b.handNext p < (b.part p).dc.toNat then b.modStream x (fun s => { s with stopAt := some (b.handNext p) })
    else b.finish x (b.stream x).last 3
  else b

/-- The Spring commit of partition p begins its DCs anew: what an earlier START armed begins with the first of them. -/
def Block.trcSpring (b : Block) (p : Nat) : Block :=
  let dc := (b.part p).dc.toNat
  forEach (b.strLive p) b (fun x y => y.modStream x (fun s => { s with first := dc, last := dc - 1 }))

/-- RETURN (R429): every FREE page that DONE has room for moves there as EMPTY. -/
def Block.trcReturn (b : Block) (x : Nat) : Block :=
  b.modStream x (fun s =>
    let n := 256 - s.done.length
    { s with free := s.free.drop n, done := s.done ++ (s.free.take n).map (fun g => { g with empty := true }) })

/-- A write of TRC_Sx_CMD: one that sets more than one bit has no effect (Table 13.15). -/
def Block.trcCmd (b : Block) (x : Nat) (v : Word) : Block :=
  let n := v.toNat % 16
  if n = 1 then b.trcStart x
  else if n = 2 then b.trcStop x
  else if n = 4 then b.trcReturn x
  else if n = 8 then (if (b.stream x).ending.isSome then b else b.closeOrWait x false)
  else b

/-- TRACE_START (R427). -/
def execTraceStart (r : Requester) (x : BitVec 4) (s : State) : Host.Outcome State Fault Refusal :=
  s.run (fun b => b.hostWrite r (r1 .TRC_Sx_CMD x.toNat) 1 (·.trcCmd x.toNat 1))

/-- TRACE_STOP (R427). -/
def execTraceStop (r : Requester) (x : BitVec 4) (s : State) : Host.Outcome State Fault Refusal :=
  s.run (fun b => b.hostWrite r (r1 .TRC_Sx_CMD x.toNat) 2 (·.trcCmd x.toNat 2))

/-- TRACE_RETURN (R429). -/
def execTraceReturn (r : Requester) (x : BitVec 4) (s : State) : Host.Outcome State Fault Refusal :=
  s.run (fun b => b.hostWrite r (r1 .TRC_Sx_CMD x.toNat) 4 (·.trcCmd x.toNat 4))

/-- TRACE_FLUSH (R418). -/
def execTraceFlush (r : Requester) (x : BitVec 4) (s : State) : Host.Outcome State Fault Refusal :=
  s.run (fun b => b.hostWrite r (r1 .TRC_Sx_CMD x.toNat) 8 (·.trcCmd x.toNat 8))

/-- The page that POST_LO and a write of POST_HI name. -/
def Block.postPage (b : Block) (x : Nat) (v : Word) : TrcPage :=
  let lo := r1 .TRC_Sx_POST_LO x
  ⟨b.bit lo F.TRC_Sx_POST_LO_SPACE, v.toNat * 2 ^ 32 + b.fld lo F.TRC_Sx_POST_LO_ADDR * 2 ^ 16, false⟩

/-- A page obeys the rules of Table 11.2 for the owner of the stream. -/
def Block.pageOk (b : Block) (x : Nat) (g : TrcPage) : Bool :=
  match b.strOwner x with
  | some p => !g.space || b.farGranted p g.addr pageBytes
  | none => false

/-- A write of POST_HI posts a page (R418); records that wait for one are written. -/
def Block.pagePost (b : Block) (x : Nat) (v : Word) : Block :=
  let b1 := b.setReg (r1 .TRC_Sx_POST_HI x) v
  let g := b1.postPage x v
  if (b1.stream x).free.length < 256 ∧ b1.pageOk x g ∧ CUnit.trace ∉ b1.flt.refusing then (b1.modStream x (fun s => { s with free := s.free ++ [g] })).putWaiting x
  else b1.setBit (r1 .TRC_Sx_STATUS x) F.TRC_Sx_STATUS_POST_REFUSED

/-- PAGE_POST (R418). -/
def execPagePost (r : Requester) (x : BitVec 4) (v : Word) (s : State) : Host.Outcome State Fault Refusal :=
  s.run (fun b => b.hostWrite r (r1 .TRC_Sx_POST_HI x.toNat) v (·.pagePost x.toNat v))

/-- A read of DONE_LO removes the head of DONE and latches it (R418); a page that waited for room in DONE then closes. -/
def Block.doneRead (b : Block) (x : Nat) : Block × Word :=
  let s := b.stream x
  let lo (g : TrcPage) : Word := BitVec.ofNat 32 (bitsOf g.addr 16 16 * 65536 + b2n g.empty * 4 + b2n g.space * 2 + 1)
  match s.done with
  | [] => ((b.setReg (r1 .TRC_Sx_DONE_LO x) 0).setReg (r1 .TRC_Sx_DONE_HI x) 0, 0)
  | g :: r =>
    let b1 := ((b.setStream x { s with done := r }).setReg (r1 .TRC_Sx_DONE_LO x) (lo g)).setReg (r1 .TRC_Sx_DONE_HI x) (BitVec.ofNat 32 (g.addr / 2 ^ 32))
    ((match s.closeDue with | some last => b1.closeOrWait x last | none => b1).putWaiting x, lo g)

/-- DONE_READ (R418). -/
def execDoneRead (r : Requester) (x : BitVec 4) (s : State) : Host.Outcome State Fault Refusal :=
  s.run (fun b => b.hostRead r (r1 .TRC_Sx_DONE_LO x.toNat) (·.doneRead x.toNat))

/-- The factor of a stream that does not run is FIX (R423). -/
def Block.factorFix (b : Block) (x : Nat) : Block := b.modStream x (fun s => { s with factor := b.trcFix x })

/-- A write of TRC_Sx_CFG or POSTDC: only in IDLE or STOPPED (R429, Table 13.15). -/
def Block.trcCfgWrite (b : Block) (k : RegKey) (v : Word) : Block :=
  if b.strState k.i = 0 ∨ b.strState k.i = 3 then (b.writeCodes k v).factorFix k.i else b

/-- A write of TRC_Sx_OWN: refused while HELD is not 0 where it changes the owner (R429); a new owner finds the stream idle. -/
def Block.trcOwnWrite (b : Block) (x : Nat) (v : Word) : Block :=
  let k := r1 .TRC_Sx_OWN x
  let w := v &&& 0x800000FF#32
  if ownerField w = b.strOwner x then b.setReg k w
  else if b.fld (r1 .TRC_Sx_PAGES x) F.TRC_Sx_PAGES_HELD ≠ 0 then b
  else (((b.setReg k w).setStream x {}).factorFix x).strEnter x 0

/-- The reset of partition p begins (R429): its streams release. -/
def Block.trcRelease (b : Block) (p : Nat) : Block :=
  forEach ((List.range 16).filter (fun x => decide (b.strOwner x = some p))) b (fun x y => y.setBit (r1 .TRC_Sx_STATUS x) F.TRC_Sx_STATUS_RELEASING)

/-- A stream is released (R429): once STOP is written and the page closed, it is IDLE; its queues are kept. -/
def Block.strRelease (b : Block) (x : Nat) : Block :=
  if (b.stream x).ending.isSome then b.modStream x (fun s => { s with ending := some 0 })
  else if b.strState x = 1 ∨ b.strState x = 2 then b.finish x (b.stream x).last 0
  else (b.strEnter x 0).clrFld (r1 .TRC_Sx_STATUS x) F.TRC_Sx_STATUS_RELEASING

/-- The reset of partition p is done (R429). -/
def Block.trcReleased (b : Block) (p : Nat) : Block :=
  forEach ((List.range 16).filter (fun x => decide (b.strOwner x = some p))) b (fun x y => y.strRelease x)

/-- A warm reset (R431): every stream is IDLE and holds no page. -/
def Block.trcWarm (b : Block) : Block :=
  forEach (List.range 16) b (fun x y => (((y.setStream x {}).factorFix x).strEnter x 0).clrFld (r1 .TRC_Sx_STATUS x) F.TRC_Sx_STATUS_RELEASING)

end Sys2Proof.Machine
end

