-- ==== Sys2Proof/Machine/Trig.lean ====
section
/-!
DEFINITION. Triggering: the cluster trigger sequencer (R398 to R402), pin qualifiers (R403 to R407), trigger outputs (R408 to R411),
and their commands.
-/
namespace Sys2Proof.Machine

/-! ## The cluster trigger sequencer -/

/-- A sequencer term (Table 13.2) of cluster c. -/
def Block.seqTerm (b : Block) (c code : Nat) : Bool :=
  if code < 8 then (b.clu c).trigIn.getLsbD code
  else if code = 8 then decide (b.fld (r1 .TSQ_LIMIT c) F.TSQ_LIMIT_LIMIT0 ≤ b.fld (r1 .TSQ_CTR c) F.TSQ_CTR_C0)
  else if code = 9 then decide (b.fld (r1 .TSQ_LIMIT c) F.TSQ_LIMIT_LIMIT1 ≤ b.fld (r1 .TSQ_CTR c) F.TSQ_CTR_C1)
  else if code = 10 then decide (b.fld (r1 .TSQ_TLIMIT c) F.TSQ_TLIMIT_TLIMIT ≤ b.fld (r1 .TSQ_CNT c) F.TSQ_CNT_TM)
  else false

/-- Rule r of state s of cluster c is valid and its condition holds (R399). -/
def Block.seqRule (b : Block) (c s r : Nat) : Bool :=
  let w := r3 .TSQ_RULEs_r_W0 c s r
  let v (f : Fld) : Nat := b2n (b.seqTerm c (b.fld w f))
  b.bit (r3 .TSQ_RULEs_r_W1 c s r) F.TSQ_RULEs_r_W1_V
    && bitAt (b.fld w F.TSQ_RULEs_r_W0_TT) (v F.TSQ_RULEs_r_W0_T0 + 2 * v F.TSQ_RULEs_r_W0_T1 + 4 * v F.TSQ_RULEs_r_W0_T2 + 8 * v F.TSQ_RULEs_r_W0_T3)

/-- The rule that a step takes (R400, action 2). -/
def Block.seqTaken (b : Block) (c : Nat) : Option RegKey :=
  let s := b.fld (r1 .TSQ_STATUS c) F.TSQ_STATUS_STATE
  if b.seqRule c s 0 then some (r3 .TSQ_RULEs_r_W1 c s 0)
  else if b.seqRule c s 1 then some (r3 .TSQ_RULEs_r_W1 c s 1)
  else none

/-- A counter under CLR and INC (R400, action 3). -/
def seqCount (n : Nat) (clr inc : Bool) : Nat := satAdd (if clr then 0 else n) (b2n inc) 0xFFFF

/-- Enter a state: the outputs are its TSQ_OUT (R400, action 5). -/
def Block.seqEnter (b : Block) (c s : Nat) : Block :=
  (b.setFld (r1 .TSQ_STATUS c) F.TSQ_STATUS_STATE s).setFld (r1 .TSQ_STATUS c) F.TSQ_STATUS_TSEQ (b.fld (r2 .TSQ_OUTs c s) F.TSQ_OUTs_OUT)

/-- The taken rule acts on counters, timer and state (R400, action 3). -/
def Block.seqAct (b : Block) (c : Nat) (w : RegKey) : Block :=
  let k := r1 .TSQ_CTR c
  let b1 := (b.setFld k F.TSQ_CTR_C0 (seqCount (b.fld k F.TSQ_CTR_C0) (b.bit w F.TSQ_RULEs_r_W1_C0CLR) (b.bit w F.TSQ_RULEs_r_W1_C0INC))).setFld k
    F.TSQ_CTR_C1 (seqCount (b.fld k F.TSQ_CTR_C1) (b.bit w F.TSQ_RULEs_r_W1_C1CLR) (b.bit w F.TSQ_RULEs_r_W1_C1INC))
  let b2 := if b.bit w F.TSQ_RULEs_r_W1_TSTART then (b1.setFld (r1 .TSQ_CNT c) F.TSQ_CNT_TM 0).setBit (r1 .TSQ_STATUS c) F.TSQ_STATUS_TRUN
    else if b.bit w F.TSQ_RULEs_r_W1_TSTOP then b1.clrFld (r1 .TSQ_STATUS c) F.TSQ_STATUS_TRUN
    else b1
  b2.seqEnter c (b.fld w F.TSQ_RULEs_r_W1_NEXT)

/-- SEQUENCER_STEP (R400) of cluster c. -/
def Block.seqStep (b : Block) (c : Nat) : Block :=
  let w := b.seqTaken c
  let started := match w with | some k => b.bit k F.TSQ_RULEs_r_W1_TSTART | none => false
  let b1 := match w with | some k => b.seqAct c k | none => b.seqEnter c (b.fld (r1 .TSQ_STATUS c) F.TSQ_STATUS_STATE)
  let b2 := if b1.bit (r1 .TSQ_STATUS c) F.TSQ_STATUS_TRUN && !started then b1.satFld (r1 .TSQ_CNT c) F.TSQ_CNT_TM 1 else b1
  b2.modClu c (fun x => { x with trigIn := 0 })

/-- The sequencer at the Spring commit (R398). -/
def Block.seqInit (b : Block) (c : Nat) : Block :=
  (([r1 .TSQ_STATUS c, r1 .TSQ_CNT c, r1 .TSQ_CTR c].foldl Block.clrReg b).seqEnter c 0).modClu c (fun x => { x with trigIn := 0 })

/-! ## Pin qualifiers -/

/-- The partition that owns a pin channel (R435). -/
def Block.chanOwner (b : Block) (ch : Nat) : Option Nat := ownerField (b.reg (r1 .VPT_CHc_OWN ch))

/-- A qualifier. -/
def Block.qual (b : Block) (q : Nat) : Qual := NMap.get {} b.quals q

/-- The channel that a qualifier observes. -/
def Block.qualChan (b : Block) (q : Nat) : Nat := b.fld (r1 .TRG_Qq_CFG q) F.TRG_Qq_CFG_CH

/-- STAT.NOCHAN: the channel is not assigned to the owner (R403). -/
def Block.noChan (b : Block) (q : Nat) : Bool := decide (b.qualOwner q = none ∨ b.chanOwner (b.qualChan q) ≠ b.qualOwner q)

/-- End a measurement; the next sample starts a new one (R407). -/
def Block.qualRestart (b : Block) (q : Nat) : Block := { b with quals := b.quals.erase q }

/-- The class of a sample's comparator bits (Table 13.4): 0 LOW, 1 HIGH, 2 MID, 3 INVALID. -/
def sampleClass (upper lower : Bool) : Nat := if upper then (if lower then 3 else 1) else (if lower then 0 else 2)

/-- w lies outside MIN and MAX, or inside with INSIDE (Table 13.5). -/
def Block.qualLimit (b : Block) (q w : Nat) (inside : Bool) : Bool :=
  let ok := decide ((b.reg (r1 .TRG_Qq_MIN q)).toNat ≤ w ∧ w ≤ (b.reg (r1 .TRG_Qq_MAX q)).toNat)
  if inside then ok else !ok

/-- A change of class from `c` to `d` at pin time `t` fires qualifier q (Table 13.5). -/
def Block.qualChange (b : Block) (q : Nat) (x : Qual) (c d t : Nat) : Bool :=
  let k := r1 .TRG_Qq_CFG q
  let kind := b.fld k F.TRG_Qq_CFG_KIND
  let pol := decide (b.fld k F.TRG_Qq_CFG_POL = 1)
  let w := t - x.enter
  if kind = 1 then decide (c = (if pol then 0 else 1)) && b.qualLimit q w (b.bit k F.TRG_Qq_CFG_INSIDE)
  else if kind = 2 then decide (c = 2 ∧ d = (if pol then 1 else 0) ∧ x.before = some d ∧ (b.reg (r1 .TRG_Qq_MIN q)).toNat ≤ w)
  else if kind = 4 then decide (c = 2 ∧ d = (if pol then 0 else 1) ∧ x.before = some (if pol then 1 else 0)) && b.qualLimit q w false
  else false

/-- TIMEOUT watches the class of the sample (Table 13.5). -/
def Block.qualWatch (b : Block) (q d : Nat) : Bool :=
  let k := r1 .TRG_Qq_CFG q
  let pol := b.fld k F.TRG_Qq_CFG_POL
  decide (b.fld k F.TRG_Qq_CFG_KIND = 3) && decide (pol = 3 ∨ d = (if pol = 0 then 1 else if pol = 1 then 0 else 2))

/-- The sample of DC dc reaches qualifier q with class d and edge time et (R405 to R407): the block, and whether the qualifier fires. -/
def Block.qualStep (b : Block) (q dc d et : Nat) : Block × Bool :=
  let stat := r1 .TRG_Qq_STAT q
  let per := b.fld (r0 .TRG_QPER) F.TRG_QPER_PERIOD
  let x := b.qual q
  let t := dc * per + et
  if d = 3 then ((b.qualRestart q).satFld stat F.TRG_Qq_STAT_INVALID 1, false)
  else
    let y : Qual := match x.prev with
      | none => ⟨some d, t, none, false⟩
      | some c => if c = d then x else ⟨some d, t, some c, false⟩
    let hit := match x.prev with
      | none => false
      | some c => decide (c ≠ d) && b.qualChange q x c d t
    let jump := match x.prev with
      | none => false
      | some c => decide (c ≠ d ∧ c ≠ 2 ∧ d ≠ 2 ∧ b.fld (r1 .TRG_Qq_CFG q) F.TRG_Qq_CFG_KIND = 4)
    let late := b.qualWatch q d && !y.fired && decide ((b.reg (r1 .TRG_Qq_MAX q)).toNat + y.enter < (dc + 1) * per)
    let b1 := { b with quals := b.quals.put q { y with fired := y.fired || late } }
    let b2 := if jump then b1.satFld stat F.TRG_Qq_STAT_UNMEAS 1 else b1
    (if hit || late then b2.satFld stat F.TRG_Qq_STAT_FIRES 1 else b2, hit || late)

/-- QUALIFIER_SAMPLE (R403, R404, R407) of qualifier q of partition p: an idle qualifier observes nothing. -/
def Block.qualSample (b : Block) (p q dc : Nat) (smp : Nat → Nat × Nat) : Block × Bool :=
  if b.noChan q ∨ b.fld (r0 .TRG_QPER) F.TRG_QPER_PERIOD = 0 then (b.qualRestart q, false)
  else
    let v := smp (b.qualChan q)
    let z := b.qualStep q dc v.1 v.2
    (if z.2 then z.1.trcQual p q dc v.2 else z.1, z.2)

/-- A write of a register of a qualifier: 0 CFG, 1 MIN, 2 MAX, 3 OWN (R407, Table 13.13). -/
def Block.qualWrite (b : Block) (q reg : Nat) (v : Word) : Block :=
  let k := if reg = 0 then r1 .TRG_Qq_CFG q else if reg = 1 then r1 .TRG_Qq_MIN q else if reg = 2 then r1 .TRG_Qq_MAX q else r1 .TRG_Qq_OWN q
  let b1 := (b.writeCodes k v).qualRestart q
  if reg = 0 ∨ reg = 3 then b1.clrReg (r1 .TRG_Qq_STAT q) else b1

/-- QUALIFIER_CFG_WRITE (R407). -/
def execQualifierCfgWrite (r : Requester) (q : BitVec 4) (reg : BitVec 2) (v : Word) (s : State) : Host.Outcome State Fault Refusal :=
  s.run (fun b =>
    let n := reg.toNat
    let k := if n = 0 then r1 .TRG_Qq_CFG q.toNat else if n = 1 then r1 .TRG_Qq_MIN q.toNat else if n = 2 then r1 .TRG_Qq_MAX q.toNat
      else r1 .TRG_Qq_OWN q.toNat
    b.hostWrite r k v (·.qualWrite q.toNat n v))

/-! ## Trigger outputs -/

/-- A trigger output. -/
def Block.trg (b : Block) (t : Nat) : TrgOut := NMap.get {} b.outs t

/-- Change a trigger output; OCC shows the low 16 bits of its count (R410). -/
def Block.modTrg (b : Block) (t : Nat) (f : TrgOut → TrgOut) : Block :=
  let x := f (b.trg t)
  { b with outs := b.outs.put t x }.setFld (r1 .TRG_OUTt_STATUS t) F.TRG_OUTt_STATUS_OCC x.occ

/-- The state of an output (Table 13.6). -/
def Block.trgState (b : Block) (t : Nat) : Nat := b.fld (r1 .TRG_OUTt_STATUS t) F.TRG_OUTt_STATUS_STATE

/-- Enter a state. -/
def Block.trgEnter (b : Block) (t st : Nat) : Block := b.setFld (r1 .TRG_OUTt_STATUS t) F.TRG_OUTt_STATUS_STATE st

/-- OUTPUT_FIRE (R411) with fire DC f. -/
def Block.trgFire (b : Block) (p t f : Nat) : Block :=
  let ts := b.now
  let b1 := (((b.modTrg t (fun x => { x with occ := if b.bit (r1 .TRG_OUTt_CFG t) F.TRG_OUTt_CFG_REARM then 0 else x.occ, force := false, ts := ts })).setReg
    (r1 .TRG_OUTt_DC t) (BitVec.ofNat 32 f)).setBit (r1 .TRG_OUTt_STATUS t) F.TRG_OUTt_STATUS_FIRED).trgEnter t
    (if b.bit (r1 .TRG_OUTt_CFG t) F.TRG_OUTt_CFG_REARM then 1 else 3)
  let b2 := ((b1.raise (160 + t)).evoDrive true t (stampUnits ts))
  let b3 := if b.bit (r1 .TRG_OUTt_CFG t) F.TRG_OUTt_CFG_FRZ ∧ b2.live p then b2.freezeTarget p (b2.marginTarget p) 1 else b2
  b3.trcFire p t f ts

/-- The condition of output t for a DC (R408, R409). -/
def Block.trgCond (b : Block) (t : Nat) (e : DcHit) : Bool :=
  let k := r1 .TRG_OUTt_CFG t
  let pin := if b.bit k F.TRG_OUTt_CFG_WAITPIN then e.pin.getD (0, false) else (0, false)
  bitAt (b.fld k F.TRG_OUTt_CFG_TT) (b2n e.hit + 2 * b2n (decide (pin.1 &&& b.fld k F.TRG_OUTt_CFG_QMASK ≠ 0)) + 4 * b2n pin.2)

/-- Output t evaluates DC n in ARMED: an occurrence is counted, and the last of them sets the fire DC (Table 13.6). -/
def Block.trgCount (b : Block) (p t n : Nat) : Block :=
  let k := r1 .TRG_OUTt_CNT t
  let occ := (b.trg t).occ + 1
  let b1 := b.modTrg t (fun x => { x with occ := occ })
  if occ = b.fld k F.TRG_OUTt_CNT_COUNT + 1 then
    let d := b.fld k F.TRG_OUTt_CNT_DELAY
    if d = 0 then b1.trgFire p t n else (b1.modTrg t (fun x => { x with fireAt := n + d })).trgEnter t 2
  else b1

/-- Output t of partition p evaluates a DC, when it is the next one and its terms are there (R409, R410). -/
def Block.trgEval (b : Block) (p t : Nat) (e : DcHit) : Block :=
  let x := b.trg t
  let st := b.trgState t
  if (st = 1 ∨ st = 2) ∧ e.dc = x.next ∧ e.arrived ∧ (b.bit (r1 .TRG_OUTt_CFG t) F.TRG_OUTt_CFG_WAITPIN = false ∨ e.pin.isSome) then
    let b1 := b.modTrg t (fun y => { y with next := e.dc + 1 })
    if x.force then b1.trgFire p t e.dc
    else if st = 2 then (if e.dc = x.fireAt then b1.trgFire p t e.dc else b1)
    else if b1.trgCond t e then b1.trgCount p t e.dc
    else b1
  else b

/-- A DC that an output of partition p has still to evaluate. -/
def Block.dcNeeded (b : Block) (p : Nat) (e : DcHit) : Bool :=
  (List.range 32).any (fun t => decide (b.trgOwner t = some p ∧ (b.trgState t = 1 ∨ b.trgState t = 2) ∧ (b.trg t).next ≤ e.dc))

/-- Every output of partition p evaluates what it can, in DC order (R409); DCs whose hits have come and that no output needs are forgotten. -/
def Block.trgEvalAll (b : Block) (p : Nat) : Block :=
  let es := (b.part p).hits
  let b1 := forEach ((List.range 32).filter (fun t => decide (b.trgOwner t = some p))) b (fun t y => forEach es y (fun e z => z.trgEval p t e))
  b1.modPart p (fun x => { x with hits := x.hits.filter (fun e => !e.arrived || b1.dcNeeded p e) })

/-- Note a DC of partition p: its hit has been formed (R401). -/
def Block.noteHit (b : Block) (p dc : Nat) (hit : Bool) : Block := b.modPart p (fun x => { x with hits := x.hits ++ [{ dc := dc, hit := hit }] })

/-- The hits of a DC reach the trigger unit, 20 ns after the Equinox (R401). -/
def Block.hitArrive (b : Block) (p dc : Nat) : Block :=
  (b.modPart p (fun x => { x with hits := x.hits.map (fun e => if e.dc = dc then { e with arrived := true } else e) })).trgEvalAll p

/-- HIT_ARRIVAL (R401, R409), with what the checks of the unit find (class 0x0B). -/
def execHitArrival (p : PartNo) (dc : BitVec 64) (unit : Ecc) (s : State) : Host.Outcome State Fault Refusal :=
  s.run (fun b => b.unitUse .tgu 0 unit (·.hitArrive p.toNat dc.toNat))

/-- The Spring commit of partition p begins its DCs anew: an armed output begins with the first of them (R410). -/
def Block.trgSpring (b : Block) (p : Nat) : Block :=
  forEach ((List.range 32).filter (fun t => decide (b.trgOwner t = some p))) b (fun t y => y.modTrg t (fun x => { x with next := (b.part p).dc.toNat }))

/-- The Vector Port's report of a DC of partition p reaches the unit (R404, R408, R409). -/
def Block.pinReport (b : Block) (p : Nat) (r : PinReport) : Block :=
  let smp (ch : Nat) : Nat × Nat := match r.smp.find? (fun e => decide (e.1 = ch)) with | some e => e.2 | none => (3, 0)
  let qs := (List.range 16).filter (fun q => decide (b.qualOwner q = some p))
  let z := qs.foldl (fun (y : Block × Nat) q =>
    let w := y.1.qualSample p q r.dc smp
    (w.1, if w.2 then y.2 + 2 ^ q else y.2)) (b, 0)
  (z.1.modPart p (fun x => { x with hits := x.hits.map (fun e => if e.dc = r.dc then { e with pin := some (z.2, r.cmpf) } else e) })).trgEvalAll p

/-- Reports reach the unit in DC order (R407): one waits while the sample of an earlier DC is outstanding. -/
def Block.pinSettle (b : Block) (p : Nat) : Block :=
  let x := b.part p
  let go (r : PinReport) : Bool := !x.expects.any (fun e => decide (e.dc < r.dc))
  forEach (sortBy (fun r q => decide (r.dc ≤ q.dc)) (x.reports.filter go)) (b.modPart p (fun y => { y with reports := y.reports.filter (fun r => !go r) }))
    (fun r y => y.pinReport p r)

/-- The Vector Port reports a DC of partition p. -/
def Block.pinArrive (b : Block) (p : Nat) (r : PinReport) : Block := (b.modPart p (fun x => { x with reports := x.reports ++ [r] })).pinSettle p

/-- ARM from IDLE or FIRED (Table 13.6): the first DC evaluated is the first whose Equinox follows (R410). -/
def Block.trgArm (b : Block) (t : Nat) : Block :=
  match b.trgOwner t with
  | none => b
  | some p =>
    if (b.trgState t = 0 ∨ b.trgState t = 3) ∧ CUnit.tgu ∉ b.flt.refusing then
      (b.modTrg t (fun x => { x with occ := 0, force := false, next := (b.part p).dc.toNat })).trgEnter t 1
    else b

/-- DISARM, a reset, or a write of OWN: IDLE (Table 13.6). -/
def Block.trgIdle (b : Block) (t : Nat) : Block := (b.modTrg t (fun x => { x with force := false })).trgEnter t 0

/-- FORCE, in ARMED or DELAY (R410). -/
def Block.trgForce (b : Block) (t : Nat) : Block :=
  if b.trgState t = 1 ∨ b.trgState t = 2 then b.modTrg t (fun x => { x with force := true }) else b

/-- A write of TRG_OUTt_CMD: one that sets more than one bit has no effect (R410). -/
def Block.trgCmd (b : Block) (t : Nat) (v : Word) : Block :=
  let n := v.toNat % 8
  if n = 1 then b.trgArm t else if n = 2 then b.trgIdle t else if n = 4 then b.trgForce t else b

/-- ARM (R410). -/
def execArm (r : Requester) (t : BitVec 5) (s : State) : Host.Outcome State Fault Refusal :=
  s.run (fun b => b.hostWrite r (r1 .TRG_OUTt_CMD t.toNat) 1 (·.trgCmd t.toNat 1))

/-- DISARM (R410). -/
def execDisarm (r : Requester) (t : BitVec 5) (s : State) : Host.Outcome State Fault Refusal :=
  s.run (fun b => b.hostWrite r (r1 .TRG_OUTt_CMD t.toNat) 2 (·.trgCmd t.toNat 2))

/-- FORCE (R410). -/
def execForce (r : Requester) (t : BitVec 5) (s : State) : Host.Outcome State Fault Refusal :=
  s.run (fun b => b.hostWrite r (r1 .TRG_OUTt_CMD t.toNat) 4 (·.trgCmd t.toNat 4))

/-- A write of TRG_OUTt_OWN: the output enters IDLE (Table 13.6). -/
def Block.trgOwn (b : Block) (t : Nat) (v : Word) : Block := (b.setReg (r1 .TRG_OUTt_OWN t) (v &&& 0x800000FF#32)).trgIdle t

/-- TRG_OUT_OWN_WRITE (R410). -/
def execTrgOutOwnWrite (r : Requester) (t : BitVec 5) (v : Word) (s : State) : Host.Outcome State Fault Refusal :=
  s.run (fun b => b.hostWrite r (r1 .TRG_OUTt_OWN t.toNat) v (·.trgOwn t.toNat v))

/-- A read of TRG_OUTt_TS0 latches all three words of the last fire's stamp (Table 13.12). -/
def Block.fireTsRead (b : Block) (t : Nat) : Block × Word :=
  let ts := (b.trg t).ts
  (forEach [0, 1, 2] b (fun w y => y.setReg (r2 .TRG_OUTt_TSw t w) (BitVec.ofNat 32 (ts.toNat >>> (32 * w)))), BitVec.ofNat 32 ts.toNat)

/-- FIRE_TIMESTAMP_READ (R411). -/
def execFireTimestampRead (r : Requester) (t : BitVec 5) (s : State) : Host.Outcome State Fault Refusal :=
  s.run (fun b => b.hostRead r (r2 .TRG_OUTt_TSw t.toNat 0) (·.fireTsRead t.toNat))

/-! ## Resets (R431) -/

/-- The outputs and qualifiers that a test of their owner accepts are reset. -/
def Block.trgReset (b : Block) (f : Option Nat → Bool) : Block :=
  let b1 := forEach ((List.range 32).filter (fun t => f (b.trgOwner t))) b (fun t y => y.trgIdle t)
  forEach ((List.range 16).filter (fun q => f (b.qualOwner q))) b1 (fun q y => y.qualRestart q)

end Sys2Proof.Machine
end

