-- ==== Sys2Proof/Machine/Vpt.lean ====
section
/-!
DEFINITION. The Vector Port (chapter 14): the link, the assignment of channels, frames out and in, comparison, missing samples,
and what each partition's channels are told outside a run.
-/
namespace Sys2Proof.Machine

/-! ## Errors, channels -/

/-- Change the port; TXQ shows the frames in the transmit queue. -/
def Block.modVpt (b : Block) (f : Vpt → Vpt) : Block :=
  let v := f b.vpt
  { b with vpt := v }.setFld (r0 .VPT_STATUS) F.VPT_STATUS_TXQ v.tx.length

/-- A bit of VPT_ERR sets; event 241 when all were clear (R449). -/
def Block.vptErr (b : Block) (f : Fld) : Block :=
  let was := b.reg (r0 .VPT_ERR)
  let b1 := if was = 0 then b.modVpt (fun v => { v with discarded := false }) else b
  (b1.setBit (r0 .VPT_ERR) f).raiseIf (decide (was = 0)) 241

/-- A received frame is discarded and counted (R440, R449). -/
def Block.vptDiscard (b : Block) (cnt : Fld) : Block :=
  let b1 := (b.satFld (r0 .VPT_CNT) cnt 1).vptErr F.VPT_ERR_FRAME
  if b1.vpt.discarded then b1 else (b1.modVpt (fun v => { v with discarded := true })).raise 246

/-- The partitions that own channels. -/
def Block.vptParts (b : Block) : List Nat := (List.range 256).filter (fun p => !(b.chansOf p).isEmpty)

/-- The range of R439: the lowest channel and the number of channels up to the highest. -/
def chanRange (l : List Nat) : Nat × Nat :=
  match l.head?, l.getLast? with
  | some a, some z => (a, z - a + 1)
  | _, _ => (0, 0)

/-- The state of the link (R433). -/
def Block.vptState (b : Block) : Nat := b.fld (r0 .VPT_STATUS) F.VPT_STATUS_STATE

/-- Enter a link state: event 240 on a change (R449). -/
def Block.vptEnter (b : Block) (st : Nat) : Block :=
  let ch := decide (b.vptState ≠ st)
  let b1 := ((b.setFld (r0 .VPT_STATUS) F.VPT_STATUS_STATE st).setFld (r0 .VPT_STATUS) F.VPT_STATUS_LANES_UP
    (if st = 2 then b.vpt.lanes else 0)).modVpt (fun v => { v with since := b.pw.ctl })
  b1.raiseIf ch 240

/-! ## Frames (R438, R439) -/

/-- The header of a frame (Table 14.3). -/
def vptHeader (f : VptFrame) : Nat :=
  f.type.toNat * 2 ^ 124 + f.part.toNat * 2 ^ 116 + f.dc.toNat * 2 ^ 84 + f.count.toNat * 2 ^ 71 + f.first.toNat * 2 ^ 59 + f.mode.toNat * 2 ^ 56
    + b2n f.nodrv * 2 ^ 55 + f.seq.toNat * 2 ^ 47

/-- The CRC-32 of a frame, over header and payload, the least significant byte of the header first. -/
def vptCrc (f : VptFrame) : BitVec 32 := crc32 (leBytes 16 (vptHeader f) ++ f.payload)

/-- Bytes of a block of n bits, padded to a multiple of 64 bits. -/
def padded (n : Nat) : Nat := 8 * ceilDiv n 64

/-- A payload of 2-bit codes of `count` channels from `first` on. -/
def codePayload (first count : Nat) (code : Nat → Nat) : List Byte :=
  (List.range (padded (2 * count))).map (fun i =>
    BitVec.ofNat 8 (((List.range 4).map (fun j => if 4 * i + j < count then code (first + 4 * i + j) % 4 * 4 ^ j else 0)).foldl (· + ·) 0))

/-- A frame of partition p that carries drive codes. -/
def Block.codeFrame (b : Block) (p type dc mode : Nat) (codes : List (Nat × Nat)) : VptFrame :=
  let r := chanRange (b.chansOf p)
  ⟨BitVec.ofNat 4 type, BitVec.ofNat 8 p, BitVec.ofNat 32 dc, BitVec.ofNat 13 r.2, BitVec.ofNat 12 r.1, BitVec.ofNat 3 mode, false, 0,
    codePayload r.1 r.2 (fun ch => NMap.get 0 codes ch), 0⟩

/-- The CONFIG frame (R434, R439). -/
def Block.configFrame (b : Block) : VptFrame :=
  ⟨4, 0, 0, BitVec.ofNat 13 4096, 0, 0, false, 0,
    (List.range 4096).flatMap (fun ch =>
      let w := b.reg (r1 .VPT_CHc_OWN ch)
      leBytes 2 (b2n (w.getLsbD 31) * 2 ^ 15 + b2n (w.getLsbD 30) * 2 ^ 14 + w.toNat % 256)), 0⟩

/-- A frame takes the next SEQ and its CRC. -/
def Vpt.stamped (v : Vpt) (f : VptFrame) : VptFrame :=
  let g := { f with seq := BitVec.ofNat 8 v.txSeq }
  { g with crc := vptCrc g }

/-- The link carries frames. -/
def Block.vptUp (b : Block) : Bool := decide (b.vptState = 2 ∧ CUnit.vpt ∉ b.flt.refusing)

/-- A frame joins the transmit queue. -/
def Block.vptPush (b : Block) (p : Nat) (f : VptFrame) : Block :=
  (b.modVpt (fun v => { v with tx := v.tx ++ [v.stamped f], txSeq := (v.txSeq + 1) % 256 })).modPart p (fun x => { x with vptIdle := 0 })

/-- Queue a frame of partition p on an ACTIVE link while the queue of 16 has room (R441). -/
def Block.vptQueue (b : Block) (p : Nat) (f : VptFrame) : Block := if b.vptUp ∧ b.vpt.tx.length < 16 then b.vptPush p f else b

/-- Queue a frame that precedes the first Equinox (R442): on an ACTIVE link it waits for room, behind others that do. -/
def Block.vptMust (b : Block) (p : Nat) (f : VptFrame) : Block :=
  if b.vptUp = false then b
  else if b.vpt.tx.length < 16 ∧ b.vpt.due.isEmpty then b.vptPush p f
  else b.modVpt (fun v => { v with due := v.due ++ [(p, f)] })

/-- A frame that waits for room takes a place that is free. -/
def Block.vptDue (b : Block) : Block :=
  match b.vpt.due with
  | e :: r => if b.vpt.tx.length < 16 then (b.modVpt (fun v => { v with due := r })).vptPush e.1 e.2 else b
  | [] => b

/-- A CONFIG frame is due: it is queued when there is room. -/
def Block.vptConfig (b : Block) : Block :=
  if b.vptUp ∧ b.vpt.cfgDue ∧ b.vpt.tx.length < 16 then
    let f := b.configFrame
    b.modVpt (fun v => { v with tx := v.tx ++ [v.stamped f], txSeq := (v.txSeq + 1) % 256, cfgDue := false })
  else b

/-! ## The serial side (R432) -/

/-- One bit through the scrambler x^58 + x^39 + 1: its state, and the bit that goes out. -/
def scrambleBit (s : BitVec 58) (d : Bool) : BitVec 58 × Bool :=
  let o := (d ^^ s.getLsbD 38) ^^ s.getLsbD 57
  ((s <<< 1) ||| BitVec.ofNat 58 (b2n o), o)

/-- The 128 bits of a block through the scrambler, bit 0 first. -/
def scramble (s : BitVec 58) (w : BitVec 128) : BitVec 58 × BitVec 128 :=
  (List.range 128).foldl (fun z i =>
    let y := scrambleBit z.1 (w.getLsbD i)
    (y.1, z.2 ||| BitVec.ofNat 128 (b2n y.2 * 2 ^ i))) (s, 0)

/-- A block of 16 bytes goes out: blocks take the lanes in use in turn, from lane 0, each lane with its own scrambler; the two sync bits come first. -/
def Vpt.putBlock (v : Vpt) (l : List Byte) : Vpt :=
  let n := v.blocks % v.lanes
  let z := scramble (NMap.get (Config.vptSeed n) v.scr n) (BitVec.ofNat 128 (leNat l))
  { v with blocks := v.blocks + 1, scr := v.scr.put n z.1, lane := v.lane.put n (BitVec.ofNat 130 (Config.vptSync.toNat + 4 * z.2.toNat)) }

/-- Blocks of 16 bytes, n at most; what fills none waits. -/
def Vpt.putBlocks (v : Vpt) : Nat → Vpt
  | 0 => v
  | n + 1 => if v.rest.length < 16 then v else ({ v with rest := v.rest.drop 16 }.putBlock (v.rest.take 16)).putBlocks n

/-- The bytes of a frame on the line: header, payload, and the trailer, whose high half is zero; of an IDLE header, the header alone (R438). -/
def frameBytes (f : VptFrame) : List Byte :=
  leBytes 16 (vptHeader f) ++ (if f.type = 0 then [] else f.payload ++ leBytes 8 f.crc.toNat)

/-- A frame, or an IDLE header, is sent. -/
def Vpt.sent (v : Vpt) (f : VptFrame) : Vpt :=
  let l := v.rest ++ frameBytes f
  { v with wire := v.wire ++ [f], rest := l }.putBlocks (l.length / 16)

/-- The IDLE header (R438). -/
def Vpt.idle (v : Vpt) : VptFrame := ⟨0, 0, 0, 0, 0, 0, false, BitVec.ofNat 8 v.txSeq, [], 0⟩

/-- The oldest waiting frame is sent; an IDLE header fills the line of an ACTIVE link when no frame is ready, those in a row listed once (R438). -/
def Block.vptDrain (b : Block) : Block :=
  match b.vpt.tx with
  | f :: r => (b.modVpt (fun v => { v with tx := r }.sent f)).vptDue.vptConfig
  | [] => if b.vptUp ∧ b.vpt.wire.getLast?.any (fun f => decide (f.type = 0)) = false then b.modVpt (fun v => v.sent v.idle) else b

/-- STATE HIZ for every partition goes out at once, after what waited (R446). -/
def Block.vptHiz (b : Block) : Block :=
  if b.vptUp then
    let b1 := b.modVpt (fun v => v.tx.foldl Vpt.sent { v with tx := [], due := [] })
    forEach b1.vptParts b1 (fun p x =>
      let f := x.vpt.stamped (x.codeFrame p 3 0 0 [])
      x.modVpt (fun v => { v with txSeq := (v.txSeq + 1) % 256 }.sent f))
  else b

/-! ## Design bits (R436, R441) -/

/-- A bit of a channel's MAP. -/
def Block.chMap (b : Block) (ch : Nat) (f : Fld) : Nat := b.fld (r1 .VPT_CHc_MAP ch) f

/-- Design bit i of a channel (Table 14.1). -/
def Block.designBit (b : Block) (ch i : Nat) : Bool :=
  (b.clu (b.chMap ch F.VPT_CHc_MAP_CLUSTER)).value (b.chMap ch F.VPT_CHc_MAP_BP) (4 * b.chMap ch F.VPT_CHc_MAP_QADDR + i)

/-- The channel is driven and compared from the design. -/
def Block.chDesign (b : Block) (ch : Nat) : Bool := decide (b.chMap ch F.VPT_CHc_MAP_EN = 1 ∧ b.chMap ch F.VPT_CHc_MAP_MAPERR = 0)

/-- The code of a channel at rest: high-impedance after a failed check (R437). -/
def Block.restCode (b : Block) (ch : Nat) : Nat := if b.chMap ch F.VPT_CHc_MAP_MAPERR = 1 then 0 else b.chMap ch F.VPT_CHc_MAP_REST

/-- The drive code of a channel while its partition runs. -/
def Block.driveCode (b : Block) (ch : Nat) : Nat :=
  if b.chDesign ch then 2 * b2n (b.designBit ch 0) + b2n (b.designBit ch 1) else b.restCode ch

/-- The expect codes of the channels of a partition that are compared. -/
def Block.expectCodes (b : Block) (p : Nat) : List (Nat × Nat) :=
  ((b.chansOf p).filter b.chDesign).map (fun ch => (ch, 2 * b2n (b.designBit ch 3) + b2n (b.designBit ch 2)))

/-- The drive codes of the channels of a partition. -/
def Block.driveCodes (b : Block) (p : Nat) : List (Nat × Nat) := (b.chansOf p).map (fun ch => (ch, b.driveCode ch))

/-- The check of R437 at the Spring commit of partition p. -/
def Block.mapCheck (b : Block) (p : Nat) : Block :=
  let bad := (b.chansOf p).filter (fun ch =>
    let c := b.chMap ch F.VPT_CHc_MAP_CLUSTER
    let ok := decide (c ∈ (b.part p).clusters) && (List.range 4).all (fun i =>
      (b.clu c).isState (b.chMap ch F.VPT_CHc_MAP_BP) (4 * b.chMap ch F.VPT_CHc_MAP_QADDR + i))
    decide (b.chMap ch F.VPT_CHc_MAP_EN = 1) && !ok)
  if bad.isEmpty then b
  else ((forEach bad b (fun ch x => x.setBit (r1 .VPT_CHc_MAP ch) F.VPT_CHc_MAP_MAPERR)).setBit (r1 .VPT_Pp_FIRST p) F.VPT_Pp_FIRST_MAPERR).raise 245

/-! ## Samples (R443 to R445) -/

/-- The partition's kept expect codes without those of a DC. -/
def Block.dropExpect (b : Block) (p dc : Nat) : Block :=
  b.modPart p (fun x => { x with expects := x.expects.filter (fun e => decide (e.dc ≠ dc)) })

/-- The sample of DC dc is missing (R445): counted, LATE, event 244 on its rise, and reported as compared with every class INVALID. -/
def Block.sampleMissing (b : Block) (p dc : Nat) : Block :=
  let late := b.bit (r0 .VPT_ERR) F.VPT_ERR_LATE
  ((((b.dropExpect p dc).satFld (r1 .VPT_Pp_CNT p) F.VPT_Pp_CNT_MISSING 1).vptErr F.VPT_ERR_LATE).raiseIf (!late) 244).pinArrive p ⟨dc, [], false⟩

/-- The design bits of the Equinox that closes DC dc: expect codes, drive codes (R441). -/
structure VptSample where
  expect : List (Nat × Nat)
  drive : List (Nat × Nat)
  deriving DecidableEq, Repr

/-- Sample the design bits of partition p. -/
def Block.vptSample (b : Block) (p : Nat) : VptSample := ⟨b.expectCodes p, b.driveCodes p⟩

/-- The Equinox of DC dc of a partition that owns channels (R441, R445): expect codes are kept, the DRV frame is queued or lost, and
samples that 256 later Equinoxes have passed are missing. -/
def Block.vptEquinox (b : Block) (p dc : Nat) (s : VptSample) : Block :=
  if (b.chansOf p).isEmpty then b
  else
    let b1 := b.modPart p (fun x => { x with
      expects := x.expects.map (fun e => { e with later := e.later + 1 }) ++ [(⟨dc, b.pw.ctl, s.expect, 0⟩ : Expect)] })
    let old := ((b1.part p).expects.filter (fun e => decide (256 ≤ e.later))).map (·.dc)
    let b2 := forEach old b1 (fun n x => x.sampleMissing p n)
    if b2.vptUp then
      if b2.vpt.tx.length < 16 then (b2.vptQueue p (b2.codeFrame p 1 dc 0 s.drive)).modPart p (fun x => { x with drive := s.drive })
      else (((b2.satFld (r0 .VPT_CNT) F.VPT_CNT_TX_LOST 1).vptErr F.VPT_ERR_TXLOST).raise 243).sampleMissing p dc
    else b2

/-- The comparator bits of channel j of a frame's range, as a class (Table 13.4, R439). -/
def frameClass (f : VptFrame) (j : Nat) : Nat :=
  let w := (f.payload[j / 4]?.getD 0).toNat >>> (2 * (j % 4))
  sampleClass (bitAt w 1) (bitAt w 0)

/-- ET_EN of a channel. -/
def Block.etEn (b : Block) (ch : Nat) : Bool := b.bit (r1 .VPT_CHc_OWN ch) F.VPT_CHc_OWN_ET_EN

/-- The corrected edge time of a channel in a frame (R439, R443); 0 where none is delivered (R404). -/
def Block.frameEt (b : Block) (f : VptFrame) (ch : Nat) : Nat :=
  if b.etEn ch then
    let n := ((List.range (ch - f.first.toNat)).filter (fun j => b.etEn (f.first.toNat + j))).length
    let et := leAt f.payload (padded (2 * f.count.toNat) + 2 * n) 2
    let d := sInt 16 (b.fld (r1 .VPT_CHc_STAT ch) F.VPT_CHc_STAT_DESKEW)
    (max 0 (min 65535 ((et : Int) - d))).toNat
  else 0

/-- A compared channel fails (Table 14.2). -/
def expectFails (code cls : Nat) : Bool := decide ((code = 1 ∧ cls ≠ 0) ∨ (code = 2 ∧ cls ≠ 1) ∨ (code = 3 ∧ cls ≠ 2))

/-- Record the first failing DC (R444). -/
def Block.firstFail (b : Block) (p dc ch exp cls : Nat) : Block :=
  let k := r1 .VPT_Pp_FIRST p
  if b.bit k F.VPT_Pp_FIRST_VALID then b
  else ((((((b.setBit k F.VPT_Pp_FIRST_VALID).setFld k F.VPT_Pp_FIRST_EXP exp).setFld k F.VPT_Pp_FIRST_CLASS cls).setFld k F.VPT_Pp_FIRST_CH ch).setReg
    (r1 .VPT_Pp_FIRST_DC p) (BitVec.ofNat 32 dc))).raise 242

/-- An accepted sample is compared and reported (R443, R444). -/
def Block.smpCompare (b : Block) (f : VptFrame) (e : Expect) : Block :=
  let p := f.part.toNat
  let cls (ch : Nat) : Nat := frameClass f (ch - f.first.toNat)
  let bad := e.codes.filter (fun c => expectFails c.2 (cls c.1))
  let b1 := forEach bad (b.dropExpect p e.dc) (fun c x => x.satFld (r1 .VPT_CHc_STAT c.1) F.VPT_CHc_STAT_FAILS 1)
  let b2 := match bad with
    | [] => b1
    | c :: _ => (b1.satFld (r1 .VPT_Pp_CNT p) F.VPT_Pp_CNT_FAILS 1).firstFail p e.dc c.1 c.2 (cls c.1)
  let b3 := if f.nodrv then b2.satFld (r1 .VPT_Pp_CNT p) F.VPT_Pp_CNT_MISSING 1 else b2
  b3.pinArrive p ⟨e.dc, (b3.chansOf p).map (fun ch => (ch, cls ch, b3.frameEt f ch)), !bad.isEmpty⟩

/-- A frame arrives on an ACTIVE link (R440); an IDLE header is none, it fills the line (R438). -/
def Block.smpFrame (b : Block) (f : VptFrame) : Block :=
  if b.vptState ≠ 2 ∨ f.type = 0 then b
  else if f.crc ≠ vptCrc f then b.vptDiscard F.VPT_CNT_CRC
  else
    let gap := match b.vpt.rxSeq with
      | some q => decide (f.seq.toNat ≠ (q + 1) % 256)
      | none => false
    let b1 := (if gap then b.vptErr F.VPT_ERR_SEQ else b).modVpt (fun v => { v with rxSeq := some f.seq.toNat })
    let p := f.part.toNat
    let l := b1.chansOf p
    if f.type ≠ 2 ∨ l.isEmpty ∨ chanRange l ≠ (f.first.toNat, f.count.toNat) then b1.vptDiscard F.VPT_CNT_PROTO
    else match (b1.part p).expects.find? (fun e => decide (BitVec.ofNat 32 e.dc = f.dc)) with
      | some e => b1.smpCompare f e
      | none => b1.vptDiscard F.VPT_CNT_PROTO

/-- SMP_FRAME (R440, R443), with what the checks of the unit find (class 0x0B). -/
def execSmpFrame (f : VptFrame) (unit : Ecc) (s : State) : Host.Outcome State Fault Refusal := s.run (fun b => b.unitUse .vpt 0 unit (·.smpFrame f))

/-- SMP_TMO in CTL_CLK cycles; 0 acts as 1 (Table 14.6). -/
def Block.smpTmo (b : Block) : Nat := 250 * max 1 (b.fld (r0 .VPT_CTRL) F.VPT_CTRL_SMP_TMO)

/-- SAMPLE_TIMEOUT (R445): a sample accepted in the CTL_CLK cycle of its timeout counts as arrived. -/
def execSampleTimeout (p : PartNo) (dc : BitVec 32) (s : State) : Host.Outcome State Fault Refusal :=
  s.run (fun b => match (b.part p.toNat).expects.find? (fun e => decide (BitVec.ofNat 32 e.dc = dc)) with
    | some e => if b.smpTmo < b.pw.ctl - e.at_ then b.sampleMissing p.toNat e.dc else b
    | none => b)

/-! ## The link (R432 to R434) -/

/-- The lanes that VPT_CTRL selects; 3 acts as 2. -/
def Block.vptLanes (b : Block) : Nat := 8 * (1 + min 2 (b.fld (r0 .VPT_CTRL) F.VPT_CTRL_LANES))

/-- The firmware and its link images allow the port to run (R433, R466, R467). -/
def Block.vptMayRun (b : Block) : Bool := decide (b.pw.phase = .ready) && !b.fw.linksOff && !b.safeMode

/-- VPT_TRAIN_START (R433): every 1 ms while EN is 1. -/
def execVptTrainStart (s : State) : Host.Outcome State Fault Refusal :=
  s.run (fun b =>
    if b.vptState = 0 ∧ b.bit (r0 .VPT_CTRL) F.VPT_CTRL_EN ∧ b.vptMayRun ∧ 250000 ≤ b.pw.ctl - b.vpt.since then
      (b.modVpt (fun v => { v with lanes := b.vptLanes })).vptEnter 1
    else b)

/-- VPT_TRAIN_DONE (R433, R434): ACTIVE with a CONFIG frame when every lane locked within 100 µs, else DOWN. -/
def execVptTrainDone (locked : Bool) (s : State) : Host.Outcome State Fault Refusal :=
  s.run (fun b =>
    if b.vptState = 1 then
      if locked ∧ b.vptMayRun ∧ b.pw.ctl - b.vpt.since ≤ 25000 then
        ((b.modVpt (fun v => { v with tx := [], rxSeq := none, cfgDue := true, rest := [], blocks := 0, scr := [], lane := [] })).vptEnter 2).vptConfig
      else b.vptEnter 0
    else b)

/-- The link leaves ACTIVE: what waited to be sent is gone. -/
def Block.vptDown (b : Block) (st : Nat) : Block := (b.modVpt (fun v => { v with tx := [], due := [], cfgDue := false })).vptEnter st

/-- VPT_LOCK_LOSS (R433). -/
def execVptLockLoss (s : State) : Host.Outcome State Fault Refusal := s.run (fun b => if b.vptState = 2 then b.vptDown 0 else b)

/-- A write of VPT_CTRL: EN = 0 sends STATE HIZ, then disables; EN = 1 enables to DOWN (Table 14.6), but not while the link
firmware keeps the port DISABLED, nor in safe mode (R466, R467). -/
def Block.vptCtrl (b : Block) (v : Word) : Block :=
  let b1 := b.setReg (r0 .VPT_CTRL) (v &&& 0xFFFF0031#32)
  if v.getLsbD 0 then (if b.vptState = 3 ∧ b.vptMayRun then b1.vptEnter 0 else b1) else b1.vptHiz.vptDown 3

/-- The port follows VPT_CTRL.EN when the firmware is ready (R433). -/
def Block.vptFollow (b : Block) : Block :=
  if b.bit (r0 .VPT_CTRL) F.VPT_CTRL_EN then (if b.vptState = 3 then b.vptEnter 0 else b) else b.vptDown 3

/-- VPT_CTRL_WRITE (R433). -/
def execVptCtrlWrite (r : Requester) (v : Word) (s : State) : Host.Outcome State Fault Refusal :=
  s.run (fun b => b.hostWrite r (r0 .VPT_CTRL) v (·.vptCtrl v))

/-- A write of VPT_Pp_FIRST: 1 to VALID clears FIRST and FIRST_DC (Table 14.10). -/
def Block.firstClear (b : Block) (p : Nat) (v : Word) : Block :=
  if v.getLsbD 31 then (b.clrReg (r1 .VPT_Pp_FIRST p)).clrReg (r1 .VPT_Pp_FIRST_DC p) else b

/-- A write of VPT_CHc_OWN takes effect: the present and the named owner are in Winter state (R435). -/
def Block.vptOwnOk (b : Block) (ch : Nat) (v : Word) : Bool :=
  let winter (o : Option Nat) : Bool := match o with | some p => decide ((b.part p).state = .winter) | none => true
  winter (b.chanOwner ch) && winter (ownerField v)

/-- A write of VPT_CHc_OWN (R434, R435); the partition that it names is one that the port tells of its state (R446). -/
def Block.vptOwn (b : Block) (ch : Nat) (v : Word) : Block :=
  let w := v &&& 0xC00000FF#32
  if b.vptOwnOk ch v then
    let b1 := (b.setReg (r1 .VPT_CHc_OWN ch) w).modVpt (fun x => { x with cfgDue := true })
    (match ownerField w with | some p => b1.modPart p id | none => b1).vptConfig
  else b.vptErr F.VPT_ERR_OWN

/-- VPT_OWN_WRITE (R435). -/
def execVptOwnWrite (r : Requester) (ch : BitVec 12) (v : Word) (s : State) : Host.Outcome State Fault Refusal :=
  s.run (fun b => b.hostWrite r (r1 .VPT_CHc_OWN ch.toNat) v (·.vptOwn ch.toNat v))

/-! ## States other than running (R442, R446) -/

/-- The STATE frame of partition p by its condition (Table 14.5). -/
def Block.stateFrame (b : Block) (p : Nat) : VptFrame :=
  let x := b.part p
  if x.state = .winter ∨ (x.state = .frost ∧ x.preFrost = .winter) then b.codeFrame p 3 0 0 []
  else if x.drive.isEmpty then b.codeFrame p 3 0 1 ((b.chansOf p).map (fun ch => (ch, b.restCode ch)))
  else b.codeFrame p 3 0 2 x.drive

/-- VPT_STATE_FRAME (R442, R446): 1 µs without a frame of the partition. -/
def execVptStateFrame (p : PartNo) (s : State) : Host.Outcome State Fault Refusal :=
  s.run (fun b =>
    if !(b.chansOf p.toNat).isEmpty ∧ 250 ≤ (b.part p.toNat).vptIdle then b.vptQueue p.toNat (b.stateFrame p.toNat) else b)

/-- The Spring commit of partition p (R437, R442): the check, STATE REST, and on a RUNNING release without frame paths DRV INIT. -/
def Block.vptSpring (b : Block) (p : Nat) (running : Bool) : Block :=
  if (b.chansOf p).isEmpty then b
  else
    let b1 := (b.mapCheck p).modPart p (fun x => { x with drive := [], expects := [], reports := [] })
    let b2 := b1.vptMust p (b1.stateFrame p)
    if running ∧ (b2.part p).man.framePaths = false then
      let d := b2.driveCodes p
      let b3 := b2.vptMust p (b2.codeFrame p 1 ((b2.part p).man.startDc.toNat + 2 ^ 64 - 1) 1 d)
      if b2.vptUp then b3.modPart p (fun x => { x with drive := d }) else b3
    else b2

/-- A reset of partition p clears its records, the FAILS of its channels and MAPERR (R437, R449). -/
def Block.vptPartReset (b : Block) (p : Nat) : Block :=
  let b1 := forEach (b.chansOf p) b (fun ch x => (x.clrFld (r1 .VPT_CHc_STAT ch) F.VPT_CHc_STAT_FAILS).clrFld (r1 .VPT_CHc_MAP ch) F.VPT_CHc_MAP_MAPERR)
  ([r1 .VPT_Pp_CNT p, r1 .VPT_Pp_FIRST p, r1 .VPT_Pp_FIRST_DC p].foldl Block.clrReg b1).modPart p (fun x => { x with drive := [], expects := [], reports := [] })

/-- A warm reset (R446, R449): STATE HIZ for every partition, the link goes DOWN, and every counter and record clears. -/
def Block.vptWarm (b : Block) : Block :=
  let b1 := b.vptHiz.vptDown 0
  let b2 := b1.clrRegs (fun k => decide (k.name = .VPT_ERR ∨ k.name = .VPT_CNT ∨ k.name = .VPT_Pp_CNT ∨ k.name = .VPT_Pp_FIRST ∨ k.name = .VPT_Pp_FIRST_DC))
  forEach (b2.regs.filter (fun e => decide (e.1.name = .VPT_CHc_STAT))) b2 (fun e x => x.clrFld e.1 F.VPT_CHc_STAT_FAILS)

end Sys2Proof.Machine
end

