-- ==== Sys2Proof/Machine/Cfg.lean ====
section
/-!
DEFINITION. The configuration engine (chapter 7): the load from header to END, its failures, fan-out, the Spring commit, patches, and scrub.
-/
namespace Sys2Proof.Machine

/-! ## The load -/

/-- Change the engine. -/
def Block.modCfg (b : Block) (f : Cfg → Cfg) : Block := { b with cfg := f b.cfg }

/-- CFG_STATUS.STATE (Table 7.11). -/
def Block.cfgState (b : Block) : Nat := b.fld (r0 .CFG_STATUS) F.CFG_STATUS_STATE

/-- Enter a load state. -/
def Block.cfgEnter (b : Block) (st : Nat) : Block := b.setFld (r0 .CFG_STATUS) F.CFG_STATUS_STATE st

/-- The source of the load: 3 acts as 0 (Table 7.15). -/
def Block.cfgSrc (b : Block) : Nat := b.fld (r0 .CFG_SRC) F.CFG_SRC_SRC % 3

/-- Field of the image header (Table 7.1). -/
def Block.hdr (b : Block) (off n : Nat) : Nat := leAt b.cfg.hdr off n

/-- ENCRYPTED, PATCH, KIND, SIGNER of the image. -/
def Block.encrypted (b : Block) : Bool := bitAt (b.hdr 7 1) 0
/-- PATCH. -/
def Block.isPatch (b : Block) : Bool := bitAt (b.hdr 7 1) 1
/-- KIND. -/
def Block.imgKind (b : Block) : Nat := b.hdr 6 1
/-- SIGNER. -/
def Block.signer (b : Block) : Nat := b.hdr 0x2C 1

/-- The DETAIL of a load's audit entry (Table 16.4): KIND, SIGNER, 32 bytes of DIGEST, the partitions (log entry 39). -/
def Block.loadDetail (b : Block) : List Byte :=
  leBytes 1 b.imgKind ++ leBytes 1 b.signer ++ sliceBytes b.cfg.hdr 0x30 32 ++ b.cfg.touched.map (BitVec.ofNat 8)

/-- An audit entry of the load, in the name of its loader (R484). -/
def Block.auditLoad (b : Block) (typ res : Nat) : Block := b.auditFull typ b.cfg.who.role b.cfg.who.slot b.cfg.who.source res b.loadDetail

/-- The links of CFG_FANOUT.MASK. -/
def Block.maskLinks (b : Block) : List Nat := (List.range 16).filter (fun n => bitAt (b.fld (r0 .CFG_FANOUT) F.CFG_FANOUT_MASK) n)

/-- CFG_FANOUT.UP; 16 and above mean none. -/
def Block.upLink (b : Block) : Option Nat :=
  let n := b.fld (r0 .CFG_FANOUT) F.CFG_FANOUT_UP
  if n < 16 then some n else none

/-- Send a configuration message on a link that is ACTIVE or in RETRAIN. -/
def Block.sendCfg (b : Block) (n : Nat) (m : CfgMsg) (relay : Option Nat := none) : Block :=
  if b.lnkState n = 5 ∨ b.lnkState n = 6 then b.enqueue n { cls := 3, vc := false, flits := (Msg.cfg m).flits false, relay := relay } else b

/-- FANOUT_FORWARD (R235): on every link of MASK. -/
def Block.forward (b : Block) (m : CfgMsg) (relay : Option Nat := none) : Block := forEach b.maskLinks b (fun n x => x.sendCfg n m relay)

/-- A configuration message of the UP link stays in its receive buffer, under a number of its own, until it has gone on (R237). -/
def Block.relayHold (b : Block) (n k flits : Nat) : Block :=
  b.modCfg (fun c => { c with relays := c.relays ++ [(c.nextRelay, n, k, flits)], nextRelay := c.nextRelay + 1 })

/-- The number of the configuration message that came last. -/
def Block.lastRelay (b : Block) : Option Nat := (b.cfg.relays.getLast?).map (·.1)

/-! ## Reports (R238) -/

/-- The sum of two reports: the lowest failing device stands. -/
def FanReport.join (a c : FanReport) : FanReport :=
  let first := if c.fail = 0 then a else if a.fail = 0 then c else if c.dev < a.dev then c else a
  { first with ok := a.ok + c.ok, fail := a.fail + c.fail }

/-- The report of the own load. -/
def Block.ownReport (b : Block) : FanReport :=
  if b.cfgState = 7 then ⟨0, 1, b.devId.toNat, b.fld (r0 .CFG_STATUS) F.CFG_STATUS_CODE, false⟩ else ⟨1, 0, 0, 0, false⟩

/-- The report goes on UP once every link of MASK has reported; the root holds the sum and raises event 4. -/
def Block.reportUp (b : Block) : Block :=
  if b.cfg.endAt.isSome ∧ b.cfg.reported = false ∧ b.maskLinks.all (fun n => (b.cfg.reports.find n).isSome) then
    let t := (b.maskLinks.filterMap (fun n => b.cfg.reports.find n)).foldl FanReport.join b.ownReport
    let b1 := b.modCfg (fun c => { c with reported := true })
    match b1.upLink with
    | some u => b1.sendCfg u (.report t.ok t.fail t.dev t.code)
    | none =>
      let b2 := b1.setReg (r0 .CFG_FANOUT_RESULT) (BitVec.ofNat 32 (min t.ok 2047 * 2 ^ 16 + min t.fail 2047))
      let v := if t.fail = 0 then 0 else 2 ^ 31 + b2n t.missing * 2 ^ 30 + t.code % 256 * 2 ^ 16 + t.dev % 1024
      (b2.setReg (r0 .CFG_FANOUT_FIRST) (BitVec.ofNat 32 v)).raise 4
  else b

/-- The own load has ended. -/
def Block.loadEnded (b : Block) : Block :=
  if b.cfg.endAt.isSome then b else (b.modCfg (fun c => { c with endAt := some b.pw.ctl })).reportUp

/-- FANOUT_REPORT (R238): a link of MASK reports. -/
def Block.fanReport (b : Block) (n : Nat) (f : FanReport) : Block :=
  if n ∈ b.maskLinks then (b.modCfg (fun c => { c with reports := c.reports.put n f })).reportUp else b.proto n

/-- FANOUT_REPORT (R238). -/
def execFanoutReport (n : LinkNo) (ok fail : BitVec 11) (dev : DeviceId) (code : BitVec 8) (s : State) : Host.Outcome State Fault Refusal :=
  s.run (·.fanReport n.toNat ⟨ok.toNat, fail.toNat, dev.toNat, code.toNat, false⟩)

/-- CFG_TMO in CTL_CLK cycles; 0 acts as 1 (Table 7.19). -/
def Block.cfgTmo (b : Block) : Nat := 250000 * max 1 (b.fld (r0 .CFG_TMO) F.CFG_TMO_TIMEOUT)

/-- FANOUT_REPORT_TIMEOUT (R238): one failed module with code 0x0B, in the name of the waiting module. -/
def execFanoutReportTimeout (n : LinkNo) (s : State) : Host.Outcome State Fault Refusal :=
  s.run (fun b => match b.cfg.endAt with
    | some t =>
      if n.toNat ∈ b.maskLinks ∧ b.cfg.reports.find n.toNat = none ∧ b.cfgTmo ≤ b.pw.ctl - t then
        b.fanReport n.toNat ⟨0, 1, b.devId.toNat, 0x0B, true⟩
      else b
    | none => b)

/-! ## Failure and the end of the stream (R229 to R231) -/

/-- Clear CFG_PART_LOADED of a partition. -/
def Block.unload (b : Block) (p : Nat) : Block :=
  let k := r1 .CFG_PART_LOADEDn (p / 32)
  b.setReg k (b.reg k &&& ~~~(BitVec.ofNat 32 (2 ^ (p % 32))))

/-- CFG_PART_LOADED of a partition. -/
def Block.isLoaded (b : Block) (p : Nat) : Bool := (b.reg (r1 .CFG_PART_LOADEDn (p / 32))).getLsbD (p % 32)

/-- CFG_ERR follows the ERR bit (R233). -/
def Block.cfgErrPin (b : Block) (v : Bool) : Block :=
  { b.setFld (r0 .CFG_STATUS) F.CFG_STATUS_ERR (b2n v) with pw := { b.pw with cfgErr := v } }

/-- LOAD_FAILURE (R231): the status, and the frame, 0xFFFF_FFFF for the header. -/
def Block.loadFail (b : Block) (status frame : Nat) : Block :=
  let b1 := ((b.cfgEnter 7).setFld (r0 .CFG_STATUS) F.CFG_STATUS_CODE status).setReg (r0 .CFG_ERR_FRAME) (BitVec.ofNat 32 frame)
  let b2 := forEach b.cfg.touched ((b1.cfgErrPin true).raise 1) (fun p x => x.unload p)
  ((b2.auditLoad 0x12 status).modCfg (fun c => { c with buf := [] })).loadEnded

/-- The frame that a failure in FRAMES names; a failure before names the header. -/
def Block.failFrame (b : Block) : Nat := if b.cfgState = 3 then b.cfg.pos else 0xFFFFFFFF

/-- A load is in progress that takes bytes. -/
def Block.loading (b : Block) : Bool := decide (1 ≤ b.cfgState ∧ b.cfgState ≤ 3)

/-- Bytes of the frame at the head of the buffer: header, payload, tag and CRC; none while its header has not come. -/
def Block.frameLen (b : Block) : Option Nat :=
  if b.cfg.buf.length < 32 then none else some (36 + leAt b.cfg.buf 12 4 + (if b.encrypted then 16 else 0))

/-- The next unit of the stream has come: the header, or a frame. -/
def Block.unitReady (b : Block) : Bool :=
  if b.cfgState = 1 then decide (256 ≤ b.cfg.buf.length)
  else match b.frameLen with
    | some n => decide (n ≤ b.cfg.buf.length) || decide (2 ^ 20 + 52 < n)
    | none => false

/-- A stream that has ended before its END frame fails the load once what came has been taken (R229). -/
def Block.starve (b : Block) : Block := if b.loading ∧ b.cfg.ended ∧ b.unitReady = false then b.loadFail 0x05 b.failFrame else b

/-- The source ends the stream (R229). -/
def Block.endOfStream (b : Block) : Block := if b.cfg.ended then b else (b.modCfg (fun c => { c with ended := true })).starve

/-- Bytes of the stream arrive (R227, R232): bytes after the END frame or after a failure are discarded. -/
def Block.takeBytes (b : Block) (l : List Byte) : Block :=
  if b.cfg.ended then b
  else if b.loading then b.modCfg (fun c => { c with buf := c.buf ++ l, lastAt := b.pw.ctl })
  else if b.cfgState = 7 ∧ b.cfg.endSeen = false then b
  else b.setBit (r0 .CFG_STATUS) F.CFG_STATUS_DISCARD

/-- The function through which a requester loads: a DMA channel of scope partition writes through the function that serves it (R333). -/
def Block.loadFn (b : Block) (r : Requester) : Nat :=
  match r with
  | .dma n => if b.bit (r1 .DMA_CHn_CFG n.toNat) F.DMA_CHn_CFG_SCOPE then 0 else b.servingFn (b.fld (r1 .DMA_CHn_CFG n.toNat) F.DMA_CHn_CFG_PART)
  | _ => fnOf r

/-- A write of CFG_CTRL other than START, through a VF that did not begin the load, has no effect (R454). -/
def Block.cfgMine (b : Block) (r : Requester) : Bool := !isVf r || decide (b.loadFn r = b.cfg.who.fn)

/-- START (R228): refused in states 1 to 5. -/
def Block.cfgStart (b : Block) (r : Requester) : Block :=
  if 1 ≤ b.cfgState ∧ b.cfgState ≤ 5 then b.setBit (r0 .CFG_STATUS) F.CFG_STATUS_BUSY_REFUSED
  else
    let b1 := [r0 .CFG_STATUS, r0 .CFG_MAN_CHECK, r0 .CFG_MAN_INDEX, r0 .CFG_PROGRESS, r0 .CFG_FANOUT_RESULT, r0 .CFG_FANOUT_FIRST].foldl Block.clrReg b
    let who : Loader := if b.cfgSrc = 1 then ⟨b.loadFn r, .none, 0xFF, 0x3FD⟩ else ⟨b.loadFn r, b.roleOf r, b.slotOf r, idOf r⟩
    (((b1.cfgErrPin false).modCfg (fun c => { who := who, ended := false, lastAt := b.pw.ctl, scrubSeen := c.scrubSeen, relays := c.relays, nextRelay := c.nextRelay })).cfgEnter 1).auditLoad 0x10 0

/-- CLR_ERR (R233). -/
def Block.cfgClrErr (b : Block) : Block := b.cfgErrPin false

/-- The right to write CFG_CTRL, and what it does. -/
def Block.cfgWrite (b : Block) (r : Requester) (v : Word) (f : Block → Block) : Block := b.hostWrite r (r0 .CFG_CTRL) v f

/-- START (R228). -/
def execCfgStart (r : Requester) (s : State) : Host.Outcome State Fault Refusal := s.run (fun b => b.cfgWrite r 1 (·.cfgStart r))

/-- END_STREAM (R229): of the host stream, through the function that began the load; the end mark goes out on MASK (R235). -/
def Block.endStream (b : Block) (r : Requester) : Block :=
  if b.cfgMine r ∧ b.cfgSrc = 0 ∧ b.cfg.ended = false then (b.forward .endMark).endOfStream else b

/-- END_STREAM (R229). -/
def execEndStream (r : Requester) (s : State) : Host.Outcome State Fault Refusal := s.run (fun b => b.cfgWrite r 2 (·.endStream r))

/-- CLR_ERR (R233). -/
def execClrErr (r : Requester) (s : State) : Host.Outcome State Fault Refusal :=
  s.run (fun b => b.cfgWrite r 8 (fun x => if x.cfgMine r then x.cfgClrErr else x))

/-- A write of the stream window at byte `off` of it (R555), with the load's stream from the host window: the bytes are appended, whatever the offset, and
forwarded on MASK (R235). A refused one is entered with its offset, and as its value its first four bytes (R19, log entry 159). -/
def Block.streamWrite (b : Block) (r : Requester) (off : Nat) (l : List Byte) : Block :=
  if b.reaches r (r0 .CFG_CTRL) then
    if b.roleOf r = .op ∨ b.roleOf r = .inst then
      if b.cfgSrc = 0 ∧ b.loadFn r = b.cfg.who.fn ∧ b.cfg.ended = false then (b.forward (.stream l)).takeBytes l else b
    else b.auditRefused r (0x00108000 + off) (BitVec.ofNat 32 (leAt l 0 4))
  else b

/-- STREAM_WRITE (R227, R555). -/
def execStreamWrite (r : Requester) (off : BitVec 15) (bytes : List Byte) (s : State) : Host.Outcome State Fault Refusal :=
  s.run (·.streamWrite r off.toNat bytes)

/-- LOAD_TIMEOUT (R230): no byte for CFG_TMO ms; the end mark goes out on MASK. -/
def execLoadTimeout (s : State) : Host.Outcome State Fault Refusal :=
  s.run (fun b =>
    if b.loading ∧ b.cfg.ended = false ∧ b.cfgTmo ≤ b.pw.ctl - b.cfg.lastAt then (b.loadFail 0x0B b.failFrame).forward .endMark else b)

/-- The end mark on a link (R229, R235): on UP it is forwarded, whatever the own load does, and ends the stream of a load from the link; on any other link
it is a protocol error. -/
def Block.endMarkIn (b : Block) (n : Nat) : Block :=
  if b.upLink = some n then
    let b1 := b.forward .endMark b.lastRelay
    if b.cfgSrc = 1 then b1.endOfStream else b1
  else b.proto n

/-- END_MARK. -/
def execEndMark (n : LinkNo) (s : State) : Host.Outcome State Fault Refusal := s.run (·.endMarkIn n.toNat)

/-- A stream fragment from a link (R235): on UP it is forwarded, and taken by a load from the link. -/
def Block.streamIn (b : Block) (n : Nat) (l : List Byte) : Block :=
  if b.upLink = some n then
    let b1 := b.forward (.stream l) b.lastRelay
    if b.cfgSrc = 1 then b1.takeBytes l else b1
  else b.proto n

/-- A held configuration message has gone on: every link of MASK has sent it, and the engine that takes its stream from the link has no whole unit waiting
(R237; log entry 169). -/
def Block.relayGone (b : Block) (id : Nat) : Bool :=
  !b.links.any (fun e => e.2.queue.any (fun m => decide (m.relay = some id))) && !(decide (b.cfgSrc = 1) && b.loading && b.unitReady)

/-- The messages that have gone on leave their receive buffers, which frees their credits (R237, R276). -/
def Block.relayDone (b : Block) : Block :=
  (forEach (b.cfg.relays.filter (fun e => b.relayGone e.1)) b (fun e x => x.free (some (e.2.1, e.2.2.1)) e.2.2.2)).modCfg
    (fun c => { c with relays := c.relays.filter (fun e => !b.relayGone e.1) })

/-- What happens on links, with R275: when the UP link goes DOWN while a load takes its stream from it, the stream has ended. -/
def Block.upWatch (b : Block) (f : Block → Block) : Block :=
  let x := f b
  match b.upLink with
  | some u =>
    if b.cfgSrc = 1 ∧ (5 ≤ b.lnkState u ∧ b.lnkState u ≤ 6) ∧ (x.lnkState u = 0 ∨ x.lnkState u = 7) then (if x.cfg.ended then x else (x.forward .endMark).endOfStream) else x
  | none => x

/-! ## Level X (Table 17.2) -/

/-- A level X fault (Table 17.2): every partition stops, STATE HIZ for every partition, and every link goes down, after LINK_RESET where the
clocks allow it. -/
def Block.faultX (b : Block) (cls unit : Nat) (clocks : Bool) : Block :=
  let b1 := b.faultEntry .x cls unit 0
  let b2 := (forEach b1.hosted b1 (fun p x => x.faultStop p (causeOf cls))).vptHiz
  b2.upWatch (fun y => forEach (List.range 16) y (fun n x =>
    if x.lnkState n = 7 then x else if clocks then x.deliberateDown n 0 else if x.lnkState n = 0 then x else x.linkDown n 0))

/-- The use of a key or of a fuse, at which the integrity check may find a fault (Table 17.1): event 15, class 0x10 at level X, and the keys are unusable until
the next boot (log entry 185). -/
def Block.keyUse (b : Block) (bad : Bool) : Block :=
  if bad ∧ b.sec.keyFault = false then
    ((({ b with sec := { b.sec with keyFault := true } }).clrFld (r0 .SEC_STATUS) F.SEC_STATUS_KEYSTORE_OK).raise 15).faultX 0x10 0 true
  else b

/-! ## The header (R213, R482) -/

/-- The image key that an encrypted image names (R479, R483); a firmware image is encrypted under the maker key. -/
def Block.imgKey (b : Block) : Option ImgKey :=
  if b.sec.keyFault then none
  else if b.imgKind ≠ 0 then some ⟨BitVec.ofNat 32 (b.hdr 0x1C 4), BitVec.allOnes 256, b.sec.makerKey⟩
  else (b.sec.imgKeys.find? (fun e => decide (e.2.keyId.toNat = b.hdr 0x1C 4))).map (·.2)

/-- The signature of the header verifies under a key (Table 7.1). -/
def Block.signedBy (b : Block) (key : List Byte) : Bool := sigVerifies key (sliceBytes b.cfg.hdr 0x80 96) (b.cfg.hdr.take 0x80)

/-- The scope of the loader's own session: none where it sets no limit. -/
def Block.loaderScope (b : Block) : Option (List (BitVec 256)) :=
  if b.cfg.who.role = .op ∧ b.cfgSrc ≠ 1 then some ((b.sec.operKeys.find b.cfg.who.slot).toList.map (·.scope)) else none

/-- The maker root key, where the fuses hold its hash (R479). -/
def Block.rootKey (b : Block) : Option (List Byte) := if sha384 b.sec.makerRoot = b.sec.makerHash then some b.sec.makerRoot else none

/-- Check 5 (Table 16.3): the session may load an image of this KIND and SIGNER, and the signature verifies under the key of SIGNER. The answer is none where
it fails, else the scopes one of which must cover every partition that the image names: the manual's for an operator's session or key. -/
def Block.authorize (b : Block) : Option (Option (List (BitVec 256))) :=
  let w := b.cfg.who.role
  let up := decide (b.cfgSrc = 1)
  if b.imgKind ≠ 0 then (if b.signer = 3 ∧ b.cfgSrc = 2 ∧ b.rootKey.any b.signedBy then some none else none)
  else if b.sec.keyFault then none
  else if b.signer = 1 then
    match b.sec.instKey with
    | some k => if (up ∨ w = .inst ∨ w = .op) ∧ b.signedBy k then some b.loaderScope else none
    | none => none
  else if b.signer = 2 then
    let l := (if up then b.sec.operKeys.map (·.2) else if w = .op then (b.sec.operKeys.find b.cfg.who.slot).toList else []).filter (fun k => b.signedBy k.key)
    if l.isEmpty then none else some (some (l.map (·.scope)))
  else none

/-- The status of the first of checks 1 to 4 that fails (Table 7.2); an image of KIND 0 from the flash fails with 0x0A (R234). -/
def Block.headerStatus (b : Block) : Option Nat :=
  let id := b.reg (r0 .CTL_ID)
  let step := bitsOf id.toNat 8 4
  if b.hdr 0 4 ≠ 0x4953594C then some 0x01
  else if b.hdr 8 1 ≠ bitsOf id.toNat 24 8 ∨ b.hdr 0xA 2 % 4096 ≠ bitsOf id.toNat 12 12 then some 0x02
  else if step < b.hdr 0xC 1 ∨ b.hdr 0xD 1 < step then some 0x03
  else if b.hdr 4 2 / 256 ≠ b.fld (r0 .CFG_IFVER) F.CFG_IFVER_HDR_MAJOR ∨ 2 < b.imgKind ∨ b.signer = 0 ∨ 3 < b.signer
      ∨ b.hdr 0xE 2 / 256 ≠ b.fld (r0 .CFG_IFVER) F.CFG_IFVER_IF_MAJOR ∨ b.fld (r0 .CFG_IFVER) F.CFG_IFVER_IF_MINOR < b.hdr 0xE 2 % 256
      ∨ (b.cfgSrc = 2 ∧ b.imgKind = 0) then some 0x0A
  else none

/-- Checks 5 and 6 in AUTH (Table 7.2, Table 7.11): the load keeps the keys that it has verified (R481). -/
def Block.auth (b : Block) : Block :=
  match b.authorize with
  | none => b.loadFail 0x07 0xFFFFFFFF
  | some sc =>
    if b.encrypted ∧ b.imgKey = none then b.loadFail 0x08 0xFFFFFFFF
    else ((b.modCfg (fun c => { c with scopes := sc, key := b.imgKey })).cfgEnter 3).starve

/-- The 256 header bytes have come (R213): checks 1 to 4 in HEADER, then those of AUTH, which use a key; `bad`: the integrity check at that use finds a fault. -/
def Block.imageHeader (b : Block) (bad : Bool) : Block :=
  if b.cfgState = 1 ∧ 256 ≤ b.cfg.buf.length then
    let b1 := b.modCfg (fun c => { c with hdr := c.buf.take 256, buf := c.buf.drop 256, taken := 256 })
    match b1.headerStatus with
    | some n => b1.loadFail n 0xFFFFFFFF
    | none =>
      let b2 := (b1.cfgEnter 2).keyUse bad
      if b2.cfgState = 2 then b2.auth else b2
  else b

/-- IMAGE_HEADER (R213). -/
def execImageHeader (bad : Bool) (s : State) : Host.Outcome State Fault Refusal := s.run (·.imageHeader bad)

/-! ## The Spring commit (R240, R241) -/

/-- The partitions of the image on the module. -/
def Block.imageParts (b : Block) : List Nat := (b.cfg.mans.filter (fun e => !e.2.clusters.isEmpty)).map (·.1)

/-- A cluster at the Spring commit: value stores, latches, word engines, sequencer, sentinel, state port, scrub of the DMBs. -/
def Block.springClu (b : Block) (p c : Nat) : Block :=
  let b1 := b.modClu c (fun x =>
    let y : Cluster := { x with
      vs := x.initVs, next := [], before := [], latch := [], trigIn := 0, probes := [], regs := [], acc := [], bridge := [], flight := [], loopBad := []
      dmbPtr := [], dmbDue := [], scrubDue := [], rets := [], deferred := [], defRun := false, run := 0, overSeen := false
      sp := { x.sp with due := false, groups := 0, loaded := false, unloaded := false, tag := 0 } }
    forEach x.init y (fun e z => z.setWeWord (e.1 / 256) (e.1 % 256) e.2))
  let b2 := forEach (List.range 4) b1 (fun k x =>
    (((x.setReg (r2 .WE_STATUS c k) (r2 .WE_STATUS c k).name.info.reset).setReg (r2 .WE_PC c k) 0).setReg (r2 .WE_LOOP_CTRL c k) 0))
  let b3 := (b2.seqInit c).clrReg (r1 .CLU_SENT_STATUS c)
  let b4 := (b3.spEffect c).sentPut c 0 (b3.sentWant c)
  (b4.clrFld (r1 .CLU_SP_STATUS c) F.CLU_SP_STATUS_NEXT).setReg (r1 .HZ_BUDGET c) (BitVec.ofNat 32 (b.part p).man.budget)

/-- The rest values of a partition's outbound slots (R164). -/
def Part.restOut (x : Part) : NMap Bool :=
  forEach x.outPaths [] (fun e m => forEach ((List.range e.2.segs.length).zip e.2.segs) m (fun j n => if j.2.2 then n.put (e.1 * 65536 + j.1) true else n))

/-- Partition p commits (R241) and its I/O is released (Table 7.12): RUNNING, or FROZEN and drained, which the cluster groups report (R192), when the
manifest declares frame paths (R187). -/
def Block.springPart (b : Block) (p : Nat) : Block :=
  let x := b.part p
  let b1 := forEach x.clusters b (fun c y => y.springClu p c)
  let paths := x.man.framePaths
  let b2 := b1.modPart p (fun y => ({
    clusters := y.clusters
    len := y.len
    man := y.man
    holds := y.holds
    pathDown := y.pathDown
    met := y.met
    state := if paths then .frozen else .running
    dc := y.man.startDc
    cyc := 8 * b.pw.ctl
    base := y.man.startDc.setWidth 32
    firstDc := true
    noWait := true
    outHeld := y.restOut
    vptIdle := y.vptIdle
    instSigned := decide (b.signer = 1)
    eqxAt := b.now } : Part))
  let k := r1 .PART_FRZ_STATUS p
  let b3 := [k, r1 .PART_FRZ_ORIGIN p].foldl Block.clrReg ((b2.margin p).clrFld (r1 .PART_EQX_WAIT p) F.PART_EQX_WAIT_WAIT_MAX)
  let b4 := if paths then ((b3.setBit k F.PART_FRZ_STATUS_FROZEN).setBit k F.PART_FRZ_STATUS_DRAINED).raiseGroups p else b3
  ((b4.trgSpring p).trcSpring p).vptSpring p (!paths)

/-- SPRING_COMMIT (R240): refused unless the image is LOADED with every partition of it on the module; while boundary scan is unlocked, and in safe mode, no
partition leaves Winter state (R467, R488). -/
def Block.springCommit (b : Block) : Block :=
  let ps := b.imageParts
  if b.cfgState = 5 ∧ ps.all b.isLoaded ∧ b.safeMode = false ∧ b.fld (r0 .SEC_STATUS) F.SEC_STATUS_UNLOCK ≠ 1 then (((forEach ps b (fun p x => x.springPart p)).raise 0).cfgEnter 6).auditLoad 0x11 0
  else b.setBit (r0 .CFG_STATUS) F.CFG_STATUS_COMMIT_REFUSED

/-- The committer may run the image (Table 16.1): an installer one that its key has signed, an operator one whose partitions its key scope covers. -/
def Block.mayRun (b : Block) (r : Requester) : Bool :=
  match b.roleOf r with
  | .inst => decide (b.signer = 1)
  | .op => b.imageParts.all (b.operCovers r)
  | _ => true

/-- COMMIT (R240); ignored for a patch (R245). A committer without the right is refused, as a write without the role is (R19, R474). -/
def Block.cfgCommit (b : Block) (r : Requester) : Block :=
  if b.cfgMine r = false ∨ b.isPatch then b
  else if b.mayRun r then b.springCommit
  else b.auditRefused r (r0 .CFG_CTRL).addr 4

/-- COMMIT. -/
def execCommit (r : Requester) (s : State) : Host.Outcome State Fault Refusal := s.run (fun b => b.cfgWrite r 4 (·.cfgCommit r))

/-! ## Frames (R214 to R221) -/

/-- What a frame says (Table 7.3): its payload is decrypted. -/
structure Frame where
  typ : Nat
  flags : Nat
  dest : Nat
  part : Nat
  clu : Nat
  addr : Nat
  count : Nat
  len : Nat
  data : List Byte
  deriving DecidableEq, Repr

/-- LAST, ALL and AUTO_COMMIT of a frame. -/
def Frame.last (f : Frame) : Bool := bitAt f.flags 0
/-- ALL. -/
def Frame.all (f : Frame) : Bool := bitAt f.flags 1
/-- AUTO_COMMIT. -/
def Frame.auto (f : Frame) : Bool := bitAt f.flags 2

/-- The frame at the head of a buffer, with its payload as it stands in the stream. -/
def frameAt (l : List Byte) : Frame :=
  let n := leAt l 12 4
  ⟨leAt l 2 1, leAt l 3 1, leAt l 4 2 % 1024, leAt l 6 1, leAt l 7 1, leAt l 16 4 % 2 ^ 25, leAt l 20 4, n, (l.drop 32).take n⟩

/-- The frame passes R215: SYNC, SEQ, LEN, CRC, and the place of END. -/
def Block.frameOk (b : Block) (f : Frame) (total : Nat) : Bool :=
  let l := b.cfg.buf
  decide (leAt l 0 2 = 0xC5A9 ∧ leAt l 8 4 = b.cfg.pos ∧ f.len ≤ 2 ^ 20 ∧ f.len % 4 = 0)
    && decide (leAt l (total - 4) 4 = (crc32 (l.take (total - 4))).toNat)
    && (decide (f.typ ≠ 0x0F) || decide (b.cfg.taken + total = b.hdr 0x10 8 ∧ leAt l 8 4 + 1 = b.hdr 0x18 4))

/-- The frame types of Table 7.4. -/
def frameTypeOk (t : Nat) : Bool := decide ((1 ≤ t ∧ t ≤ 6) ∨ t = 0x0F)

/-- The TYPE is allowed for the image's KIND (R216), a patch holding STORE and END (R245). Table 7.4 says it of FIRMWARE alone; an image of KIND 1 or 2 holds
FIRMWARE and END (DEDUCED, log entry 160). -/
def Block.typeForKind (b : Block) (t : Nat) : Bool :=
  if t = 0x0F then true
  else if b.imgKind = 0 then (if b.isPatch then decide (t = 2) else decide (t ≠ 6))
  else decide (t = 6)

/-- The manifest of a partition as this load has it. -/
def Block.manBuf (b : Block) (p : Nat) : ManBuf := NMap.get {} b.cfg.mans p

/-- The module is named by the frame (R219). -/
def Block.named (b : Block) (f : Frame) : Bool :=
  if f.all then decide (f.typ = 1) || !(if b.isPatch then (b.part f.part).clusters else (b.manBuf f.part).clusters).isEmpty
  else decide (f.dest = b.devId.toNat)

/-- A partition has a manifest or an applied frame in this load. -/
def Block.touch (b : Block) (p : Nat) : Block :=
  b.modCfg (fun c => { c with touched := if p ∈ c.touched then c.touched else c.touched ++ [p] })

/-- The VF through which a frame came serves its partition (R250). -/
def Block.vfOk (b : Block) (p : Nat) : Bool :=
  let w := b.cfg.who
  if 1 ≤ w.fn ∧ w.fn ≤ 256 ∧ b.cfgSrc = 0 then decide (w.fn = 1 + p) else true

/-- The scopes that are left when the image names a partition (R482): on a fan-out link a partition counts only where it is on the module. None where the
image may not name it; the image key of an encrypted image must cover a partition that is on the module (R483). -/
def Block.scopeAt (b : Block) (p : Nat) (here : Bool) : Option (Option (List (BitVec 256))) :=
  let key := if b.encrypted ∧ here then b.cfg.key.all (fun k => k.scope.getLsbD p) else true
  let counts := here || decide (b.cfgSrc ≠ 1)
  let left := if counts then b.cfg.scopes.map (fun l => l.filter (fun x => x.getLsbD p)) else b.cfg.scopes
  if key ∧ left ≠ some [] then some left else none

/-- MANIFEST (R195, R220): appended; with LAST the checks run, and an accepted manifest sets up the partition. The status of a failure. A frame of a
partition whose manifest has ended fails with 0x09 (DEDUCED, log entry 162). -/
def Block.manFrame (b : Block) (f : Frame) : Block × Option Nat :=
  let p := f.part
  let m := b.manBuf p
  let l := m.bytes ++ f.data
  if b.scopeAt p false = none then (b, some 0x07)
  else if m.last ∨ 64 * 2 ^ 20 < l.length then (b, some 0x09)
  else if f.last = false then (b.modCfg (fun c => { c with mans := c.mans.put p { m with bytes := l } }), none)
  else match parseMan l with
    | none => (b, some 0x09)
    | some x =>
      let cs := x.clusters b.devId.toNat
      if x.part ≠ p then (b, some 0x09)
      else match b.scopeAt p (!cs.isEmpty) with
        | none => (b, some 0x07)
        | some sc => match b.manFail x with
          | some (code, c, i) => (b.manRecord code p c i, some (checkStatus code))
          | none =>
            let b2 := b.modCfg (fun c => { c with mans := c.mans.put p ⟨l, true, cs⟩, scopes := sc })
            (if cs.isEmpty then b2 else b2.manInstall x, none)

/-- The port-map entries that a write touches (Table 7.9). -/
def pmapTouched (off n : Nat) : List Nat :=
  (List.range 256).filter (fun m => decide (off < 0x510000 + 128 * (m + 1) ∧ 0x510000 + 128 * m < off + n))

/-- A port-map entry asks of a valid region no more than its size (R143). -/
def Block.pmapOk (b : Block) (c : Nat) (x : Cluster) (m : Nat) : Bool :=
  let k := r2 .CLU_FREGn_CTRL c (x.pmapFld m 6 4)
  !b.bit k F.CLU_FREGn_CTRL_VALID || decide (2 ^ x.pmapFld m 10 6 * strideOf (x.pmapFld m 16 7) ≤ b.fld k F.CLU_FREGn_CTRL_SIZE * 16384)

/-- The regions of a cluster, as its registers give them, lie in the grants of its partition and hold what its port-map entries ask (R143). -/
def Block.regionsOk (b : Block) (p c : Nat) : Bool :=
  (List.range 16).all (fun n =>
    let w := b.reg (r2 .CLU_FREGn_CTRL c n)
    !w.getLsbD 31 || b.regionOk p ⟨c, n, w.getLsbD 30, bitsOf w.toNat 28 2, b.fld (r2 .CLU_FREGn_BASE c n) F.CLU_FREGn_BASE_BASE,
      b.fld (r2 .CLU_FREGn_CTRL c n) F.CLU_FREGn_CTRL_SIZE, 0⟩)
    && (List.range 256).all (fun m => b.pmapOk c (b.clu c) m)

/-- Put the content of a STORE or FILL frame (R216, R221). -/
def Block.storeData (b : Block) (c off : Nat) (l : List Byte) : Block × Option Nat :=
  if storeDefined off l.length = false then (b, some 0x09)
  else match (b.clu c).putBytes off l with
    | none => (b, some 0x09)
    | some x =>
      match (pmapTouched off l.length).find? (fun m => !b.pmapOk c x m) with
      | some m => (b.manRecord 0x0C ((b.cluPart c).getD 0) c (x.pmapFld m 6 4), some 0x09)
      | none => (b.setClu c x, none)

/-- The frame's cluster belongs to a manifest of this load that has ended (R216); a reset of the partition since has ended what that manifest set up (log
entry 124). -/
def Block.cluAllowed (b : Block) (f : Frame) : Bool :=
  (b.manBuf f.part).last && decide (f.clu ∈ (b.manBuf f.part).clusters ∧ f.part ∉ b.cfg.resets)

/-- A patch frame keeps R245: the ranges, one partition, and that partition FROZEN and consistent. -/
def Block.patchOk (b : Block) (f : Frame) : Bool :=
  let x := b.part f.part
  decide (f.clu ∈ x.clusters ∧ x.state = .frozen ∧ x.inconsistent = false ∧ (b.cfg.patch = none ∨ b.cfg.patch = some f.part))
    && decide (regionOf f.addr = .code ∧ regionOf (f.addr + f.len - 1) = .code) && storeDefined f.addr f.len

/-- A STORE frame (R216, R245). -/
def Block.storeFrame (b : Block) (f : Frame) : Block × Option Nat :=
  if b.isPatch then
    if b.patchOk f = false then (b, some 0x09)
    else match b.scopeAt f.part true with
      | some sc => (b.modCfg (fun c => { c with patch := some f.part, scopes := sc })).storeData f.clu f.addr f.data
      | none => (b, some 0x07)
  else if b.cluAllowed f then b.storeData f.clu f.addr f.data
  else (b, some 0x09)

/-- A FILL frame: the 16-byte payload COUNT times (R216). -/
def Block.fillFrame (b : Block) (f : Frame) : Block × Option Nat :=
  if b.cluAllowed f ∧ f.len = 16 ∧ storeDefined f.addr (16 * f.count) then
    b.storeData f.clu f.addr ((List.range f.count).flatMap (fun _ => f.data))
  else (b, some 0x09)

/-- One pair of a REGS frame: an RWL register of the window of cluster c; none for any other offset (R216). -/
def Block.regsPair (b : Block) (c off : Nat) (v : Word) : Option Block :=
  match regAt (cluOff c off) with
  | some k => if k.name.info.rwl ∧ off < 0x10000 then some (b.setReg k ((b.reg k &&& ~~~k.name.info.rwMask) ||| (v &&& k.name.info.rwMask))) else none
  | none => none

/-- A REGS frame (R216): pairs of offset and value. A payload that is no whole number of pairs fails with 0x09 (DESIGN CHOICE, log entry 125), and so do
region registers that break R143. -/
def Block.regsFrame (b : Block) (f : Frame) : Block × Option Nat :=
  if b.cluAllowed f ∧ f.len % 8 = 0 then
    match (List.range (f.len / 8)).foldl (fun (z : Option Block) i => z.bind (fun y =>
        y.regsPair f.clu (leAt f.data (8 * i) 4) (BitVec.ofNat 32 (leAt f.data (8 * i + 4) 4)))) (some b) with
    | some y => if y.regionsOk f.part f.clu then (y, none) else (b, some 0x09)
    | none => (b, some 0x09)
  else (b, some 0x09)

/-- A saved entry agrees with the queues of the manifest: a configured class, a width and lanes that exist (R216). -/
def Block.queueEntOk (b : Block) (p c n v : Nat) : Bool :=
  let dw := bitsOf v 84 7
  b.queueOk p c (n + 4 * b2n (bitAt v 72)) && decide (1 ≤ dw ∧ dw ≤ 72 ∧ bitsOf v 75 9 + dw ≤ 512)

/-- A QUEUE frame (R216): entries appended to FMP ADDR[1:0], oldest first. -/
def Block.queueFrame (b : Block) (f : Frame) : Block × Option Nat :=
  let n := f.addr % 4
  let l := (List.range (f.len / 16)).map (fun i => leAt f.data (16 * i) 16)
  if b.cluAllowed f ∧ f.len % 16 = 0 ∧ l.all (fun v => b.queueEntOk f.part f.clu n v) ∧ ((b.clu f.clu).fmpQ n).length + l.length ≤ 64 then
    (b.modClu f.clu (fun x => l.foldl (fun y v => y.appendSaved n v) x), none)
  else (b, some 0x09)

/-- END (R218, Table 7.11): in VERIFY the digest, and the end of every manifest; then LOADED, and with AUTO_COMMIT of an END that names the module (R219) the
Spring commit. -/
def Block.endFrame (b : Block) (f : Frame) : Block :=
  let b1 := ((if b.cfg.buf.isEmpty then b else b.setBit (r0 .CFG_STATUS) F.CFG_STATUS_DISCARD).modCfg (fun c => { c with buf := [], endSeen := true })).cfgEnter 4
  if leNat (sliceBytes b1.cfg.hdr 0x30 48) ≠ (sha384 b1.cfg.frames).toNat then b1.loadFail 0x06 (b1.cfg.pos - 1)
  else if b1.cfg.mans.any (fun e => !e.2.last) then b1.loadFail 0x09 (b1.cfg.pos - 1)
  else if b1.isPatch ∨ b1.imgKind ≠ 0 then ((b1.cfgEnter 6).auditLoad 0x11 0).loadEnded
  else
    let b2 := forEach (b1.imageParts.filter (fun p => decide (p ∉ b1.cfg.resets))) (b1.cfgEnter 5) (fun p x =>
      let k := r1 .CFG_PART_LOADEDn (p / 32)
      x.setReg k (x.reg k ||| BitVec.ofNat 32 (2 ^ (p % 32))))
    (if f.auto ∧ b2.named f then b2.springCommit else b2).loadEnded

/-- The content of a frame other than END is applied; the status of a failure. -/
def Block.applyFrame (b : Block) (f : Frame) : Block × Option Nat :=
  match f.typ with
  | 1 => b.manFrame f
  | 2 => b.storeFrame f
  | 3 => b.fillFrame f
  | 4 => b.regsFrame f
  | 5 => b.queueFrame f
  | _ => (b.modCfg (fun c => { c with firmware := c.firmware ++ f.data }), none)

/-- The payload of a frame in an encrypted image, decrypted (R217): nonce IV with its last word XOR SEQ, the header as additional data, the tag after the
payload; none where the tag does not verify. -/
def Block.decrypt (b : Block) (l : List Byte) : Option (List Byte) :=
  let n := leAt l 12 4
  let nonce := sliceBytes b.cfg.hdr 0x20 8 ++ leBytes 4 (b.hdr 0x28 4 ^^^ leAt l 8 4)
  gcmDecrypt ((b.cfg.key.map (·.key)).getD []) nonce (l.take 32) (sliceBytes l 32 n) (sliceBytes l (32 + n) 16)

/-- The payload of the frame at the head of the buffer, as it is applied. -/
def Block.framePayload (b : Block) : Option (List Byte) := if b.encrypted then b.decrypt b.cfg.buf else some (frameAt b.cfg.buf).data

/-- The status with which a frame that names the module fails before it is applied: a TYPE that Table 7.4 lacks, or one that the image may not hold. -/
def Block.typeFail (b : Block) (t : Nat) : Option Nat :=
  if frameTypeOk t = false then some 0x0A else if b.typeForKind t = false then some 0x09 else none

/-- The next frame of the stream, of the type of the command: checked (R215), counted, digested (R218), and applied where it names the module; one that does
not is skipped without error (R219). A frame of no type of Table 7.4 is taken by the command that meets it. Through a VF the partition of an END or FIRMWARE
frame is no name (DEDUCED, log entry 161). -/
def Block.frame (b : Block) (t : Nat) : Block :=
  if b.cfgState ≠ 3 ∨ b.unitReady = false then b
  else
    let f := frameAt b.cfg.buf
    let total := b.frameLen.getD 0
    if b.frameOk f total = false then b.loadFail 0x04 b.cfg.pos
    else if f.typ ≠ t ∧ frameTypeOk f.typ then b
    else
      let n := b.cfg.pos
      let b1 := (b.modCfg (fun c => { c with
        frames := c.frames ++ c.buf.take total, buf := c.buf.drop total, taken := c.taken + total, pos := n + 1 })).setReg
        (r0 .CFG_PROGRESS) (b.reg (r0 .CFG_PROGRESS) + 1)
      if f.typ ≤ 5 ∧ b1.vfOk f.part = false then b1.loadFail 0x07 n
      else if f.typ = 0x0F then b1.endFrame f
      else if b1.named f then
        match b1.typeFail f.typ, b.framePayload with
        | some st, _ => b1.loadFail st n
        | none, none => b1.loadFail 0x08 n
        | none, some d =>
          let z := b1.applyFrame { f with data := d }
          match z.2 with
          | some st => z.1.loadFail st n
          | none => (if t ≤ 5 then z.1.touch f.part else z.1).starve
      else b1.starve

/-- MANIFEST (R195, R220). -/
def execManifest (s : State) : Host.Outcome State Fault Refusal := s.run (·.frame 1)
/-- STORE (R216). -/
def execStore (s : State) : Host.Outcome State Fault Refusal := s.run (·.frame 2)
/-- FILL (R216). -/
def execFill (s : State) : Host.Outcome State Fault Refusal := s.run (·.frame 3)
/-- REGS (R216). -/
def execRegs (s : State) : Host.Outcome State Fault Refusal := s.run (·.frame 4)
/-- QUEUE (R216). -/
def execQueue (s : State) : Host.Outcome State Fault Refusal := s.run (·.frame 5)
/-- FIRMWARE (Table 7.4): the payload is handed to the HKC. -/
def execFirmware (s : State) : Host.Outcome State Fault Refusal := s.run (·.frame 6)
/-- END (R215, R218). -/
def execEndFrame (s : State) : Host.Outcome State Fault Refusal := s.run (·.frame 0x0F)

/-! ## Images in the boot flash (R234, R462) -/

/-- A byte of the boot flash, by target × 2^24 + offset: what FW_WRITE has put there, else the factory's. -/
def Fw.flashByte (f : Fw) (a : Nat) : Byte := NMap.get (Config.factoryFlash a) f.flash a

/-- The image in a target of the flash: as many bytes as its header says, within the target's place (Table 15.6). -/
def Fw.image (f : Fw) (t : Nat) : List Byte :=
  let size := if t < 2 then 2 ^ 24 else 2 ^ 22
  let head := (List.range 256).map (fun i => f.flashByte (t * 2 ^ 24 + i))
  (List.range (min size (leAt head 0x10 8))).map (fun i => f.flashByte (t * 2 ^ 24 + i))

/-- The frames of an image that is whole in the buffer, one after the other. -/
def Block.runFrames : Nat → Block → Block
  | 0, b => b
  | n + 1, b => if b.cfgState = 3 then Block.runFrames n (b.frame (frameAt b.cfg.buf).typ) else b

/-- The engine loads the image of a flash target (R234): the HKC selects the flash, the stream is the image. -/
def Block.flashLoad (b : Block) (t : Nat) : Block :=
  let l := b.fw.image t
  let b1 := ((b.setFld (r0 .CFG_SRC) F.CFG_SRC_SRC 2).cfgStart .hkc).modCfg (fun c => { c with buf := l, ended := true })
  Block.runFrames (l.length / 36 + 1) ((b1.imageHeader false).starve)

/-- The status of a load that the engine has ended: the image is of the KIND that its target holds, 1 in a slot and 2 in a link copy (R234). -/
def Block.loadStatus (b : Block) (t : Nat) : Nat :=
  if b.cfgState ≠ 6 then b.fld (r0 .CFG_STATUS) F.CFG_STATUS_CODE else if b.imgKind = (if t < 2 then 1 else 2) then 0 else 0x0A

/-- The image of a target checked as a load would, and not applied (R462): its status, and its first FIRMWARE payload. -/
def Block.checkImage (b : Block) (t : Nat) : Nat × List Byte :=
  let x := (b.cfgEnter 0).flashLoad t
  (x.loadStatus t, x.cfg.firmware)

/-! ## Scrub (R246 to R249) -/

/-- STORE and UNIT of CFG_SCRUB_ERR (Table 7.29). -/
def storeCode : StoreSel → Nat × Nat
  | .bp k => (0, k.toNat)
  | .we k => (1, k.toNat)
  | .slot => (2, 0)

/-- A store has completed a pass; PASSES counts when every store that is scrubbed has completed one since it last counted (R250; DESIGN CHOICE, log
entry 112). -/
def Block.scrubPassed (b : Block) (c k : Nat) : Block :=
  let b1 := b.modClu c (fun x => { x with scrubPass := x.scrubPass.put k true })
  if (List.range 256).all (fun d => decide (b1.cluState d = .frost) || (List.range 133).all (fun j => NMap.get false (b1.clu d).scrubPass j)) then
    ({ b1 with clus := b1.clus.map (fun e => (e.1, ({ e.2 with scrubPass := [] } : Cluster))) } : Block).setReg (r0 .CFG_SCRUB_STATUS)
      (b1.reg (r0 .CFG_SCRUB_STATUS) + 1)
  else b1

/-- A correction (R247): it waits for its write-back; SCRUB_CORR; event 2 for the first since CFG_SCRUB_STATUS was read. -/
def Block.scrubCorrect (b : Block) (c : Nat) (st : StoreSel) (w : Nat) : Block :=
  let b1 := ((b.modClu c (fun x => { x with scrubFix := x.scrubFix ++ [(st, w)] })).satFld (r1 .CLU_ECC_CNT c) F.CLU_ECC_CNT_SCRUB_CORR 1).corrected
  (b1.raiseIf (!b1.cfg.scrubSeen) 2).modCfg (fun x => { x with scrubSeen := true })

/-- A scrub error (R249) of word w; that of a FROZEN partition is a level P fault of class 0x01 or 0x02 (R495, R498), after which STATE is as R249 says, not R501
(DEDUCED, log entry 186). -/
def Block.scrubError (b : Block) (c : Nat) (st : StoreSel) (w : Nat) (crc : Bool) : Block :=
  let k := r0 .CFG_SCRUB_ERR
  let b1 := b.raise 3
  let b2 := if b1.bit k F.CFG_SCRUB_ERR_VALID then b1
    else b1.setReg k (BitVec.ofNat 32 (2 ^ 31 + (storeCode st).1 * 2 ^ 29 + b2n crc * 2 ^ 28 + c * 2 ^ 16 + (storeCode st).2 * 2 ^ 8 + w / 64))
  match b2.cluPart c with
  | none => b2
  | some p =>
    match (b2.part p).state with
    | .running => b2.modClu c (fun x => { x with scrubDue := x.scrubDue ++ [(st, w)] })
    | .frozen => (b2.faultP (match st with | .bp _ => 0x01 | _ => 0x02) (unitOf c (storeCode st).2) p).modPart p
        (fun x => { x with state := .stoppedFault, inconsistent := true })
    | .winter => b2.unload p
    | _ => b2

/-- The bytes of the corrected payload of word w of a store (Tables 2.1, 3.1, 4.2), least significant first. -/
def Cluster.payloadBytes (x : Cluster) (st : StoreSel) (w : Nat) : List Byte :=
  match st with
  | .bp k => leBytes 11 (NMap.get 0 x.instr (k.toNat * 2048 + w)).toNat
  | .we k => leBytes 8 (NMap.get 0 x.prog (k.toNat * 2048 + w)).toNat
  | .slot => leBytes 18 (NMap.get 0 x.slot w).toNat

/-- The reference CRC-32 of scrub frame g of a store (R248): over the payloads of its 64 words in ascending order, as the writes have left them (log entry
113). -/
def Cluster.frameCrc (x : Cluster) (st : StoreSel) (g : Nat) : Word :=
  crc32 ((List.range 64).flatMap (fun i => x.payloadBytes st (g * 64 + i)))

/-- The scrub read of the next word of a store takes place (R246 to R249); the CRC of a frame is compared at the end of its pass. -/
def Block.scrubWord (b : Block) (c : Nat) (st : StoreSel) (f : ScrubFinding) : Block :=
  let k := storeNo st
  let w := NMap.get 0 (b.clu c).scrubAt k
  let b1 := b.modClu c (fun x => { x with scrubAt := NMap.set 0 x.scrubAt k ((w + 1) % 2048) })
  let b2 := if w = 2047 then b1.scrubPassed c k else b1
  match f with
  | .ok => b2
  | .corr => b2.scrubCorrect c st w
  | .due => b2.scrubError c st w false
  | .crc v => if w % 64 = 63 ∧ v ≠ (b.clu c).frameCrc st (w / 64) then b2.scrubError c st (w / 64 * 64) true else b2

/-- A request of higher order waits for the bank of the word that the next scrub read of a store takes: a bulk read, a correction, or an earlier scrub
read (R65). -/
def Cluster.scrubBehind (x : Cluster) (st : StoreSel) : Bool :=
  x.bulkAhead (st, NMap.get 0 x.scrubAt (storeNo st)) || x.scrubFix.any (fun e => decide (e.1 = st ∧ e.2 % 2 = NMap.get 0 x.scrubAt (storeNo st) % 2)) || x.scrubWait.any (fun e => decide (e.1 = st))

/-- SCRUB_READ (R246): a read falls due; it takes the free slot of its word's bank where no request of higher order waits for it, or it waits (R65). -/
def Block.scrubRead (b : Block) (c : Nat) (st : StoreSel) (f : ScrubFinding) : Block :=
  if b.bit (r0 .CFG_SCRUB_CTRL) F.CFG_SCRUB_CTRL_EN = false ∨ b.cluState c = .frost then b
  else if b.slotFree c st (NMap.get 0 (b.clu c).scrubAt (storeNo st)) ∧ (b.clu c).scrubBehind st = false then b.scrubWord c st f
  else b.modClu c (fun x => { x with scrubWait := x.scrubWait ++ [(st, f)] })

/-- SCRUB_READ (R246, R249). -/
def execScrubRead (c : ClusterId) (st : StoreSel) (f : ScrubFinding) (s : State) : Host.Outcome State Fault Refusal := s.run (·.scrubRead c.toNat st f)

/-- SCRUB_WRITE_BACK (R247): the oldest correction of the store whose bank has a free slot for which no bulk read waits is written back. -/
def execScrubWriteBack (c : ClusterId) (st : StoreSel) (s : State) : Host.Outcome State Fault Refusal :=
  s.run (fun b => b.modClu c.toNat (fun x => { x with scrubFix := dropFirst (fun e => decide (e.1 = st) && b.slotFree c.toNat st e.2 && !x.bulkAhead e) x.scrubFix }))

/-- A free slot of a bank of a store serves what waits for it: a bulk read before a correction, and a correction before a scrub read (R65). A configuration
write meets no running partition (R244). -/
def Block.freeSlot (b : Block) (c : Nat) (st : StoreSel) (odd : Bool) : Block :=
  let x := b.clu c
  if !b.slotFree c st (b2n odd) then b
  else if x.bulkAhead (st, b2n odd) then b.bulkSlot c (st, b2n odd)
  else if x.scrubFix.any (fun e => decide (e.1 = st ∧ e.2 % 2 = b2n odd)) then
    b.setClu c { x with scrubFix := dropFirst (fun e => decide (e.1 = st ∧ e.2 % 2 = b2n odd)) x.scrubFix }
  else if NMap.get 0 x.scrubAt (storeNo st) % 2 = b2n odd then
    match x.scrubWait.find? (fun e => decide (e.1 = st)) with
    | some e => (b.setClu c { x with scrubWait := dropFirst (fun e => decide (e.1 = st)) x.scrubWait }).scrubWord c st e.2
    | none => b
  else b

/-- FREE_SLOT_ACCESS (R65). -/
def execFreeSlotAccess (c : ClusterId) (st : StoreSel) (odd : Bool) (s : State) : Host.Outcome State Fault Refusal :=
  s.run (·.freeSlot c.toNat st odd)

/-- A write of CFG_SCRUB_CTRL (R246): after EN = 1 each store resumes at the first word of its scrub frame. -/
def Block.scrubCtrl (b : Block) (v : Word) : Block :=
  let b1 := b.setReg (r0 .CFG_SCRUB_CTRL) (v &&& 0xFF01#32)
  if v.getLsbD 0 ∧ b.bit (r0 .CFG_SCRUB_CTRL) F.CFG_SCRUB_CTRL_EN = false then
    { b1 with clus := b1.clus.map (fun e => (e.1, { e.2 with scrubAt := e.2.scrubAt.map (fun w => (w.1, w.2 / 64 * 64)) })) }
  else b1

/-- CFG_SCRUB_CTRL_WRITE (R246). -/
def execCfgScrubCtrlWrite (r : Requester) (v : Word) (s : State) : Host.Outcome State Fault Refusal :=
  s.run (fun b => b.hostWrite r (r0 .CFG_SCRUB_CTRL) v (·.scrubCtrl v))

end Sys2Proof.Machine
end

