-- ==== Sys2Proof/Machine/Ssp.lean ====
section
/-!
DEFINITION. The shared scratchpad and the March engine (R385 to R396).
-/
namespace Sys2Proof.Machine

/-- The power state of a bank (Table 12.4): 0 off, 1 retention, 2 on, 3 changing. -/
def Block.sspState (b : Block) (k : Nat) : Nat := b.fld (r1 .SSP_PWRb k) F.SSP_PWRb_STATE

/-- The bank failed a March run. -/
def Block.sspFaulty (b : Block) (k : Nat) : Bool := b.bit (r1 .SSP_OWNb k) F.SSP_OWNb_FAULTY

/-- The bank is in handover. -/
def Block.sspMoving (b : Block) (k : Nat) : Bool := b.bit (r1 .SSP_OWNb k) F.SSP_OWNb_HANDOVER

/-- SSP_SUM (Table 12.10), with the sum of R389. -/
def Block.sspSum (b : Block) : Word :=
  let count (f : Nat → Bool) : Nat := ((List.range 64).filter f).length
  let moving := count b.sspMoving
  let owned := count (fun k => !b.sspMoving k && decide (b.sspOwner k ≠ ⟨0, 0⟩))
  BitVec.ofNat 32 (count b.sspFaulty * 2 ^ 24 + moving * 2 ^ 16 + owned * 2 ^ 8 + (64 - moving - owned))

/-! ## Contents -/

/-- Change the scratchpad. -/
def Block.modSsp (b : Block) (f : Ssp → Ssp) : Block := { b with ssp := f b.ssp }

/-- n bytes of a bank. -/
def Block.sspBytes (b : Block) (k off n : Nat) : List Byte :=
  (List.range n).map (fun i => NMap.get 0 b.ssp.bytes (k * 2 ^ 20 + off + i))

/-- Write bytes into a bank; an uncorrectable mark clears when its whole word is replaced. -/
def Block.sspPut (b : Block) (k off : Nat) (l : List Byte) : Block :=
  b.modSsp (fun x => { x with
    bytes := forEach ((List.range l.length).zip l) x.bytes (fun e m => NMap.set 0 m (k * 2 ^ 20 + off + e.1) e.2)
    bad := forEach (wholeWords 0 (k * 2 ^ 20 + off) l.length) x.bad (fun w m => m.erase w) })

/-- A range of a bank holds an uncorrectable word (R386). -/
def Block.sspPoisoned (b : Block) (k off n : Nat) : Bool :=
  (touchedWords 0 (k * 2 ^ 20 + off) n).any (fun w => NMap.get false b.ssp.bad w)

/-- A bank holds zeros. -/
def Block.sspZero (b : Block) (k : Nat) : Block :=
  b.modSsp (fun x => { x with
    bytes := x.bytes.clearRange (k * 2 ^ 20) (2 ^ 20)
    bad := x.bad.clearRange (k * 2 ^ 17) (2 ^ 17) })

/-! ## Access (R387, R390) -/

/-- How a bank answers. -/
inductive SspAns where
  | serve
  | retry
  | hold
  | error
  deriving DecidableEq, Repr

/-- The answer of a bank to an access (R387, R388, Table 12.4): RETRY to everyone while it is zeroed, else ERROR to anyone but its owner; ERROR too while the
unit refuses new work (Table 17.2). -/
def Block.sspAsk (b : Block) (k : Nat) (who : SspOwner) : SspAns :=
  if CUnit.ssp ∈ b.flt.refusing then .error
  else if (match b.ssp.next.find k with | some e => e.2 | none => false) then .retry
  else if b.sspOwner k ≠ who ∨ who.kind = 0 ∨ b.sspFaulty k then .error
  else if b.sspState k = 2 then .serve
  else if b.bit (r1 .SSP_PWRb k) F.SSP_PWRb_AUTO_WAKE && (decide (b.sspState k = 1) || decide (b.sspState k = 3)) then .hold
  else .error

/-- Begin a change of power state; none is begun towards the present state. -/
def Block.sspChange (b : Block) (k target : Nat) : Block :=
  if b.sspState k = target ∨ b.sspState k = 3 then b
  else (b.setFld (r1 .SSP_PWRb k) F.SSP_PWRb_STATE 3).modSsp (fun x => { x with target := x.target.put k target })

/-- The power state that POWER requests: 3 acts as 2. -/
def Block.sspWanted (b : Block) (k : Nat) : Nat := min 2 (b.fld (r1 .SSP_PWRb k) F.SSP_PWRb_POWER)

/-- An access finds a bank in retention with AUTO_WAKE: the bank wakes. -/
def Block.sspWake (b : Block) (k : Nat) : Block := if b.sspState k = 1 then b.sspChange k 2 else b

/-! ## Ownership (R387 to R389) -/

/-- A write of SSP_OWNb (R388): during a handover none; on a FAULTY bank only KIND March engine (R395); KIND 4 by the HKC only (Table 12.8);
none while the unit refuses new work (Table 17.2). -/
def Block.sspOwn (b : Block) (r : Requester) (k : Nat) (v : Word) : Block :=
  let key := r1 .SSP_OWNb k
  let kind := sspKindOf v
  if CUnit.ssp ∈ b.flt.refusing ∨ b.sspMoving k ∨ (b.sspFaulty k ∧ kind ≠ 3) ∨ (kind = 4 ∧ r ≠ .hkc) then b
  else
    let w := BitVec.ofNat 32 (b2n (b.sspFaulty k) * 2 ^ 30) ||| (v &&& 0x7FF#32)
    if sspOwnerOf v = b.sspOwner k then b.setReg key w
    else
      let zero := decide (kind = 1 ∨ kind = 2) && !v.getLsbD 29
      (b.setReg key (w ||| 0x80000000#32)).modSsp (fun x => { x with next := x.next.put k (w, zero) })

/-- SSP_OWN_WRITE (R388). -/
def execSspOwnWrite (r : Requester) (k : BitVec 6) (v : Word) (s : State) : Host.Outcome State Fault Refusal :=
  s.run (fun b => b.hostWrite r (r1 .SSP_OWNb k.toNat) v (·.sspOwn r k.toNat v))

/-- The requests held for bank k, with what the checks of their words find. -/
def Block.sspHeld (b : Block) (k : Nat) : List (Packet × Found) := NMap.get [] b.noc.inq k

/-- The snapshot that waits for its bank (R349) is written when the bank serves it, and fails when the bank refuses it. -/
def Block.snapTry (b : Block) : Block :=
  match b.tdu.snap with
  | none => b
  | some (k, l) =>
    let b1 : Block := { b with tdu := { b.tdu with snap := none } }
    match b.sspAsk k ⟨2, 0⟩ with
    | .error => (b1.setBit (r0 .TDU_STATUS) F.TDU_STATUS_SNAP_FAIL).raise 135
    | .serve => b1.sspPut k 0 l
    | .hold => b.sspWake k
    | .retry => b

/-- The handover of a bank ends (R388): a bank that is zeroed holds zeros; the requests held for the old owner complete first. -/
def Block.sspHandoverEnd (b : Block) (k : Nat) : Block :=
  match b.ssp.next.find k, b.sspHeld k with
  | some e, [] => (((if e.2 then b.sspZero k else b).setReg (r1 .SSP_OWNb k) e.1).modSsp (fun x => { x with next := x.next.erase k })).snapTry
  | _, _ => b

/-- SSP_HANDOVER_END (R388). -/
def execSspHandoverEnd (k : BitVec 6) (s : State) : Host.Outcome State Fault Refusal := s.run (·.sspHandoverEnd k.toNat)

/-! ## Power (R390) -/

/-- A write of SSP_PWRb: POWER is not taken during a change nor by a FAULTY bank; AUTO_WAKE always is. -/
def Block.sspPwr (b : Block) (k : Nat) (v : Word) : Block :=
  let key := r1 .SSP_PWRb k
  let b1 := b.setFld key F.SSP_PWRb_AUTO_WAKE (F.SSP_PWRb_AUTO_WAKE.get v)
  if b.sspState k = 3 ∨ b.sspFaulty k then b1
  else
    let b2 := b1.setFld key F.SSP_PWRb_POWER (F.SSP_PWRb_POWER.get v)
    b2.sspChange k (b2.sspWanted k)

/-- A requester's write of SSP_PWRb: an operator only where its partition owns the bank (Table 12.9). -/
def Block.sspPwrWrite (b : Block) (r : Requester) (k : Nat) (v : Word) : Block :=
  b.hostWrite r (r1 .SSP_PWRb k) v (fun x =>
    if x.roleOf r = .op ∧ (x.ownerOf (r1 .SSP_PWRb k)).isNone then x.auditRefused r (r1 .SSP_PWRb k).addr v else x.sspPwr k v)

/-- SSP_PWR_WRITE (R390). -/
def execSspPwrWrite (r : Requester) (k : BitVec 6) (v : Word) (s : State) : Host.Outcome State Fault Refusal := s.run (·.sspPwrWrite r k.toNat v)

/-- A bank reaches a power state (Table 12.4): the contents of a bank that is off are lost, and it comes back zeroed, whatever a March run left in it. -/
def Block.sspReach (b : Block) (k st : Nat) : Block :=
  let off := decide (st = 0)
  let b1 := (if off || NMap.get false b.ssp.dark k then b.sspZero k else b).modSsp (fun x => { x with dark := NMap.set false x.dark k off })
  b1.setFld (r1 .SSP_PWRb k) F.SSP_PWRb_STATE st

/-- A power change is complete. -/
def Block.sspDone (b : Block) (k : Nat) : Block :=
  match b.ssp.target.find k with
  | some st => (b.sspReach k st).modSsp (fun x => { x with target := x.target.erase k })
  | none => b

/-- At Frost entry every bank that is on enters retention; at Thaw each takes the state that POWER requests (R390, R527, R528). -/
def Block.sspFrost (b : Block) : Block :=
  forEach (List.range 64) b (fun k x => let y := x.sspDone k; if y.sspState k = 2 then y.sspReach k 1 else y)

/-- At Thaw; a FAULTY bank is held off. -/
def Block.sspThaw (b : Block) : Block :=
  (forEach (List.range 64) b (fun k x => if x.sspFaulty k then x else x.sspReach k (x.sspWanted k))).snapTry

/-! ## The March engine (R391 to R396) -/

/-- STATE of the engine. -/
def Block.mteState (b : Block) : Nat := b.fld (r0 .MTE_STATUS) F.MTE_STATUS_STATE

/-- MTE_TGT. -/
def Block.mteAddr (b : Block) : Nat := b.reg64 (r0 .MTE_TGT_LO) (r0 .MTE_TGT_HI)

/-- The range of a run lies in far memory. -/
def March.far (m : March) : Bool := bitAt m.addr 63

/-- The first byte of the range, in the form of Table 11.2. -/
def March.lo (m : March) : Nat := m.addr % 2 ^ 63 / 64 * 64

/-- Bytes of the range. -/
def March.len (m : March) : Nat := m.lines * 64

/-- The banks that the range touches. -/
def March.banks (m : March) : List Nat :=
  if m.far then [] else (List.range 64).filter (fun k => decide (k * 2 ^ 20 < m.lo + m.len ∧ m.lo < (k + 1) * 2 ^ 20))

/-- The range lies within one bank, or within the 24 GiB of one stack. -/
def March.inside (m : March) : Bool :=
  if m.far then decide (m.lo < 2 ^ 37 ∧ m.lo % 2 ^ 35 + m.len ≤ 24 * 2 ^ 30)
  else decide (m.lo < 2 ^ 26 ∧ m.lo % 2 ^ 20 + m.len ≤ 2 ^ 20)

/-- The range exists. -/
def March.exists_ (m : March) : Bool := if m.far then m.inside else decide (m.lo + m.len ≤ 2 ^ 26)

/-- The FMC_GRANT window of partition p overlaps the range. -/
def Block.grantMeets (b : Block) (m : March) (p : Nat) : Bool :=
  let s := m.lo / 2 ^ 35
  let lo := b.fld (r2 .FMC_GRANT_BASEp_s p s) F.FMC_GRANT_BASEp_s_VALUE * 4096
  let n := b.fld (r2 .FMC_GRANT_SIZEp_s p s) F.FMC_GRANT_SIZEp_s_VALUE * 4096
  m.far && decide (n ≠ 0 ∧ lo < m.lo % 2 ^ 35 + m.len ∧ m.lo % 2 ^ 35 < lo + n)

/-- A START is refused (R392, R393, Table 12.15). -/
def Block.marchRefused (b : Block) (m : March) : Bool :=
  decide (m.lines = 0) || !m.exists_ ||
    (if m.keep then
      m.banks.any (fun k => decide (b.sspState k ≠ 2)) ||
        (List.range 256).any (fun p => b.grantMeets m p && decide ((b.part p).state = .running))
    else
      !m.inside || m.banks.any (fun k => decide (b.sspOwner k ≠ ⟨3, 0⟩) || b.sspMoving k) || (List.range 256).any (b.grantMeets m))

/-- MTE_CTRL.START: while a run is in progress it is refused and the run goes on (Table 12.14). -/
def Block.marchStart (b : Block) : Block :=
  if b.march.isSome then b
  else
    let bg := b.fld (r0 .MTE_CTRL) F.MTE_CTRL_BG
    let m : March := { addr := b.mteAddr, lines := (b.reg (r0 .MTE_LEN)).toNat, bg := if bg = 0 then 1 else bg, keep := b.bit (r0 .MTE_CTRL) F.MTE_CTRL_PRESERVE }
    let b1 := [r0 .MTE_FAIL_LO, r0 .MTE_FAIL_HI, r0 .MTE_FAIL_INFO, r0 .MTE_STATUS].foldl Block.clrReg b
    if b.marchRefused m then b1.setFld (r0 .MTE_STATUS) F.MTE_STATUS_STATE 5
    else { b1.setFld (r0 .MTE_STATUS) F.MTE_STATUS_STATE 1 with march := some m }

/-- MTE_CTRL.ABORT (R395): the run ends after the current line. -/
def Block.marchAbort (b : Block) : Block :=
  { b with march := b.march.map (fun m => { m with abort := true }) }

/-- A write of MTE_CTRL: the fields are kept, then START and ABORT act. -/
def Block.mteCtrl (b : Block) (v : Word) : Block :=
  let b1 := b.writeCodes (r0 .MTE_CTRL) v
  let b2 := if v.getLsbD 1 then b1.marchAbort else b1
  if v.getLsbD 0 then b2.marchStart else b2

/-- MARCH_START (R392): the command bit alone; the other fields keep their values. -/
def execMarchStart (r : Requester) (s : State) : Host.Outcome State Fault Refusal :=
  s.run (fun b => b.hostWrite r (r0 .MTE_CTRL) (b.reg (r0 .MTE_CTRL) ||| 1) (·.marchStart))

/-- MARCH_ABORT (R395). -/
def execMarchAbort (r : Requester) (s : State) : Host.Outcome State Fault Refusal :=
  s.run (fun b => b.hostWrite r (r0 .MTE_CTRL) (b.reg (r0 .MTE_CTRL) ||| 2) (·.marchAbort))

/-- Bit j of line i of a background for datum 0 (Table 12.6). -/
def bgBit (bg i j : Nat) : Bool :=
  match bg with
  | 0 => false
  | 1 => decide ((i + j) % 2 = 1)
  | 2 => decide (i % 2 = 1)
  | _ => decide (j % 2 = 1)

/-- Byte k of a line of a background: the eight bits are those of 8k to 8k + 7. -/
def bgByte (bg i k : Nat) : Byte := BitVec.ofNat 8 ((List.range 8).foldl (fun n j => n + b2n (bgBit bg i (8 * k + j)) * 2 ^ j) 0)

/-- The last background of a run: the highest that BG selects (log entry 40). -/
def March.lastBg (m : March) : Nat := if 8 ≤ m.bg then 3 else if 4 ≤ m.bg then 2 else if 2 ≤ m.bg then 1 else 0

/-- Put bytes at the range of a run. -/
def Block.marchPut (b : Block) (m : March) (f : Nat → Byte) : Block :=
  if m.far then forEach (List.range m.lines) b (fun i x => x.farWrite (m.lo / 2 ^ 35) (m.lo % 2 ^ 35 + 64 * i) ((List.range 64).map (fun k => f (64 * i + k))))
  else forEach (List.range m.lines) b (fun i x => x.sspPut (m.lo / 2 ^ 20) (m.lo % 2 ^ 20 + 64 * i) ((List.range 64).map (fun k => f (64 * i + k))))

/-- The uncorrectable words of the range of a run, by their first byte in the bank or stack. -/
def Block.marchBad (b : Block) (m : March) : List (Nat × Nat) :=
  if m.far then
    let s := m.lo / 2 ^ 35
    (b.farBad.filter (fun e => decide (e.1 / 2 ^ 32 = s ∧ m.lo % 2 ^ 35 ≤ e.1 % 2 ^ 32 * 8 ∧ e.1 % 2 ^ 32 * 8 < m.lo % 2 ^ 35 + m.len))).map (fun e => (s, e.1 % 2 ^ 32 * 8))
  else
    (b.ssp.bad.filter (fun e => decide (m.lo ≤ e.1 * 8 ∧ e.1 * 8 < m.lo + m.len))).map (fun e => (e.1 / 2 ^ 17, e.1 % 2 ^ 17 * 8))

/-- A content-preserving run writes each line back through the check-bit encoder (R393): an uncorrectable word then holds what its bits read as, a free
value (log entry 138), under a sound code. -/
def Block.marchKeep (b : Block) (m : March) : Block :=
  forEach (b.marchBad m) b (fun e x =>
    let l := leBytes 8 (x.fresh 64).toNat
    (if m.far then x.farWrite e.1 e.2 l else x.sspPut e.1 e.2 l).draw)

/-- What a run leaves in its range: content-preserving what was there, after an ABORT of as many lines as it had reached, a free number; destructive the last background's datum 0 (R392), lines numbered from
the start of the bank or stack; after an ABORT what the elements had reached, free values (log entry 2). -/
def Block.marchContent (b : Block) (m : March) : Block :=
  if m.keep then
    (if m.abort then b.draw.marchKeep { m with lines := Config.freeValue b.drawn % (m.lines + 1) } else b.marchKeep m)
  else if m.abort then { b.marchPut m (fun k => BitVec.ofNat 8 (Config.freeValue (b.drawn + k))) with drawn := b.drawn + m.len }
  else
    let first := m.lo % (if m.far then 2 ^ 35 else 2 ^ 20) / 64
    b.marchPut m (fun k => bgByte m.lastBg (first + k / 64) (k % 64))

/-- The record of the first failing read (Table 12.17). -/
def Block.marchRecord (b : Block) (f : MarchFail) : Block :=
  (b.setReg64 (r0 .MTE_FAIL_LO) (r0 .MTE_FAIL_HI) f.line.toNat).setReg (r0 .MTE_FAIL_INFO)
    (BitVec.ofNat 32 (2 ^ 31 + f.element.toNat * 2 ^ 28 + f.bg.toNat * 2 ^ 26 + b2n f.expected * 2 ^ 25 + f.bit.toNat))

/-- The banks of a destructive run become FAULTY with KIND none and are held off, or lose the flag after a whole clean run (R390, R395). -/
def Block.marchBanks (b : Block) (m : March) (fails : List MarchFail) : Block :=
  if m.keep then b
  else forEach m.banks b (fun k x =>
    if fails.any (fun f => decide (f.line.toNat / 2 ^ 20 = k)) then
      ((x.setReg (r1 .SSP_OWNb k) 0x40000000#32).sspReach k 0).modSsp (fun y => { y with target := y.target.erase k, next := y.next.erase k })
    else if x.sspFaulty k ∧ m.len = 2 ^ 20 ∧ m.abort = false then (x.clrFld (r1 .SSP_OWNb k) F.SSP_OWNb_FAULTY).sspChange k (x.sspWanted k)
    else x)

/-- The datum that an element of Table 12.5 reads; element 0 reads none. -/
def elementReads (e : Nat) : Option Bool := if e = 1 ∨ e = 3 ∨ e = 5 then some false else if e = 2 ∨ e = 4 then some true else none

/-- The line of the range, counted from its first, that a failing read names. -/
def March.lineOf (m : March) (f : MarchFail) : Nat := (f.line.toNat % 2 ^ 63 - m.lo) / 64

/-- A failing read is one that the run makes (R391): of a line of its range, under a selected background, by an element that reads, which expects the bit that
the background and its datum give. -/
def March.reads (m : March) (f : MarchFail) : Bool :=
  let a := f.line.toNat % 2 ^ 63
  let i := a % (if m.far then 2 ^ 35 else 2 ^ 20) / 64
  decide (bitAt f.line.toNat 63 = m.far ∧ a % 64 = 0 ∧ m.lo ≤ a ∧ a < m.lo + m.len) && bitAt m.bg f.bg.toNat &&
    decide (elementReads f.element.toNat = some (f.expected ^^ bgBit f.bg.toNat i f.bit.toNat))

/-- The place of a read among those of its run: by background, element and line, in the element's order; content-preserving, line by line (R393). -/
def March.readNo (m : March) (f : MarchFail) : Nat :=
  let i := m.lineOf f
  let e := f.bg.toNat * 8 + f.element.toNat
  if m.keep then i * 32 + e else e * 2 ^ 32 + (if f.element.toNat = 3 ∨ f.element.toNat = 4 then m.lines - 1 - i else i)

/-- The first of the findings of each read. -/
def March.firsts (m : March) : List MarchFail → List MarchFail
  | [] => []
  | f :: r => f :: (m.firsts r).filter (fun g => decide (m.readNo g ≠ m.readNo f))

/-- The failing reads of a run, in its order, each with its first failing bit (Table 12.17), of what the engine finds. -/
def March.failing (m : March) (found : List MarchFail) : List MarchFail :=
  m.firsts (sortBy (fun f g => decide (m.readNo f * 512 + f.bit.toNat ≤ m.readNo g * 512 + g.bit.toNat)) (found.filter m.reads))

/-- A run ends (R395): the record, the count, the events, the banks. What the engine finds is given (log entry 1). -/
def Block.marchEnd (b : Block) (found : List MarchFail) : Block :=
  match b.march with
  | none => b
  | some m =>
    let fails := m.failing found
    let b1 := { b.marchContent m with march := none }
    let b2 := match fails with | f :: _ => b1.marchRecord f | [] => b1
    let st := if m.abort then 4 else if fails.isEmpty then 2 else 3
    let b3 := (b2.setFld (r0 .MTE_STATUS) F.MTE_STATUS_STATE st).setFld (r0 .MTE_STATUS) F.MTE_STATUS_FAILS (min fails.length 0xFFFFFF)
    ((b3.marchBanks m fails).raise 236).raiseIf (!fails.isEmpty) 237

/-- MARCH_DONE (R395). -/
def execMarchDone (fails : List MarchFail) (s : State) : Host.Outcome State Fault Refusal := s.run (·.marchEnd fails)

/-- The March run of the settings block over all banks (R396), destructive, solid and checkerboard; it ends as one run (R395, log entry 139). -/
def Block.marchBoot (b : Block) (found : List MarchFail) : Block :=
  let m (k : Nat) : March := { addr := k * 2 ^ 20, lines := 16384, bg := 3, keep := false }
  let fails := (List.range 64).flatMap (fun k => (m k).failing found)
  let b1 := forEach (List.range 64) b (fun k x => (x.marchContent (m k)).marchBanks (m k) fails)
  let b2 := match fails with | f :: _ => b1.marchRecord f | [] => b1
  let b3 := (b2.setFld (r0 .MTE_STATUS) F.MTE_STATUS_STATE (if fails.isEmpty then 2 else 3)).setFld (r0 .MTE_STATUS) F.MTE_STATUS_FAILS (min fails.length 0xFFFFFF)
  (b3.raise 236).raiseIf (!fails.isEmpty) 237

/-- A warm reset aborts a March run (R397), which counts and records the failing reads that it has found. -/
def Block.marchWarm (b : Block) : Block :=
  match b.march with
  | some m => ({ b with march := some { m with abort := true } }).draw.marchEnd (Config.marchFound b.drawn)
  | none => b

end Sys2Proof.Machine
end

