-- ==== Sys2Proof/Machine/LinkRx.lean ====
section
/-!
DEFINITION. What arrives on a link (R263, R265, R270, R276 to R280): flits, symbols, messages; and what takes a link down (R255, R256, R268,
R274, R275, R282).
-/
namespace Sys2Proof.Machine

/-! ## Symbols (R265) -/

/-- Bits of a symbol's body. -/
def Sym.bits (y : Sym) (lo len : Nat) : Nat := bitsOf y.body.toNat lo len

/-- The FREEZE symbol of a body (Table 8.5). -/
def symFreeze (y : Sym) : FreezeSym :=
  ⟨bitAt y.body.toNat 95, BitVec.ofNat 8 (y.bits 87 8), BitVec.ofNat 32 (y.bits 55 32), BitVec.ofNat 10 (y.bits 45 10),
    BitVec.ofNat 6 (y.bits 39 6), BitVec.ofNat 4 (y.bits 35 4)⟩

/-- The path symbol of a body (Table 8.6). -/
def symPath (y : Sym) : PathSym :=
  ⟨bitAt y.body.toNat 95, BitVec.ofNat 8 (y.bits 87 8), BitVec.ofNat 10 (y.bits 77 10), BitVec.ofNat 4 (y.bits 73 4), BitVec.ofNat 8 (y.bits 65 8)⟩

/-- The SYNC of a body (Table 9.3). -/
def symSync (y : Sym) : SyncBody :=
  ⟨bitAt y.body.toNat 95, BitVec.ofNat 16 (y.bits 79 16), BitVec.ofNat 8 (y.bits 71 8), BitVec.ofNat 10 (y.bits 61 10), bitAt y.body.toNat 60⟩

/-- The ANNOUNCE of a body (Table 9.3). -/
def symAnnounce (y : Sym) : AnnounceBody :=
  ⟨bitAt y.body.toNat 95, BitVec.ofNat 16 (y.bits 79 16), BitVec.ofNat 8 (y.bits 71 8), BitVec.ofNat 10 (y.bits 61 10), BitVec.ofNat 8 (y.bits 53 8),
    bitAt y.body.toNat 52⟩

/-- One symbol is delivered (Table 8.4, R296), with the ingress stamp of the codeword that carries its flit and the egress stamp of a PDLY_RESP that it
asks for (R291, R299; log entry 48); a reserved TYPE is a protocol error. -/
def Block.symIn (b : Block) (n : Nat) (y : Sym) (t t3 : Stamp) : Block :=
  let dom := bitAt y.body.toNat 95
  let seq := BitVec.ofNat 16 (y.bits 79 16)
  match y.typ.toNat with
  | 0x00 => b
  | 0x01 => b.freezeSym n (symFreeze y)
  | 0x02 => b.pathIn n (symPath y) false
  | 0x03 => b.pathIn n (symPath y) true
  | 0x04 => b.upWatch (·.linkReset n)
  | 0x10 => b.syncIn n (symSync y) t
  | 0x11 => b.fupHi n dom seq (bitAt y.body.toNat 78) (y.bits 30 48)
  | 0x12 => b.fupLo n dom seq (y.bits 31 48)
  | 0x13 => b.pdlyReq n dom seq t t3
  | 0x14 => b.pdlyResp n dom seq t
  | 0x15 => b.pdlyFup n dom seq (bitAt y.body.toNat 78) (y.bits 14 64)
  | 0x16 => b.announceIn n (symAnnounce y)
  | _ => b.proto n

/-! ## Messages (R261, R263, R278 to R280) -/

/-- A signal segment at its destination (R167, R267, R269): taken into its buffer, or a protocol error on the link. -/
def Block.segmentIn (b : Block) (n : Nat) (y : Segment) : Block :=
  let b1 := (b.see n y.part.toNat).modLink n (fun l => { l with arr := if y.part.toNat ∈ l.arr then l.arr else l.arr ++ [y.part.toNat] })
  if b1.segmentOk y then b1.takeSegment y else b1.proto n

/-- SEGMENT_RECEIVE (R167). -/
def execSegmentReceive (n : LinkNo) (y : Segment) (s : State) : Host.Outcome State Fault Refusal := s.run (·.segmentIn n.toNat y)

/-- The bits of a message: its flit payloads, the first lowest (log entry 21). -/
def msgBits : List (BitVec 416) → Nat
  | [] => 0
  | p :: r => p.toNat + 2 ^ 416 * msgBits r

/-- The flits that a message of n bits takes. -/
def flitsFor (n : Nat) : Nat := ceilDiv n 416

/-- The segment of a signal message; none when its COUNT does not fit its flits. -/
def msgSegment (l : List (BitVec 416)) : Option Segment :=
  let v := msgBits l
  let c := bitsOf v 33 11
  if c ≤ 1024 ∧ l.length = flitsFor (128 + 64 * ceilDiv c 64) then
    some ⟨BitVec.ofNat 10 (bitsOf v 118 10), BitVec.ofNat 10 (bitsOf v 108 10), BitVec.ofNat 8 (bitsOf v 100 8), BitVec.ofNat 8 (bitsOf v 92 8),
      BitVec.ofNat 32 (bitsOf v 60 32), BitVec.ofNat 16 (bitsOf v 44 16), BitVec.ofNat 11 c, bitAt v 32, (List.range c).map (fun j => bitAt v (128 + j))⟩
  else none

/-- The packet whose header and data are given (Table 12.2). -/
def pktOf (v : Nat) : Packet :=
  ⟨BitVec.ofNat 5 (bitsOf v 123 5), BitVec.ofNat 10 (bitsOf v 113 10), BitVec.ofNat 9 (bitsOf v 104 9), BitVec.ofNat 9 (bitsOf v 95 9),
    BitVec.ofNat 10 (bitsOf v 85 10), BitVec.ofNat 16 (bitsOf v 69 16), BitVec.ofNat 12 (bitsOf v 57 12), BitVec.ofNat 8 (bitsOf v 49 8),
    BitVec.ofNat 3 (bitsOf v 46 3), BitVec.ofNat 46 (bitsOf v 0 46), BitVec.ofNat 512 (v / 2 ^ 128)⟩

/-- The packet of a packet message; none when its kind does not fit its flits. -/
def msgPacket (l : List (BitVec 416)) : Option Packet :=
  let p := pktOf (msgBits l)
  if l.length = flitsFor (if pktHasData p then 640 else 128) then some p else none

/-- A complete message that is addressed to the module, or of the configuration class, from link n; it leaves the receive buffer, a stream fragment or end mark
of the UP link when it has gone on (R237). -/
def Block.msgIn (b : Block) (n cls : Nat) (x : RxMsg) : Block :=
  let k := 2 * (cls - 1) + b2n x.vc
  let b1 := if cls = 3 ∧ b.upLink = some n then b.relayHold n k x.flits.length else b.free (some (n, k)) x.flits.length
  if cls = 1 then (match msgSegment x.flits with | none => b1.proto n | some y => b1.segmentIn n y)
  else if cls = 2 then (match msgPacket x.flits with | none => b1.proto n | some p => b1.inject (gateNode n) p)
  else match Config.cfgMsg x.flits with
    | none => b1.proto n
    | some (.stream l) => b1.streamIn n l
    | some .endMark => b1.endMarkIn n
    | some (.report ok fail dev code) => b1.fanReport n ⟨ok, fail, dev, code, false⟩

/-- Put the message that link n receives in a class. -/
def Block.setRx (b : Block) (n cls : Nat) (m : Option RxMsg) : Block :=
  b.modLink n (fun l => { l with rx := match m with | some y => l.rx.put cls y | none => l.rx.erase cls })

/-- A flit is discarded, and with it the rest of its message up to EOM. -/
def Block.swallow (b : Block) (n cls : Nat) (vc eom : Bool) : Block :=
  (b.free (some (n, 2 * (cls - 1) + b2n vc)) 1).setRx n cls (if eom then none else some ⟨[], 0, none, vc, true⟩)

/-- The first flit of a message (R278 to R280): for the module it is kept, else it goes into the transmit queue of its port at once (R281). -/
def Block.startMsg (b : Block) (n cls : Nat) (f : TxFlit) : Block :=
  let b1 := b.seeFlit n cls true f.payload
  let route := if cls = 3 then some (16, false) else b.route f.dest
  match route with
  | none => (b1.proto n).swallow n cls f.vc f.eom
  | some (port, vc) =>
    let x : RxMsg := ⟨[f.payload], f.dest, route, f.vc, false⟩
    if port = 16 then (if f.eom then b1.msgIn n cls x else b1.setRx n cls (some x))
    else if port = n ∨ b1.portOpen port = false then (b1.proto n).swallow n cls f.vc f.eom
    else
      let out := f.vc || vc
      let m : TxMsg := { cls := cls, vc := out, flits := [{ f with vc := out }], whole := f.eom, from_ := some (n, 2 * (cls - 1) + b2n f.vc) }
      (b1.enqueue port m).setRx n cls (if f.eom then none else some { x with flits := [] })

/-- A later flit of a message that is forwarded follows it; where what waited of it has been discarded, the flit is too. -/
def Block.followMsg (b : Block) (n cls port : Nat) (m : RxMsg) (f : TxFlit) : Block :=
  let src := some (n, 2 * (cls - 1) + b2n m.vc)
  let same (e : TxMsg) : Bool := decide (e.from_ = src) && !e.whole
  let b1 := if (b.link port).queue.any same then
      b.modLink port (fun l => { l with
        queue := updFirst same (fun e => { e with flits := e.flits ++ [{ f with vc := e.vc }], whole := f.eom }) l.queue })
    else b.free src 1
  if f.eom then b1.setRx n cls none else b1

/-- A flit of a message class enters its receive buffer (R261, R263, R276): SOM and EOM in order make a message; a flit out of order, or with a DEST
in the configuration class, discards its message with one protocol error, and the rest of it up to EOM. -/
def Block.msgFlit (b : Block) (n : Nat) (f : TxFlit) : Block :=
  let cls := f.cls
  let b0 := b.modLink n (fun l => { l with held := l.held.put (2 * (cls - 1) + b2n f.vc) (NMap.get 0 l.held (2 * (cls - 1) + b2n f.vc) + 1) })
  match (b.link n).rx.find cls with
  | some m =>
    if m.bad ∧ f.som = false then b0.swallow n cls f.vc f.eom
    else if f.som ∨ (cls = 3 ∧ f.dest ≠ 0) then ((b0.proto n).dropRx n cls m).swallow n cls f.vc f.eom
    else match m.route with
      | some (port, _) =>
        if port < 16 then b0.followMsg n cls port m f
        else
          let y : RxMsg := { m with flits := m.flits ++ [f.payload] }
          if f.eom then (b0.setRx n cls none).msgIn n cls y else b0.setRx n cls (some y)
      | none => b0.swallow n cls f.vc f.eom
  | none =>
    if f.som = false ∨ (cls = 3 ∧ f.dest ≠ 0) then (b0.proto n).swallow n cls f.vc f.eom else b0.startMsg n cls f

/-! ## Flits (R262, R263, R270) -/

/-- The fields of a flit, lowest bit and width (Table 8.3). -/
def flitFld (f : BitVec 512) (lo len : Nat) : Nat := bitsOf f.toNat lo len

/-- The CRC-32 of a flit holds (R260). -/
def flitCrcOk (f : BitVec 512) : Bool := decide (flitFld f 0 32 = (crc32 (leBytes 60 (f.toNat / 2 ^ 32))).toNat)

/-- ACK, NAK and the credit count of a flit, which are cumulative (R262, R276). -/
def Block.flitHead (b : Block) (n : Nat) (f : BitVec 512) : Block :=
  let ack := flitFld f 485 12
  let b1 := if flitFld f 484 1 = 1 then b.nakIn n ack else b.ackIn n ack
  let c := flitFld f 482 2
  if c = 0 then b1 else b1.creditIn n (2 * (c - 1) + flitFld f 481 1) (flitFld f 469 12)

/-- The content of a flit that is accepted in order. -/
def Block.flitBody (b : Block) (n : Nat) (f : BitVec 512) (t t3 : Stamp) : Block :=
  let cls := flitFld f 509 3
  let dest := flitFld f 459 10
  let payload := BitVec.ofNat 416 (flitFld f 32 416)
  if 5 ≤ cls then b.proto n
  else if cls = 4 then
    if dest ≠ 0 then b.proto n
    else forEach (flitSyms ⟨4, 0, 0, false, true, true, payload⟩) b (fun y x => x.symIn n y t t3)
  else b.msgFlit n ⟨cls, 0, dest, flitFld f 458 1 = 1, flitFld f 457 1 = 1, flitFld f 456 1 = 1, payload⟩

/-- A sequenced flit is lost: a NAK, unless one is outstanding (R270). -/
def Block.flitLost (b : Block) (n : Nat) : Block := if (b.link n).nakOut then b else b.sendNak n

/-- A flit arrives on an ACTIVE link. The command of the first of a codeword's ten flits carries what the decoder found in the codeword, up to 15 corrected
symbols or that it is uncorrectable (R253); an uncorrectable codeword discards all ten of its flits (R254; log entry 49). -/
def Block.flitIn (b : Block) (n : Nat) (f : BitVec 512) (corrected : BitVec 4) (uncorrectable : Bool) (t t3 : Stamp) : Block :=
  if b.lnkState n ≠ 5 then b
  else
    let first := decide ((b.link n).cwPos % 10 = 0)
    let bad := if first then uncorrectable else (b.link n).cwBad
    let corr := if first ∧ uncorrectable = false then corrected.toNat else 0
    let b1 := ((b.wrapFld (r1 .LNK_FECn n) F.LNK_FECn_CORR corr).correctedBy corr).modLink n (fun l => { l with window := l.window + corr, cwPos := l.cwPos + 1, cwBad := bad })
    let b2 := if first ∧ bad then b1.satFld (r1 .LNK_FECn n) F.LNK_FECn_UNCORR 1 else b1
    let idle := decide (flitFld f 509 3 = 0)
    if bad ∨ flitCrcOk f = false then (if idle then b2 else b2.flitLost n)
    else
      let b3 := b2.flitHead n f
      if idle then b3
      else if flitFld f 497 12 = ((b3.link n).rxSeq + 1) % 4096 then
        (b3.modLink n (fun l => { l with rxSeq := flitFld f 497 12, nakOut := false })).flitBody n f t t3
      else b3.flitLost n

/-- FLIT_TRANSMIT (R264); configuration messages that have gone on leave their receive buffer first (R237). -/
def execFlitTransmit (n : LinkNo) (s : State) : Host.Outcome State Fault Refusal := s.run (·.relayDone.transmit n.toNat)

/-- FLIT_RECEIVE (R270). -/
def execFlitReceive (n : LinkNo) (f : BitVec 512) (corrected : BitVec 4) (uncorrectable : Bool) (stamp answer : Stamp) (s : State) :
    Host.Outcome State Fault Refusal :=
  s.run (·.flitIn n.toNat f corrected uncorrectable stamp answer)

/-! ## Links that go down -/

/-- LINK_RESET (R282). -/
def execLinkReset (n : LinkNo) (s : State) : Host.Outcome State Fault Refusal := s.run (·.upWatch (·.linkReset n.toNat))

/-- LOSS_OF_SIGNAL (R255). -/
def execLossOfSignal (n : LinkNo) (s : State) : Host.Outcome State Fault Refusal :=
  s.run (fun b => if b.lnkState n.toNat = 5 then b.upWatch (·.linkDown n.toNat 1) else b)

/-- TRAINING_ATTEMPT_TIMEOUT (R256, R274): 150 µs after the attempt began. -/
def execTrainingAttemptTimeout (n : LinkNo) (s : State) : Host.Outcome State Fault Refusal :=
  s.run (fun b => if 37500 ≤ b.pw.ctl - (b.link n.toNat).since then b.upWatch (·.attemptFails n.toNat) else b)

/-- CONFIG_EXCHANGE (R257, R258, R273). -/
def execConfigExchange (n : LinkNo) (x : ConfigInfo) (s : State) : Host.Outcome State Fault Refusal := s.run (·.upWatch (·.configEnd n.toNat x))

/-- A write of LNK_CTRLn (R282, R275). -/
def Block.lnkCtrlWrite (b : Block) (n : Nat) (v : Word) : Block := b.upWatch (·.lnkCtrl n v)

/-- LNK_CTRL_EN_WRITE (R282). -/
def execLnkCtrlEnWrite (r : Requester) (n : LinkNo) (v : Word) (s : State) : Host.Outcome State Fault Refusal :=
  s.run (fun b => b.hostWrite r (r1 .LNK_CTRLn n.toNat) v (·.lnkCtrlWrite n.toNat v))

end Sys2Proof.Machine
end

