-- ==== Sys2Proof/Machine/Sem.lean ====
section
/-!
DEFINITION. The hardware semaphores (R468 to R472). A semaphore's state is SEM_PEEKn: held, BROKEN, holder.
-/
namespace Sys2Proof.Machine

/-- Semaphore n serves a requester (R468). -/
def Block.semServes (b : Block) (r : Requester) (n : Nat) : Bool :=
  let module_ := b.bit (r1 .SEM_CFGn n) F.SEM_CFGn_SCOPE
  let p := b.fld (r1 .SEM_CFGn n) F.SEM_CFGn_PART
  match r with
  | .pf0 => true
  | .vf v => !module_ && decide (v.toNat = p)
  | .dma d => if b.bit (r1 .DMA_CHn_CFG d.toNat) F.DMA_CHn_CFG_SCOPE then module_
      else !module_ && decide (b.fld (r1 .DMA_CHn_CFG d.toNat) F.DMA_CHn_CFG_PART = p)
  | .hkc => module_
  | _ => false

/-- Semaphore n is held. -/
def Block.semHeld (b : Block) (n : Nat) : Bool := b.bit (r1 .SEM_PEEKn n) F.SEM_PEEKn_GRANTED

/-- The holder of semaphore n. -/
def Block.semHolder (b : Block) (n : Nat) : Nat := b.fld (r1 .SEM_PEEKn n) F.SEM_PEEKn_HOLDER

/-- The word of a semaphore: held, BROKEN, holder. -/
def semWord (held broken : Bool) (holder : Nat) : Word :=
  BitVec.ofNat 32 (b2n held * 2 ^ 31 + b2n broken * 2 ^ 30 + holder % 1024)

/-- Free semaphore n, leaving BROKEN as given. -/
def Block.semFree (b : Block) (n : Nat) (broken : Bool) : Block := b.setReg (r1 .SEM_PEEKn n) (semWord false broken 0)

/-- Release every semaphore that a requester ID holds, with BROKEN set (R471). -/
def Block.semBreak (b : Block) (id : Nat) : Block :=
  forEach (List.range 64) b (fun n x => if x.semHeld n ∧ x.semHolder n = id then x.semFree n true else x)

/-- A read of SEM_ACQn (R469). -/
def Block.semAcq (b : Block) (r : Requester) (n : Nat) : Block :=
  if b.reaches r (r1 .SEM_ACQn n) ∧ b.semServes r n ∧ CUnit.sem ∉ b.flt.refusing then
    if b.semHeld n then { b with reply := leBytes 4 (semWord false (b.bit (r1 .SEM_PEEKn n) F.SEM_PEEKn_BROKEN) (b.semHolder n)).toNat }
    else { b.setReg (r1 .SEM_PEEKn n) (semWord true false (idOf r)) with
      reply := leBytes 4 (semWord true (b.bit (r1 .SEM_PEEKn n) F.SEM_PEEKn_BROKEN) (idOf r)).toNat }
  else { b with reply := leBytes 4 0 }

/-- REL (R470): the holder of a semaphore that serves it frees the semaphore. -/
def Block.semRelease (b : Block) (r : Requester) (n : Nat) : Block :=
  if b.semServes r n ∧ b.semHeld n ∧ b.semHolder n = idOf r then b.semFree n (b.bit (r1 .SEM_PEEKn n) F.SEM_PEEKn_BROKEN) else b

/-- A write of SEM_RELn.REL (R470). -/
def Block.semRel (b : Block) (r : Requester) (n : Nat) : Block := b.hostWrite r (r1 .SEM_RELn n) 1 (·.semRelease r n)

/-- A write of SEM_CFGn.FORCE (R470). -/
def Block.semForce (b : Block) (r : Requester) (n : Nat) : Block :=
  b.hostWrite r (r1 .SEM_CFGn n) 0x80000000 (fun x => if x.semHeld n then x.semFree n true else x)

/-- SEM_ACQ (R469). -/
def execSemAcq (r : Requester) (n : BitVec 6) (s : State) : Host.Outcome State Fault Refusal := s.run (·.semAcq r n.toNat)

/-- SEM_REL (R470). -/
def execSemRel (r : Requester) (n : BitVec 6) (s : State) : Host.Outcome State Fault Refusal := s.run (·.semRel r n.toNat)

/-- SEM_FORCE (R470). -/
def execSemForce (r : Requester) (n : BitVec 6) (s : State) : Host.Outcome State Fault Refusal := s.run (·.semForce r n.toNat)

end Sys2Proof.Machine
end

