-- ==== Sys2Proof/Machine/Mailbox.lean ====
section
/-!
DEFINITION. The housekeeping mailbox (R457 to R461), MSI-X unmasking (R456), the firmware and settings commands (R462 to R465),
sessions (R476 to R478), keys (R479 to R481), the audit commands (R485, R486) and calibration (R491 to R493).
-/
namespace Sys2Proof.Machine

/-! ## The mailbox itself -/

/-- The first n bytes of a function's request buffer. -/
def Func.request (f : Func) (n : Nat) : List Byte := (List.range n).map (fun i => NMap.get 0 f.req i)

/-- MBX_STATUS bits. -/
def Func.busy (f : Func) : Bool := f.mbxStatus.getLsbD 0

/-- The header fields of the request: CMD, LEN, SEQ (Table 15.3). -/
def Func.cmd (f : Func) : Nat := leAt (f.request 2) 0 2
/-- LEN of the request. -/
def Func.reqLen (f : Func) : Nat := leAt (f.request 4) 2 2
/-- The payload of the request. -/
def Func.payload (f : Func) : List Byte := (f.request (16 + f.reqLen)).drop 16

/-- Put bytes into a byte map from an offset. -/
def putBytes (m : NMap Byte) (off : Nat) (l : List Byte) : NMap Byte :=
  ((List.range l.length).zip l).foldl (fun x e => NMap.set 0 x (off + e.1) e.2) m

/-- The response (Table 15.3): header with STATUS, CMD and SEQ copied, then the payload. -/
def Func.responseBytes (f : Func) (status : Nat) (pl : List Byte) : List Byte :=
  leBytes 2 f.cmd ++ leBytes 2 pl.length ++ sliceBytes (f.request 8) 4 4 ++ leBytes 2 status ++ leBytes 6 0 ++ pl

/-- Complete the command of a function (R458): response, BUSY clears, DONE sets, the message of MBX_CTRL; over the management port a datagram (R461). -/
def Block.mbxDone (b : Block) (r : Requester) (status : Nat) (pl : List Byte) : Block :=
  let f := b.func (fnOf r)
  let bytes := f.responseBytes status pl
  let b0 := b.modFunc (fnOf r) (fun x => { x with resp := putBytes [] 0 bytes, mbxStatus := (x.mbxStatus &&& 0xFFFFFFFE) ||| 2 })
  let b1 : Block := { b0 with fw := { b0.fw with mbxLast := fnOf r } }
  if r = .mgmt then b1.send (.datagram bytes)
  else if F.MBX_CTRL_IRQ_EN.get f.mbxCtrl = 1 then b1.msix (fnOf r) (F.MBX_CTRL_VEC.get f.mbxCtrl) none else b1

/-- The commands of Tables 15.5, 16.2 and 16.6. -/
def mbxDefined (c : Nat) : Bool :=
  c ∈ [0x0001, 0x0010, 0x0011, 0x0012, 0x0020, 0x0021, 0x0022, 0x0023, 0x0030, 0x0031, 0x0040, 0x0050, 0x0051, 0x0052, 0x0058,
    0x005F, 0x0060, 0x0061, 0x0070, 0x0071, 0x0072, 0x0080, 0x0090]

/-- The commands that safe mode serves (R467). -/
def mbxSafe (c : Nat) : Bool := c ∈ [0x0001, 0x0010, 0x0011, 0x0012, 0x0020, 0x0021, 0x0023, 0x0040]

/-- Who may send a command: no session needed, or one of the roles of a code (R18). -/
structure Need where
  none_ : Bool
  roles : BitVec 4
  deriving DecidableEq, Repr

/-- The place of a function in the turn, which begins after the function taken up last (R459). -/
def Block.mbxTurn (b : Block) (fn : Nat) : Nat := (fn + 257 - b.fw.mbxLast) % 258

/-- The request of a function is the one that the HKC takes up next, round robin over the submitted requests (R459). -/
def Block.mbxNext (b : Block) (r : Requester) : Bool := b.funcs.all (fun e => !e.2.busy || decide (b.mbxTurn (fnOf r) ≤ b.mbxTurn e.1))

/-- Serve command `cmd` of a requester's mailbox when it is the one submitted and its turn has come (R458, R459): NOT_READY, UNKNOWN, ROLE and BAD_LEN as Table 15.4,
else what `f` answers: status, payload and new state. -/
def Block.mbx (b : Block) (r : Requester) (cmd : Nat) (need : Need) (lenOk : Nat → Bool)
    (f : List Byte → Block → Nat × List Byte × Block) : Block :=
  let x := b.func (fnOf r)
  if (r = .mgmt ∨ b.fnExists r) ∧ x.busy ∧ x.cmd = cmd ∧ b.mbxNext r then
    if b.pw.phase ≠ .ready ∧ cmd ≠ 1 then b.mbxDone r 7 []
    else if b.safeMode ∧ isVf r then b.mbxDone r 7 []
    else if b.safeMode ∧ ¬ mbxSafe cmd then b.mbxDone r 1 []
    else if ¬ need.none_ ∧ ¬ roleIn (b.roleOf r) need.roles then b.mbxDone r 3 []
    else if ¬ lenOk x.reqLen ∨ 4080 < x.reqLen then b.mbxDone r 2 []
    else
      let (st, pl, b') := f x.payload b
      b'.mbxDone r st pl
  else b

/-- Any role or none. -/
def needNone : Need := ⟨true, 0⟩
/-- The installer. -/
def needI : Need := ⟨false, 2⟩
/-- The operator or the installer. -/
def needOI : Need := ⟨false, 3⟩
/-- The maker. -/
def needM : Need := ⟨false, 4⟩
/-- The installer or the maker. -/
def needIM : Need := ⟨false, 6⟩

/-- MBX_DOORBELL.GO (R458): BUSY, or REFUSED while BUSY. A request whose CMD no table defines is answered UNKNOWN (Table 15.4). -/
def Block.mbxGo (b : Block) (r : Requester) : Block :=
  let x := b.func (fnOf r)
  if x.busy then b.modFunc (fnOf r) (fun f => { f with mbxStatus := f.mbxStatus ||| 4 })
  else
    let b1 := b.modFunc (fnOf r) (fun f => { f with mbxStatus := f.mbxStatus ||| 1 })
    if mbxDefined x.cmd then b1
    else b1.mbxDone r (if b.pw.phase ≠ .ready ∨ (b.safeMode ∧ isVf r) then 7 else 1) []

/-- A write of GO through a function. -/
def Block.go (b : Block) (r : Requester) : Block := b.hostWrite r (r0 .MBX_DOORBELL) 1 (·.mbxGo r)

/-- GO (R458). -/
def execGo (r : Requester) (s : State) : Host.Outcome State Fault Refusal := s.run (·.go r)

/-- The UDP port of the management port's mailbox (R461). -/
def mgmtPort : BitVec 16 := 47360

/-- A datagram to a port of the management port (R461): to 47,360 it is a request, submitted at once; it is dropped while a request runs. -/
def Block.mgmtDatagram (b : Block) (port : BitVec 16) (bytes : List Byte) : Block :=
  if b.pw.phase = .por ∨ b.pw.phase = .lock ∨ port ≠ mgmtPort then b
  else if (b.func 257).busy then b.mbxGo .mgmt
  else (b.modFunc 257 (fun f => { f with req := putBytes [] 0 (bytes.take 4096) })).mbxGo .mgmt

/-- MGMT_MAILBOX_DATAGRAM (R461). -/
def execMgmtMailboxDatagram (port : BitVec 16) (bytes : List Byte) (s : State) : Host.Outcome State Fault Refusal := s.run (·.mgmtDatagram port bytes)

/-- Vector v of a function is unmasked, and its pending message is sent (R456). -/
def Block.vecUnmask (b : Block) (fn v : Nat) : Block :=
  let was := decide (v ∈ (b.func fn).msixPend)
  let b1 := b.modFunc fn (fun f => { f with
    unmasked := if v ∈ f.unmasked then f.unmasked else f.unmasked ++ [v], msixPend := f.msixPend.filter (· ≠ v) })
  if was then b1.send (.msix fn v none) else b1

/-- Vector v of a function is masked. -/
def Block.vecMask (b : Block) (fn v : Nat) : Block := b.modFunc fn (fun f => { f with unmasked := f.unmasked.filter (· ≠ v) })

/-- BAR2 of the requester's function is served: the function exists and the firmware is ready (R453, R519). -/
def Block.bar2Serves (b : Block) (r : Requester) : Bool := b.fnExists r && decide (b.pw.phase = .ready)

/-- The pending-bit array of a function in BAR2 (R451). -/
def pbaOff (fn : Nat) : Nat := if fn = 0 then 0x8000 else 0x800

/-- A write of BAR2 (R451): an aligned word of a table entry, which holds address, data and control, bit 0 of the control being the mask (PRESUMED, log entry
164). The pending-bit array is read-only. -/
def Block.bar2Write (b : Block) (r : Requester) (off : Nat) (l : List Byte) : Block :=
  let fn := fnOf r
  let v := off / 16
  if b.bar2Serves r ∧ off % 4 = 0 ∧ l.length = 4 ∧ v < vectorsOf fn then
    if off % 16 = 12 then (if (l.headD 0).getLsbD 0 then b.vecMask fn v else b.vecUnmask fn v)
    else b.modFunc fn (fun f => { f with msixTab := NMap.set 0 f.msixTab (off / 4) (BitVec.ofNat 32 (leNat l)) })
  else b

/-- A word of BAR2 as its function reads it (R451). -/
def Block.bar2Read (b : Block) (r : Requester) (off : Nat) : Word :=
  let f := b.func (fnOf r)
  let fn := fnOf r
  if b.bar2Serves r = false ∨ off % 4 ≠ 0 then 0
  else if off / 16 < vectorsOf fn then
    (if off % 16 = 12 then (if off / 16 ∈ f.unmasked then 0 else 1) else NMap.get 0 f.msixTab (off / 4))
  else if pbaOff fn ≤ off ∧ off < pbaOff fn + vectorsOf fn / 8 then
    BitVec.ofNat 32 (bitsNat ((List.range 32).map (fun i => decide ((off - pbaOff fn) * 8 + i ∈ f.msixPend))))
  else 0

/-- MSIX_UNMASK (R456): the vector of the requester's function is unmasked. -/
def execMsixUnmask (r : Requester) (vec : BitVec 11) (s : State) : Host.Outcome State Fault Refusal :=
  s.run (fun b => if b.bar2Serves r ∧ vec.toNat < vectorsOf (fnOf r) then b.vecUnmask (fnOf r) vec.toNat else b)

/-- A poisoned write is reported in the AER status of its function (Table 15.1). -/
def Block.aerReport (b : Block) (r : Requester) : Block :=
  if b.bar2Serves r then b.modFunc (fnOf r) (fun f => { f with aerPoison := true }) else b

/-! ## Firmware, slots and settings -/

/-- Put the slot states of the descriptor into FW_STATUS (Table 15.10). -/
def Block.showSlots (b : Block) : Block :=
  (b.setFld (r0 .FW_STATUS) F.FW_STATUS_SLOT_A b.fw.slotA).setFld (r0 .FW_STATUS) F.FW_STATUS_SLOT_B b.fw.slotB

/-- The running slot is B. -/
def Block.actSlot (b : Block) : Bool := b.bit (r0 .FW_STATUS) F.FW_STATUS_ACT_SLOT

/-- A firmware target is the running slot or the link copy in use (R462). In safe mode the boot ROM runs, and no slot does. -/
def Block.targetInUse (b : Block) (t : Nat) : Bool :=
  !b.safeMode && ((t = 0 && !b.actSlot) || (t = 1 && b.actSlot)
    || (t = 2 && b.fld (r0 .FW_STATUS) F.FW_STATUS_LINK_COPY = 0) || (t = 3 && b.fld (r0 .FW_STATUS) F.FW_STATUS_LINK_COPY = 1))

/-- What GET_INFO returns (Table 15.5): FW_STATUS, the three versions, slot and copy states, settings format. -/
def Block.infoBytes (b : Block) : List Byte :=
  leBytes 4 (b.reg (r0 .FW_STATUS)).toNat ++ leBytes 4 (b.reg (r0 .FW_VER_ROM)).toNat ++ leBytes 4 (b.reg (r0 .FW_VER_HK)).toNat
    ++ leBytes 4 (b.reg (r0 .FW_VER_LINK)).toNat ++ leBytes 1 b.fw.slotA ++ leBytes 1 b.fw.slotB ++ leBytes 1 (b2n b.fw.linkA)
    ++ leBytes 1 (b2n b.fw.linkB) ++ leBytes 2 b.fw.setFmt.toNat

/-- GET_INFO (Table 15.5). -/
def execGetInfo (r : Requester) (s : State) : Host.Outcome State Fault Refusal :=
  s.run (fun b => b.mbx r 0x0001 needNone (· = 0) (fun _ b => (0, b.infoBytes, b)))

/-- The word of a private read (R536). -/
def Block.i3cWord (b : Block) (idx : Nat) : Word :=
  if idx ≤ 8 then b.reg (r1 .PWR_TEMPk idx)
  else if idx = 0x10 then b.reg (r0 .PWR_POWER)
  else if idx = 0x11 then b.reg (r0 .PWR_STATUS)
  else if idx = 0x12 then b.reg (r0 .CLK_STATUS)
  else if idx = 0x13 then b.reg (r0 .FW_STATUS)
  else 0

/-- The I3C/SMBus target answers from the start of the boot ROM (Table 18.2), at its dynamic address, else at the static address 0x5A (R461, log entry 179). -/
def Block.i3cServed (b : Block) (addr : BitVec 7) : Bool :=
  decide (b.pw.phase = .boot ∨ b.pw.phase = .ready) && decide (addr = b.pw.i3c.getD 0x5A)

/-- What the target answers. -/
def Block.i3cAnswer (b : Block) (q : I3cReq) : List Byte :=
  match q with
  | .word idx => leBytes 4 (b.i3cWord idx.toNat).toNat
  | .getInfo => b.infoBytes

/-- I3C_PRIVATE_READ (R536). -/
def execI3cPrivateRead (addr : BitVec 7) (q : I3cReq) (s : State) : Host.Outcome State Fault Refusal :=
  s.run (fun b => if b.i3cServed addr then { b with reply := b.i3cAnswer q } else b)

/-- I3C_ENTDAA (R461): the target takes its dynamic address. -/
def execI3cEntdaa (addr : BitVec 7) (s : State) : Host.Outcome State Fault Refusal :=
  s.run (fun b => if b.pw.phase = .boot ∨ b.pw.phase = .ready then { b with pw := { b.pw with i3c := some addr } } else b)

/-- Write bytes to the flash. -/
def Fw.program (f : Fw) (a : Nat) (l : List Byte) : Fw :=
  { f with flash := forEach ((List.range l.length).zip l) f.flash (fun e m => m.put (a + e.1) e.2) }

/-- FW_WRITE (Table 15.5, R462). -/
def execFwWrite (r : Requester) (flashOk : Bool) (s : State) : Host.Outcome State Fault Refusal :=
  s.run (fun b => b.mbx r 0x0020 needI (8 ≤ ·) (fun pl b =>
    let t := leAt pl 0 1
    let off := leAt pl 4 4
    let size := if t < 2 then 16777216 else 4194304
    if 3 < t ∨ b.targetInUse t ∨ size < off + (pl.length - 8) then (4, [], b)
    else if ¬ flashOk then (5, [], b)
    else (0, [], { b with fw := b.fw.program (t * 16777216 + off) (pl.drop 8) })))

/-- FW_COMMIT on a target (R462): the image is checked as a load would, and its ROM_IF; a slot becomes TRIAL and next, a link copy valid and next; a failed
image makes the target INVALID. -/
def Block.fwCommit (b : Block) (r : Requester) (t : Nat) : Nat × List Byte × Block :=
  let (status, rec_) := b.checkImage t
  let ok := decide (status = 0 ∧ leAt rec_ 4 2 ≤ Config.romIf)
  let w := b.fw
  let w' : Fw := if t = 0 then { w with slotA := if ok then 1 else 4, trialA := false, nextSlot := if ok then false else w.nextSlot }
    else if t = 1 then { w with slotB := if ok then 1 else 4, trialB := false, nextSlot := if ok then true else w.nextSlot }
    else if t = 2 then { w with linkA := ok, nextCopy := if ok then false else w.nextCopy }
    else { w with linkB := ok, nextCopy := if ok then true else w.nextCopy }
  let b1 := ({ b with fw := w' }).showSlots
  if ok then (0, [], b1.audit r 0x60 0 (leBytes 1 t))
  else (6, leBytes 2 (if status = 0 then Config.romIfStatus.toNat else status), b1.audit r 0x60 6 (leBytes 1 t))

/-- FW_COMMIT (R462). -/
def execFwCommit (r : Requester) (s : State) : Host.Outcome State Fault Refusal :=
  s.run (fun b => b.mbx r 0x0021 needI (1 ≤ ·) (fun pl b => if 3 < leAt pl 0 1 ∨ b.targetInUse (leAt pl 0 1) then (4, [], b) else b.fwCommit r (leAt pl 0 1)))

/-- FW_CONFIRM (R464): the running TRIAL slot becomes CONFIRMED. -/
def execFwConfirm (r : Requester) (s : State) : Host.Outcome State Fault Refusal :=
  s.run (fun b => b.mbx r 0x0022 needI (· = 0) (fun _ b =>
    if (if b.actSlot then b.fw.slotB else b.fw.slotA) = 1 then
      (0, [], (({ b with fw := if b.actSlot then { b.fw with slotB := 2 } else { b.fw with slotA := 2 } }).showSlots).audit r 0x60 0 [])
    else (4, [], b)))

/-- FW_SELECT (R464): a CONFIRMED slot or a valid link copy becomes the next to boot. -/
def execFwSelect (r : Requester) (s : State) : Host.Outcome State Fault Refusal :=
  s.run (fun b => b.mbx r 0x0023 needI (1 ≤ ·) (fun pl b =>
    let t := leAt pl 0 1
    if t = 0 ∧ b.fw.slotA = 2 then (0, [], ({ b with fw := { b.fw with nextSlot := false } }).audit r 0x60 0 (leBytes 1 t))
    else if t = 1 ∧ b.fw.slotB = 2 then (0, [], ({ b with fw := { b.fw with nextSlot := true } }).audit r 0x60 0 (leBytes 1 t))
    else if t = 2 ∧ b.fw.linkA then (0, [], ({ b with fw := { b.fw with nextCopy := false } }).audit r 0x60 0 (leBytes 1 t))
    else if t = 3 ∧ b.fw.linkB then (0, [], ({ b with fw := { b.fw with nextCopy := true } }).audit r 0x60 0 (leBytes 1 t))
    else (4, [], b)))

/-- A register that holds an installer setting: the installer writes it (log entry 9). -/
def isSetting (k : RegKey) : Bool := k.name.info.roles = 2 ∧ k.name.info.rwMask ≠ 0

/-- The bytes of a copy before its CRC (R465); their layout is the model's (log entry 180). -/
def SetCopy.bytes (c : SetCopy) : List Byte :=
  leBytes 2 c.fmt.toNat ++ leBytes 2 c.seq.toNat ++ leBytes 1 (b2n c.autoConfirm) ++ leBytes 1 (b2n c.march)
    ++ c.values.flatMap (fun e => leBytes 4 e.1.addr ++ leBytes 4 e.2.toNat) ++ c.blocks.flatten

/-- A copy is valid: its CRC holds (R465). -/
def SetCopy.valid (c : SetCopy) : Bool := decide (c.crc = crc32 c.bytes)

/-- A copy with its CRC. -/
def SetCopy.sealed (c : SetCopy) : SetCopy := { c with crc := crc32 c.bytes }

/-- A copy that is not valid. -/
def SetCopy.spoilt (c : SetCopy) : SetCopy := { c with crc := ~~~crc32 c.bytes }

/-- The settings in force as a copy of a sequence number. -/
def Block.settingsNow (b : Block) (seq : BitVec 16) : SetCopy :=
  SetCopy.sealed ⟨0, b.fw.setFmt, seq, b.fw.autoConfirm, b.fw.march, b.regs.filter (fun e => isSetting e.1), b.sec.calBlocks⟩

/-- The sequence of a copy, as a number below that of every valid copy when it is not valid. -/
def SetCopy.rank (c : SetCopy) : Nat := if c.valid then c.seq.toNat + 1 else 0

/-- Write the settings in force to the copy with the lower sequence (R465). -/
def Block.saveSettings (b : Block) : Block :=
  let hi := max b.fw.set0.rank b.fw.set1.rank
  let c := b.settingsNow (BitVec.ofNat 16 hi)
  ({ b with fw := if b.fw.set0.rank ≤ b.fw.set1.rank then { b.fw with set0 := c } else { b.fw with set1 := c } }).setFld
    (r0 .FW_STATUS) F.FW_STATUS_SET_SEQ hi

/-- SETTINGS_SAVE (Table 15.5, R465). -/
def execSettingsSave (r : Requester) (flashOk : Bool) (s : State) : Host.Outcome State Fault Refusal :=
  s.run (fun b => b.mbx r 0x0030 needI (· = 0) (fun _ b => if flashOk then (0, [], b.saveSettings) else (5, [], b)))

/-- SETTINGS_DEFAULT (Table 15.5): both copies are invalid, which the next boot finds; a SETTINGS_SAVE in between writes a valid one (DEDUCED, log
entry 148). -/
def execSettingsDefault (r : Requester) (s : State) : Host.Outcome State Fault Refusal :=
  s.run (fun b => b.mbx r 0x0031 needI (· = 0) (fun _ b =>
    (0, [], { b with fw := { b.fw with set0 := b.fw.set0.spoilt, set1 := b.fw.set1.spoilt } })))

/-! ## Sessions -/

/-- The role of a role byte (Table 16.2). -/
def roleOfByte (n : Nat) : Role := if n = 1 then .op else if n = 2 then .inst else if n = 3 then .maker else .none

/-- End the session of a function, if it holds one (R477, R484). -/
def Block.endSession (b : Block) (r : Requester) : Block :=
  match (b.func (fnOf r)).session with
  | some _ => (b.audit r 0x03 0 []).modFunc (fnOf r) (fun f => { f with session := none })
  | none => b

/-- A role and key slot that a function may ask for (R460, R477). -/
def Block.challengeOk (b : Block) (r : Requester) (role : Role) (slot : Nat) : Bool :=
  match r with
  | .pf0 => role ≠ .none
  | .mgmt => role ≠ .none
  | .vf v => role = .op ∧ b.slotCovers slot v.toNat
  | _ => false

/-- 10 s in CTL_CLK cycles. -/
def tenSeconds : Nat := 2500000000

/-- 60 s in CTL_CLK cycles. -/
def sixtySeconds : Nat := 15000000000

/-- SESSION_CHALLENGE (R476 to R478). -/
def execSessionChallenge (r : Requester) (nonce : BitVec 384) (s : State) : Host.Outcome State Fault Refusal :=
  s.run (fun b => b.mbx r 0x0010 needNone (· = 4) (fun pl b =>
    let role := roleOfByte (leAt pl 0 1)
    let slot := leAt pl 1 1
    if (b.func (fnOf r)).lockout ∨ ¬ b.challengeOk r role slot then (3, [], b.auditFull 0x02 role slot (idOf r) 3 [])
    else (0, leBytes 48 nonce.toNat, (b.endSession r).modFunc (fnOf r) (fun f =>
      { f with challenge := some ⟨role, slot, nonce, b.pw.ctl + tenSeconds⟩ }))))

/-- The public key of a role and slot, where it is present and usable; the maker's is the one whose hash the fuses hold (R479). -/
def Block.roleKey (b : Block) (role : Role) (slot : Nat) : Option (List Byte) :=
  match role with
  | .op => if b.sec.keyFault then none else (b.sec.operKeys.find slot).map (·.key)
  | .inst => if b.sec.keyFault then none else b.sec.instKey
  | .maker => b.rootKey
  | _ => none

/-- The code of a role byte (Table 16.2). -/
def roleByte (x : Role) : Nat := match x with | .op => 1 | .inst => 2 | .maker => 3 | _ => 0

/-- What the requester signs (R476): the nonce, its ID in two bytes, the role byte and the slot byte. -/
def Challenge.message (c : Challenge) (r : Requester) : List Byte :=
  leBytes 48 c.nonce.toNat ++ leBytes 2 (idOf r) ++ leBytes 1 (roleByte c.role) ++ leBytes 1 c.slot

/-- SESSION_RESPOND (R476, R478): the session opens when the signature verifies within 10 s; eight failures in a row lock the function out. -/
def execSessionRespond (r : Requester) (bad : Bool) (s : State) : Host.Outcome State Fault Refusal :=
  s.run (fun b => b.mbx r 0x0011 needNone (· = 96) (fun pl b0 =>
    let b := b0.keyUse bad
    let f := b.func (fnOf r)
    let fail : Nat × List Byte × Block :=
      let b1 := b.modFunc (fnOf r) (fun f =>
        { f with challenge := none, fails := f.fails + 1, lockout := f.lockout || decide (8 ≤ f.fails + 1),
                 lockUntil := if f.lockout = false ∧ 8 ≤ f.fails + 1 then b.pw.ctl + sixtySeconds else f.lockUntil })
      let b2 := match f.challenge with
        | some c => b1.auditFull 0x02 c.role c.slot (idOf r) Config.respondRefused.toNat []
        | none => b1.audit r 0x02 Config.respondRefused.toNat []
      (Config.respondRefused.toNat, [], b2.raise 5)
    match f.challenge with
    | some c =>
      if b.pw.ctl ≤ c.until_ ∧ (b.roleKey c.role c.slot).any (fun k => sigVerifies k pl (c.message r)) then
        let b1 := b.modFunc (fnOf r) (fun f => { f with challenge := none, fails := 0, session := some ⟨c.role, c.slot⟩ })
        let b2 := (b1.audit r 0x01 0 []).raiseIf (c.role ≠ .op) 6
        (0, leBytes 1 (roleByte c.role) ++ leBytes 1 c.slot ++ [0, 0], b2)
      else fail
    | none => fail))

/-- SESSION_LOGOUT (R477). -/
def execSessionLogout (r : Requester) (s : State) : Host.Outcome State Fault Refusal :=
  s.run (fun b => b.mbx r 0x0012 needNone (· = 0) (fun _ b => (0, [], b.endSession r)))

/-- LOCKOUT_END (R478): after its 60 s the function's challenges are served again. -/
def execLockoutEnd (r : Requester) (s : State) : Host.Outcome State Fault Refusal :=
  s.run (fun b => b.modFunc (fnOf r) (fun f => if f.lockout ∧ f.lockUntil ≤ b.pw.ctl then { f with lockout := false, fails := 0 } else f))

/-! ## Keys -/

/-- ENROLLED of SEC_STATUS follows the installer key. -/
def Block.showKeys (b : Block) : Block :=
  b.setFld (r0 .SEC_STATUS) F.SEC_STATUS_ENROLLED (b2n b.sec.instKey.isSome)

/-- End every session that a test accepts (R477). -/
def Block.endSessions (b : Block) (p : Session → Bool) : Block :=
  let rs : List Requester := [.pf0, .mgmt] ++ (List.range 256).map (fun v => .vf (BitVec.ofNat 8 v))
  forEach (rs.filter (fun r => (b.func (fnOf r)).session.any p)) b (fun r x => x.endSession r)

/-- The keys that are present, as an audit entry names them: image key 256 + slot, operator key slot, the installer's key nothing. -/
def Sec.keyNames (x : Sec) : List (List Byte) :=
  (if x.instKey.isSome then [[]] else []) ++ x.operKeys.map (fun e => leBytes 2 e.1) ++ x.imgKeys.map (fun e => leBytes 2 (256 + e.1))

/-- A requester erases the installer key, the operator keys and the image keys (R478, R489), with an audit entry for each (R484). -/
def Block.eraseKeys (b : Block) (r : Requester) : Block :=
  let b1 := (({ b with sec := { b.sec with instKey := none, operKeys := [], imgKeys := [] } }).showKeys).endSessions (fun (x : Session) => decide (x.role ≠ Role.maker))
  forEach b.sec.keyNames b1 (fun l y => y.audit r 0x21 0 l)

/-- INSTALLER_ENROLL (R478): claimed without a session while empty, replaced by an installer, cleared by a maker. -/
def execInstallerEnroll (r : Requester) (s : State) : Host.Outcome State Fault Refusal :=
  s.run (fun b => b.mbx r 0x005F needNone (fun _ => true) (fun pl b =>
    if b.roleOf r = .maker then (if pl = [] then (0, [], (b.eraseKeys r).raise 9) else (2, [], b))
    else if b.roleOf r = .inst ∨ (b.roleOf r = .none ∧ b.sec.instKey = none) then
      if pl.length = 96 then (0, [], ((({ b with sec := { b.sec with instKey := some pl } }).showKeys).audit r 0x20 0 []).raise 9) else (2, [], b)
    else (3, [], b)))

/-- A wrapped image key (R480): ephemeral public key, nonce, the wrapped key and its tag (log entry 10); none where it does not decrypt. -/
def Sec.unwrap (x : Sec) (l : List Byte) : Option (List Byte) :=
  (ecdhKey x.idKey (l.take 96)).bind (fun k => gcmDecrypt k (sliceBytes l 96 12) [] (sliceBytes l 108 32) (sliceBytes l 140 16))

/-- KEY_PROVISION (R480): byte 0 names the kind (0 operator key, 1 image key), byte 1 the slot; an operator key is a 96-byte public key and a
32-byte scope, an image key its KEY_ID, a 32-byte scope and the wrapped key (log entry 10). -/
def execKeyProvision (r : Requester) (bad : Bool) (s : State) : Host.Outcome State Fault Refusal :=
  s.run (fun b => b.mbx r 0x0060 needI (fun n => decide (n = 132 ∨ n = 196)) (fun pl b0 =>
    let b := if pl.length = 196 then b0.keyUse bad else b0
    let slot := leAt pl 1 1
    if pl.length ≠ (if leAt pl 0 1 = 0 then 132 else 196) then (2, [], b)
    else if leAt pl 0 1 = 0 then
      (0, [], ((({ b with sec := { b.sec with
        operKeys := b.sec.operKeys.put slot ⟨sliceBytes pl 4 96, BitVec.ofNat 256 (leAt pl 100 32)⟩ } })).audit r 0x20 0 (leBytes 2 slot)).raise 9)
    else match (if b.sec.keyFault then none else b.sec.unwrap (sliceBytes pl 40 156)) with
      | none => (6, leBytes 2 8, b)
      | some key =>
        if 64 ≤ slot then (4, [], b)
        else (0, [], ((({ b with sec := { b.sec with
          imgKeys := b.sec.imgKeys.put slot ⟨BitVec.ofNat 32 (leAt pl 4 4), BitVec.ofNat 256 (leAt pl 8 32), key⟩ } })).audit r 0x20 0
            (leBytes 2 (256 + slot))).raise 9)))

/-- KEY_REVOKE (R481): a slot is emptied, and the sessions opened under it end. -/
def execKeyRevoke (r : Requester) (s : State) : Host.Outcome State Fault Refusal :=
  s.run (fun b => b.mbx r 0x0061 needI (2 ≤ ·) (fun pl b =>
    let slot := leAt pl 1 1
    let b1 := if leAt pl 0 1 = 0 then
        ({ b with sec := { b.sec with operKeys := b.sec.operKeys.erase slot } }).endSessions (fun (x : Session) => decide (x.role = Role.op ∧ x.slot = slot))
      else { b with sec := { b.sec with imgKeys := b.sec.imgKeys.erase slot } }
    (0, [], (b1.audit r 0x21 0 (leBytes 2 slot)).raise 9)))

/-- What GET_IDENTITY returns (Table 16.6): identity public key, serial number, maker certificate. -/
def Sec.identity (x : Sec) : List Byte := publicKey x.idKey ++ leBytes 8 Config.serial.toNat ++ Config.certificate

/-- GET_IDENTITY (R479). -/
def execGetIdentity (r : Requester) (s : State) : Host.Outcome State Fault Refusal :=
  s.run (fun b => b.mbx r 0x0058 needNone (· = 0) (fun _ b => (0, b.sec.identity, b)))

/-! ## The audit commands -/

/-- The 128 bytes of an entry (Table 16.4). -/
def AuditEntry.bytes (e : AuditEntry) : List Byte :=
  auditBytes e.seq e.time e.typ.toNat e.role e.slot.toNat e.source.toNat e.result.toNat e.detail ++ leBytes 48 e.hash.toNat

/-- The unacknowledged entries of the mirror show in SEC_AUDIT_STATUS. -/
def Block.showUnacked (b : Block) : Block :=
  b.setFld (r0 .SEC_AUDIT_STATUS) F.SEC_AUDIT_STATUS_UNACKED (b.sec.mirror.filter (fun e => decide (b.sec.acked ≤ e.seq))).length

/-- AUDIT_READ (Table 16.6): up to 31 entries from a SEQ, from the mirror or the chip. -/
def execAuditRead (r : Requester) (s : State) : Host.Outcome State Fault Refusal :=
  s.run (fun b => b.mbx r 0x0050 needOI (· = 8) (fun pl b =>
    let from_ := leAt pl 0 8
    let all := b.sec.mirror ++ b.sec.audit.filter (fun e => !b.sec.mirror.any (fun m => m.seq = e.seq))
    (0, (((all.filter (fun e => decide (from_ ≤ e.seq))).take 31).map AuditEntry.bytes).flatten, b)))

/-- AUDIT_HEAD (Table 16.6): the latest SEQ and HASH and the signature of the identity key over device ID, SEQ and HASH; `k` is the secret number that the HKC
draws for the signature. -/
def execAuditHead (r : Requester) (k : BitVec 384) (s : State) : Host.Outcome State Fault Refusal :=
  s.run (fun b => b.mbx r 0x0051 needOI (· = 0) (fun _ b =>
    let head := leBytes 8 (b.sec.nextSeq - 1) ++ leBytes 48 b.sec.lastHash.toNat
    (0, head ++ ecdsaSign b.sec.idKey k.toNat (leBytes 2 b.devId.toNat ++ head), b)))

/-- AUDIT_ACK (Table 16.6): entries up to SEQ are exported. -/
def execAuditAck (r : Requester) (s : State) : Host.Outcome State Fault Refusal :=
  s.run (fun b => b.mbx r 0x0052 needI (· = 8) (fun pl b =>
    (0, [], ({ b with sec := { b.sec with acked := max b.sec.acked (min (leAt pl 0 8 + 1) b.sec.nextSeq) } }).showUnacked)))

/-- AUDIT_MIRROR_WRITE (R485, R486): the oldest entry not yet mirrored is appended; a full mirror first loses its oldest 512 entries. -/
def execAuditMirrorWrite (flashOk : Bool) (s : State) : Host.Outcome State Fault Refusal :=
  s.run (fun b =>
    let x := b.sec
    match (x.audit.drop (x.audit.length - x.unmirrored)).head? with
    | none => b
    | some e =>
      if ¬ flashOk then b.setBit (r0 .SEC_AUDIT_STATUS) F.SEC_AUDIT_STATUS_MIRROR_ERR
      else
        let full := decide (131072 ≤ x.mirror.length)
        let lost := x.mirror.take 512
        let b1 := { b with sec := { x with
          mirror := (if full then x.mirror.drop 512 else x.mirror) ++ [e], unmirrored := x.unmirrored - 1,
          audit := x.audit.drop (x.audit.length - max 4096 (x.unmirrored - 1)) } }
        let b2 := if x.unmirrored = 1 then b1.clrFld (r0 .SEC_AUDIT_STATUS) F.SEC_AUDIT_STATUS_MIRROR_ERR else b1
        let b3 := if full ∧ lost.any (fun l => decide (x.acked ≤ l.seq)) then
            ((b2.setBit (r0 .SEC_AUDIT_STATUS) F.SEC_AUDIT_STATUS_OVERWRITE).auditHk 0x70
              (leBytes 8 (lost.head?.map (·.seq)).get! ++ leBytes 8 (lost.getLast?.map (·.seq)).get!)).raise 8
          else b2
        b3.showUnacked)

/-! ## Calibration and fuses -/

/-- The user value of a calibration item (R493): an operator's replaces the installer's. -/
def Sec.user (x : Sec) (key : Nat) : Int := sInt 32 ((x.calOper.find key).getD (NMap.get 0 x.calInst key)).toNat

/-- Clamp an integer. -/
def clampInt (lo hi v : Int) : Int := if v < lo then lo else if hi < v then hi else v

/-- A signed byte of a threshold register. -/
def byteInt (w : Word) (lo : Nat) : Int := sInt 8 (bitsOf w.toNat lo 8)

/-- Recompute the effective value of an asymmetry (Table 16.7, Table 16.12). -/
def Block.calAsym (b : Block) (n : Nat) : Block :=
  let u := b.sec.user (65536 + n)
  let sum := sInt 32 (b.reg (r1 .SEC_ASYM_Fn n)).toNat + u
  let e := clampInt (-6553600) 6553600 sum
  ((b.setReg (r1 .SEC_ASYM_Un n) (BitVec.ofInt 32 u)).setReg (r1 .SEC_ASYM_En n) (BitVec.ofInt 32 e)).setFld
    (r1 .SEC_ASYM_STn n) F.SEC_ASYM_STn_CLAMPED (b2n (e ≠ sum))

/-- Recompute the effective deskew of a channel (R491, Table 14 status register). -/
def Block.calDeskew (b : Block) (n : Nat) : Block :=
  b.setFld (r1 .VPT_CHc_STAT n) F.VPT_CHc_STAT_DESKEW
    (uNat 16 (clampInt (-8000) 8000 (sInt 32 (NMap.get 0 b.sec.calFactory n).toNat + b.sec.user (131072 + n))))

/-- The sum of a channel's deskew lies beyond the clamp (R492). -/
def Block.deskewClamped (b : Block) (n : Nat) : Bool :=
  let v := sInt 32 (NMap.get 0 b.sec.calFactory n).toNat + b.sec.user (131072 + n)
  decide (v < -8000 ∨ 8000 < v)

/-- Recompute the effective thresholds (Table 16.13). -/
def Block.calTherm (b : Block) : Block :=
  let ut := b.sec.user 196608
  let uw := b.sec.user 262144
  let ft := byteInt (b.reg (r0 .SEC_THERM_F)) 0
  let fw := byteInt (b.reg (r0 .SEC_THERM_F)) 8
  let et := clampInt (ft - 30) ft (ft + ut)
  let ew := clampInt (fw - 30) fw (fw + uw)
  (b.setReg (r0 .SEC_THERM_U) (BitVec.ofNat 32 (uNat 8 uw * 256 + uNat 8 ut))).setReg (r0 .SEC_THERM_E)
    (BitVec.ofNat 32 (b2n (et ≠ ft + ut ∨ ew ≠ fw + uw) * 2 ^ 31 + uNat 8 ew * 256 + uNat 8 et))

/-- Recompute the effective value of the item with a key. -/
def Block.calShow (b : Block) (key : Nat) : Block :=
  if key / 65536 = 1 then b.calAsym (key % 65536)
  else if key / 65536 = 2 then b.calDeskew (key % 65536)
  else b.calTherm

/-- An item's effective value is clamped. -/
def Block.calClamped (b : Block) (key : Nat) : Bool :=
  if key / 65536 = 1 then b.bit (r1 .SEC_ASYM_STn (key % 65536)) F.SEC_ASYM_STn_CLAMPED
  else if key / 65536 = 2 then b.deskewClamped (key % 65536)
  else b.bit (r0 .SEC_THERM_E) F.SEC_THERM_E_CLAMPED

/-- The entries of a calibration block: key and value. -/
def calEntries (pl : List Byte) (n : Nat) : List (Nat × BitVec 32) :=
  (List.range n).map (fun i => (leAt pl (24 + 8 * i) 2 * 65536 + leAt pl (26 + 8 * i) 2, BitVec.ofNat 32 (leAt pl (28 + 8 * i) 4)))

/-- An entry lies inside the user range (Table 16.7). -/
def calInRange (e : Nat × BitVec 32) : Bool :=
  let i := e.1 % 65536
  let v := sInt 32 e.2.toNat
  if e.1 / 65536 = 1 then decide (i ≤ 16 ∧ -6553600 ≤ v ∧ v ≤ 6553600)
  else if e.1 / 65536 = 2 then decide (i ≤ 4095 ∧ -8000 ≤ v ∧ v ≤ 8000)
  else if e.1 / 65536 = 3 ∨ e.1 / 65536 = 4 then decide (i = 0 ∧ -30 ≤ v ∧ v ≤ 0)
  else false

/-- An entry is within the caller's right (Table 16.1): all items for an installer, deskew of channels of its partitions for an operator. -/
def Block.calRight (b : Block) (r : Requester) (key : Nat) : Bool :=
  decide (b.roleOf r = .inst) || (decide (key / 65536 = 2) && (match ownerField (b.reg (r1 .VPT_CHc_OWN (key % 65536))) with
    | some p => b.operCovers r p
    | none => false))

/-- The signature of a calibration block verifies under the key of the caller's session (R491). -/
def Block.calSigned (b : Block) (r : Requester) (pl : List Byte) : Bool :=
  let n := pl.length - 96
  (b.roleKey (b.roleOf r) (b.slotOf r)).any (fun k => sigVerifies k (pl.drop n) (pl.take n))

/-- Saved calibration blocks are verified again at boot and applied (R493); the values of others stay as the reset left them (R494). -/
def Block.calBoot (b : Block) (blocks : List (List Byte)) : Block :=
  let good := blocks.filter (fun pl => (b.roleKey .inst 0).any (fun k => sigVerifies k (pl.drop (pl.length - 96)) (pl.take (pl.length - 96))))
  let es := good.flatMap (fun pl => calEntries pl (leAt pl 20 2))
  let b1 : Block := { b with sec := { b.sec with
    calInst := es.foldl (fun m e => NMap.put m e.1 e.2) b.sec.calInst, calBlocks := b.sec.calBlocks ++ good.filter (fun l => decide (l ∉ b.sec.calBlocks)) } }
  let b2 := forEach es b1 (fun e x => x.calShow e.1)
  b2.raiseIf (es.any (fun e => b2.calClamped e.1)) 11

/-- CAL_APPLY (R491, R492). -/
def execCalApply (r : Requester) (bad : Bool) (s : State) : Host.Outcome State Fault Refusal :=
  s.run (fun b => b.mbx r 0x0070 needOI (120 ≤ ·) (fun pl b0 =>
    let b := b0.keyUse bad
    let inst := decide (b.roleOf r = .inst)
    let seq := leAt pl 16 4
    let n := leAt pl 20 2
    let es := calEntries pl n
    let slotKey := if inst then 0 else 1 + b.slotOf r
    if pl.length ≠ 120 + 8 * n then (2, [], b)
    else if leAt pl 0 4 = 0x4143594C ∧ leAt pl 4 2 = 0x0100 ∧ leAt pl 22 2 = 0 ∧ b.calSigned r pl ∧ leAt pl 8 8 = Config.serial.toNat
        ∧ leAt pl 6 1 = (if inst then 1 else 2) ∧ (inst ∨ leAt pl 7 1 = b.slotOf r)
        ∧ (b.sec.calSeq.find slotKey).all (fun q => decide (q < seq))
        ∧ es.all (fun e => calInRange e && b.calRight r e.1) then
      let x := b.sec
      let x1 : Sec := { x with calSeq := NMap.put x.calSeq slotKey seq }
      let x2 : Sec := if inst then { x1 with
          calBlocks := x.calBlocks ++ [pl], calInst := es.foldl (fun m e => NMap.put m e.1 e.2) x.calInst, calOper := es.foldl (fun m e => NMap.erase m e.1) x.calOper }
        else { x1 with calOper := es.foldl (fun m e => NMap.put m e.1 e.2) x.calOper }
      let b1 : Block := { b with sec := x2 }
      let b2 := forEach es b1 (fun e x => x.calShow e.1)
      let b3 := (b2.audit r 0x30 0 (leBytes 4 seq ++ leBytes 2 n)).raise 10
      (0, [], b3.raiseIf (es.any (fun e => b3.calClamped e.1)) 11)
    else (Config.calRefused.toNat, [], b)))

/-- The factory value of an item. -/
def Block.calFactoryOf (b : Block) (key : Nat) : BitVec 32 :=
  if key / 65536 = 1 then b.reg (r1 .SEC_ASYM_Fn (key % 65536))
  else if key / 65536 = 2 then NMap.get 0 b.sec.calFactory (key % 65536)
  else BitVec.ofInt 32 (byteInt (b.reg (r0 .SEC_THERM_F)) (if key / 65536 = 3 then 0 else 8))

/-- The effective value of an item. -/
def Block.calEffective (b : Block) (key : Nat) : BitVec 32 :=
  if key / 65536 = 1 then b.reg (r1 .SEC_ASYM_En (key % 65536))
  else if key / 65536 = 2 then BitVec.ofInt 32 (sInt 16 (b.fld (r1 .VPT_CHc_STAT (key % 65536)) F.VPT_CHc_STAT_DESKEW))
  else BitVec.ofInt 32 (byteInt (b.reg (r0 .SEC_THERM_E)) (if key / 65536 = 3 then 0 else 8))

/-- CAL_READ (Table 16.6): the values of up to 496 items, named by ITEM and INDEX (log entry 10). -/
def execCalRead (r : Requester) (s : State) : Host.Outcome State Fault Refusal :=
  s.run (fun b => b.mbx r 0x0071 needOI (fun n => n % 4 = 0 && decide (n ≤ 1984)) (fun pl b =>
    (0, ((List.range (pl.length / 4)).map (fun i =>
      let key := leAt pl (4 * i) 2 * 65536 + leAt pl (4 * i + 2) 2
      Config.calRecord (b.calFactoryOf key) (BitVec.ofInt 32 (b.sec.user key)) (b.calEffective key))).flatten, b)))

/-- CAL_CLEAR (Table 16.6): the caller's user values become 0; an operator's are those in force on the channels within its scope, and a reset of the
channel's partition still restores the installer's (R493). -/
def execCalClear (r : Requester) (s : State) : Host.Outcome State Fault Refusal :=
  s.run (fun b => b.mbx r 0x0072 needOI (· = 0) (fun _ b =>
    let inst := decide (b.roleOf r = .inst)
    let keys := (if inst then b.sec.calInst else b.sec.calOper.filter (fun e => b.calRight r e.1)).map (·.1)
    let b1 := { b with sec := if inst then { b.sec with calInst := [], calBlocks := [] }
      else { b.sec with calOper := keys.foldl (fun m k => NMap.put m k 0) b.sec.calOper } }
    (0, [], (forEach keys b1 (fun k x => x.calShow k)).audit r 0x31 0 [])))

/-- FUSE_WRITE (Table 16.6): programs one fuse row, BAD_STATE on a programmed row; the row number is bytes 0 to 3 (log entry 10). -/
def execFuseWrite (r : Requester) (s : State) : Host.Outcome State Fault Refusal :=
  s.run (fun b => b.mbx r 0x0080 needM (4 ≤ ·) (fun pl b =>
    let row := leAt pl 0 4
    if (b.sec.fuses.find row).isSome then (4, [], b)
    else (0, [], (({ b with sec := { b.sec with fuses := b.sec.fuses.put row (pl.drop 4) } }).audit r 0x40 0 (leBytes 4 row)).raise 12)))

end Sys2Proof.Machine
end

