-- ==== Sys2Proof/Machine/DmaCtl.lean ====
section
/-!
DEFINITION. DMA channels: commands, states, objects, errors, slots and the program store (R353 to R360, R363, R367, R368, R371, R372).
-/
namespace Sys2Proof.Machine

/-- STATE of channel n (Table 11.1). -/
def Block.dmaState (b : Block) (n : Nat) : Nat := b.fld (r1 .DMA_CHn_STATUS n) F.DMA_CHn_STATUS_STATE
/-- Put a state. -/
def Block.dmaSetState (b : Block) (n v : Nat) : Block := b.setFld (r1 .DMA_CHn_STATUS n) F.DMA_CHn_STATUS_STATE v
/-- PC of channel n. -/
def Block.dmaPc (b : Block) (n : Nat) : Nat := b.fld (r1 .DMA_CHn_STATUS n) F.DMA_CHn_STATUS_PC
/-- The channel was started by a TDU dispatch. -/
def Block.dmaTask (b : Block) (n : Nat) : Bool := b.bit (r1 .DMA_CHn_STATUS n) F.DMA_CHn_STATUS_TASK
/-- The channel is busy (R357). -/
def Block.dmaBusy (b : Block) (n : Nat) : Bool := decide (b.dmaState n = 1 ∨ b.dmaState n = 2 ∨ b.dmaState n = 3)

/-- Set a flag of DMA_CHn_EVT (R372): event 64 + n when it rises while enabled; HALF and FULL raise it again. -/
def Block.dmaFlag (b : Block) (n : Nat) (f en : Fld) (again : Bool) : Block :=
  let k := r1 .DMA_CHn_EVT n
  (b.setBit k f).raiseIf (b.bit k en && (again || !b.bit k f)) (64 + n)

/-- Retire the channel's task, when it has one (R370, R371). -/
def Block.dmaRetire (b : Block) (n : Nat) (result : BitVec 64) (fault : Bool) : Block :=
  if b.dmaTask n then
    let d := b.dmaCh n
    match b.tdu.store.find? (fun e => decide (e.state = 2 ∧ e.chan = d.taskChan ∧ e.seq = d.taskSeq)) with
    | some e => b.tduRetire e result fault
    | none => b
  else b

/-- The result of a task that ended in error: the manual gives the status FAULT and no value; a free value (log entry 2). -/
def Block.dmaFail (b : Block) (n : Nat) : Block := if b.dmaTask n then (b.dmaRetire n (b.fresh 64) true).draw else b

/-- A fragment of channel n that the TDU has not taken in is withdrawn. -/
def Block.sigDrop (b : Block) (n : Nat) : Block :=
  { b with tdu := { b.tdu with queue := b.tdu.queue.filter (fun f => decide (f.2.src ≠ .dma n)) } }

/-- End the channel with an error code once its writes are complete: IDLE for ABORTED and PART_RESET (R360), ERROR for every other (R371). -/
def Block.dmaFinish (b : Block) (n code : Nat) : Block :=
  let k := r1 .DMA_CHn_STATUS n
  let b1 := ((b.modDma n (fun d => { d with
    ending := none, deadline := none, hostOp := none, stale := d.stale + b2n d.hostOp.isSome, move := none, sig := none })).sigDrop n).setReg
      (r1 .DMA_CHn_WAITOBJ n) 0
  let b2 := b1.setFld k F.DMA_CHn_STATUS_ERR code
  if code = 0xB then (b2.dmaFail n).dmaSetState n 0
  else if code = 0xC then b2.dmaSetState n 0
  else (((b2.dmaFlag n F.DMA_CHn_EVT_ERR F.DMA_CHn_EVT_ERR_EN false).dmaFail n).semBreak (0x200 + n)).dmaSetState n 4

/-- A channel error (R371): no further request; ERROR when every issued write is complete. A channel that already ends keeps the code with which it does. -/
def Block.dmaError (b : Block) (n code : Nat) : Block :=
  if (b.dmaCh n).ending.isSome then b
  else if (b.dmaCh n).writes = 0 then b.dmaFinish n code
  else (b.modDma n (fun d => { d with ending := some code, sig := none })).sigDrop n

/-- Abort a channel (R360): its semaphores are released with BROKEN (R471); it ends when its writes are complete. -/
def Block.dmaAbort (b : Block) (n code : Nat) : Block :=
  if b.dmaBusy n then ((b.modDma n (fun d => { d with ending := some code, deadline := none, sig := none })).sigDrop n).semBreak (0x200 + n) else b

/-- A command is accepted: CMD_REFUSED clears. -/
def Block.dmaAccepted (b : Block) (n : Nat) : Block := b.clrFld (r1 .DMA_CHn_STATUS n) F.DMA_CHn_STATUS_CMD_REFUSED

/-- A command is refused (R359). -/
def Block.dmaRefuse (b : Block) (n : Nat) : Block := b.setBit (r1 .DMA_CHn_STATUS n) F.DMA_CHn_STATUS_CMD_REFUSED

/-- A command of a channel of scope partition p is served to an operator whose scope covers p only (R363); ABORT and CLEAR to an installer too. -/
def Block.dmaCmdOk (b : Block) (r : Requester) (n : Nat) (instToo : Bool) : Bool :=
  b.dmaModule n || b.operCovers r (b.dmaPart n) || (instToo && decide (b.roleOf r = .inst))

/-- A write of one command bit of DMA_CHn_CMD. -/
def Block.dmaCmd (b : Block) (r : Requester) (n : Nat) (v : Word) (instToo : Bool) (f : Block → Block) : Block :=
  b.hostWrite r (r1 .DMA_CHn_CMD n) v (fun x =>
    if x.dmaCmdOk r n instToo then f x else x.auditRefused r (r1 .DMA_CHn_CMD n).addr v)

/-- START at a slot (R358, R359). -/
def Block.dmaStart (b : Block) (n slot : Nat) : Block :=
  if b.dmaIdle n then ((b.modDma n (fun d => { d with ending := none, deadline := none })).dmaBegin n slot false).dmaAccepted n else b.dmaRefuse n

/-- The trigger object of DMA_CHn_TRIG: CLASS 4 to 7 act as 0 (Table 11.12). -/
def Block.trigClass (b : Block) (n : Nat) : Nat :=
  if 4 ≤ b.fld (r1 .DMA_CHn_TRIG n) F.DMA_CHn_TRIG_CLASS then 0 else b.fld (r1 .DMA_CHn_TRIG n) F.DMA_CHn_TRIG_CLASS

/-- The trigger object's number. -/
def Block.trigNum (b : Block) (n : Nat) : Nat := b.fld (r1 .DMA_CHn_TRIG n) F.DMA_CHn_TRIG_NUMBER

/-- Show the object waited on. -/
def Block.showObj (b : Block) (n cls num : Nat) : Block := b.setReg (r1 .DMA_CHn_WAITOBJ n) (BitVec.ofNat 32 (cls * 2 ^ 16 + num % 2 ^ 16))

/-- Enter ARMED (R367). -/
def Block.dmaEnterArmed (b : Block) (n : Nat) : Block := (b.dmaSetState n 1).showObj n (b.trigClass n) (b.trigNum n)

/-- A write of DMA_CHn_TRIG; an ARMED channel waits on the object that it names (R367). -/
def Block.trigWrite (b : Block) (n : Nat) (v : Word) : Block :=
  let b1 := b.writeCodes (r1 .DMA_CHn_TRIG n) v
  if b1.dmaState n = 1 then b1.showObj n (b1.trigClass n) (b1.trigNum n) else b1

/-- ARM (R359). -/
def Block.dmaArm (b : Block) (n : Nat) : Block := if b.dmaIdle n then (b.dmaEnterArmed n).dmaAccepted n else b.dmaRefuse n

/-- CLEAR (R359). -/
def Block.dmaClear (b : Block) (n : Nat) : Block := if b.dmaState n = 4 then (b.dmaSetState n 0).dmaAccepted n else b.dmaRefuse n

/-- DMA_START (R358). -/
def execDmaStart (r : Requester) (n : BitVec 6) (slot : BitVec 10) (s : State) : Host.Outcome State Fault Refusal :=
  s.run (fun b => b.dmaCmd r n.toNat (BitVec.ofNat 32 (slot.toNat * 2 ^ 16 + 1)) false (·.dmaStart n.toNat slot.toNat))

/-- DMA_ARM (R359). -/
def execDmaArm (r : Requester) (n : BitVec 6) (s : State) : Host.Outcome State Fault Refusal :=
  s.run (fun b => b.dmaCmd r n.toNat 2 false (·.dmaArm n.toNat))

/-- DMA_ABORT (R360). -/
def execDmaAbort (r : Requester) (n : BitVec 6) (s : State) : Host.Outcome State Fault Refusal :=
  s.run (fun b => b.dmaCmd r n.toNat 4 true (fun x => if x.dmaBusy n.toNat then (x.dmaAbort n.toNat 0xB).dmaAccepted n.toNat else x))

/-- DMA_CLEAR (R359). -/
def execDmaClear (r : Requester) (n : BitVec 6) (s : State) : Host.Outcome State Fault Refusal :=
  s.run (fun b => b.dmaCmd r n.toNat 8 true (·.dmaClear n.toNat))

/-- ABORT_COMPLETE (R360): the issued writes are complete, and the channel enters IDLE. -/
def execAbortComplete (n : BitVec 6) (s : State) : Host.Outcome State Fault Refusal :=
  s.run (fun b =>
    match (b.dmaCh n.toNat).ending with
    | some code => if (b.dmaCh n.toNat).writes = 0 ∧ (code = 0xB ∨ code = 0xC) then b.dmaFinish n.toNat code else b
    | none => b)

/-- Go on at an instruction. -/
def Block.dmaGoto (b : Block) (n pc : Nat) : Block := b.setFld (r1 .DMA_CHn_STATUS n) F.DMA_CHn_STATUS_PC pc

/-- The instruction is done: the next one, or PC_RANGE beyond the store (Table 11.5). -/
def Block.dmaNext (b : Block) (n : Nat) : Block :=
  if b.dmaPc n = 16383 then b.dmaError n 3 else b.dmaGoto n (b.dmaPc n + 1)

/-! ## Acknowledgements (R365) -/

/-- A field of an instruction. -/
def insFld (i : BitVec 128) (lo len : Nat) : Nat := bitsOf i.toNat lo len

/-- A base register. -/
def Block.dmaBase (b : Block) (n k : Nat) : Nat := b.reg64 (r2 .DMA_CHn_Bk_LO n k) (r2 .DMA_CHn_Bk_HI n k)

/-- Add to a base register, modulo 2^64. -/
def Block.baseAdd (b : Block) (n k : Nat) (len : Int) : Block :=
  b.setReg64 (r2 .DMA_CHn_Bk_LO n k) (r2 .DMA_CHn_Bk_HI n k) (((b.dmaBase n k : Int) + len) % 2 ^ 64).toNat

/-- SINC and DINC of a MOVE, forwards or, for one that has failed, back. -/
def Block.moveInc (b : Block) (n : Nat) (i : BitVec 128) (sign : Int) : Block :=
  let len : Int := sign * ((insFld i 80 24 : Int) + 1)
  let b1 := if i.getLsbD 113 then b.baseAdd n (insFld i 116 2) len else b
  if i.getLsbD 112 then b1.baseAdd n (insFld i 114 2) len else b1

/-- The MOVE of channel n is complete: SINC, DINC and the next instruction. -/
def Block.moveEnd (b : Block) (n : Nat) (i : BitVec 128) : Block := ((b.moveInc n i 1).modDma n (fun d => { d with move := none })).dmaNext n

/-- The MOVE of channel n with POST = 0 has issued every write (R365). -/
def Dma.held (d : Dma) : Option (BitVec 128) := d.move.bind (fun m => if m.pos = m.len then some m.ins else none)

/-! ## Objects (Table 11.4) -/

/-- The object of a class and number is signalled for channel n. -/
def Block.signalled (b : Block) (n cls num : Nat) (pol : Bool) : Bool :=
  match cls with
  | 0 => true
  | 1 => b.evtPend (num % 256)
  | 2 => bitAt (b.reg64 (r1 .DMA_CHn_DONEM_LO n) (r1 .DMA_CHn_DONEM_HI n)) (num % 64)
  | 3 => (b.dmaCh n).timers.getLsbD (num % 8)
  | 4 => (b.reg (r1 .CLU_SP_STATUS (bitsOf num 4 8))).getLsbD (num % 4) == pol
  | _ => false

/-- The effect of the completion of a wait. -/
def Block.consume (b : Block) (n cls num : Nat) (pol : Bool) : Block :=
  match cls with
  | 1 => if pol then b.clrPend (num % 256) else b
  | 2 => b.setReg64 (r1 .DMA_CHn_DONEM_LO n) (r1 .DMA_CHn_DONEM_HI n)
      ((b.reg64 (r1 .DMA_CHn_DONEM_LO n) (r1 .DMA_CHn_DONEM_HI n)) &&& (2 ^ 64 - 1 - 2 ^ (num % 64)))
  | 3 => b.modDma n (fun d => { d with timers := d.timers &&& ~~~ (BitVec.ofNat 8 (2 ^ (num % 8))) })
  | _ => b

/-- Class and number shown in WAITOBJ. -/
def Block.waitObj (b : Block) (n : Nat) : Nat × Nat :=
  (b.fld (r1 .DMA_CHn_WAITOBJ n) F.DMA_CHn_WAITOBJ_CLASS, b.fld (r1 .DMA_CHn_WAITOBJ n) F.DMA_CHn_WAITOBJ_NUMBER)

/-- DMA_TRIGGER_START (R367): an ARMED channel whose trigger object is signalled starts at its trigger slot. -/
def execDmaTriggerStart (n : BitVec 6) (unit : Ecc) (s : State) : Host.Outcome State Fault Refusal :=
  s.run (fun b =>
    let n := n.toNat
    let cls := b.trigClass n
    let num := b.trigNum n
    if b.dmaState n = 1 ∧ (b.dmaCh n).ending = none ∧ b.signalled n cls num false ∧ CUnit.dma ∉ b.flt.refusing then
      b.unitUse .dma n unit (fun x => (x.consume n cls num false).dmaBegin n (x.fld (r1 .DMA_CHn_TRIG n) F.DMA_CHn_TRIG_SLOT) false)
    else b)

/-- DMA_WAIT_COMPLETE (R367): the object is signalled, the channel returns to RUN; an ABORT that has come first stands (R359). -/
def execDmaWaitComplete (n : BitVec 6) (unit : Ecc) (s : State) : Host.Outcome State Fault Refusal :=
  s.run (fun b =>
    let n := n.toNat
    let o := b.waitObj n
    let pol := (b.dmaCh n).waitPol
    if b.dmaState n = 3 ∧ (b.dmaCh n).ending = none ∧ b.signalled n o.1 o.2 pol then
      b.unitUse .dma n unit (fun x =>
        ((((x.consume n o.1 o.2 pol).modDma n (fun d => { d with deadline := none })).setReg (r1 .DMA_CHn_WAITOBJ n) 0).dmaSetState n 2).dmaNext n)
    else b)

/-- DMA_WAIT_TIMEOUT (R368): TMO elapsed before the object was signalled. -/
def execDmaWaitTimeout (n : BitVec 6) (s : State) : Host.Outcome State Fault Refusal :=
  s.run (fun b =>
    let n := n.toNat
    let o := b.waitObj n
    match (b.dmaCh n).deadline with
    | some d => if b.dmaState n = 3 ∧ (b.dmaCh n).ending = none ∧ ¬ (b.tick - d).getLsbD 31 ∧ ¬ b.signalled n o.1 o.2 (b.dmaCh n).waitPol then
        b.dmaError n 9 else b
    | none => b)

/-! ## Slots and the program store -/

/-- The PC of a channel that executes lies in slot s. -/
def Block.slotBusy (b : Block) (s : Nat) : Bool :=
  (List.range 64).any (fun n => decide ((b.dmaState n = 2 ∨ b.dmaState n = 3) ∧ b.dmaPc n / 16 = s))

/-- The new owner takes slot s: its 16 instructions are written as zero (R363). -/
def Block.slotTake (b : Block) (s : Nat) (w : Word) : Block :=
  ({ b with prog := b.prog.clearRange (64 * s) 64, slotNext := b.slotNext.erase s }).setReg (r1 .DMA_SLOT_OWNs s)
    (w &&& 0x800000FF#32)

/-- A write of DMA_SLOT_OWNs (R356): one that leaves the owner as it is, FREE or a partition, only stores its fields. -/
def Block.slotWrite (b : Block) (s : Nat) (v : Word) : Block :=
  let w := v &&& 0x800000FF#32
  let k := r1 .DMA_SLOT_OWNs s
  let owner := if w.getLsbD 31 then some (w.toNat % 256) else none
  if b.slotOwner s = owner ∧ b.bit k F.DMA_SLOT_OWNs_HANDOVER = false then b.setReg k w
  else if b.slotBusy s then
    ({ b with slotNext := b.slotNext.put s w }).setBit (r1 .DMA_SLOT_OWNs s) F.DMA_SLOT_OWNs_HANDOVER
  else b.slotTake s w

/-- DMA_SLOT_OWN_WRITE (R356). -/
def execDmaSlotOwnWrite (r : Requester) (k : BitVec 10) (v : Word) (s : State) : Host.Outcome State Fault Refusal :=
  s.run (fun b => b.hostWrite r (r1 .DMA_SLOT_OWNs k.toNat) v (·.slotWrite k.toNat v))

/-- SLOT_HANDOVER_END (R356). -/
def execSlotHandoverEnd (k : BitVec 10) (s : State) : Host.Outcome State Fault Refusal :=
  s.run (fun b =>
    match b.slotNext.find k.toNat with
    | some w => if b.slotBusy k.toNat then b else b.slotTake k.toNat w
    | none => b)

/-- A requester reaches the program store of slot s (R355): a virtual function its own slots only. -/
def Block.progReaches (b : Block) (r : Requester) (s : Nat) : Bool :=
  match r with
  | .pf0 => decide (b.pw.phase = .ready)
  | .vf v => decide (b.pw.phase = .ready) && b.vfExists v.toNat && !b.safeMode && decide (b.slotOwner s = some v.toNat)
  | .dma _ => decide (b.pw.phase = .ready)
  | _ => false

/-- A write of a word of the program store (R355, R363). -/
def Block.progWrite (b : Block) (r : Requester) (w : Nat) (v : Word) : Block :=
  let s := w / 64
  if b.progReaches r s then
    if (match b.slotOwner s with | some p => b.operCovers r p | none => roleIn (b.roleOf r) 3) then
      { b with prog := NMap.set 0 b.prog w v }
    else b.auditRefused r (0x440000 + 4 * w) v
  else b

/-- A write of the program window from word w up (R452). -/
def Block.progStore (b : Block) (r : Requester) (w : Nat) (l : List Word) : Block :=
  forEach ((List.range l.length).zip l) b (fun e x => x.progWrite r (w + e.1) e.2)

/-- PROGRAM_STORE_WRITE (R355). -/
def execProgramStoreWrite (r : Requester) (w : BitVec 16) (words : List Word) (s : State) : Host.Outcome State Fault Refusal :=
  s.run (·.progStore r w.toNat words)

/-- A write of DMA_CHn_CFG (R363): PART only in IDLE (Table 11.8); a change clears the bases and the result. -/
def Block.dmaCfg (b : Block) (n : Nat) (v : Word) : Block :=
  let k := r1 .DMA_CHn_CFG n
  let old := b.reg k
  let w := if b.dmaState n = 0 then v &&& 0x800000FF#32 else (v &&& 0x80000000#32) ||| (old &&& 0xFF#32)
  let b1 := b.setReg k w
  if w = old then b1
  else (forEach (List.range 4) b1 (fun i x => x.setReg64 (r2 .DMA_CHn_Bk_LO n i) (r2 .DMA_CHn_Bk_HI n i) 0)).setReg64
    (r1 .DMA_CHn_RESULT_LO n) (r1 .DMA_CHn_RESULT_HI n) 0

/-- DMA_CFG_WRITE (R363). -/
def execDmaCfgWrite (r : Requester) (n : BitVec 6) (v : Word) (s : State) : Host.Outcome State Fault Refusal :=
  s.run (fun b => b.hostWrite r (r1 .DMA_CHn_CFG n.toNat) v (·.dmaCfg n.toNat v))

end Sys2Proof.Machine
end

