-- ==== Sys2Proof/Machine/Quiesce.lean ====
section
/-!
DEFINITION. The quiescence detector of the transactor dispatch unit and its snapshot of the wait-for relation (R348, R349).
-/
namespace Sys2Proof.Machine

/-- TDU_QCTRL.WINDOW in microseconds: 0 acts as 1. -/
def Block.quietWindow (b : Block) : Nat := max 1 (b.fld (r0 .TDU_QCTRL) F.TDU_QCTRL_WINDOW)

/-- Timer k is armed with an expiry within the window. -/
def Block.tmrWithin (b : Block) (k : Nat) : Bool :=
  b.tmrArmed k && ((NMap.get {} b.tu.tmr k).late.isSome
    || decide ((NMap.get {} b.tu.tmr k).next ≤ b.units + b.quietWindow * 1000 * 65536))

/-- The conditions of R348 that a state shows, with the spilled entries, which are WAITING (R323, R346): a fragment and an event reset the time for which
they have held. -/
def Block.quiet (b : Block) : Bool :=
  !b.tdu.store.any (fun e => decide (e.state = 1))
    && (List.range 64).all (fun n => decide (b.dmaState n ≠ 2))
    && !(List.range 8).any b.tmrWithin
    && (b.tdu.store.any (fun e => decide (e.state = 0)) || !b.tdu.spilled.isEmpty)

/-! ## The snapshot (Table 10.5) -/

/-- A TYPE 1 record: a WAITING entry on chip. -/
def Block.snapWaiting (b : Block) (e : Entry) : List Byte :=
  [1, BitVec.ofNat 8 e.prio] ++ leBytes 2 e.chan ++ leBytes 2 e.tag ++ leBytes 1 e.need.toNat ++ leBytes 1 e.have_.toNat
    ++ leBytes 4 (b.tick - e.born).toNat ++ leBytes 4 0

/-- A TYPE 2 record: a DMA channel that waits, ARMED included (R357). -/
def Block.snapDma (b : Block) (n : Nat) : List Byte :=
  [2, BitVec.ofNat 8 n] ++ leBytes 2 (b.waitObj n).1 ++ leBytes 2 (b.waitObj n).2 ++ leBytes 10 0

/-- The TYPE 3 records of an entry: its owed replies. -/
def snapOwed (e : Entry) : List (List Byte) :=
  e.owed.map (fun o => [3, BitVec.ofNat 8 o.2.2.1] ++ leBytes 2 e.chan ++ leBytes 2 e.tag ++ leBytes 1 o.1 ++ leBytes 1 o.2.1 ++ leBytes 8 0)

/-- A TYPE 4 record: the spilled entries of a channel. -/
def snapSpilled (chan count : Nat) : List Byte := [4, 0] ++ leBytes 2 chan ++ leBytes 4 0 ++ leBytes 4 count ++ leBytes 4 0

/-- All records, by TYPE. -/
def Block.snapRecords (b : Block) : List (List Byte) :=
  (b.tdu.store.filter (fun e => decide (e.state = 0))).map b.snapWaiting
    ++ ((List.range 64).filter (fun n => decide (b.dmaState n = 1 ∨ b.dmaState n = 3))).map b.snapDma
    ++ b.tdu.store.flatMap snapOwed
    ++ ((List.range 1024).filter (fun n => decide (b.tdu.spilledOf n ≠ 0))).map (fun n => snapSpilled n (b.tdu.spilledOf n))

/-- The records that fit into a bank of 1 MiB after the head. -/
def snapRoom : Nat := 65532

/-- The bytes of the snapshot: the head of 64 bytes, then the records. -/
def Block.snapBytes (b : Block) : List Byte :=
  let l := b.snapRecords.take snapRoom
  leBytes 12 b.now.toNat ++ leBytes 4 l.length ++ leBytes 48 0 ++ l.flatten

/-- The snapshot is written into bank BANK (R349): a bank that the TDU does not own, or that cannot be written, is not; one that is zeroed or wakes takes
it when it serves again. -/
def Block.snapshot (b : Block) : Block :=
  let k := b.fld (r0 .TDU_QCTRL) F.TDU_QCTRL_BANK
  let b1 := if snapRoom < b.snapRecords.length then b.setBit (r0 .TDU_STATUS) F.TDU_STATUS_SNAP_TRUNC else b
  ({ b1 with tdu := { b1.tdu with snap := some (k, b.snapBytes) } }).snapTry

/-- The conditions of R348 have held for the window, and a fragment or a dispatch has come since the last event. -/
def Block.quiescent (b : Block) : Bool :=
  b.bit (r0 .TDU_QCTRL) F.TDU_QCTRL_QEN && b.tdu.armed && b.quiet && decide (250 * b.quietWindow ≤ b.tdu.calm)

/-- STALL_QUIESCENT (R348, R349). -/
def execStallQuiescent (s : State) : Host.Outcome State Fault Refusal :=
  s.run (fun b =>
    if b.quiescent then
      (({ b with tdu := { b.tdu with armed := false } }).setBit (r0 .TDU_STATUS) F.TDU_STATUS_QUIESCENT |>.raise 128).snapshot
    else b)

end Sys2Proof.Machine
end

