-- ==== Sys2Proof/Machine/Faults.lean ====
section
/-!
DEFINITION. The handling of faults by level (R499), the checks of conserved quantities (R505, R506), and the fault registers (R507 to R509).
-/
namespace Sys2Proof.Machine

/-! ## Conserved quantities (Table 17.4) -/

/-- The partition of a cluster's fault, stopped at level P. -/
def Block.cluFault (b : Block) (cls unit c : Nat) : Block :=
  match b.cluPart c with
  | some p => b.faultP cls unit p
  | none => b

/-- Every semaphore is freed with BROKEN set. -/
def Block.semFreeAll (b : Block) : Block := forEach (List.range 64) b (fun n x => x.semFree n true)

/-- A check that has found an imbalance outside the allowed moments (R505, R506): a class 0x0C fault, whose UNIT is the code of the quantity. -/
def Block.imbalance (b : Block) (code unit : Nat) : Block :=
  match code with
  | 1 => b.credBad (unit % 16)
  | 2 => if b.fld (r0 .TDU_OCC) F.TDU_OCC_MOVING = 0 then b.unitFault .tdu 0x0C 2 else b
  | 3 =>
    let n := unit % 1024
    if b.bit (r1 .TDU_CHn_STATUS n) F.TDU_CHn_STATUS_RELEASING then b else b.faultP 0x0C 3 (b.fld (r1 .TDU_CHn_CFG n) F.TDU_CHn_CFG_PART)
  | 4 => if b.slotNext.isEmpty then b.unitFault .dma 0x0C 4 else b
  | 5 =>
    let x := unit % 16
    match b.strOwner x with
    | some p => if b.bit (r1 .TRC_Sx_STATUS x) F.TRC_Sx_STATUS_RELEASING then b else (b.faultP 0x0C 5 p).trcStop x
    | none => b
  | 6 => (b.unitFault .sem 0x0C 6).semFreeAll
  | 7 =>
    let k := unit % 64
    if b.ssp.next.isEmpty then b.faultU .ssp 0x0C 7 (b.hosted.filter (fun p => decide (b.sspOwner k = ⟨1, p⟩))) else b
  | 8 => b.cluFault 0x0C 8 (unit / 128 % 256)
  | _ => b

/-- CONSERVATION_CHECK (R505): whether the counts disagree is what the check finds (log entry 1). `unit` names the link, channel, stream or
bank, and for code 8 the cluster and FMP as UNIT of Table 17.10 does. -/
def execConservationCheck (code : BitVec 4) (unit : BitVec 15) (imbalance : Bool) (s : State) : Host.Outcome State Fault Refusal :=
  s.run (fun b => if imbalance then b.imbalance code.toNat unit.toNat else b)

/-! ## The HKC and the time unit -/

/-- The mailbox commands end without a response and MBX_STATUS clears (R473). -/
def Block.mbxClear (b : Block) : Block := { b with funcs := b.funcs.map (fun e => (e.1, { e.2 with mbxStatus := 0 })) }

/-- HKC_RESTART (R499, R471, R473): level H; the HKC's semaphores break, its commands end; the entry stands at the end of the restart. -/
def execHkcRestart (s : State) : Host.Outcome State Fault Refusal :=
  s.run (fun b => ((b.semBreak 0x3FF).mbxClear).faultEntry .h 0x0E 0 0)

/-- TIME_COUNTER_MISMATCH (R498): class 0x0D at level U. -/
def execTimeCounterMismatch (s : State) : Host.Outcome State Fault Refusal := s.run (·.unitFault .tu 0x0D 0)

/-! ## Registers -/

/-- The indices of the entries not yet acknowledged, oldest first. -/
def Block.fltOpen (b : Block) : List Nat :=
  let h := b.fld (r0 .FLT_STATUS) F.FLT_STATUS_HEAD
  (List.range b.flt.unacked).map (fun i => (h + 64 - b.flt.unacked + i) % 32)

/-- The level of an entry. -/
def Block.fltLevel (b : Block) (i : Nat) : Nat := b.fld (r1 .FLT_LOGi_W0 i) F.FLT_LOGi_W0_LEVEL

/-- FLT_CLR.RELEASE (R507): FAULT_N is released when no entry of level P, U or H is outstanding, and no level X fault. -/
def Block.fltRelease (b : Block) : Block :=
  if b.bit (r0 .FLT_STATUS) F.FLT_STATUS_X_HELD ∨ b.fltOpen.any (fun i => decide (b.fltLevel i = 1 ∨ b.fltLevel i = 3 ∨ b.fltLevel i = 4)) then b
  else { b.clrFld (r0 .FLT_STATUS) F.FLT_STATUS_FAULT_N_ACT with pw := { b.pw with faultN := false } }

/-- A write of FLT_CLR (Table 17.7). -/
def Block.fltClr (b : Block) (v : Word) : Block :=
  let b1 := if v.getLsbD 2 then b.clrFld (r0 .FLT_STATUS) F.FLT_STATUS_CORR_HIGH else b
  let b2 := if v.getLsbD 1 then b1.clrFld (r0 .FLT_STATUS) F.FLT_STATUS_OVF else b1
  if v.getLsbD 0 then b2.fltRelease else b2

/-- RELEASE (R507). -/
def execRelease (r : Requester) (s : State) : Host.Outcome State Fault Refusal := s.run (fun b => b.hostWrite r (r0 .FLT_CLR) 1 (·.fltClr 1))

/-- CLEAR_OVF (R508). -/
def execClearOvf (r : Requester) (s : State) : Host.Outcome State Fault Refusal := s.run (fun b => b.hostWrite r (r0 .FLT_CLR) 2 (·.fltClr 2))

/-- CLEAR_CORR (R509). -/
def execClearCorr (r : Requester) (s : State) : Host.Outcome State Fault Refusal := s.run (fun b => b.hostWrite r (r0 .FLT_CLR) 4 (·.fltClr 4))

/-- A write of FLT_STATUS.ACK_HEAD: the entries before it are acknowledged (R508). -/
def Block.fltAck (b : Block) (v : Word) : Block :=
  let a := F.FLT_STATUS_ACK_HEAD.get v
  let h := b.fld (r0 .FLT_STATUS) F.FLT_STATUS_HEAD
  { b.setFld (r0 .FLT_STATUS) F.FLT_STATUS_ACK_HEAD a with flt := { b.flt with unacked := min b.flt.unacked ((h + 32 - a) % 32) } }

/-- A warm reset (R512): outstanding entries that the audit log does not hold yet (level L) are copied there, then the log clears. -/
def Block.fltWarm (b : Block) : Block :=
  let b1 := forEach (b.fltOpen.filter (fun i => decide (b.fltLevel i = 2))) b (fun i x =>
    x.auditHk 0x60 (leBytes 1 (x.fld (r1 .FLT_LOGi_W0 i) F.FLT_LOGi_W0_CLASS) ++ leBytes 2 (x.fld (r1 .FLT_LOGi_W0 i) F.FLT_LOGi_W0_UNIT)))
  { b1.clrRegs (fun k => decide (k.name = .FLT_STATUS ∨ k.name = .FLT_CORR ∨ k.name = .FLT_LOGi_W0 ∨ k.name = .FLT_LOGi_TSw)) with flt := {} }

end Sys2Proof.Machine
end

