-- ==== Sys2Proof/Machine/Power.lean ====
section
/-!
DEFINITION. Clock and supply faults (R513 to R515, R533), Frost and Thaw but its end (R526 to R529), sensors and throttle (R530 to R535),
and the I3C/SMBus target (R461, R536).
-/
namespace Sys2Proof.Machine

/-- Raise a power event and set its bit of PWR_EVT (R535). -/
def Block.pwrEvt (b : Block) (f : Fld) (e : Nat) : Block := (b.setBit (r0 .PWR_EVT) f).raise e

/-! ## Clocks and supplies -/

/-- CLOCK_FAULT (R514): FAIL records the clocks, event 248, class 0x0F at level X; LINK_RESET goes out unless a PLL failed. -/
def execClockFault (fail : BitVec 7) (s : State) : Host.Outcome State Fault Refusal :=
  s.run (fun b =>
    if fail = 0 ∨ b.pw.phase = .por then b
    else
      let k := r0 .CLK_STATUS
      let b1 := b.setFld k F.CLK_STATUS_FAIL (b.fld k F.CLK_STATUS_FAIL ||| fail.toNat)
      (b1.pwrEvt F.PWR_EVT_CLOCK 248).faultX 0x0F 0 (!(fail.getLsbD 5 || fail.getLsbD 6)))

/-- REFERENCE_LOSS (R515): the root PLL enters holdover, and the level X actions complete. -/
def execReferenceLoss (s : State) : Host.Outcome State Fault Refusal :=
  s.run (fun b =>
    if b.bit (r0 .CLK_STATUS) F.CLK_STATUS_ROOT_LOCK then
      let k := r0 .CLK_STATUS
      ((((b.clrFld k F.CLK_STATUS_REF_OK).clrFld k F.CLK_STATUS_ROOT_LOCK).setBit k F.CLK_STATUS_HOLDOVER).pwrEvt F.PWR_EVT_CLOCK 248).faultX 0x0F 0 true
    else b)

/-- THERM_N is low while the warning stands or a class 0x11 fault is outstanding (R534). -/
def Block.trip (b : Block) : Block := ({ b with pw := { b.pw with trip := true, thermN := true } }).faultX 0x11 0 true

/-- RAIL_FAULT (R533, R541): event 249, class 0x11 at level X; while POR_N is low the cold reset stands and nothing of the episode is kept (R517, R541). -/
def execRailFault (s : State) : Host.Outcome State Fault Refusal :=
  s.run (fun b => if b.pw.phase = .por then b else (b.pwrEvt F.PWR_EVT_SUPPLY 249).trip)

/-! ## Frost -/

/-- PWR_STATUS.STATE (Table 18.9). -/
def Block.pwrState (b : Block) : Nat := b.fld (r0 .PWR_STATUS) F.PWR_STATUS_STATE

/-- Why an ENTER is refused, in the order of R526 from 1. -/
def Block.frostWhy (b : Block) : Option Nat :=
  if b.parts.any (fun e => decide (e.2.state = .running) && e.2.man.framePaths) then some 1
  else if (List.range 64).any (fun n => decide (b.dmaState n = 2)) then some 2
  else if 1 ≤ b.cfgState ∧ b.cfgState ≤ 5 then some 3
  else if b.march.isSome then some 4
  else if b.pw.phase ≠ .ready then some 5
  else if b.pwrState ≠ 0 then some 6
  else none

/-- ENTER (R526): Frost entry starts, or REFUSED with its WHY. -/
def Block.frostEnter (b : Block) : Block :=
  let k := r0 .PWR_STATUS
  match b.frostWhy with
  | some w => (b.setBit k F.PWR_STATUS_REFUSED).setFld k F.PWR_STATUS_WHY w
  | none => { b.setFld k F.PWR_STATUS_STATE 1 with pw := { b.pw with thawReq := false, byPacket := false } }

/-- A write of PWR_FROST: WAKE_TMR is kept; ENTER and EXIT together have no effect (Table 18.8). -/
def Block.frostWrite (b : Block) (v : Word) : Block :=
  if v.getLsbD 31 && v.getLsbD 30 then b
  else
    let b1 := b.writeCodes (r0 .PWR_FROST) v
    if v.getLsbD 31 then b1.frostEnter else if v.getLsbD 30 then b1.thawStart else b1

/-- FROST_ENTER (R526): WAKE_TMR keeps its value. -/
def execFrostEnter (r : Requester) (s : State) : Host.Outcome State Fault Refusal :=
  s.run (fun b => b.hostWrite r (r0 .PWR_FROST) (b.reg (r0 .PWR_FROST) ||| 0x80000000#32) (·.frostEnter))

/-- EXIT (R528). -/
def execFrostExit (r : Requester) (s : State) : Host.Outcome State Fault Refusal :=
  s.run (fun b => b.hostWrite r (r0 .PWR_FROST) (b.reg (r0 .PWR_FROST) ||| 0x40000000#32) (·.thawStart))

/-- A request of FMP n whose answer has not come when Frost begins, a message without its reply or a request whose packet was dropped, holds its response all
the same, so that DRAINED is 1 for every FMP (R527); what it holds is not stated, a free value (log entry 187). -/
def Block.fmpSettle (b : Block) (c n : Nat) : Block :=
  forEach (((b.clu c).fmpQ n).filter (fun e => decide (e.present = false))) b (fun e x =>
    (x.modClu c (fun y => y.setFmpQ n ((y.fmpQ n).map (fun f => if f.num = e.num then { f with present := true, data := x.fresh 72 } else f)))).draw)

/-- The FMP requests of a cluster complete (R152, R527). -/
def Block.fmpComplete (b : Block) (c : Nat) : Block :=
  forEach (List.range 4) { b with noc := { b.noc with fmpRetry := b.noc.fmpRetry.filter (fun e => decide (e.1 / 4096 ≠ c)) } } (fun n x =>
    (forEach ((x.clu c).fmpQ n) x (fun e y => y.fmpArrive c n e.cls [])).fmpSettle c n)

/-- Step 2 of R527 for one partition: results land, requests complete; then its clusters read FROST. -/
def Block.frostPart (b : Block) (p : Nat) : Block :=
  let b1 := forEach (b.part p).clusters b (fun c x => (x.landAll c).fmpComplete c)
  b1.modPart p (fun x => if x.state = .frost then x else { x with state := .frost, preFrost := x.state, slipping := false })

/-- FROST_ENTRY_COMPLETE (R527); a Thaw asked for during entry begins at once (R528). -/
def execFrostEntryComplete (s : State) : Host.Outcome State Fault Refusal :=
  s.run (fun b =>
    if b.pwrState = 1 then
      let b1 := ((forEach b.hosted b (fun p x => x.frostPart p)).sspFrost.trcEmpty).setFld (r0 .PWR_STATUS) F.PWR_STATUS_STATE 2
      if b.pw.thawReq then ({ b1 with pw := { b1.pw with thawReq := false } }).thawStart else b1
    else b)

/-! ## Sensors and throttle -/

/-- A signed byte. -/
def tempOf (v : BitVec 8) : Int := v.toInt

/-- The reading of a site: the higher of its pair (R530). -/
def siteTemp (e : BitVec 8 × BitVec 8) : Int := max (tempOf e.1) (tempOf e.2)

/-- The effective thresholds: throttle, warning (Table 16.13). -/
def Block.throtTemp (b : Block) : Int := byteInt (b.reg (r0 .SEC_THERM_E)) 0
/-- The effective warning threshold. -/
def Block.warnTemp (b : Block) : Int := byteInt (b.reg (r0 .SEC_THERM_E)) 8

/-- The trip temperature of site k: 110 °C on a chiplet, 100 °C on a stack (R533). -/
def tripTemp (k : Nat) : Int := if 4 ≤ k ∧ k ≤ 7 then 100 else 110

/-- The highest level of the throttle (Table 18.10). -/
def Block.maxDuty (b : Block) : Nat := min 12 (max 1 (b.fld (r0 .PWR_THROT) F.PWR_THROT_MAXDUTY))

/-- The power limit (Table 18.10). -/
def Block.powerLimit (b : Block) : Nat := min 750 (max 100 (b.fld (r0 .PWR_THROT) F.PWR_THROT_PLIMIT))

/-- Put DUTY; event 251 when it leaves 0 and when it returns (R531). -/
def Block.setDuty (b : Block) (d : Nat) : Block :=
  let old := b.fld (r0 .PWR_THROT) F.PWR_THROT_DUTY
  let b1 := b.setFld (r0 .PWR_THROT) F.PWR_THROT_DUTY d
  if decide (old = 0) == decide (d = 0) then b1 else b1.pwrEvt F.PWR_EVT_THROTTLE 251

/-- The temperature registers of site k (Table 18.11). -/
def Block.showTemp (b : Block) (k : Nat) (e : BitVec 8 × BitVec 8) : Block :=
  let key := r1 .PWR_TEMPk k
  let m := max (byteInt (b.reg key) 24) (siteTemp e)
  b.setReg key (BitVec.ofNat 32 (uNat 8 m * 2 ^ 24 + e.2.toNat * 256 + e.1.toNat))

/-- The latest reading of site k. -/
def Block.lastTemp (b : Block) (k : Nat) : Int := max (byteInt (b.reg (r1 .PWR_TEMPk k)) 0) (byteInt (b.reg (r1 .PWR_TEMPk k)) 8)

/-- Site k reaches its trip temperature with a reading (R533): its reading before lay below, or no trip has been taken since the last reset. -/
def Block.tripsAt (b : Block) (k : Nat) (e : BitVec 8 × BitVec 8) : Bool :=
  decide (tripTemp k ≤ siteTemp e) && (decide (b.lastTemp k < tripTemp k) || !b.pw.trip)

/-- Each reading of the sensor pairs (R530 to R534); `sites` are Q0 to Q3, M0 to M3 and the I/O chiplet, sensor A first. -/
def Block.sensorRead (b : Block) (sites : List (BitVec 8 × BitVec 8)) (power : Nat) : Block :=
  let l := (List.range 9).zip sites
  let b1 := forEach l b (fun e x => x.showTemp e.1 e.2)
  let k := r0 .PWR_POWER
  let b2 := (b1.setFld k F.PWR_POWER_NOW power).setFld k F.PWR_POWER_PEAK (max power (b1.fld k F.PWR_POWER_PEAK))
  let mism : List Nat := l.map (fun e => if 5 < (tempOf e.2.1 - tempOf e.2.2).natAbs then (b.pw.mism[e.1]?.getD 0) + 1 else 0)
  let hot := l.map (fun e => decide (b.throtTemp ≤ siteTemp e.2))
  let crossed := l.any (fun e => (hot[e.1]?.getD false) && !(b.pw.hot[e.1]?.getD false))
  let warn := l.any (fun e => decide (b.warnTemp ≤ siteTemp e.2))
  let calm := l.all (fun e => decide (siteTemp e.2 ≤ b.warnTemp - 3))
  let stands := warn || (b.pw.warned && !calm)
  let b3 := { b2 with pw := { b2.pw with mism := mism, hot := hot, throt := some b.throtTemp, warned := stands, thermN := b.pw.trip || stands } }
  let b4 := if warn && !b.pw.thermN then b3.pwrEvt F.PWR_EVT_WARN 250 else b3
  let b5 := if crossed then b4.setDuty (max 1 (b4.fld (r0 .PWR_THROT) F.PWR_THROT_DUTY)) else b4
  if l.any (fun e => decide (mism[e.1]?.getD 0 = 10) || b.tripsAt e.1 e.2) then b5.trip else b5

/-- SENSOR_READ (R530): the readings are what the sensors say (log entry 1); nothing is read while POR_N is low (R517). -/
def execSensorRead (sites : List (BitVec 8 × BitVec 8)) (power : BitVec 16) (s : State) : Host.Outcome State Fault Refusal :=
  s.run (fun b => if b.pw.phase = .por then b else b.sensorRead sites power.toNat)

/-- THROTTLE_UPDATE (R531): each 100 µs, from the latest readings and the threshold in force at them (R492). -/
def execThrottleUpdate (s : State) : Host.Outcome State Fault Refusal :=
  s.run (fun b =>
    let d := b.fld (r0 .PWR_THROT) F.PWR_THROT_DUTY
    let now := b.fld (r0 .PWR_POWER) F.PWR_POWER_NOW
    let sites := List.range 9
    let t := b.pw.throt.getD b.throtTemp
    if sites.any (fun k => decide (t ≤ b.lastTemp k)) || decide (b.powerLimit < now) then b.setDuty (min b.maxDuty (d + 1))
    else if sites.all (fun k => decide (b.lastTemp k < t - 3)) && decide (now + 20 ≤ b.powerLimit) then b.setDuty (min b.maxDuty (d - 1))
    else b.setDuty (min b.maxDuty d))

end Sys2Proof.Machine
end

