-- ==== Sys2Proof/Machine/Reset.lean ====
section
/-!
DEFINITION. Resets (R516 to R524), the boot sequence (R463 to R467, R518), the end of a Thaw (R528), Function Level Reset (R455),
PCIe configuration requests (R519), and the unlock of scan and debug (R487 to R489).
-/
namespace Sys2Proof.Machine

/-! ## Partition reset (R522, R523) -/

/-- The clusters of partition p on the module: committed ones, and those that a load has given to p. -/
def Block.cluOf (b : Block) (p : Nat) : List Nat :=
  (List.range 256).filter (fun c => decide (c ∈ (b.part p).clusters) || decide (b.cluPart c = some p) || decide (c ∈ (b.manBuf p).clusters))

/-- A register of a cluster that a reset of its partition clears: every RWL register, and the records of R87, R119, R157, R193 and R209. -/
def cluCleared (n : RegName) : Bool :=
  (n.info.rwl && decide (0x01000000 ≤ n.info.base)) || n ∈ [.CLU_ECC_CNT, .CLU_FAULT, .CLU_FAULT_INFO, .CLU_FAULT_DC, .CLU_SENT_LOG, .CLU_SENT_LOG_DC, .CLU_SENT_STATUS,
    .WE_STATUS, .WE_FAULT, .WE_FAULT_INFO, .WE_PC, .WE_LOOP_CTRL, .WE_LPn_ADDR, .WE_LPn_CNT,
    .CLU_MEM_ECC, .CLU_FMC_HIT, .CLU_FMC_MISS, .CLU_FMC_CTRL, .CLU_FMP_STATUSn, .CLU_MEM_FAULT, .CLU_MEM_FAULT_INFO,
    .HZ_OWNj, .HZ_WORST_LEN, .HZ_WORST_AT, .HZ_WORST_DC, .HZ_OVER]

/-- The stores of a cluster read zero, its cache is empty, its scrub pointers stand at word 0; the state port's lists and buffers stay. -/
def Cluster.resetStores (x : Cluster) : Cluster :=
  { sp := { x.sp with due := false, groups := 0, loaded := false, unloaded := false }, scrubPass := x.scrubPass, nextReq := x.nextReq, bulkWait := x.bulkWait }

/-- The operator deskew of a channel gives way to the installer's (R493), whose sum may lie beyond the clamp (R492). -/
def Block.calRestore (b : Block) (ch : Nat) : Block :=
  let b1 := ({ b with sec := { b.sec with calOper := b.sec.calOper.erase (131072 + ch) } }).calDeskew ch
  b1.raiseIf ((b.sec.calOper.find (131072 + ch)).isSome && b1.deskewClamped ch) 11

/-- CTL_PRST_BUSY of partition p. -/
def Block.prstBusy (b : Block) (p : Nat) (v : Bool) : Block :=
  let k := r1 .CTL_PRST_BUSYw (p / 32)
  let m := BitVec.ofNat 32 (2 ^ (p % 32))
  b.setReg k (if v then b.reg k ||| m else b.reg k &&& ~~~m)

/-- A load whose image is LOADED ends with the reset of every partition that the image names (Table 7.11); it is IDLE then (log entry 123). -/
def Block.loadReset (b : Block) (p : Nat) : Block :=
  let b1 := b.modCfg (fun c => { c with resets := p :: c.resets })
  if b1.cfgState = 5 ∧ b1.cfg.mans.all (fun e => decide (e.1 ∈ b1.cfg.resets)) then b1.cfgEnter 0 else b1

/-- A reset of partition p (R522): it stops, its objects are handed over or idle, its stores and records clear, it is in Winter state. What takes
time ends with PARTITION_RESET_DONE, RELEASE_PASS_COMPLETE and ABORT_COMPLETE. -/
def Block.partReset (b : Block) (p : Nat) : Block :=
  let cs := b.cluOf p
  let x := b.part p
  let b1 := (((if x.target.isSome then b.dropTarget p else b).prstBusy p true).setPart p { holds := x.holds, met := x.met }).unload p
  let b2 := b1.vptQueue p (b1.stateFrame p)
  let b3 := forEach (b.chansOf p) (b2.vptPartReset p) (fun ch y => y.calRestore ch)
  let b4 := (b3.tduHandover p).semBreak (0x100 + p)
  let b5 := forEach ((List.range 64).filter (fun n => !b.dmaModule n && decide (b.dmaPart n = p))) b4 (fun n y => (y.dmaAbort n 0xC).semBreak (0x200 + n))
  let b6 := (b5.trcRelease p).trgReset (fun o => decide (o = some p))
  let b7 := b6.setReg (r1 .TRG_SBRKp_CTRL p) (b6.reg (r1 .TRG_SBRKp_CTRL p) &&& 0x7FFFFFFF#32)
  let b8 := forEach cs b7 (fun c y => y.modClu c Cluster.resetStores)
  let b9 := b8.clrRegs (fun k => (decide (k.i ∈ cs) && cluCleared k.name)
    || (decide (k.i = p) && decide (k.name ∈ [RegName.PART_FRZ_STATUS, .PART_FRZ_ORIGIN, .PART_EQX_WAIT])))
  b9.loadReset p

/-- A write of CTL_PRSTw (R522): an operator resets only partitions that its key scope covers (R523). -/
def Block.prstWrite (b : Block) (r : Requester) (w : Nat) (v : Word) : Block :=
  forEach ((List.range 32).filter (fun j => v.getLsbD j && (decide (b.roleOf r ≠ .op) || b.operCovers r (32 * w + j)))) b
    (fun j x => x.partReset (32 * w + j))

/-- PARTITION_RESET (R522). -/
def execPartitionReset (r : Requester) (w : BitVec 3) (v : Word) (s : State) : Host.Outcome State Fault Refusal :=
  s.run (fun b => b.hostWrite r (r1 .CTL_PRSTw w.toNat) v (·.prstWrite r w.toNat v))

/-- The reset of p is complete (R522): its streams have stopped, BUSY clears. -/
def Block.partResetDone (b : Block) (p : Nat) : Block :=
  if (b.reg (r1 .CTL_PRST_BUSYw (p / 32))).getLsbD (p % 32) then (b.trcReleased p).prstBusy p false else b

/-- PARTITION_RESET_DONE (R522). -/
def execPartitionResetDone (p : PartNo) (s : State) : Host.Outcome State Fault Refusal := s.run (·.partResetDone p.toNat)

/-! ## Warm reset (R520, R521) -/

/-- A write that the DMA engine has issued and that waits at its target takes effect (R360); a bank that does not serve it refuses it. -/
def Block.dmaLand (b : Block) (q : NocReq) : Block :=
  if q.done ∨ q.lost ∨ q.data.isEmpty then b
  else if q.space = 1 then (b.snoopRange q.addr q.data.length true).farWrite (q.addr / 2 ^ 35) (q.addr % 2 ^ 35) q.data
  else match b.sspAsk (q.addr / 2 ^ 20) (b.dmaOwner q.chan) with
    | .error => b
    | _ => b.sspPut (q.addr / 2 ^ 20) (q.addr % 2 ^ 20) q.data

/-- The DMA channels end as an abort ends them, their issued writes complete, without retiring tasks (R360, R373). -/
def Block.dmaWarm (b : Block) : Block :=
  let b1 := forEach (List.range 64) (forEach b.noc.sent b (fun q x => x.dmaLand q)) (fun n x => (x.semBreak (0x200 + n)).setReg (r1 .DMA_CHn_EVT n) (x.reg (r1 .DMA_CHn_EVT n) &&& 0xF0#32))
  { b1.clrRegs (fun k => decide (k.name ∈ [RegName.DMA_CHn_STATUS, .DMA_CHn_WAITOBJ, .DMA_CHn_DONEM_LO, .DMA_CHn_DONEM_HI])) with dma := [] }

/-- Every TDU entry is freed without replies (R351). -/
def Block.tduWarm (b : Block) : Block :=
  let b1 := forEach (List.range 1024) b (fun n x => if x.reg (r1 .TDU_CHn_STATUS n) = (r1 .TDU_CHn_STATUS n).name.info.reset then x
    else (x.setReg (r1 .TDU_CHn_STATUS n) 0).tduSetHeld n 0)
  { b1.clrRegs (fun k => decide (k.name ∈ [RegName.TDU_STATUS, .TDU_EXP_LAST, .EVT_PENDw, .TDU_OCC, .TDU_SPILLED])) with tdu := { sub := b.tdu.sub } }

/-- Links (R282, R285): LINK_RESET, DOWN, and every status and counter clears. -/
def Block.linkWarm (b : Block) : Block :=
  let b1 := forEach (List.range 16) b (fun n x => if x.lnkState n = 7 then x else x.deliberateDown n 4)
  let b2 := b1.clrRegs (fun k => decide (k.name ∈ [RegName.LNK_STATUSn, .LNK_ERRn, .LNK_CNTn, .LNK_FECn, .LNK_CRDn_k, .LNK_SEENn_w, .LNK_DROP]))
  forEach (List.range 16) b2 (fun n x =>
    (if x.bit (r1 .LNK_CTRLn n) F.LNK_CTRLn_EN then x else x.lnkEnter n 7).modLink n (fun l => { since := b.pw.ctl, wire := l.wire, tags := l.tags }))

/-- The registers of chapter 7 that a warm reset keeps (R251). -/
def cfgKept (n : RegName) : Bool := n = .CFG_TMO ∨ n = .CFG_FANOUT ∨ n = .CFG_SCRUB_CTRL

/-- The registers of chapter 7; the manifest records among them are of chapter 6, and R198 says when they clear. -/
def isCfgReg (n : RegName) : Bool := decide (0x100000 ≤ n.info.base ∧ n.info.base < 0x101000 ∧ n ≠ .CFG_MAN_CHECK ∧ n ≠ .CFG_MAN_INDEX)

/-- The sessions, challenges and commands of every function end (R473, R477, R494). -/
def Block.funcWarm (b : Block) : Block :=
  let x := b.endSessions (fun _ => true)
  { x with funcs := x.funcs.map (fun e => (e.1, { e.2 with mbxStatus := 0, session := none, challenge := none, fails := 0, lockout := false })) }

/-- A register of chapter 9. -/
def isTimReg (n : RegName) : Bool := decide (0x200000 ≤ n.info.base ∧ n.info.base < 0x201000)

/-- The time unit keeps what it had before the warm reset, whatever the links that went down did to it, but for STATE, which returns to ACQUIRE when SRC is
not 0 (R319). -/
def Block.timWarm (b old : Block) : Block :=
  let b1 := forEach (old.regs.filter (fun e => isTimReg e.1.name)) (b.clrRegs (fun k => isTimReg k.name)) (fun e x => x.setReg e.1 e.2)
  let b2 : Block := { b1 with tu := old.tu }
  if b2.timSrc = 0 then b2 else (b2.modTu (fun t => { t.clear with since := b2.pw.ctl })).setFld (r0 .TIM_STATUS) F.TIM_STATUS_STATE 1

/-- Operator calibration values persist across no reset (R493): the values of channels whose partition the module does not host go too. -/
def Block.calWarm (b : Block) : Block :=
  forEach (b.sec.calOper.map (·.1)) { b with sec := { b.sec with calOper := [] } } (fun k x =>
    let y := x.calShow k
    y.raiseIf (y.calClamped k) 11)

/-- A warm reset (R520): every partition stops and is reset, links and Vector Port go down, every chapter clears what it names; the boot ROM starts.
An installer's unlock ends (R488), a maker's stands until a cold reset (R494; DEDUCED, log entry 149). -/
def Block.warm (b : Block) (cause : Nat) : Block :=
  let b0 : Block := { b with clus := b.clus.map (fun e => (e.1, { e.2 with scrubPass := [] })) }
  let b1 := forEach b0.hosted b0 (fun p x => x.stopInconsistent p)
  let b2 := b1.linkWarm.vptWarm
  let b3 := forEach (List.range 64) b2 (fun n x => if x.semHeld n then x.semFree n true else x)
  let b4 := forEach b.hosted b3 (fun p x => (x.partReset p).partResetDone p)
  let b5 := (((b4.calWarm.trcWarm.trgReset (fun _ => true)).dmaWarm.marchWarm.funcWarm.timWarm b).clrRegs (fun k => isCfgReg k.name && !cfgKept k.name)).fltWarm.tduWarm
  let b6 := b5.clrRegs (fun k => decide (k.name ∈ [RegName.NOC_STATn, .NOC_WAKE, .FMC_STATUSs, .PWR_EVT]))
  let b7 := forEach (List.range 256) b6 (fun p x => if x.reg (r1 .TRG_SBRKp_CTRL p) = 0 then x
    else x.setReg (r1 .TRG_SBRKp_CTRL p) (x.reg (r1 .TRG_SBRKp_CTRL p) &&& 0x7FFFFFFF#32))
  let b8 := ((b7.clrFld (r0 .PWR_POWER) F.PWR_POWER_PEAK).clrFld (r0 .PWR_STATUS) F.PWR_STATUS_STATE).setReg (r0 .SEC_STATUS)
    (b7.reg (r0 .SEC_STATUS) &&& (if b7.fld (r0 .SEC_STATUS) F.SEC_STATUS_UNLOCK = 1 then 0xC0000000#32 else 0xF0000000#32))
  let k := r0 .CTL_RST_CAUSE
  let b9 := ((b8.satFld k F.CTL_RST_CAUSE_WARMS 1).setFld k F.CTL_RST_CAUSE_CAUSE cause).clrReg (r0 .FW_STATUS)
  let w := b9.pw
  let b10 := (b9.setReg (r0 .FW_VER_HK) 0).setReg (r0 .FW_VER_LINK) 0
  { b10 with
    cfg := {}, noc := {}
    fw := { b10.fw with safeReq := decide (cause = 5), linksOff := true }
    pw := { w with phase := .boot, cfgDone := false, cfgErr := false, faultN := true, thawReq := false, warmReq := none, byPacket := false, trip := false, thermN := w.warned } }

/-- A warm reset is asked for: in Frost a Thaw comes first (R521). -/
def Block.warmAsk (b : Block) (cause : Nat) : Block :=
  if b.pw.phase = .por ∨ b.pw.phase = .lock then b
  else if b.pwrState = 0 then b.warm cause
  else ({ b with pw := { b.pw with warmReq := some cause } }).thawStart

/-- WARM_RESET (R520): the cause is the code of CTL_RST_CAUSE: 2 WARM_RST_N, 3 mailbox RESET, 4 firmware request, 5 RESET into safe mode. -/
def execWarmReset (cause : BitVec 4) (s : State) : Host.Outcome State Fault Refusal :=
  s.run (fun b => if 2 ≤ cause.toNat ∧ cause.toNat ≤ 5 then b.warmAsk cause.toNat else b)

/-- RESET (Table 15.5, R467): byte 0 is 0 for a warm reset, 1 into safe mode; the response is complete before the reset begins. -/
def execMbxReset (r : Requester) (s : State) : Host.Outcome State Fault Refusal :=
  s.run (fun b =>
    let b1 := ({ b with pw := { b.pw with warmReq := none } }).mbx r 0x0040 needI (1 ≤ ·) (fun pl x =>
      let n := leAt pl 0 1
      if 1 < n then (4, [], x) else (0, [], { x with pw := { x.pw with warmReq := some (if n = 1 then 5 else 3) } }))
    match b1.pw.warmReq with
    | some c => ({ b1 with pw := { b1.pw with warmReq := b.pw.warmReq } }).warmAsk c
    | none => { b1 with pw := { b1.pw with warmReq := b.pw.warmReq } })

/-- Partition p takes back the state of Frost entry (R528); frames that came during Frost for one stopped at a target are applied now that its clusters
are out of retention (R178). -/
def Block.thawPart (b : Block) (p : Nat) : Block :=
  (b.modPart p (fun y => if y.state = .frost then { y with state := y.preFrost, cyc := 8 * b.pw.ctl } else y)).drain p

/-- THAW_COMPLETE (R528, R383): banks and partitions take back their states, the wake queues reinject; a warm reset that waited follows (R521). -/
def execThawComplete (s : State) : Host.Outcome State Fault Refusal :=
  s.run (fun b =>
    if b.pwrState = 3 then
      let b1 := forEach b.hosted b.sspThaw (fun p x => x.thawPart p)
      let b2 := ((b1.clrFld (r0 .PWR_STATUS) F.PWR_STATUS_STATE).satFld (r0 .PWR_STATUS) F.PWR_STATUS_FROSTS 1)
      let b3 := if b2.pw.byPacket then b2.satFld (r0 .NOC_WAKE) F.NOC_WAKE_WAKES 1 else b2
      let b4 := { b3 with
        noc := { b3.noc with tx := b3.noc.tx ++ b3.noc.wake.flatMap (·.2), wake := [] }
        pw := { b3.pw with byPacket := false, warmReq := none } }
      match b.pw.warmReq with
      | some c => b4.warm c
      | none => b4
    else b)

/-! ## Cold reset and boot (R517, R518, R463 to R467) -/

/-- COLD_RESET (R516, R524): the module as after power-up; the fuses, the key store, the boot flash and far memory keep their contents. -/
def Block.cold (b : Block) : Block :=
  let keep : Block := {}
  { keep with
    far := b.far, farBad := b.farBad, drawn := b.drawn, out := b.out, reply := b.reply
    fw := { b.fw with safeReq := false, linksOff := false, mbxLast := 257, autoConfirm := false, march := false }
    sec := { b.sec with keyFault := false, audit := [], unmirrored := 0, calInst := [], calBlocks := [], calOper := [] } }

/-- COLD_RESET. -/
def execColdReset (s : State) : Host.Outcome State Fault Refusal := s.run (·.cold)

/-- POR_RELEASE (R518): the root PLL starts. -/
def execPorRelease (s : State) : Host.Outcome State Fault Refusal :=
  s.run (fun b => if b.pw.phase = .por then { b with pw := { b.pw with phase := .lock } } else b)

/-- ROOT_PLL_LOCK (R513, R515, R35): at start the dividers are released together, the time counter starts at zero and the boot ROM follows;
after a holdover the PLL is locked again and the level X condition stands. -/
def execRootPllLock (s : State) : Host.Outcome State Fault Refusal :=
  s.run (fun b =>
    let k := r0 .CLK_STATUS
    let b1 := (((b.setBit k F.CLK_STATUS_ROOT_LOCK).setBit k F.CLK_STATUS_REF_OK)).clrFld k F.CLK_STATUS_HOLDOVER
    if b.pw.phase = .lock then { b1 with time := 0, pw := { b1.pw with phase := .boot, ctl := 0 } }
    else if b.bit k F.CLK_STATUS_HOLDOVER then b1
    else b)

/-- The state of a slot, true for B. -/
def Fw.slot (f : Fw) (s : Bool) : Nat := if s then f.slotB else f.slotA
/-- Put the state of a slot. -/
def Fw.setSlot (f : Fw) (s : Bool) (v : Nat) : Fw := if s then { f with slotB := v } else { f with slotA := v }
/-- trial_started of a slot. -/
def Fw.trial (f : Fw) (s : Bool) : Bool := if s then f.trialB else f.trialA
/-- Put trial_started. -/
def Fw.setTrial (f : Fw) (s : Bool) : Fw := if s then { f with trialB := true } else { f with trialA := true }

/-- What follows from registers that have changed (R301, R324, R363): the credits of a channel, the instructions of a slot, the bases and the result of a DMA
channel, the source of the time. -/
def Block.settingsFollow (b old : Block) : Block :=
  let keys := (old.regs ++ b.regs).map (·.1)
  let b1 := forEach keys b (fun k x =>
    if k.name = .TDU_CHn_CFG then (if x.tduHeld k.i = 0 then x else x.setReg k (old.reg k)).tduSetHeld k.i (x.tduHeld k.i)
    else if k.name = .DMA_SLOT_OWNs ∧ old.reg k ≠ x.reg k then x.slotTake k.i (x.reg k)
    else if k.name = .DMA_CHn_CFG ∧ old.reg k ≠ x.reg k then (x.setReg k (old.reg k)).dmaCfg k.i (b.reg k)
    else x)
  if b1.timSrc = old.timSrc then b1 else b1.newSource

/-- The settings registers return to their reset values, the factory defaults (R465): their fields of access RW. User calibration is none of them; a warm reset
leaves it unchanged (R494). -/
def Block.factory (b : Block) : Block :=
  let b1 := forEach (b.regs.filter (fun e => isSetting e.1)) b (fun e x => x.writeCodes e.1 e.1.name.info.reset)
  { b1 with fw := { b1.fw with autoConfirm := false, march := false } }

/-- A copy of the settings is applied (R465, R493). -/
def Block.applySettings (b : Block) (c : SetCopy) : Block :=
  let b1 := forEach c.values b.factory (fun e x => x.writeCodes e.1 e.2)
  ({ b1 with fw := { b1.fw with autoConfirm := c.autoConfirm, march := c.march } }).calBoot c.blocks

/-- The valid copy with the highest sequence among those whose format passes a test; true names copy 1. -/
def Fw.bestCopy (f : Fw) (p : Nat → Bool) : Option Bool :=
  let ok (c : SetCopy) : Bool := c.valid && p c.fmt.toNat
  if ok f.set0 && (!ok f.set1 || decide (f.set1.rank ≤ f.set0.rank)) then some false else if ok f.set1 then some true else none

/-- A settings copy. -/
def Fw.copy (f : Fw) (i : Bool) : SetCopy := if i then f.set1 else f.set0

/-- The settings are taken up by a firmware that writes format `fmt` and migrates from format `from_` (R465); none where the migration fails or no valid copy
has a format in the range. A migrated copy goes to the other place with a higher sequence. -/
def Block.takeSettings (b : Block) (fmt from_ : Nat) (migrates : Bool) : Option Block :=
  let k := r0 .FW_STATUS
  let b0 : Block := { b with fw := { b.fw with setFmt := BitVec.ofNat 16 fmt } }
  match b.fw.bestCopy (fun n => decide (n = fmt)), b.fw.bestCopy (fun n => decide (from_ ≤ n ∧ n ≤ fmt)) with
  | some i, _ =>
    some (((b0.applySettings (b.fw.copy i)).setFld k F.FW_STATUS_SET_SRC 0).setFld k F.FW_STATUS_SET_SEQ (b.fw.copy i).seq.toNat)
  | none, some i =>
    if migrates then
      let hi := max b.fw.set0.rank b.fw.set1.rank
      let b1 := b0.applySettings (b.fw.copy i)
      let c := b1.settingsNow (BitVec.ofNat 16 hi)
      let b2 : Block := { b1 with fw := if i then { b1.fw with set0 := c } else { b1.fw with set1 := c } }
      some ((b2.setFld k F.FW_STATUS_SET_SRC 1).setFld k F.FW_STATUS_SET_SEQ hi)
    else none
  | none, none =>
    if b.fw.set0.valid ∨ b.fw.set1.valid then none else some ((b0.factory.setFld k F.FW_STATUS_SET_SRC 2).setFld k F.FW_STATUS_SET_SEQ 0)

/-- Every link and the Vector Port are DISABLED (R466, R467). -/
def Block.allDisabled (b : Block) : Block := (forEach (List.range 16) b (fun n x => x.lnkEnter n 7)).vptDown 3

/-- The key store is usable unless it has failed. -/
def Block.keysUp (b : Block) : Block := (b.setFld (r0 .SEC_STATUS) F.SEC_STATUS_KEYSTORE_OK (b2n (!b.sec.keyFault))).showKeys

/-- Safe mode (R467): factory defaults, links and Vector Port DISABLED, CFG_DONE low, the boot ROM serves; entered in the audit log. -/
def Block.safe (b : Block) : Block :=
  let k := r0 .FW_STATUS
  let b1 := (((b.factory.settingsFollow b).keysUp.showSlots.setBit k F.FW_STATUS_MODE).setFld k F.FW_STATUS_LINK_COPY 3).setFld k F.FW_STATUS_PAIR 3
  let b2 := (b1.setFld k F.FW_STATUS_SET_SRC 2).allDisabled
  ({ b2 with pw := { b2.pw with phase := .ready }, fw := { b2.fw with linksOff := true } }).auditHk 0x60 []

/-- The version of a compatibility record (Table 15.7) at an offset, as the version registers hold it. -/
def verAt (l : List Byte) (off : Nat) : Nat := leAt l off 1 * 2 ^ 24 + leAt l (off + 1) 1 * 2 ^ 16 + leAt l (off + 2) 2

/-- The pairing of a housekeeping image and a link image by their records (R466): 0 tested, 1 untested, 2 LINK_IF major differs. -/
def pairOf (hk lk : List Byte) : Nat :=
  let within (x y : List Byte) : Bool := decide (verAt y 0x10 ≤ verAt x 0 ∧ verAt x 0 ≤ verAt y 0x14)
  if leAt hk 0xD 1 ≠ leAt lk 0xD 1 then 2 else if within hk lk && within lk hk && decide (leAt hk 0xC 1 = leAt lk 0xC 1) then 0 else 1

/-- The boot changes the state of a slot, which the audit log records (R484). -/
def Block.slotState (b : Block) (s : Bool) (v : Nat) : Block := ({ b with fw := b.fw.setSlot s v }).auditHk 0x60 (leBytes 1 (b2n s) ++ leBytes 1 v)

/-- The link firmware is loaded (R463): the next copy, then the other; with the copy that has loaded and its record. -/
def Block.loadLink (b : Block) : Block × Option (Bool × List Byte) :=
  let try_ (x : Block) (c : Bool) : Block := x.flashLoad (2 + b2n c)
  let ok (x : Block) (c : Bool) : Bool := decide (x.loadStatus (2 + b2n c) = 0)
  let c := b.fw.nextCopy
  let b1 := try_ b c
  if ok b1 c then (b1, some (c, b1.cfg.firmware))
  else
    let b2 := try_ b1 (!c)
    if ok b2 (!c) then (b2, some (!c, b2.cfg.firmware)) else (b2, none)

/-- The firmware of slot s runs (R463 to R466), with its record, the link copy that has loaded, and the settings taken up; a fault of the boot
holds FAULT_N (R507). -/
def Block.runFw (b : Block) (s : Bool) (hk : List Byte) (link : Option (Bool × List Byte)) (fails : List MarchFail) : Block :=
  let k := r0 .FW_STATUS
  let cold := decide (b.fld (r0 .CTL_RST_CAUSE) F.CTL_RST_CAUSE_CAUSE = 1)
  let pair := match link with | some e => pairOf hk e.2 | none => 3
  let b1 := if b.fw.autoConfirm ∧ b.fw.slot s = 1 then b.slotState s 2 else b
  let b2 := ({ b1 with fw := { b1.fw with linksOff := decide (2 ≤ pair) } }).showSlots.keysUp
  let b3 := ((b2.setFld k F.FW_STATUS_ACT_SLOT (b2n s)).setFld k F.FW_STATUS_LINK_COPY (match link with | some e => b2n e.1 | none => 3)).setFld k
    F.FW_STATUS_PAIR pair
  let b4 := (b3.setReg (r0 .FW_VER_HK) (BitVec.ofNat 32 (verAt hk 0))).setReg (r0 .FW_VER_LINK)
    (match link with | some e => BitVec.ofNat 32 (verAt e.2 0) | none => 0)
  let b5 := if cold ∧ b4.fw.march then b4.marchBoot fails else b4
  let b6 := if 2 ≤ pair then b5.allDisabled else b5.linksFollow.vptFollow
  let b7 := if pair = 0 then b6 else b6.auditHk 0x60 (leBytes 1 pair)
  let f := r0 .FLT_STATUS
  { b7 with pw := { b7.pw with phase := .ready, cfgDone := link.isSome, faultN := b7.bit f F.FLT_STATUS_FAULT_N_ACT || b7.bit f F.FLT_STATUS_X_HELD } }

/-- The image of slot s has been loaded (R463): trial, link copy, settings; ready, or UNCONFIRMED with a warm reset into the other slot. The flash is then
no source any longer (R234). -/
def Block.startFw (b : Block) (s : Bool) (r : BootReport) : Block :=
  let hk := b.cfg.firmware
  let (b1, link) := ({ b with fw := if b.fw.slot s = 1 then b.fw.setTrial s else b.fw }).loadLink
  let b2 := b1.clrFld (r0 .CFG_SRC) F.CFG_SRC_SRC
  match (if r.ready then b2.takeSettings (leAt hk 8 2) (leAt hk 0xA 2) r.migrates else none) with
  | some b3 =>
    (b3.settingsFollow b2).runFw s hk link r.fails
  | none =>
    let b3 := b2.slotState s 3
    ({ b3 with fw := { b3.fw with nextSlot := !s } }).warm 4

/-- The boot ROM goes through the slots (R463): one reset during its trial is UNCONFIRMED, one that is neither TRIAL nor CONFIRMED is passed over, one that
does not load is INVALID; with none left, safe mode. -/
def Block.bootGo (b : Block) (r : BootReport) : List Bool → Block
  | [] => (b.clrFld (r0 .CFG_SRC) F.CFG_SRC_SRC).safe
  | s :: rest =>
    let b1 := if b.fw.slot s = 1 ∧ b.fw.trial s then b.slotState s 3 else b
    if b1.fw.slot s = 1 ∨ b1.fw.slot s = 2 then
      let x := b1.flashLoad (b2n s)
      if x.loadStatus (b2n s) = 0 then x.startFw s r else Block.bootGo (x.slotState s 4) r rest
    else b1.bootGo r rest

/-- A fault of the fuses or of the key store that the boot finds (Table 17.1): event 15, class 0x10 at level X; the keys are unusable until the next
boot. -/
def Block.keyCheck (b : Block) (bad : Bool) : Block := if bad ∧ b.pw.phase = .ready then (b.raise 15).faultX 0x10 0 true else b

/-- FIRMWARE_READY (R463): the boot sequence, from the images in the flash; what the firmware does that the manual leaves to it is an operand (log entry 1). -/
def execFirmwareReady (r : BootReport) (s : State) : Host.Outcome State Fault Refusal :=
  s.run (fun b =>
    if b.pw.phase = .boot then
      let b1 := { b with sec := { b.sec with keyFault := r.keyFault } }
      (if b.fw.safeReq then b1.safe else b1.bootGo r [b.fw.nextSlot, !b.fw.nextSlot]).keyCheck r.keyFault
    else b)

/-! ## Functions -/

/-- The mailbox session and command of a function end (R455). -/
def Block.funcReset (b : Block) (r : Requester) : Block :=
  (b.endSession r).modFunc (fnOf r) (fun f => { f with
    mbxStatus := 0, challenge := none, unmasked := [], msixPend := [], msixTab := [], mps := 0, mrrs := 2, aerPoison := false })

/-- VF Enable and NumVFs take values (R453): the sessions of functions that do not exist any longer end, and their state is lost. -/
def Block.setVfs (b : Block) (en : Bool) (n : Nat) : Block :=
  let b1 := { b with vfEnable := en, numVfs := min 256 n }
  let b2 := forEach ((List.range 256).filter (fun v => !b1.vfExists v)) b1 (fun v x => x.endSession (.vf (BitVec.ofNat 8 v)))
  { b2 with funcs := b2.funcs.filter (fun e => decide (e.1 = 0 ∨ e.1 = 257) || b2.vfExists (e.1 - 1)) }

/-- FLR (R455): of PF0 its function state, session, command and semaphores; of VF v a reset of partition v as well. It is a configuration request, which
takes no effect before the firmware is ready (R519). -/
def execFlr (r : Requester) (s : State) : Host.Outcome State Fault Refusal :=
  s.run (fun b => if b.pw.phase ≠ .ready then b else match r with
    | .pf0 => ((b.funcReset .pf0).semBreak 0).setVfs false 0
    | .vf v => if b.vfExists v.toNat then ((b.partReset v.toNat).funcReset r).semBreak (0x100 + v.toNat) else b
    | _ => b)

/-- The capability is implemented (R450, Table 15.1). -/
def capPresent : PcieCap → Bool
  | .ari => true
  | .sriov => true
  | .msix => true
  | .aer => true
  | .flr => true
  | .tags10 => true
  | .ats => false
  | .pasid => false
  | .peerToPeer => false
  | .ide => false
  | .doe => false
  | .intx => false
  | .msi => false

/-- A configuration request that a ready module serves: what it changes, and what it answers. A size above the greatest supported is not taken (DESIGN CHOICE,
log entry 165). -/
def Block.pcieServe (b : Block) (q : PcieReq) : Block :=
  match q with
  | .read c => b.send (.configDone false (some (capPresent c)))
  | .sriov en n => (b.setVfs en n.toNat).send (.configDone false)
  | .sizes f mps mrrs => ((if mps.toNat ≤ 2 ∧ mrrs.toNat ≤ 5 then b.modFunc (fnOf f) (fun x => { x with mps := mps, mrrs := mrrs }) else b)).send (.configDone false)
  | .aerClear f => (b.modFunc (fnOf f) (fun x => { x with aerPoison := false })).send (.configDone false)

/-- PCIE_CONFIG_REQUEST (R519, R450, R453): Request Retry Status until the firmware is ready; a request to a function that does not exist is not answered. -/
def execPcieConfigRequest (q : PcieReq) (s : State) : Host.Outcome State Fault Refusal :=
  s.run (fun b =>
    if b.pw.phase = .ready then (if b.fnExists q.fn then b.pcieServe q else b)
    else if b.pw.phase = .boot ∧ q.fn = .pf0 then b.send (.configDone true)
    else b)

/-! ## Debug and scan -/

/-- DEBUG_UNLOCK (R488, R489). -/
def execDebugUnlock (r : Requester) (s : State) : Host.Outcome State Fault Refusal :=
  s.run (fun b => b.mbx r 0x0090 needIM (fun _ => true) (fun _ x =>
    let k := r0 .SEC_STATUS
    if x.roleOf r = .maker then
      let y := forEach (x.parts.map (·.1)) (x.eraseKeys r) (fun p z => z.partReset p)
      (0, [], (((y.raise 9).setFld k F.SEC_STATUS_UNLOCK 2).audit r 0x50 0 []).raise 13)
    else if x.allWinter then (0, [], ((x.setFld k F.SEC_STATUS_UNLOCK 1).audit r 0x50 0 []).raise 13)
    else (4, [], x)))

/-- TAP_INSTRUCTION (R487): while locked every instruction but BYPASS and IDCODE acts as BYPASS and is counted, the first with event 14. The
instruction codes are not stated (log entry 47); the pins and chains that an unlocked TAP reaches are no state of the block. -/
def execTapInstruction (ir : BitVec 8) (s : State) : Host.Outcome State Fault Refusal :=
  s.run (fun b =>
    let k := r0 .SEC_STATUS
    if b.fld k F.SEC_STATUS_UNLOCK = 0 ∧ ir ≠ Config.tapBypass ∧ ir ≠ Config.tapIdcode then
      (b.satFld k F.SEC_STATUS_TAP_REFUSED 1).raiseIf (decide (b.fld k F.SEC_STATUS_TAP_REFUSED = 0)) 14
    else b)

end Sys2Proof.Machine
end

