-- ==== Sys2Proof/Machine/Sched.lean ====
section
/-!
DEFINITION. The step (R2, R4, R7): interlocks (R199 to R202), the executed step with all that it holds, the slip step and its attribution (R174, R203 to R205),
the start of a DC (R168), the resume (R187, R117), hazard registers (R206, R208) and step breaks (R412 to R415).
-/
namespace Sys2Proof.Machine

/-! ## What a step executes -/

/-- The instruction word of a BP at step s. -/
def Cluster.bpWord (x : Cluster) (bp s : Nat) : BitVec 96 := NMap.get 0 x.instr (bp * 2048 + s)

/-- The program word of WE k at its WPC. -/
def Block.weWordAt (b : Block) (c k : Nat) : BitVec 72 := NMap.get 0 (b.clu c).prog (k * 2048 + b.wpc c k)

/-- What the fetch of a BP finds. -/
def foundFetch (fs : List Finding) (c bp : Nat) : Ecc :=
  (fs.findSome? (fun f => match f with | .fetch d b e => if d.toNat = c ∧ b.toNat = bp then some e else none | _ => none)).getD .ok
/-- What the program fetch of a WE finds. -/
def foundWe (fs : List Finding) (c k : Nat) : Ecc :=
  (fs.findSome? (fun f => match f with | .weFetch d j e => if d.toNat = c ∧ j.toNat = k then some e else none | _ => none)).getD .ok
/-- The next word of a WE of the cluster would be held (R107, R108). A word that its fetch finds uncorrectable does not execute and holds nothing (R114). -/
def Block.weHold (b : Block) (c : Nat) (fs : List Finding := []) : Bool :=
  (List.range 4).any (fun k => decide (foundWe fs c k ≠ .due) && (b.clu c).weHeld k (weOp (b.weWordAt c k)) (weArgs (b.weWordAt c k)))

/-- A WAIT of the cluster at the present step has an absent response (R138, R140). A word that its fetch finds uncorrectable does not execute and is no
WAIT (R41). -/
def Block.farHold (b : Block) (p c : Nat) (fs : List Finding := []) : Bool :=
  let x := b.clu c
  (List.range 128).any (fun bp =>
    let w := x.bpWord bp (b.part p).step
    decide (foundFetch fs c bp ≠ .due ∧ bpOpc w = 5) && (b.bpCodes p c bp 5 (bpArgs w)).isEmpty &&
      match x.oldest ((bpArgs w).a.toNat % 16) with | some e => !e.present | none => false)

/-- Step 0 waits for frames (R168). -/
def Part.frameWait (x : Part) : Bool := decide (x.dcp = .start) && !x.noWait && x.needsFrame && !x.missing.isEmpty

/-- The STEP_CLK cycle in which partition p stands is gated: its index modulo 16 lies below DUTY (R532). -/
def Block.gated (b : Block) (p : Nat) : Bool := decide ((b.part p).cyc % 16 < b.fld (r0 .PWR_THROT) F.PWR_THROT_DUTY)

/-- The causes of Table 5.3 that hold the step, as indices 1 to 6 (R199), given what the fetches of the step find. -/
def Block.holds (b : Block) (p : Nat) (fs : List Finding := []) : List Nat :=
  let x := b.part p
  let cs := x.clusters
  when_ (b.gated p) 1 ++ when_ (decide (x.dcp = .start) && b.spBusy p) 2 ++ when_ x.frameWait 3 ++ when_ (cs.any (fun c => b.farHold p c fs)) 4
    ++ when_ (cs.any (fun c => !(b.clu c).deferred.isEmpty)) 5 ++ when_ (cs.any (fun c => b.weHold c fs)) 6

/-! ## The checks of the physical module -/

/-- What the slot-entry fetch finds. -/
def foundSlot (fs : List Finding) (c : Nat) : Ecc :=
  (fs.findSome? (fun f => match f with | .slotFetch d e => if d.toNat = c then some e else none | _ => none)).getD .ok
/-- What the port-map words of a field hold. -/
def foundMap (fs : List Finding) (c j : Nat) : Ecc :=
  (fs.findSome? (fun f => match f with | .portMap d i e => if d.toNat = c ∧ i.toNat = j then some e else none | _ => none)).getD .ok
/-- What the row read of a field finds. -/
def foundRow (fs : List Finding) (c j : Nat) : Ecc :=
  (fs.findSome? (fun f => match f with | .dmbRow d i e => if d.toNat = c ∧ i.toNat = j then some e else none | _ => none)).getD .ok
/-- What the scrub read of a DMB port finds. -/
def foundScrub (fs : List Finding) (c d : Nat) (port : Bool) : Ecc :=
  (fs.findSome? (fun f => match f with | .dmbScrub e i q x => if e.toNat = c ∧ i.toNat = d ∧ q = port then some x else none | _ => none)).getD .ok

/-- The BP that the sentinel shadows; none in the self-check (R80, R82). -/
def Cluster.shadow (x : Cluster) : Option Nat :=
  match x.sentLock with
  | some k => some k
  | none => if x.sentPos = 128 then none else some x.sentPos

/-- What the sentinel finds in a step: it differs in the result, in the destination, and its own result. -/
structure SentDiff where
  res : Bool
  dst : Bool
  sent : Bool
  deriving DecidableEq, Repr

/-- What an instruction writes or is to write in the value store: the address, where its write enable is set (R79). -/
def BpOut.dest (o : BpOut) : Option Nat := ((o.write.map (·.1)).orElse (fun _ => o.next.map (·.1)))

/-- The comparison of R79 with what the shadowed BP does: nothing for NOP, WAIT and a word that does not execute; the write address where either has its
write enable set; the lane where the BP drives one. -/
def BpOut.compare (o : BpOut) (res wen : Bool) (addr lane : Nat) : Option SentDiff :=
  match o.res with
  | none => none
  | some v =>
    let dst := decide (wen ≠ o.dest.isSome) || (wen && decide (o.dest ≠ some addr))
      || (match o.lane with | some (l, _) => decide (l ≠ lane) | none => false)
    if v ≠ res ∨ dst then some ⟨decide (v ≠ res), dst, res⟩ else none

/-- The result that the self-check set gives at step s: its instructions in turn, repeated (R80). -/
def selfResult (s : Nat) : Option Bool :=
  (Config.selfCheck[s % Config.selfCheck.length]?).map (fun e => ttBit e.1 (e.2.getLsbD 0) (e.2.getLsbD 1) (e.2.getLsbD 2) (e.2.getLsbD 3))

/-- The self-check compares the result alone (R80). -/
def selfCompare (s : Nat) (res : Bool) : Option SentDiff :=
  match selfResult s with
  | some v => if v ≠ res then some ⟨true, false, res⟩ else none
  | none => none

/-- What the sentinel's findings of a step come to, given what the shadowed BP does. -/
def sentDiff (x : Cluster) (c step : Nat) (outs : List (Nat × BpOut)) (fs : List Finding) : Option SentDiff :=
  fs.findSome? (fun f => match f with
    | .sentinel d res wen addr lane =>
      if d.toNat = c then
        match x.shadow with
        | none => selfCompare step res
        | some bp => (outs.find? (fun e => decide (e.1 = bp))).bind (fun e => e.2.compare res wen addr.toNat lane.toNat)
      else none
    | _ => none)

/-- A sentinel mismatch (R81): the record, the group event; ACTION decides between a fault and SUSPECT. -/
def Block.sentMiss (b : Block) (p c : Nat) (d : SentDiff) : Block × List StepFault :=
  let x := b.part p
  let bp := ((b.clu c).shadow).getD 0
  let log := BitVec.ofNat 32 (2 ^ 31 + x.step * 2 ^ 20 + b2n (b.clu c).shadow.isNone * 2 ^ 11 + b2n d.dst * 2 ^ 10 + b2n d.res * 2 ^ 9
    + b2n d.sent * 2 ^ 8 + bp)
  let b1 := if b.bit (r1 .CLU_SENT_LOG c) F.CLU_SENT_LOG_VALID then b
    else (b.setReg (r1 .CLU_SENT_LOG c) log).setReg (r1 .CLU_SENT_LOG_DC c) (x.dc.setWidth 32)
  let b2 := (b1.setBit (r1 .CLU_FAULT c) F.CLU_FAULT_SENT_MISMATCH).raiseCluster c
  if b2.bit (r1 .CLU_SENT_CTRL c) F.CLU_SENT_CTRL_ACTION then (b2, [(2, some (4, unitOf c bp))])
  else ((b2.faultEntry .p 4 (unitOf c bp) p).modClu c (fun y => { y with suspect := true }), [])

/-- The sentinel of a cluster in one step: a mismatch that is handled as a schedule fault leaves the shadowed instruction without effect (R81, R84).
It answers what the instructions do. -/
def Block.stepSent (b : Block) (p c : Nat) (outs : List (Nat × BpOut)) (fs : List Finding) : Block × List StepFault × List (Nat × BpOut) :=
  let x := b.clu c
  match sentDiff x c (b.part p).step outs fs with
  | none => (b, [], outs)
  | some d =>
    let z := b.sentMiss p c d
    (z.1, z.2, if z.2.isEmpty then outs else outs.map (fun e => if some e.1 = x.shadow then (e.1, {}) else e))

/-- The findings of a step that are neither reads of stores nor results (classes 0x03, 0x07). -/
def Block.noteFinding (b : Block) (c : Nat) (f : Finding) : Block × List StepFault :=
  match f with
  | .parity d k => if d.toNat = c then (b, [(2, some (3, unitOf c k.toNat))]) else (b, [])
  | .laneParity d => if d.toNat = c then (b, [(2, some (7, unitOf c 0))]) else (b, [])
  | _ => (b, [])

/-- Faulty results that land in this cycle (R556). -/
def Block.weChecks (b : Block) (c : Nat) (fs : List Finding) : Block × List StepFault :=
  foldFaults fs b (fun f x => match f with
    | .weCheck d k => if d.toNat = c then
        (match (x.clu c).flight.find? (fun y => decide (y.we = k.toNat ∧ y.left = 0)) with
          | some y => x.landBad c y
          | none => (x, []))
        else (x, [])
    | _ => (x, []))

/-- The step fault of a WE program word that a fetch or the scrub finds uncorrectable: R500 gives class 0x02 the CAUSE 4, which is taken before the 3 that
Table 5.4 gives a word-engine fault (DEDUCED, log entry 153). -/
def weFetchDue (c k : Nat) : StepFault := (causeOf 2, some (2, unitOf c k))

/-- The words of BP stores whose scrub errors fault at this step (R249): BP and word index. -/
def Cluster.scrubBps (x : Cluster) : List (Nat × Nat) :=
  x.scrubDue.filterMap (fun e => match e.1 with | .bp k => some (k.toNat, e.2) | _ => none)

/-- The scrub errors of WE programs that fault at this step (R249). -/
def Block.scrubWes (b s0 : Block) (p c : Nat) : Block × List StepFault :=
  foldFaults (s0.clu c).scrubDue b (fun e y => match e.1 with
    | .we k => (y.weFault c k.toNat [2] (s0.part p).step e.2, [weFetchDue c k.toNat])
    | _ => (y, []))

/-- The scrub errors of the slot program that fault at this step (R249). -/
def Block.scrubSlots (b s0 : Block) (c : Nat) : Block × List StepFault :=
  foldFaults (s0.clu c).scrubDue b (fun e y => match e.1 with
    | .slot => (y.memFault c { code := 2 } e.2, [(4, some (2, unitOf c 0))])
    | _ => (y, []))

/-- The DMB errors found before that fault at this step (R121, R126, R155). -/
def Block.dmbFaults (b : Block) (p c : Nat) : Block × List StepFault :=
  let z := foldFaults (b.clu c).dmbDue b (fun e y =>
    (y.memFault c { code := 4, scrub := e.1, field := if e.1 then 0 else e.2 } (b.part p).step, [(4, some (6, unitOf c 0))]))
  (z.1.modClu c (fun y => { y with dmbDue := [] }), z.2)

/-! ## The executed step -/

/-- The BPs of a cluster (R39 to R59): word 0 of an unwritten store is NOP. A BP of whose store the scrub found a word uncorrectable faults in this step
(R249) and executes its own word of the step, of which the spec says nothing else (DESIGN CHOICE, log entry 154). -/
def Block.stepBps (b s0 : Block) (p c : Nat) (fs : List Finding) : Block × List StepFault :=
  let x := s0.clu c
  let bps := List.range 128
  let outs := bps.map (fun bp =>
    let w := x.bpWord bp (s0.part p).step
    (bp, if foundFetch fs c bp = .due then ({ codes := [9] } : BpOut) else s0.bpOut p c bp (bpOpc w) (bpArgs w)))
  let b1 := forEach (bps.filter (fun bp => decide (foundFetch fs c bp = .corr))) b
    (fun _ y => (y.satFld (r1 .CLU_ECC_CNT c) F.CLU_ECC_CNT_FETCH_CORR 1).corrected)
  let t := b1.stepSent p c outs fs
  let z := t.1.applyBps p c t.2.2 x.scrubBps 1
  (z.1, t.2.1 ++ z.2 ++ (bps.filter (fun bp => decide (foundFetch fs c bp = .due))).map (fun bp => (2, some (1, unitOf c bp))))

/-- The word engines of a cluster: each issues the word at its WPC (R91, R114, R117). A WE that raises LOOP_STATE issues nothing in that step; whether it
still fetches the spec does not say, and here no fetch finding of it counts (DESIGN CHOICE, log entry 106). -/
def Block.stepWes (b s0 : Block) (p c : Nat) (fs : List Finding) : Block × List StepFault :=
  let step := (s0.part p).step
  let z := foldFaults (List.range 4) b (fun k x =>
    if k ∈ (s0.clu c).loopBad then (x.weFault c k [8] step (s0.wpc c k), [(3, none)])
    else if foundWe fs c k = .due then (x.weFault c k [2] step (s0.wpc c k), [weFetchDue c k])
    else
      let x1 := if foundWe fs c k = .corr then (x.satFld (r2 .WE_STATUS c k) F.WE_STATUS_ECC_CORR 1).corrected else x
      x1.weIssue s0 p c k (weOp (s0.weWordAt c k)) (weArgs (s0.weWordAt c k)))
  (z.1.modClu c (fun y => { y with loopBad := [] }), z.2)

/-- The memory of a cluster: faults found before, the slot entry of the step, the scrub reads of the DMBs. -/
def Block.stepMem (b s0 : Block) (p c : Nat) (fs : List Finding) : Block × List StepFault :=
  let step := (s0.part p).step
  let d := b.dmbFaults p c
  let b1 := if foundSlot fs c = .corr then d.1.corrected else d.1
  if foundSlot fs c = .due then
    ((b1.memFault c { code := 2 } step).dmbScrub c [] (foundScrub fs c), d.2 ++ [(4, some (2, unitOf c 0))])
  else
    let z := b1.slotStep s0 p c (NMap.get 0 (s0.clu c).slot step) (foundRow fs c) (foundMap fs c)
    (z.1.dmbScrub c z.2.1 (foundScrub fs c), d.2 ++ z.2.2)

/-- One cluster in an executed step: every read sees the start of the step `s0`. Its faults stand in the order of log entry 64: the BPs, the word engines,
the memory, of each what the scrub found first. -/
def Block.stepClu (b s0 : Block) (p : Nat) (fs : List Finding) (c : Nat) : Block × List StepFault :=
  let z1 := foldFaults fs b (fun f x => x.noteFinding c f)
  let z2 := z1.1.stepBps s0 p c fs
  let z3 := z2.1.scrubWes s0 p c
  let z4 := z3.1.stepWes s0 p c fs
  let z5 := z4.1.scrubSlots s0 c
  let z6 := z5.1.stepMem s0 p c fs
  (z6.1.modClu c (fun y => { y with scrubDue := [] }), z1.2 ++ z2.2 ++ z3.2 ++ z4.2 ++ z5.2 ++ z6.2)

/-- A step has executed: what travels in executed steps moves on (R106, R123, R160), and the run of slip steps ends (R205). -/
def Block.advance (b : Block) (p : Nat) : Block :=
  let x := b.part p
  (forEach x.clusters b (fun c y => y.modClu c (fun q => { q.weCycle (fun _ => true) with
    rets := q.rets.map (fun r => { r with left := r.left - 1 })
    run := 0 }))).modPart p
    (fun y => { y with bits := y.bits.map (fun t => { t with left := t.left - 1 }), slipping := false, last := y.step, cyc := y.cyc + 1 })

/-- The break of step s is due (R413, R415): armed for this step of this DC, or the last of the counted steps. -/
def Block.breakHere (b : Block) (p : Nat) : Bool :=
  let x := b.part p
  let k := r1 .TRG_SBRKp_CTRL p
  (b.bit k F.TRG_SBRKp_CTRL_EN && decide (b.fld k F.TRG_SBRKp_CTRL_STEP = x.step ∧ b.reg (r1 .TRG_SBRKp_DC p) = x.dc.setWidth 32))
    || decide (x.brkLeft = 1)

/-- The counted steps after a resume (R415): one has executed. -/
def Block.breakCount (b : Block) (p : Nat) : Block :=
  let n := (b.part p).brkLeft
  if n = 0 then b else (b.modPart p (fun x => { x with brkLeft := n - 1 })).setFld (r1 .TRG_SBRKp_STATUS p) F.TRG_SBRKp_STATUS_LEFT (n - 1)

/-- The partition stops at the end of the step just executed (R413); after step L − 1 its Equinox comes first. -/
def Block.breakStop (b : Block) (p : Nat) : Block :=
  let x := b.part p
  let b1 := (b.clrFld (r1 .TRG_SBRKp_CTRL p) F.TRG_SBRKp_CTRL_EN).setBit (r1 .TRG_SBRKp_STATUS p) F.TRG_SBRKp_STATUS_HIT
  if x.dcp = .eqx then b1.modPart p (fun y => { y with brkStop := true, brkLeft := 0 })
  else
    let b2 := b1.modPart p (fun y => { y with state := .frozen, midDc := true, brkStop := true, brkLeft := 0, frozenFor := 0 })
    ((b2.setBit (r1 .PART_FRZ_STATUS p) F.PART_FRZ_STATUS_FROZEN).setBit (r1 .PART_FRZ_STATUS p) F.PART_FRZ_STATUS_DRAINED).raiseGroups p

/-- The step index moves on; after step L − 1 the Equinox is due (R32). -/
def Block.nextStep (b : Block) (p : Nat) : Block :=
  b.modPart p (fun x => if x.step + 1 = x.len then { x with dcp := .eqx } else { x with step := x.step + 1 })

/-- One executed step (R2): all clusters, the segments that it completes, then the stop of a fault, before which the operations that R133 deferred
execute (R134, R155), or the next step and a break. -/
def Block.execStep (b : Block) (p : Nat) (fs : List Finding) : Block :=
  let x := b.part p
  let z := foldFaults x.clusters b (fun c y => y.stepClu b p fs c)
  let b1 := (z.1.advance p).emitAt p x.step
  if z.2.isEmpty then
    let hit := b.breakHere p
    let b2 := (b1.breakCount p).nextStep p
    if hit then b2.breakStop p else b2
  else (b1.runDeferred p).stepFaults p z.2

/-- The partition runs, no fault has stopped it, and Frost entry has not begun (R527). -/
def Block.runs (b : Block) (p : Nat) : Bool := decide ((b.part p).state = .running ∧ b.fld (r0 .PWR_STATUS) F.PWR_STATUS_STATE = 0)

/-- The findings of results that land as the step begins. -/
def Block.checkResults (b : Block) (p : Nat) (fs : List Finding) : Block × List StepFault :=
  foldFaults (b.part p).clusters b (fun c x => x.weChecks c fs)

/-- What the checks of the trace writer find at its use for the streams of partition p in the cycle of a step (Table 17.1, class 0x0B). -/
def Block.traceUse (b : Block) (p : Nat) (fs : List Finding) : Block :=
  forEach fs b (fun f x => match f with
    | .trace n e => if x.strOwner n.toNat = some p then x.unitUse .trace n.toNat e id else x
    | _ => x)

/-- SCHEDULE_STEP (R2): no effect while an interlock holds the step, or before the DC has begun. A result that its check finds faulty stops the partition
at the end of the step in which it would have landed, before the next one (R556). -/
def Block.schedStep (b : Block) (p : Nat) (fs : List Finding) : Block :=
  if b.runs p then
    let z := b.checkResults p fs
    let b1 := z.1.settle p
    if !z.2.isEmpty then b1.stepFaults p z.2
    else if b1.runs p ∧ (b1.part p).dcp = .run ∧ (b1.holds p fs).isEmpty then (b1.execStep p fs).traceUse p fs else b1
  else b

/-- SCHEDULE_STEP. -/
def execScheduleStep (p : PartNo) (found : List Finding) (s : State) : Host.Outcome State Fault Refusal :=
  s.run (·.schedStep p.toNat found)

/-! ## The slip step -/

/-- An incomplete frame has a slot mapped to a lane of cluster c (R204). -/
def Part.ownFrame (x : Part) (c : Nat) : Bool := x.missing.any (fun q => q.slots.any (fun e => decide (e.1 = c)))

/-- Count an own condition (R204). -/
def Block.own (b : Block) (c j : Nat) (x : Bool) : Block := if x then b.satFld (r2 .HZ_OWNj c j) ⟨0, 32⟩ 1 else b

/-- The run of slip steps of a cluster grows by one, attributed to k when it begins, and is recorded when it is the longest (R205). -/
def Block.runOn (b : Block) (p c k : Nat) : Block :=
  let q := b.clu c
  let cause := if q.run = 0 then k else q.runCause
  let n := q.run + 1
  let b1 := b.modClu c (fun y => { y with run := n, runCause := cause })
  if (b.reg (r1 .HZ_WORST_LEN c)).toNat < n then
    ((b1.setReg (r1 .HZ_WORST_LEN c) (BitVec.ofNat 32 (min n (2 ^ 32 - 1)))).setReg (r1 .HZ_WORST_AT c)
      (BitVec.ofNat 32 (2 ^ 31 + cause * 2 ^ 28 + (b.part p).step * 2 ^ 16))).setReg (r1 .HZ_WORST_DC c) ((b.part p).dc.setWidth 32)
  else b1

/-- Add to the slip of a partition under cause k (R174, R203). -/
def Part.addSlip (x : Part) (k n : Nat) : Part :=
  { x with slip := x.slip + BitVec.ofNat 64 n, hz := x.hz.put k (NMap.get 0 x.hz k + BitVec.ofNat 64 n) }

/-- A slip step in one cluster: its own conditions, the run, the pipelines (R106), and what executes unless the cycle is gated (R532). `we` names a cluster
whose word command a WE holds. -/
def Block.slipClu (b s0 : Block) (p k : Nat) (gated : Bool) (we : Option Nat) (c : Nat) : Block :=
  let q := s0.clu c
  let x := s0.part p
  let b1 := b.own c 0 (decide (x.dcp = .start) && (q.sp.due || decide (q.sp.groups ≠ 0)))
  let b2 := b1.own c 1 (x.frameWait && x.ownFrame c)
  let b3 := b2.own c 2 (s0.farHold p c)
  let b4 := b3.own c 3 (!gated && !q.deferred.isEmpty)
  let b5 := b4.own c 4 (s0.weHold c || decide (we = some c))
  let b6 := (b5.runOn p c k).modClu c (fun y => y.weCycle (fun _ => true))
  if gated then b6 else (b6.spGroup c).modClu c (fun y => { y with defRun := !y.deferred.isEmpty })

/-- The longest wait at step 0 for frames (Table 5.18), in units of 16 ns. -/
def Block.waitMax (b : Block) (p : Nat) : Block :=
  let k := r1 .PART_EQX_WAIT p
  b.setFld k F.PART_EQX_WAIT_WAIT_MAX (min 0xFFFF (max (b.fld k F.PART_EQX_WAIT_WAIT_MAX) (ceilDiv (b.part p).frameHold 32)))

/-- One slip step attributed to cause k (R174). -/
def Block.slipStep (b : Block) (p k : Nat) (gated : Bool) (we : Option Nat) : Block :=
  let x := b.part p
  let b1 := forEach x.clusters b (fun c y => y.slipClu b p k gated we c)
  let b2 := b1.modPart p (fun y => { y.addSlip k 1 with
    slipping := true, cyc := y.cyc + 1, dcSlip := if 2 ≤ k then y.dcSlip + 1 else y.dcSlip
    frameHold := if x.frameWait then y.frameHold + 1 else y.frameHold })
  ((b2.waitMax p).pathDownStop p).spStop p

/-- SLIP_STEP (R4, R174): no effect unless an interlock holds the step. -/
def Block.slipCmd (b : Block) (p : Nat) : Block :=
  if b.runs p ∧ (b.part p).dcp ≠ .eqx then
    let b1 := b.settle p
    if b1.runs p then
      match b1.holds p with
      | [] => b1
      | k :: _ => b1.slipStep p k (b1.gated p) none
    else b1
  else b

/-- SLIP_STEP. -/
def execSlipStep (p : PartNo) (s : State) : Host.Outcome State Fault Refusal := s.run (·.slipCmd p.toNat)

/-! ## The words of word engines as commands -/

/-- The word of WE k is held (R107, R108): slip steps pass, with cause word engine unless a cause of lower index holds the step too, until it may issue.
No result is more than four cycles away. -/
def Block.weWait (b : Block) (p c k op : Nat) (w : WeArgs) : Nat → Block
  | 0 => b
  | n + 1 =>
    let b0 := b.settle p
    if (b0.clu c).weHeld k op w ∧ b0.runs p then
      (b0.slipStep p (((b0.holds p).head?).getD 6) (b0.gated p) (some c)).weWait p c k op w n
    else b0

/-- WE k executes one word in one cycle of its own, after the slip steps for which it is held. -/
def Block.weCmd (b : Block) (c k op : Nat) (w : WeArgs) : Block :=
  match b.inDc c with
  | none => b
  | some p =>
    let b0 := if ((b.landDue c).clu c).weHeld k op w then b.weWait p c k op w 5 else b.landDue c
    if (b0.clu c).weHeld k op w ∨ b0.inDc c = none then b0
    else
      let z := b0.weIssue b0 p c k op w
      (z.1.modClu c (fun x => x.weCycle (fun j => decide (j = k)))).stepFaults p z.2

/-- WE NOP (R94). -/
def execWeNop (c : ClusterId) (k : WeNo) (w : WeArgs) (s : State) : Host.Outcome State Fault Refusal := s.run (·.weCmd c.toNat k.toNat 0x00 w)
/-- ADD (R95). -/
def execAdd (c : ClusterId) (k : WeNo) (w : WeArgs) (s : State) : Host.Outcome State Fault Refusal := s.run (·.weCmd c.toNat k.toNat 0x01 w)
/-- SUB (R95). -/
def execSub (c : ClusterId) (k : WeNo) (w : WeArgs) (s : State) : Host.Outcome State Fault Refusal := s.run (·.weCmd c.toNat k.toNat 0x02 w)
/-- AND (R94). -/
def execAnd (c : ClusterId) (k : WeNo) (w : WeArgs) (s : State) : Host.Outcome State Fault Refusal := s.run (·.weCmd c.toNat k.toNat 0x04 w)
/-- OR (R94). -/
def execOr (c : ClusterId) (k : WeNo) (w : WeArgs) (s : State) : Host.Outcome State Fault Refusal := s.run (·.weCmd c.toNat k.toNat 0x05 w)
/-- XOR (R94). -/
def execXor (c : ClusterId) (k : WeNo) (w : WeArgs) (s : State) : Host.Outcome State Fault Refusal := s.run (·.weCmd c.toNat k.toNat 0x06 w)
/-- ANDN (R94). -/
def execAndn (c : ClusterId) (k : WeNo) (w : WeArgs) (s : State) : Host.Outcome State Fault Refusal := s.run (·.weCmd c.toNat k.toNat 0x07 w)
/-- SHL (R94). -/
def execShl (c : ClusterId) (k : WeNo) (w : WeArgs) (s : State) : Host.Outcome State Fault Refusal := s.run (·.weCmd c.toNat k.toNat 0x08 w)
/-- SHR (R94). -/
def execShr (c : ClusterId) (k : WeNo) (w : WeArgs) (s : State) : Host.Outcome State Fault Refusal := s.run (·.weCmd c.toNat k.toNat 0x09 w)
/-- SAR (R94). -/
def execSar (c : ClusterId) (k : WeNo) (w : WeArgs) (s : State) : Host.Outcome State Fault Refusal := s.run (·.weCmd c.toNat k.toNat 0x0A w)
/-- ROR (R94). -/
def execRor (c : ClusterId) (k : WeNo) (w : WeArgs) (s : State) : Host.Outcome State Fault Refusal := s.run (·.weCmd c.toNat k.toNat 0x0B w)
/-- BFXU (R94). -/
def execBfxu (c : ClusterId) (k : WeNo) (w : WeArgs) (s : State) : Host.Outcome State Fault Refusal := s.run (·.weCmd c.toNat k.toNat 0x0C w)
/-- BFXS (R94). -/
def execBfxs (c : ClusterId) (k : WeNo) (w : WeArgs) (s : State) : Host.Outcome State Fault Refusal := s.run (·.weCmd c.toNat k.toNat 0x0D w)
/-- BFI (R94). -/
def execBfi (c : ClusterId) (k : WeNo) (w : WeArgs) (s : State) : Host.Outcome State Fault Refusal := s.run (·.weCmd c.toNat k.toNat 0x0E w)
/-- CMPEQ (R94). -/
def execCmpeq (c : ClusterId) (k : WeNo) (w : WeArgs) (s : State) : Host.Outcome State Fault Refusal := s.run (·.weCmd c.toNat k.toNat 0x10 w)
/-- CMPLT (R94). -/
def execCmplt (c : ClusterId) (k : WeNo) (w : WeArgs) (s : State) : Host.Outcome State Fault Refusal := s.run (·.weCmd c.toNat k.toNat 0x11 w)
/-- CMPLTU (R94). -/
def execCmpltu (c : ClusterId) (k : WeNo) (w : WeArgs) (s : State) : Host.Outcome State Fault Refusal := s.run (·.weCmd c.toNat k.toNat 0x12 w)
/-- MIN (R94). -/
def execMin (c : ClusterId) (k : WeNo) (w : WeArgs) (s : State) : Host.Outcome State Fault Refusal := s.run (·.weCmd c.toNat k.toNat 0x13 w)
/-- MAX (R94). -/
def execMax (c : ClusterId) (k : WeNo) (w : WeArgs) (s : State) : Host.Outcome State Fault Refusal := s.run (·.weCmd c.toNat k.toNat 0x14 w)
/-- ABS (R94). -/
def execAbs (c : ClusterId) (k : WeNo) (w : WeArgs) (s : State) : Host.Outcome State Fault Refusal := s.run (·.weCmd c.toNat k.toNat 0x15 w)
/-- MOVI (R94). -/
def execMovi (c : ClusterId) (k : WeNo) (w : WeArgs) (s : State) : Host.Outcome State Fault Refusal := s.run (·.weCmd c.toNat k.toNat 0x16 w)
/-- MOVHI (R94). -/
def execMovhi (c : ClusterId) (k : WeNo) (w : WeArgs) (s : State) : Host.Outcome State Fault Refusal := s.run (·.weCmd c.toNat k.toNat 0x17 w)
/-- NORM (R98). -/
def execNorm (c : ClusterId) (k : WeNo) (w : WeArgs) (s : State) : Host.Outcome State Fault Refusal := s.run (·.weCmd c.toNat k.toNat 0x18 w)
/-- EXPX (R99). -/
def execExpx (c : ClusterId) (k : WeNo) (w : WeArgs) (s : State) : Host.Outcome State Fault Refusal := s.run (·.weCmd c.toNat k.toNat 0x19 w)
/-- RND (R96). -/
def execRnd (c : ClusterId) (k : WeNo) (w : WeArgs) (s : State) : Host.Outcome State Fault Refusal := s.run (·.weCmd c.toNat k.toNat 0x1A w)
/-- PACK (R104). -/
def execPack (c : ClusterId) (k : WeNo) (w : WeArgs) (s : State) : Host.Outcome State Fault Refusal := s.run (·.weCmd c.toNat k.toNat 0x1C w)
/-- UNPK (R105). -/
def execUnpk (c : ClusterId) (k : WeNo) (w : WeArgs) (s : State) : Host.Outcome State Fault Refusal := s.run (·.weCmd c.toNat k.toNat 0x1D w)
/-- MOVB (R105). -/
def execMovb (c : ClusterId) (k : WeNo) (w : WeArgs) (s : State) : Host.Outcome State Fault Refusal := s.run (·.weCmd c.toNat k.toNat 0x1E w)
/-- MULS (R94). -/
def execMuls (c : ClusterId) (k : WeNo) (w : WeArgs) (s : State) : Host.Outcome State Fault Refusal := s.run (·.weCmd c.toNat k.toNat 0x20 w)
/-- MULU (R94). -/
def execMulu (c : ClusterId) (k : WeNo) (w : WeArgs) (s : State) : Host.Outcome State Fault Refusal := s.run (·.weCmd c.toNat k.toNat 0x21 w)
/-- MACS (R100). -/
def execMacs (c : ClusterId) (k : WeNo) (w : WeArgs) (s : State) : Host.Outcome State Fault Refusal := s.run (·.weCmd c.toNat k.toNat 0x24 w)
/-- MACU (R100). -/
def execMacu (c : ClusterId) (k : WeNo) (w : WeArgs) (s : State) : Host.Outcome State Fault Refusal := s.run (·.weCmd c.toNat k.toNat 0x25 w)
/-- MSUS (R100). -/
def execMsus (c : ClusterId) (k : WeNo) (w : WeArgs) (s : State) : Host.Outcome State Fault Refusal := s.run (·.weCmd c.toNat k.toNat 0x26 w)
/-- MPYA (R100). -/
def execMpya (c : ClusterId) (k : WeNo) (w : WeArgs) (s : State) : Host.Outcome State Fault Refusal := s.run (·.weCmd c.toNat k.toNat 0x27 w)
/-- CLRA (R94). -/
def execClra (c : ClusterId) (k : WeNo) (w : WeArgs) (s : State) : Host.Outcome State Fault Refusal := s.run (·.weCmd c.toNat k.toNat 0x28 w)
/-- LDA (R94). -/
def execLda (c : ClusterId) (k : WeNo) (w : WeArgs) (s : State) : Host.Outcome State Fault Refusal := s.run (·.weCmd c.toNat k.toNat 0x29 w)
/-- RNDA (R97). -/
def execRnda (c : ClusterId) (k : WeNo) (w : WeArgs) (s : State) : Host.Outcome State Fault Refusal := s.run (·.weCmd c.toNat k.toNat 0x2A w)
/-- MOVAL (R94). -/
def execMoval (c : ClusterId) (k : WeNo) (w : WeArgs) (s : State) : Host.Outcome State Fault Refusal := s.run (·.weCmd c.toNat k.toNat 0x2B w)
/-- MOVAH (R94). -/
def execMovah (c : ClusterId) (k : WeNo) (w : WeArgs) (s : State) : Host.Outcome State Fault Refusal := s.run (·.weCmd c.toNat k.toNat 0x2C w)
/-- NORMA (R98). -/
def execNorma (c : ClusterId) (k : WeNo) (w : WeArgs) (s : State) : Host.Outcome State Fault Refusal := s.run (·.weCmd c.toNat k.toNat 0x2D w)
/-- REP (R111). -/
def execRep (c : ClusterId) (k : WeNo) (w : WeArgs) (s : State) : Host.Outcome State Fault Refusal := s.run (·.weCmd c.toNat k.toNat 0x3E w)

/-! ## The start of a DC, and the resume -/

/-- Step 0 may begin (R32, R168). -/
def Block.dcReady (b : Block) (p : Nat) : Bool :=
  let x := b.part p
  b.runs p && decide (x.dcp = .start ∧ x.stopAfter = false) && !b.spBusy p && !x.frameWait

/-- DC_START (R168): the frames are applied and step 0 begins. -/
def Block.dcStart (b : Block) (p : Nat) : Block :=
  if b.dcReady p then
    let x := b.part p
    (if x.needsFrame && x.missing.isEmpty then b.applyFrames p else b).modPart p (fun y => { y with dcp := .run, step := 0, noWait := false })
  else b

/-- DC_START. -/
def execDcStart (p : PartNo) (s : State) : Host.Outcome State Fault Refusal := s.run (·.dcStart p.toNat)

/-- The WEs of cluster c whose loop state breaks a check at resume (R117). -/
def Block.loopCheck (b : Block) (p c : Nat) : Block :=
  let bad := (List.range 4).filter (fun k => !b.loopStateOk c k (b.part p).step)
  b.modClu c (fun x => { x with loopBad := bad })

/-- The partition runs again (R187, R174, R117, R415): after a step break the next one comes COUNT steps on, and steps that one has still to run stay so over a
freeze. -/
def Block.resumeNow (b : Block) (p : Nat) : Block :=
  let x := b.part p
  let b1 := forEach x.clusters b (fun c y => if x.midDc then (y.landAll c).loopCheck p c else y.landAll c)
  let n := if x.brkStop then b.fld (r1 .TRG_SBRKp_CTRL p) F.TRG_SBRKp_CTRL_COUNT else x.brkLeft
  let b2 := (b1.modPart p (fun y => { y.addSlip 0 x.frozenFor with
    state := .running, cyc := 8 * b.pw.ctl, frozenFor := 0, midDc := false, brkStop := false, brkLeft := n
    noWait := decide (x.dcp = .start) })).setFld (r1 .TRG_SBRKp_STATUS p) F.TRG_SBRKp_STATUS_LEFT n
  (b2.clrFld (r1 .PART_FRZ_STATUS p) F.PART_FRZ_STATUS_FROZEN).clrFld (r1 .PART_FRZ_STATUS p) F.PART_FRZ_STATUS_DRAINED

/-- A RESUME has its effect (R187): only on a FROZEN, drained, consistent partition. -/
def Block.resumable (b : Block) (p : Nat) : Bool :=
  decide ((b.part p).state = .frozen) && b.bit (r1 .PART_FRZ_STATUS p) F.PART_FRZ_STATUS_DRAINED && !(b.part p).inconsistent

/-- RESUME (R187). -/
def Block.resume (b : Block) (p : Nat) : Block := if b.resumable p then b.resumeNow p else b

/-- RESUME. -/
def execResume (r : Requester) (p : PartNo) (s : State) : Host.Outcome State Fault Refusal :=
  s.run (fun b => b.frzWrite r .PART_FRZ_CMD p.toNat 4 (·.resume p.toNat))

/-! ## Hazard registers and step breaks -/

/-- A write of 1 to HZ_CLEAR.CLEAR (R208). -/
def Block.hzClear (b : Block) (c : Nat) : Block :=
  let b1 := forEach (List.range 5) b (fun j x => x.setReg (r2 .HZ_OWNj c j) 0)
  ([r1 .HZ_WORST_LEN c, r1 .HZ_WORST_AT c, r1 .HZ_WORST_DC c, r1 .HZ_OVER c].foldl Block.clrReg b1).modClu c (fun x => { x with run := 0, overSeen := false })

/-- HZ_CLEAR (R208). -/
def execHzClear (r : Requester) (c : ClusterId) (s : State) : Host.Outcome State Fault Refusal :=
  s.run (fun b => b.hostWrite r (r1 .HZ_CLEAR c.toNat) 1 (·.hzClear c.toNat))

/-- HZ_BUDGET_WRITE (R206): the Equinox compares with what the register holds then. -/
def execHzBudgetWrite (r : Requester) (c : ClusterId) (v : Word) (s : State) : Host.Outcome State Fault Refusal :=
  s.run (fun b => b.hostWrite r (r1 .HZ_BUDGET c.toNat) v (·.setReg (r1 .HZ_BUDGET c.toNat) (v &&& 0xFFFF#32)))

/-- The partition has executed step n of DC t (R412). -/
def Part.executed (x : Part) (t : BitVec 32) (n : Nat) : Bool :=
  let c := x.dc.setWidth 32
  dcBefore t c || (decide (t = c) && (decide (x.dcp = .eqx) || (decide (x.dcp = .run ∧ n < x.step))))

/-- A write of TRG_SBRKp_CTRL (R412). -/
def Block.breakWrite (b : Block) (p : Nat) (v : Word) : Block :=
  let x := b.part p
  let k := r1 .TRG_SBRKp_CTRL p
  let n := F.TRG_SBRKp_CTRL_STEP.get v
  let off := b.setReg k (v &&& 0x07FFFFFF#32)
  if v.getLsbD 31 then
    if x.man.framePaths ∨ x.man.remote ∨ x.len ≤ n then off.setBit (r1 .TRG_SBRKp_STATUS p) F.TRG_SBRKp_STATUS_REFUSED
    else if x.executed (b.reg (r1 .TRG_SBRKp_DC p)) n then off.setBit (r1 .TRG_SBRKp_STATUS p) F.TRG_SBRKp_STATUS_LATE
    else off.setBit k F.TRG_SBRKp_CTRL_EN
  else off

/-- STEP_BREAK_ARM (R412). -/
def execStepBreakArm (r : Requester) (p : PartNo) (v : Word) (s : State) : Host.Outcome State Fault Refusal :=
  s.run (fun b => b.hostWrite r (r1 .TRG_SBRKp_CTRL p.toNat) v (·.breakWrite p.toNat v))

end Sys2Proof.Machine
end

