-- ==== Sys2Proof/Machine/Bus.lean ====
section
/-!
DEFINITION. Access to BAR0 by offset (R14 to R19, R453, R549, R550): which register or window an offset names, what a write of a word does, and what a
read returns. REGISTER_WRITE and the register space of the DMA engine go through here.
-/
namespace Sys2Proof.Machine

/-! ## Places of BAR0 -/

/-- What an offset names (Table 20.1, Table 20.2). -/
inductive Place where
  | reg (k : RegKey)
  /-- word j of the select list of cluster c -/
  | sel (c j : Nat)
  /-- word w of state-port buffer i of cluster c: load A, load B, unload A, unload B -/
  | buf (c i w : Nat)
  /-- word w of the window of WE k -/
  | we (c k w : Nat)
  /-- words of the mailbox buffers -/
  | request (w : Nat)
  | response (w : Nat)
  | stream
  /-- word w of the program store -/
  | prog (w : Nat)
  | bulk (off : Nat)
  /-- no register or window -/
  | nothing
  deriving DecidableEq, Repr

/-- The place of an offset within the window of cluster c; none where a register line gives it. -/
def cluPlace (c o : Nat) : Option Place :=
  if 0x4000 ≤ o ∧ o < 0x8000 then some (.sel c ((o - 0x4000) / 4))
  else if 0x8000 ≤ o ∧ o < 0x9000 then some (.buf c ((o - 0x8000) / 0x400) (o % 0x400 / 4))
  else if 0x1000 ≤ o ∧ o < 0x2000 ∧ o % 0x400 < 0x240 then some (.we c ((o - 0x1000) / 0x400) (o % 0x400 / 4))
  else none

/-- The window that an offset falls into. -/
def windowAt (off : Nat) : Option Place :=
  if 0x02000000 ≤ off then some (.bulk (off - 0x02000000))
  else if 0x01000000 ≤ off then cluPlace ((off - 0x01000000) / 0x10000) (off % 0x10000)
  else if 0xA000 ≤ off ∧ off < 0xB000 then some (.request ((off - 0xA000) / 4))
  else if 0xB000 ≤ off ∧ off < 0xC000 then some (.response ((off - 0xB000) / 4))
  else if 0x108000 ≤ off ∧ off < 0x110000 then some .stream
  else if 0x440000 ≤ off ∧ off < 0x480000 then some (.prog ((off - 0x440000) / 4))
  else none

/-- The place of an offset of BAR0; an offset that is no multiple of 4 names no register. -/
def placeOf (off : Nat) : Place :=
  if off % 4 ≠ 0 ∨ 0x04000000 ≤ off then .nothing
  else match windowAt off with
    | some x => x
    | none => match regAt off with
      | some k => .reg k
      | none => .nothing

/-- The offset lies in a design-state range (R475). -/
def designRange (off : Nat) : Bool :=
  match placeOf off with
  | .sel _ _ => true
  | .buf _ _ _ => true
  | .we _ _ _ => true
  | .reg k => decide (k.name = .CLU_LANE_LATCHn)
  | _ => false

/-! ## Writes -/

/-- The function through which a requester uses a mailbox: a DMA channel of scope partition that of its partition (R333, R453). -/
def Block.viaFn (b : Block) (r : Requester) : Requester :=
  match r with
  | .dma n => if b.dmaModule n.toNat then .pf0
      else if b.servingFn (b.dmaPart n.toNat) = 0 then .pf0 else .vf (BitVec.ofNat 8 (b.dmaPart n.toNat))
  | _ => r

/-- The partition has not committed: it is in Winter state, or was at the entry of Frost (R528). -/
def Part.uncommitted (x : Part) : Bool := decide (x.state = .winter ∨ (x.state = .frost ∧ x.preFrost = .winter))

/-- An RWL register is still writable: its owning partition has not committed (Table 0.3). -/
def Block.unlocked (b : Block) (k : RegKey) : Bool :=
  !k.name.info.rwl || (match b.ownerOf k with | some p => (b.part p).uncommitted | none => true)

/-- A write by the access codes, RWL registers while they are writable. -/
def Block.plainWrite (b : Block) (k : RegKey) (v : Word) : Block := if b.unlocked k then b.writeCodes k v else b

/-- A write of PART_FRZ_CMD: one that sets more than one bit has no effect (Table 5.10). -/
def Block.frzCmd (b : Block) (p : Nat) (v : Word) : Block :=
  let n := v.toNat % 8
  if n = 1 then b.freeze p else if n = 2 then b.freezeAt p else if n = 4 then b.resume p else b

/-- A write of CFG_CTRL: one that sets more than one bit has no effect (Table 7.14). -/
def Block.cfgCtrl (b : Block) (r : Requester) (v : Word) : Block :=
  let n := v.toNat % 16
  if n = 1 then b.cfgStart r
  else if n = 2 then b.endStream r
  else if n = 4 then b.cfgCommit r
  else if n = 8 then (if b.cfgMine r then b.cfgClrErr else b)
  else b

/-- A write of EVT_PENDw: the bits of events raised in the same cycle stay set, and the cycle's clearings are noted (R17, R554). -/
def Block.pendWrite (b : Block) (k : RegKey) (v : Word) : Block :=
  let l := ((List.range 32).filter (fun i => v.getLsbD i && (b.reg k).getLsbD i && !b.evtRaised.contains (32 * k.i + i))).map (32 * k.i + ·)
  { forEach l b (fun e x => x.clrPend e) with evtClr := (b.pw.ctl, (if b.evtClr.1 = b.pw.ctl then b.evtClr.2 else []) ++ l) }

/-- A write of SEM_CFGn: SCOPE and PART only while the semaphore is free, FORCE frees it (R470, Table 15.16). -/
def Block.semCfg (b : Block) (n : Nat) (v : Word) : Block :=
  if b.semHeld n then (if v.getLsbD 31 then b.semFree n true else b) else b.writeCodes (r1 .SEM_CFGn n) v

/-- A write of TDU_CHn_CFG: only while HELD is 0 (R323). -/
def Block.tduCfg (b : Block) (n : Nat) (v : Word) : Block :=
  if b.tduHeld n = 0 then (b.writeCodes (r1 .TDU_CHn_CFG n) v).tduSetHeld n 0 else b

/-- A write of DMA_CHn_CMD: one that sets more than one bit has no effect (Table 11.9). -/
def Block.dmaCmdWrite (b : Block) (r : Requester) (n : Nat) (v : Word) : Block :=
  let c := v.toNat % 16
  if c = 1 then b.dmaCmd r n v false (·.dmaStart n (F.DMA_CHn_CMD_SLOT.get v))
  else if c = 2 then b.dmaCmd r n v false (·.dmaArm n)
  else if c = 4 then b.dmaCmd r n v true (fun x => if x.dmaBusy n then (x.dmaAbort n 0xB).dmaAccepted n else x)
  else if c = 8 then b.dmaCmd r n v true (·.dmaClear n)
  else b.dmaCmd r n v true id

/-- A base register of channel n is written: by its own program always (R365), by a host not in RUN or WAIT (Table 11.14). -/
def Block.baseWrite (b : Block) (r : Requester) (k : RegKey) (v : Word) : Block :=
  if r = .dma (BitVec.ofNat 6 k.i) then b.setReg k v
  else b.hostWrite r k v (fun x => if x.dmaState k.i = 2 ∨ x.dmaState k.i = 3 then x else x.setReg k v)

/-- The index of a loop register in the window of its WE (Table 3.11). -/
def loopIdx (k : RegKey) : Nat :=
  match k.name with
  | .WE_LOOP_CTRL => 1
  | .WE_LPn_ADDR => 2 + 2 * k.k
  | .WE_LPn_CNT => 3 + 2 * k.k
  | _ => 0

/-- A write of the mailbox registers of the function used (R458). -/
def Block.mbxWrite (b : Block) (r : Requester) (k : RegKey) (v : Word) : Block :=
  b.hostWrite r k v (fun x =>
    let f := x.viaFn r
    if k.name = .MBX_CTRL then x.modFunc (fnOf f) (fun y => { y with mbxCtrl := v &&& 0xFFF#32 })
    else if k.name = .MBX_STATUS then x.modFunc (fnOf f) (fun y => { y with mbxStatus := y.mbxStatus &&& ~~~(v &&& 6#32) })
    else if v.getLsbD 0 then x.mbxGo f else x)

/-- A write of a register, by its name. -/
def Block.regWrite (b : Block) (r : Requester) (k : RegKey) (v : Word) : Block :=
  match k.name with
  | .CTL_PRSTw => b.hostWrite r k v (·.prstWrite r k.i v)
  | .PART_FRZ_CMD => b.frzWrite r .PART_FRZ_CMD k.i v (·.frzCmd k.i v)
  | .PART_MARGIN => b.frzWrite r .PART_MARGIN k.i v (·.marginWrite k.i v)
  | .PART_FRZ_TARGET => b.frzWrite r .PART_FRZ_TARGET k.i v (·.writeCodes k v)
  | .PART_EQX_TMO => b.frzWrite r .PART_EQX_TMO k.i v (·.writeCodes k v)
  | .PART_FRZ_STATUS => b.frzWrite r .PART_FRZ_STATUS k.i v (·.writeCodes k v)
  | .SSP_OWNb => b.hostWrite r k v (·.sspOwn r k.i v)
  | .SSP_PWRb => b.sspPwrWrite r k.i v
  | .FLT_STATUS => b.hostWrite r k v (·.fltAck v)
  | .FLT_CLR => b.hostWrite r k v (·.fltClr v)
  | .MBX_CTRL => b.mbxWrite r k v
  | .MBX_STATUS => b.mbxWrite r k v
  | .MBX_DOORBELL => b.mbxWrite r k v
  | .SEM_RELn => b.hostWrite r k v (fun x => if v.getLsbD 0 then x.semRelease r k.i else x)
  | .SEM_CFGn => b.hostWrite r k v (·.semCfg k.i v)
  | .EVT_PENDw => b.hostWrite r k v (·.pendWrite k v)
  | .CFG_CTRL => b.hostWrite r k v (·.cfgCtrl r v)
  | .CFG_SRC => b.hostWrite r k v (fun x => if v.toNat % 4 = 2 ∧ r ≠ .hkc then x else x.writeCodes k v)
  | .CFG_SCRUB_CTRL => b.hostWrite r k v (·.scrubCtrl v)
  | .CFG_SCRUB_ERR => b.hostWrite r k v (fun x => if v.getLsbD 31 then x.clrReg k else x)
  | .TIM_CMD => b.hostWrite r k v (·.timCmd v)
  | .TIM_CTRL => b.hostWrite r k v (·.timCtrl v)
  | .TIM_SERVO => b.hostWrite r k v (·.servoWrite v)
  | .TIM_PPS_OFS => b.hostWrite r k v (·.ppsOfsWrite v)
  | .TIM_TMRk_CTRL => b.hostWrite r k v (·.tmrCtrl k.i v)
  | .TIM_TMRk_STARTw => b.hostWrite r k v (fun x => if x.tmrArmed k.i then x else x.writeCodes k v)
  | .TIM_TMRk_PERIOD_LO => b.hostWrite r k v (fun x => if x.tmrArmed k.i then x else x.writeCodes k v)
  | .TIM_TMRk_PERIOD_HI => b.hostWrite r k v (fun x => if x.tmrArmed k.i then x else x.writeCodes k v)
  | .TDU_SPILL_BASE => b.hostWrite r k v (fun x => if x.bit (r0 .TDU_CTRL) F.TDU_CTRL_EN then x else x.writeCodes k v)
  | .TDU_SPILL_SIZE => b.hostWrite r k v (fun x => if x.bit (r0 .TDU_CTRL) F.TDU_CTRL_EN then x else x.writeCodes k v)
  | .TDU_CTRL => b.hostWrite r k v (fun x => (x.writeCodes k v).tduSettle)
  | .TDU_CHn_CFG => b.hostWrite r k v (·.tduCfg k.i v)
  | .TDU_CHn_POST => b.hostWrite r k v (fun x =>
      if F.TDU_CHn_POST_CMD.get v = 0 then x.tduPost r k.i v else if F.TDU_CHn_POST_CMD.get v = 1 then x.tduRetireNotify k.i v else x)
  | .DMA_CHn_CFG => b.hostWrite r k v (·.dmaCfg k.i v)
  | .DMA_CHn_CMD => b.dmaCmdWrite r k.i v
  | .DMA_CHn_TRIG => b.hostWrite r k v (·.trigWrite k.i v)
  | .DMA_CHn_Bk_LO => b.baseWrite r k v
  | .DMA_CHn_Bk_HI => b.baseWrite r k v
  | .DMA_SLOT_OWNs => b.hostWrite r k v (·.slotWrite k.i v)
  | .LNK_CTRLn => b.hostWrite r k v (·.lnkCtrlWrite k.i v)
  | .LNK_DEVID => b.hostWrite r k v (·.lnkDevid v)
  | .VPT_CTRL => b.hostWrite r k v (·.vptCtrl v)
  | .VPT_CHc_OWN => b.hostWrite r k v (·.vptOwn k.i v)
  | .VPT_Pp_FIRST => b.hostWrite r k v (·.firstClear k.i v)
  | .TRG_OUTt_CMD => b.hostWrite r k v (·.trgCmd k.i v)
  | .TRG_OUTt_OWN => b.hostWrite r k v (·.trgOwn k.i v)
  | .TRG_Qq_CFG => b.hostWrite r k v (·.qualWrite k.i 0 v)
  | .TRG_Qq_MIN => b.hostWrite r k v (·.qualWrite k.i 1 v)
  | .TRG_Qq_MAX => b.hostWrite r k v (·.qualWrite k.i 2 v)
  | .TRG_Qq_OWN => b.hostWrite r k v (·.qualWrite k.i 3 v)
  | .TRG_SBRKp_CTRL => b.hostWrite r k v (·.breakWrite k.i v)
  | .TRC_Sx_CMD => b.hostWrite r k v (·.trcCmd k.i v)
  | .TRC_Sx_POST_HI => b.hostWrite r k v (·.pagePost k.i v)
  | .TRC_Sx_CFG => b.hostWrite r k v (·.trcCfgWrite k v)
  | .TRC_Sx_POSTDC => b.hostWrite r k v (·.trcCfgWrite k v)
  | .TRC_Sx_OWN => b.hostWrite r k v (·.trcOwnWrite k.i v)
  | .CLU_FAULT => b.hostWrite r k v (·.faultWrite k.i v)
  | .CLU_MEM_FAULT => b.hostWrite r k v (·.faultClear k 0x1FE [r1 .CLU_MEM_FAULT_INFO k.i] v)
  | .WE_FAULT => b.hostWrite r k v (·.faultClear k 0x1FE [r2 .WE_FAULT_INFO k.i k.j] v)
  | .CLU_SENT_CTRL => b.hostWrite r k v (·.sentWrite k.i v)
  | .CLU_SP_CTRL => b.hostWrite r k v (·.spCtrl k.i v)
  | .CLU_SP_HANDOFF => b.hostWrite r k v (·.spHandoff k.i v)
  | .CLU_FMC_CTRL => b.hostWrite r k v (fun x => if v.getLsbD 0 then x.flush k.i else x)
  | .HZ_CLEAR => b.hostWrite r k v (fun x => if v.getLsbD 0 then x.hzClear k.i else x)
  | .WE_PC => b.loopWrite r k.i k.j (loopIdx k) v
  | .WE_LOOP_CTRL => b.loopWrite r k.i k.j (loopIdx k) v
  | .WE_LPn_ADDR => b.loopWrite r k.i k.j (loopIdx k) v
  | .WE_LPn_CNT => b.loopWrite r k.i k.j (loopIdx k) v
  | .CLU_LANE_LATCHn => b.windowWrite r k k.addr v (·.plainWrite k v)
  | .PWR_FROST => b.hostWrite r k v (·.frostWrite v)
  | .MTE_CTRL => b.hostWrite r k v (·.mteCtrl v)
  | _ => b.hostWrite r k v (·.plainWrite k v)

/-- A write of a word of the request buffer (R457): not while the command is being served. -/
def Block.requestWrite (b : Block) (r : Requester) (w : Nat) (v : Word) : Block :=
  let f := b.viaFn r
  if b.reaches r (r0 .MBX_CTRL) ∧ (b.func (fnOf f)).busy = false then
    b.modFunc (fnOf f) (fun x => { x with req := putBytes x.req (4 * w) (leBytes 4 v.toNat) })
  else b

/-- A write of a word of BAR0 (R549). -/
def Block.busWrite (b : Block) (r : Requester) (off : Nat) (v : Word) : Block :=
  match placeOf off with
  | .reg k => b.regWrite r k v
  | .sel c j => b.windowWrite r (r1 .CLU_SP_CTRL c) off v (·.selWrite c j v)
  | .buf c i w => if i < 2 then b.windowWrite r (r1 .CLU_SP_CTRL c) off v (·.loadWrite c (decide (i = 1)) w v) else b
  | .we c k w => b.windowWrite r (r2 .WE_PC c k) off v (·.weWrite c k w v)
  | .request w => b.requestWrite r w v
  | .response _ => b
  | .stream => b.streamWrite r (off - 0x108000) (leBytes 4 v.toNat)
  | .prog w => b.progWrite r w v
  | .bulk o => if b.bulkReach r then b.bulkWrite r o (leBytes 4 v.toNat) else b
  | .nothing => b

/-- A write of bytes to BAR0 (R452): a register takes an aligned access of 4 bytes alone, the program and bulk windows aligned ones of 4 to 64 bytes, the
stream window any. -/
def Block.barStore (b : Block) (r : Requester) (off : Nat) (l : List Byte) : Block :=
  if off % 4 = 0 ∧ l.length = 4 then b.busWrite r off (BitVec.ofNat 32 (leNat l))
  else if 0x108000 ≤ off ∧ off < 0x110000 then b.streamWrite r (off - 0x108000) l
  else if off % 4 = 0 ∧ l.length % 4 = 0 ∧ l.length ≤ 64 then
    match placeOf off with
    | .prog w => b.progStore r w (wordsLe l)
    | .bulk o => if b.bulkReach r then b.bulkWrite r o l else b
    | _ => b
  else b

/-- A write of bytes by a requester: one that comes poisoned is reported, and its data are discarded (Table 15.1). -/
def Block.hostStore (b : Block) (r : Requester) (bar2 : Bool) (off : Nat) (l : List Byte) (poisoned : Bool) : Block :=
  if poisoned && (isVf r || decide (r = .pf0)) then b.aerReport r else if bar2 then b.bar2Write r off l else b.barStore r off l

/-- REGISTER_WRITE: a write of BAR0 or BAR2 (R15 to R19, R451, R452). -/
def execRegisterWrite (r : Requester) (bar2 : Bool) (off : BitVec 26) (bytes : List Byte) (poisoned : Bool) (s : State) :
    Host.Outcome State Fault Refusal := s.run (·.hostStore r bar2 off.toNat bytes poisoned)

/-! ## Reads -/

/-- The code of a state in CLU_STATUS (Table 2.11). -/
def stateCode : PState → Nat
  | .winter => 0
  | .running => 1
  | .frozen => 2
  | .stoppedFault => 3
  | .frost => 4

/-- The code of a role in SEC_SESSION (Table 16.9). -/
def sessionCode : Role → Nat
  | .op => 1
  | .inst => 2
  | .maker => 3
  | _ => 0

/-- CLU_STATUS (Table 2.11). -/
def Block.cluStatus (b : Block) (c : Nat) : Word :=
  match b.cluPart c with
  | none => BitVec.ofNat 32 (b2n (b.clu c).suspect * 64 + stateCode (b.cluState c))
  | some p =>
    let x := b.part p
    BitVec.ofNat 32 (x.step % 2048 * 2 ^ 16 + b2n x.inconsistent * 128 + b2n (b.clu c).suspect * 64 + b2n x.slipping * 32 + stateCode (b.cluState c))

/-- A number that a cluster shows of its partition, 0 for a cluster of none. -/
def Block.ofPart (b : Block) (c : Nat) (f : Part → Nat) : Nat := match b.cluPart c with | some p => f (b.part p) | none => 0

/-- CLU_FMP_STATUSn (R152). -/
def Block.fmpStatus (b : Block) (c n : Nat) : Word :=
  let q := (b.clu c).fmpQ n
  BitVec.ofNat 32 (b2n (b.fmpDrained c n) * 2 ^ 31 + (q.filter (fun e => e.present)).length % 128 * 2 ^ 16 + q.length % 128)

/-- WE_STATUS (Table 3.12): DRAINED and MIDDC follow the partition and the results in flight. -/
def Block.weStatus (b : Block) (c k : Nat) : Word :=
  let drained := decide (b.cluState c ≠ .running) && !(b.clu c).inFlight k
  BitVec.ofNat 32 ((b.reg (r2 .WE_STATUS c k)).toNat / 65536 * 65536 + b2n drained * 128 + b2n (b.midDc c k) * 64 + (b.reg (r2 .WE_STATUS c k)).toNat % 32)

/-- DMA_SLOT_SUM (Table 11.16). -/
def Block.slotSum (b : Block) : Word :=
  let count (f : Nat → Bool) : Nat := ((List.range 1024).filter f).length
  let moving (s : Nat) : Bool := b.bit (r1 .DMA_SLOT_OWNs s) F.DMA_SLOT_OWNs_HANDOVER
  BitVec.ofNat 32 (count moving * 2 ^ 16 + count (fun s => !moving s && (b.slotOwner s).isNone))

/-- An entry of the fault log that a session reads: an operator only its partitions' level P entries and level X (Table 17.10). -/
def Block.logShown (b : Block) (r : Requester) (i : Nat) : Bool :=
  decide (b.roleOf r ≠ .op) || decide (b.fltLevel i = 5)
    || (decide (b.fltLevel i = 1 ∨ b.fltLevel i = 2) && b.operCovers r (b.fld (r1 .FLT_LOGi_W0 i) F.FLT_LOGi_W0_PART))

/-- A register of a load that a VF did not begin reads zero (R454). -/
def Block.loadShown (b : Block) (r : Requester) (k : RegKey) : Word := if b.cfgMine r then b.reg k else 0

/-- What a register without an effect on reading shows. -/
def Block.regShow (b : Block) (r : Requester) (k : RegKey) : Word :=
  let f := b.func (fnOf (b.viaFn r))
  match k.name with
  | .CLU_STATUS => b.cluStatus k.i
  | .CLU_DC_LO => BitVec.ofNat 32 (b.ofPart k.i (·.dc.toNat))
  | .CLU_DC_HI => BitVec.ofNat 32 (b.ofPart k.i (·.dc.toNat) / 2 ^ 32)
  | .CLU_SLIP_LO => BitVec.ofNat 32 (b.ofPart k.i (·.slip.toNat))
  | .CLU_SLIP_HI => BitVec.ofNat 32 (b.ofPart k.i (·.slip.toNat) / 2 ^ 32)
  | .HZ_SLIPk_LO => BitVec.ofNat 32 (b.ofPart k.i (fun x => (NMap.get 0 x.hz k.j).toNat))
  | .HZ_SLIPk_HI => BitVec.ofNat 32 (b.ofPart k.i (fun x => (NMap.get 0 x.hz k.j).toNat) / 2 ^ 32)
  | .CLU_FMP_STATUSn => b.fmpStatus k.i k.j
  | .WE_STATUS => b.weStatus k.i k.j
  | .CLU_LANE_LATCHn => if b.designOk r k then b.reg k else 0
  | .PART_EQX_WAIT => if b.hosts k.i then F.PART_EQX_WAIT_MISSING.set (b.reg k) (b.part k.i).missing.length else 0
  | .PART_FRZ_TARGET => if b.hosts k.i then b.reg k else 0
  | .PART_FRZ_STATUS => if b.hosts k.i then b.reg k else 0
  | .PART_FRZ_LAST => if b.hosts k.i then b.reg k else 0
  | .PART_FRZ_ORIGIN => if b.hosts k.i then b.reg k else 0
  | .PART_MARGIN => if b.hosts k.i then b.reg k else 0
  | .PART_MARGIN_EFF => if b.hosts k.i then b.reg k else 0
  | .PART_EQX_TMO => if b.hosts k.i then b.reg k else 0
  | .TRG_Qq_STAT => F.TRG_Qq_STAT_NOCHAN.set (b.reg k) (b2n ((b.qualOwner k.i).isSome && b.noChan k.i))
  | .SSP_SUM => b.sspSum
  | .DMA_SLOT_SUM => b.slotSum
  | .TDU_OCC => BitVec.ofNat 32 b.tdu.onchip
  | .TDU_SPILLED => BitVec.ofNat 32 b.tdu.spilled.length
  | .SEC_SESSION => match f.session with
      | some x => BitVec.ofNat 32 (sessionCode x.role * 256 + x.slot % 256)
      | none => 0
  | .SEC_STATUS => F.SEC_STATUS_LOCKOUT.set (b.reg k) (b2n f.lockout)
  | .MBX_CTRL => f.mbxCtrl
  | .MBX_STATUS => f.mbxStatus
  | .SEM_PEEKn => if b.semServes r k.i then b.reg k else 0
  | .CFG_PART_LOADEDn => match r with
      | .vf v => if v.toNat / 32 = k.i then b.reg k &&& BitVec.ofNat 32 (2 ^ (v.toNat % 32)) else 0
      | _ => b.reg k
  | .CFG_STATUS => b.loadShown r k
  | .CFG_PROGRESS => b.loadShown r k
  | .CFG_ERR_FRAME => b.loadShown r k
  | .FLT_LOGi_W0 => if b.logShown r k.i then b.reg k else 0
  | .FLT_LOGi_TSw => if b.logShown r k.i then b.reg k else 0
  | _ => b.reg k

/-- A read of a register: what it does, and the word. -/
def Block.regRead (b : Block) (r : Requester) (k : RegKey) : Block × Word :=
  if b.mayRead r k then
    match k.name with
    | .TIM_NOW_w => if k.i = 0 then b.nowLatch else (b, b.reg k)
    | .TIM_EVIn_TSw => if k.j = 0 then b.eviLatch k.i else if k.j = 2 then b.eviPop k.i else (b, if (NMap.get [] b.tu.evi k.i).isEmpty then 0 else b.reg k)
    | .TRG_OUTt_TSw => if k.j = 0 then b.fireTsRead k.i else (b, b.reg k)
    | .TRC_Sx_DONE_LO => b.doneRead k.i
    | .TDU_CHn_NHEAD => b.nheadRead k.i
    | .SEM_ACQn => (b.semAcq r k.i, BitVec.ofNat 32 (leNat (b.semAcq r k.i).reply))
    | .CFG_SCRUB_STATUS => ({ b with cfg := { b.cfg with scrubSeen := false } }, b.reg k)
    | _ => (b, b.regShow r k)
  else (b, 0)

/-- A word of a design-state window (R475): zero to any session but an operator's whose key scope covers the partition. -/
def Block.designRead (b : Block) (r : Requester) (k : RegKey) (w : Word) : Word := if b.reaches r k && b.designOk r k then w else 0

/-- 32-bit word w of state-port buffer i (R71). -/
def Cluster.bufWord (x : Cluster) (i w : Nat) : Word :=
  if w < 130 then BitVec.ofNat 32 ((NMap.get 0 x.sp.buf (i * 65 + w / 2)).toNat >>> (32 * (w % 2))) else 0

/-- A word of the program store, as a requester reads it (R355). -/
def Block.progRead (b : Block) (r : Requester) (w : Nat) : Word := if b.progReaches r (w / 64) then NMap.get 0 b.prog w else 0

/-- A read of a word of BAR0. -/
def Block.busRead (b : Block) (r : Requester) (off : Nat) : Block × Word :=
  match placeOf off with
  | .reg k => b.regRead r k
  | .sel c j => (b, b.designRead r (r1 .CLU_SP_CTRL c) (NMap.get 0 (b.clu c).sp.sel j))
  | .buf c i w => (b, b.designRead r (r1 .CLU_SP_CTRL c) ((b.clu c).bufWord i w))
  | .we c k w => (b, b.designRead r (r2 .WE_PC c k) ((b.clu c).weWord k w))
  | .request w => (b, if b.reaches r (r0 .MBX_CTRL) then BitVec.ofNat 32 (leNat (sliceBytes ((b.func (fnOf (b.viaFn r))).request 4096) (4 * w) 4)) else 0)
  | .response w => (b, if b.reaches r (r0 .MBX_CTRL) then
      BitVec.ofNat 32 (leNat ((List.range 4).map (fun i => NMap.get 0 (b.func (fnOf (b.viaFn r))).resp (4 * w + i)))) else 0)
  | .stream => (b, 0)
  | .prog w => (b, b.progRead r w)
  | .bulk o => if b.bulkReach r then (let x := b.bulkRead r o 4; (x, BitVec.ofNat 32 (leNat x.reply))) else (b, 0)
  | .nothing => (b, 0)

/-! ## Writes that have no effect (R362) -/

/-- A register that holds nothing and whose write is a command. -/
def isAction (n : RegName) : Bool :=
  n ∈ [RegName.CTL_PRSTw, .PART_FRZ_CMD, .FLT_CLR, .MBX_DOORBELL, .SEM_RELn, .CFG_CTRL, .TIM_CMD, .TDU_CHn_POST, .DMA_CHn_CMD, .TRG_OUTt_CMD,
    .TRC_Sx_CMD, .CLU_SP_HANDOFF, .CLU_FMC_CTRL, .HZ_CLEAR]

/-- Exactly one of the low n bits is set. -/
def oneBit (n : Nat) (v : Word) : Bool := decide (((List.range n).filter (fun i => v.getLsbD i)).length = 1)

/-- A command that DMA_CHn_CMD does not take (R359). -/
def Block.dmaCmdVoid (b : Block) (r : Requester) (n : Nat) (v : Word) : Bool :=
  !oneBit 4 v || !b.dmaCmdOk r n (v.getLsbD 2 || v.getLsbD 3)
    || ((v.getLsbD 0 || v.getLsbD 1) && !b.dmaIdle n) || (v.getLsbD 2 && !b.dmaBusy n) || (v.getLsbD 3 && decide (b.dmaState n ≠ 4))

/-- The rules of the register give a write no effect in the present state, whoever writes. -/
def Block.voidNow (b : Block) (r : Requester) (k : RegKey) (v : Word) : Bool :=
  match k.name with
  | .PART_FRZ_CMD => !b.hosts k.i || !oneBit 3 v || (v.getLsbD 2 && !b.resumable k.i)
  | .PART_MARGIN => !b.hosts k.i
  | .PART_FRZ_TARGET => !b.hosts k.i
  | .PART_EQX_TMO => !b.hosts k.i
  | .PART_FRZ_STATUS => !b.hosts k.i
  | .SSP_OWNb => decide (CUnit.ssp ∈ b.flt.refusing) || b.sspMoving k.i || (b.sspFaulty k.i && decide (sspKindOf v ≠ 3)) || (decide (sspKindOf v = 4) && decide (r ≠ .hkc))
  | .SSP_PWRb => decide (b.sspState k.i = 3 ∨ b.sspFaulty k.i) && decide (F.SSP_PWRb_AUTO_WAKE.get v = b.fld (r1 .SSP_PWRb k.i) F.SSP_PWRb_AUTO_WAKE)
  | .SEM_RELn => !(b.semServes r k.i && b.semHeld k.i && decide (b.semHolder k.i = idOf r))
  | .CFG_CTRL => !oneBit 4 v || (!b.cfgMine r && !v.getLsbD 0)
  | .CFG_SRC => decide (v.toNat % 4 = 2 ∧ r ≠ .hkc)
  | .TIM_TMRk_STARTw => b.tmrArmed k.i
  | .TIM_TMRk_PERIOD_LO => b.tmrArmed k.i
  | .TIM_TMRk_PERIOD_HI => b.tmrArmed k.i
  | .TDU_SPILL_BASE => b.bit (r0 .TDU_CTRL) F.TDU_CTRL_EN
  | .TDU_SPILL_SIZE => b.bit (r0 .TDU_CTRL) F.TDU_CTRL_EN
  | .TDU_CHn_CFG => decide (b.tduHeld k.i ≠ 0)
  | .TDU_CHn_POST => decide (2 ≤ F.TDU_CHn_POST_CMD.get v) || (decide (F.TDU_CHn_POST_CMD.get v = 1)
      && !(b.tdu.notifies k.i).any (fun e => decide (e.tag = F.TDU_CHn_POST_TAG.get v)))
  | .SEM_CFGn => b.semHeld k.i && !v.getLsbD 31
  | .DMA_CHn_CFG => decide (b.dmaState k.i ≠ 0) && v.getLsbD 31 == b.dmaModule k.i
  | .DMA_CHn_CMD => b.dmaCmdVoid r k.i v
  | .DMA_CHn_Bk_LO => decide (b.dmaState k.i = 2 ∨ b.dmaState k.i = 3)
  | .DMA_CHn_Bk_HI => decide (b.dmaState k.i = 2 ∨ b.dmaState k.i = 3)
  | .LNK_DEVID => (List.range 16).any (fun n => decide (b.lnkState n ≠ 0 ∧ b.lnkState n ≠ 7))
  | .TRG_OUTt_CMD => !oneBit 3 v || (v.getLsbD 0 && decide (b.trgState k.i ≠ 0 ∧ b.trgState k.i ≠ 3))
      || (v.getLsbD 2 && decide (b.trgState k.i ≠ 1 ∧ b.trgState k.i ≠ 2))
  | .TRC_Sx_CMD => !oneBit 4 v || (v.getLsbD 0 && decide (b.strState k.i ≠ 0 ∧ b.strState k.i ≠ 3))
      || (v.getLsbD 1 && decide (b.strState k.i ≠ 1 ∧ b.strState k.i ≠ 2))
  | .TRC_Sx_OWN => decide (ownerField v ≠ b.strOwner k.i ∧ b.fld (r1 .TRC_Sx_PAGES k.i) F.TRC_Sx_PAGES_HELD ≠ 0)
  | .VPT_CHc_OWN => !b.vptOwnOk k.i v
  | .TRC_Sx_CFG => decide (b.strState k.i ≠ 0 ∧ b.strState k.i ≠ 3)
  | .TRC_Sx_POSTDC => decide (b.strState k.i ≠ 0 ∧ b.strState k.i ≠ 3)
  | .CLU_FMC_CTRL => decide (b.cluState k.i = .running)
  | .WE_PC => !b.midDc k.i k.j
  | .WE_LOOP_CTRL => !b.midDc k.i k.j
  | .WE_LPn_ADDR => !b.midDc k.i k.j
  | .WE_LPn_CNT => !b.midDc k.i k.j
  | .PWR_FROST => v.getLsbD 31 && v.getLsbD 30
  | _ => !b.unlocked k

/-- A write of a register by a requester has no effect: not reached, refused for its role, read-only, or void in the present state. -/
def Block.regVoid (b : Block) (r : Requester) (k : RegKey) (v : Word) : Bool :=
  let ok := if k.name = .CLU_LANE_LATCHn then b.designOk r k else b.roleOk r k
  !b.reaches r k || !ok || (!isAction k.name && decide (k.name.info.rwMask ||| k.name.info.w1cMask = 0)) || b.voidNow r k v

/-- A write of a word of BAR0 has no effect under the rules (R362). -/
def Block.busVoid (b : Block) (r : Requester) (off : Nat) (v : Word) : Bool :=
  let design (k : RegKey) : Bool := !b.reaches r k || !b.designOk r k
  match placeOf off with
  | .reg k => if (k.name = .DMA_CHn_Bk_LO ∨ k.name = .DMA_CHn_Bk_HI) ∧ r = .dma (BitVec.ofNat 6 k.i) then false else b.regVoid r k v
  | .sel c _ => design (r1 .CLU_SP_CTRL c)
      || !(decide ((b.clu c).sp.mode = 0) && !b.bit (r1 .CLU_SP_STATUS c) F.CLU_SP_STATUS_CTRL_PENDING)
  | .buf c i w => design (r1 .CLU_SP_CTRL c) || decide (2 ≤ i ∨ 130 ≤ w) || b.bit (r1 .CLU_SP_STATUS c) (loadFull (decide (i = 1)))
  | .we c k _ => design (r2 .WE_PC c k) || decide (b.cluState c ≠ .frozen)
  | .request _ => !b.reaches r (r0 .MBX_CTRL) || (b.func (fnOf (b.viaFn r))).busy
  | .response _ => true
  | .stream => !b.reaches r (r0 .CFG_CTRL) || decide (b.roleOf r ≠ .op ∧ b.roleOf r ≠ .inst) || !(decide (b.cfgSrc = 0) && decide (b.loadFn r = b.cfg.who.fn)) || b.cfg.ended
  | .prog w => !b.progReaches r (w / 64)
      || !(match b.slotOwner (w / 64) with | some p => b.operCovers r p | none => roleIn (b.roleOf r) 3)
  | .bulk o => !b.bulkReach r || !(b.bulkRight r b.bulkSel && bulkWriteOk (b.cluState b.bulkSel) (regionOf o))
  | .nothing => true

end Sys2Proof.Machine
end

