-- ==== Sys2Proof/Machine/Mesh.lean ====
section
/-!
DEFINITION. The four meshes (R374 to R378): nodes, routers, arbitration and deflection, injection and ejection.
-/
namespace Sys2Proof.Machine

/-! ## Nodes (Table 12.1) -/

/-- The node of a cluster: 17 × row + column. -/
def cluNode (c : Nat) : Nat :=
  let q := c / 64
  let y := bitsOf c 3 3
  let x := bitsOf c 0 3
  17 * (if q < 2 then 7 - y else 9 + y) + (if q % 2 = 0 then 7 - x else 9 + x)

/-- The cluster at a node, where one is. -/
def nodeClu (n : Nat) : Option Nat := (List.range 256).find? (fun c => decide (cluNode c = n))

/-- The stack whose controller shares a node: row 7 or 9, cluster columns 0, 2, 4 and 6. -/
def nodeFmc (n : Nat) : Option Nat :=
  match nodeClu n with
  | some c => if bitsOf c 3 3 = 0 ∧ c % 2 = 0 then some (c / 64) else none
  | none => none

/-- The first of the four scratchpad banks at a node of row 8. -/
def nodeSsp (n : Nat) : Option Nat :=
  if n / 17 = 8 ∧ n % 17 ≠ 8 then some (4 * (if n % 17 < 8 then n % 17 else n % 17 - 1)) else none

/-- The nodes of column 8: host interface, time unit, trigger unit with the trace writer, TDU, DMA engine. -/
def hostNode : Nat := 144
/-- The time unit and event router. -/
def tuNode : Nat := 76
/-- The trigger unit and trace writer. -/
def tguNode : Nat := 93
/-- The TDU. -/
def tduNode : Nat := 110
/-- The DMA engine. -/
def dmaNode : Nat := 127
/-- The control-plane FMPs 0 to 7. -/
def isCpFmp (n : Nat) : Bool := decide (n % 17 = 8 ∧ 9 ≤ n / 17 ∧ n / 17 ≤ 16)

/-- The node of a terminal. -/
def termNode : Terminal → Nat
  | .cluster c => cluNode c.toNat
  | .fmc s k => cluNode (s.toNat * 64 + 2 * k.toNat)
  | .host => hostNode
  | .ssp b => let j := b.toNat / 4; 136 + (if j < 8 then j else j + 1)
  | .gateway i => gateNode (4 * i.toNat)
  | .tu => tuNode
  | .tgu => tguNode
  | .tdu => tduNode
  | .dma => dmaNode
  | .cpFmp n => 17 * (9 + n.toNat) + 8

/-- A router of row 8 or column 8, which stays powered in Frost (R383). -/
def ioNode (n : Nat) : Bool := decide (n / 17 = 8 ∨ n % 17 = 8)

/-- The Frost domain of a node: quadrants 0 to 3, scratchpad banks 4 (R383). -/
def frostOf (n : Nat) : Option Nat :=
  if n % 17 = 8 then none
  else if n / 17 = 8 then some 4
  else some ((if n / 17 < 8 then 0 else 2) + (if n % 17 < 8 then 0 else 1))

/-! ## Routers (R376, R377) -/

/-- The node beyond a mesh port: 0 towards row 0, 1 towards row 16, 2 towards column 0, 3 towards column 16. -/
def hop (n d : Nat) : Nat := match d with | 0 => n - 17 | 1 => n + 17 | 2 => n - 1 | _ => n + 1

/-- The mesh ports of a router. -/
def ports (n : Nat) : List Nat :=
  (if n / 17 = 0 then [] else [0]) ++ (if n / 17 = 16 then [] else [1]) ++ (if n % 17 = 0 then [] else [2]) ++ (if n % 17 = 16 then [] else [3])

/-- The ports that shorten the distance from a node to another, rows first. -/
def towards (n d : Nat) : List Nat :=
  (if d / 17 < n / 17 then [0] else if n / 17 < d / 17 then [1] else []) ++ (if d % 17 < n % 17 then [2] else if n % 17 < d % 17 then [3] else [])

/-- The Frost domain whose queue a packet at an I/O-chiplet router joins: the module enters, is in or leaves Frost, and the packet's path enters the
domain there (R383). -/
def Block.asleep (b : Block) (n : Nat) (p : Packet) : Option Nat :=
  if b.pwrState = 0 ∨ ioNode n = false then none
  else match b.meshDest p with
    | none => none
    | some d => match frostOf d with
      | none => none
      | some k => if d = n ∨ ((towards n d).head?.any (fun t => !ioNode (hop n t))) then some k else none

/-- A packet is ejected at the node where it is: its destination, or the entry of a Frost domain. -/
def Block.leaves (b : Block) (f : Transit) : Bool := decide (b.meshDest f.pkt = some f.node) || (b.asleep f.node f.pkt).isSome

/-- The order of packets that want one port: AGE, then the lower SNODE. -/
def Transit.first (f g : Transit) : Bool := decide (g.pkt.age < f.pkt.age ∨ (f.pkt.age = g.pkt.age ∧ f.pkt.snode ≤ g.pkt.snode))

/-- The port that a packet takes among the free ones, and whether it is deflected: the first that shortens its way, else a free one; which one of
these R376 leaves open, a free value. -/
def Block.takePath (b : Block) (free : List Nat) (f : Transit) : Option (Nat × Bool) :=
  match ((match b.meshDest f.pkt with | some d => towards f.node d | none => []).find? (fun t => decide (t ∈ free))) with
  | some t => some (t, false)
  | none => (free[Config.deflectPort f.node f.pkt.snode.toNat f.pkt.txn.toNat f.pkt.age.toNat % free.length]?).map (fun t => (t, true))

/-- The packets of a router leave it in order, one by each port; AGE saturates (Table 12.2). -/
def Block.sendOut (b : Block) : List Nat → List Transit → List Transit
  | _, [] => []
  | free, f :: r =>
    match b.takePath free f with
    | some (t, x) =>
      { f with
        node := hop f.node t, defl := f.defl + b2n x
        pkt := { f.pkt with age := if f.pkt.age = 0xFFFF then 0xFFFF else f.pkt.age + 1 } } :: b.sendOut (free.erase t) r
    | none => f :: b.sendOut free r

/-- The largest latency and deflection count of a network (Table 12.12). -/
def Block.nocStat (b : Block) (net latency deflections : Nat) : Block :=
  let k := r1 .NOC_STATn net
  (b.setFld k F.NOC_STATn_MAX_LAT (max (b.fld k F.NOC_STATn_MAX_LAT) (min latency 0xFFFF))).setFld k F.NOC_STATn_MAX_DEFL
    (max (b.fld k F.NOC_STATn_MAX_DEFL) (min deflections 0xFF))

/-- A router ejects a packet to its terminal. -/
def Block.ejected (b : Block) (f : Transit) : Block :=
  ({ b with noc := { b.noc with got := b.noc.got ++ [f] } }).nocStat f.net f.pkt.age.toNat f.defl

/-- One cycle of a router that holds the packets `held`: one is ejected, the others leave by its mesh ports, and the oldest packet that waits at the node
is injected where a port is free and no packet with AGE ≥ 128 passes or has passed in the last four cycles (R376, R377). -/
def Block.routerCycle (b : Block) (net n : Nat) (held : List Transit) : Block :=
  let l := sortBy Transit.first held
  let out := l.find? b.leaves
  let pass := match out with | some f => l.erase f | none => l
  let old := l.any (fun f => decide (128 ≤ f.pkt.age.toNat))
  let key := net * 512 + n
  let recent := match b.noc.aged.find key with | some c => decide (b.noc.cyc ≤ c + 4) | none => false
  let new := if old || recent || decide ((ports n).length ≤ pass.length) then none else b.noc.tx.find? (fun f => decide (f.net = net ∧ f.node = n))
  let direct := match new with | some f => out.isNone && b.leaves f | none => false
  let b1 : Block := { b with noc := { b.noc with
    aged := if old then b.noc.aged.put key b.noc.cyc else if recent then b.noc.aged else b.noc.aged.erase key
    tx := match new with | some f => b.noc.tx.erase f | none => b.noc.tx
    fly := b.noc.fly ++ b.sendOut (ports n) (pass ++ (if direct then [] else new.toList)) } }
  match out, new with
  | some f, _ => b1.ejected f
  | none, some f => if direct then b1.ejected f else b1
  | none, none => b1

/-- One NET_CLK cycle of a network: every router that holds a packet, or at which one waits. -/
def Block.netCycle (b : Block) (net : Nat) : Block :=
  let held := b.noc.fly.filter (fun f => decide (f.net = net))
  let nodes := ((held ++ b.noc.tx.filter (fun f => decide (f.net = net))).map (·.node)).eraseDups
  forEach nodes { b with noc := { b.noc with fly := b.noc.fly.filter (fun f => decide (f.net ≠ net)) } }
    (fun n x => x.routerCycle net n (held.filter (fun f => decide (f.node = n))))

/-- One NET_CLK cycle of the four meshes. -/
def Block.meshCycle (b : Block) : Block :=
  let b1 := forEach [0, 1, 2, 3] b (fun k x => x.netCycle k)
  { b1 with noc := { b1.noc with cyc := b1.noc.cyc + 1 } }

/-- Four NET_CLK cycles, in one of CTL_CLK. -/
def Block.meshTick (b : Block) : Block := b.meshCycle.meshCycle.meshCycle.meshCycle

/-- The packet of a flight, whatever its AGE. -/
def Transit.isPkt (f : Transit) (net : Nat) (p : Packet) : Bool := decide (f.net = net ∧ { f.pkt with age := p.age } = p)

/-- The meshes hold a packet, or it waits at a terminal. -/
def Block.onMesh (b : Block) (net : Nat) (p : Packet) : Bool := (b.noc.tx ++ b.noc.fly ++ b.noc.got).any (fun f => f.isPkt net p)

/-- The meshes run until a packet is ejected, which R378 bounds. -/
def Block.meshUntil (b : Block) (net : Nat) (p : Packet) : Nat → Block
  | 0 => b
  | k + 1 => if b.noc.got.any (fun f => f.isPkt net p) then b else b.meshCycle.meshUntil net p k

end Sys2Proof.Machine
end

