-- ==== Sys2Proof/Machine/DmaRun.lean ====
section
/-!
DEFINITION. The instructions of the DMA engine (R353, R354, R361 to R371): fetch, spaces, MOVE, LOOP, WAIT, SIGNAL, END, and the completion of a read of host memory.
-/
namespace Sys2Proof.Machine

/-! ## Instructions -/

/-- Instruction i of the program store (R355): four words, low word first. -/
def Block.dmaInstr (b : Block) (i : Nat) : BitVec 128 :=
  BitVec.ofNat 128 ((List.range 4).foldl (fun n w => n + (NMap.get 0 b.prog (4 * i + w)).toNat * 2 ^ (32 * w)) 0)

/-- Channel n may fetch from slot s (R354, R356): an owned slot that is not in handover, of its own partition unless it is of scope module. -/
def Block.slotUsable (b : Block) (n s : Nat) : Bool :=
  !b.bit (r1 .DMA_SLOT_OWNs s) F.DMA_SLOT_OWNs_HANDOVER &&
    (match b.slotOwner s with | some p => b.dmaModule n || decide (p = b.dmaPart n) | none => false)

/-- The bits that no field of an instruction covers (Table 11.3): lowest bit and width. -/
def reservedBits (op : Nat) : List (Nat × Nat) :=
  if op = 1 then [(110, 2), (104, 5)]
  else if op = 2 then [(0, 76)]
  else if op = 3 then [(0, 84)]
  else if op = 4 then [(81, 9), (0, 40)]
  else [(80, 39), (0, 40)]

/-- A reserved operation, field or object class (R364, R367). -/
def insReserved (i : BitVec 128) : Bool :=
  let op := insFld i 124 4
  decide (op = 0 ∨ 5 < op) || (reservedBits op).any (fun e => decide (insFld i e.1 e.2 ≠ 0)) || (decide (op = 3) && decide (5 ≤ insFld i 121 3))

/-- Channel n executes: it is in RUN and neither ends nor waits for a completion. -/
def Block.dmaLive (b : Block) (n : Nat) : Bool :=
  let d := b.dmaCh n
  decide (b.dmaState n = 2) && d.ending.isNone && d.hostOp.isNone

/-- Channel n is ready to begin the instruction at its PC: no MOVE and no SIGNAL of it is under way. -/
def Block.dmaReady (b : Block) (n : Nat) : Bool := b.dmaLive n && (b.dmaCh n).move.isNone && (b.dmaCh n).sig.isNone

/-- The instruction waits for the writes of every earlier MOVE (R365). -/
def insWaits (i : BitVec 128) : Bool :=
  let op := insFld i 124 4
  decide (op = 3 ∨ op = 4 ∨ op = 5) || (decide (op = 1) && !i.getLsbD 109)

/-- Fetch the instruction at the PC of channel n and, when it is of operation `op`, execute it; errors of the fetch come first (Table 11.5).
What the fetch finds is given; the command has no effect where the channel is not ready for such an instruction. -/
def Block.dmaExec (b : Block) (n op : Nat) (fetch : Ecc) (f : BitVec 128 → Block → Block) : Block :=
  let pc := b.dmaPc n
  let i := b.dmaInstr pc
  if ¬ b.dmaReady n then b
  else if ¬ b.slotUsable n (pc / 16) then b.dmaError n 4
  else if fetch = .due then b.dmaError n 2
  else
    let b1 := if fetch = .corr then b.corrected else b
    if insReserved i then b1.dmaError n 1
    else if insFld i 124 4 ≠ op ∨ (insWaits i ∧ (b.dmaCh n).writes ≠ 0) then b
    else f i { b1 with tdu := { b1.tdu with calm := 0 } }

/-! ## Spaces (Table 11.2) -/

/-- The function that issues the channel's accesses to host memory. -/
def Block.dmaFn (b : Block) (n : Nat) : Nat := if b.dmaModule n then 0 else b.servingFn (b.dmaPart n)

/-- An address: base and offset modulo 2^64 (R361). -/
def Block.dmaAddr (b : Block) (n k off : Nat) : Nat := (b.dmaBase n k + off) % 2 ^ 64

/-- A range of far memory lies outside the grant of every partition (R363). -/
def Block.farOutside (b : Block) (addr len : Nat) : Bool :=
  let s := addr / 2 ^ 35
  let a := addr % 2 ^ 35
  decide (s < 4 ∧ a + len ≤ 24 * 2 ^ 30) && (List.range 256).all (fun p =>
    let lo := b.fld (r2 .FMC_GRANT_BASEp_s p s) F.FMC_GRANT_BASEp_s_VALUE * 4096
    let z := b.fld (r2 .FMC_GRANT_SIZEp_s p s) F.FMC_GRANT_SIZEp_s_VALUE * 4096
    decide (a + len ≤ lo ∨ lo + z ≤ a ∨ z = 0))

/-- The channel page of partition p decodes an offset (Table 15.2). -/
def Block.pageSees (b : Block) (p off : Nat) : Bool :=
  match placeOf off with
  | .reg k => b.vfSees p k
  | .sel c _ => decide (b.cluPart c = some p)
  | .buf c _ _ => decide (b.cluPart c = some p)
  | .we c _ _ => decide (b.cluPart c = some p)
  | .prog w => decide (b.slotOwner (w / 64) = some p)
  | .nothing => decide (0x01000000 ≤ off ∧ off < 0x02000000 ∧ b.cluPart ((off - 0x01000000) / 2 ^ 16) = some p)
  | _ => true

/-- An offset is one of the channel's own registers. -/
def ownChannel (n off : Nat) : Bool :=
  match placeOf off with
  | .reg k => decide (0x400000 ≤ k.name.info.base ∧ k.name.info.base < 0x402000 ∧ k.name ≠ .DMA_SLOT_SUM ∧ k.i = n)
  | _ => false

/-- The words of a range of register space. -/
def wordsOf (addr len : Nat) : List Nat := (List.range (len / 4)).map (fun i => addr + 4 * i)

/-- What the rules of Table 11.2 and R363 say of a range of register space: none, RANGE or ACCESS. -/
def Block.regRange (b : Block) (n addr len : Nat) : Option Nat :=
  if addr % 4 ≠ 0 ∨ len % 4 ≠ 0 ∨ 2 ^ 26 < addr + len then some 6
  else if b.dmaModule n then
    if (wordsOf addr len).any (fun o => decide (0x02000000 ≤ o) || designRange o) then some 7 else none
  else if (wordsOf addr len).all (fun o => b.pageSees (b.dmaPart n) o || ownChannel n o) then none else some 6

/-- The error of a range by the rules of its space; none where it is valid. -/
def Block.rangeErr (b : Block) (n space addr len : Nat) : Option Nat :=
  match space with
  | 0 => none
  | 1 => if decide (addr < 2 ^ 37) && (if b.dmaModule n then b.farOutside addr len else b.farGranted (b.dmaPart n) addr len) then none else some 6
  | 2 => if addr < 2 ^ 26 ∧ addr % 2 ^ 20 + len ≤ 2 ^ 20 then none else some 6
  | 3 => b.regRange n addr len
  | _ => some 5

/-- Thaw starts for a packet: NOC_WAKE counts it when no Thaw was asked for before (R383). -/
def Block.thawByPacket (b : Block) : Block :=
  (if b.pwrState = 2 ∨ (b.pwrState = 1 ∧ b.pw.thawReq = false) then { b with pw := { b.pw with byPacket := true } } else b).thawStart

/-- An access to a Frost domain while the module sleeps wakes it, as a packet does (R383, R529); without WAKE_EN it is answered RETRY. -/
def Block.wakeUp (b : Block) : Block := if b.bit (r0 .NOC_CTRL) F.NOC_CTRL_WAKE_EN then b.thawByPacket else b

/-- A range lies in a Frost domain: far memory, the scratchpad, a cluster window, the bulk window. -/
def inFrost (space addr : Nat) : Bool := decide (space = 1 ∨ space = 2 ∨ (space = 3 ∧ 0x01000000 ≤ addr))

/-- How an access of the engine ends: done, an error, or not yet. -/
inductive Acc (α : Type) where
  | done (b : Block) (a : α)
  | err (b : Block) (code : Nat)
  | wait (b : Block)

/-- A read of the bulk window is refused (Table 7.10). -/
def Block.bulkRdRefused (b : Block) (r : Requester) (off : Nat) : Bool :=
  let c := b.bulkSel
  let g := regionOf off
  !(b.bulkReach r && b.bulkRight r c && bulkReadOk (b.cluState c) g && (decide (g ≠ .queues) || b.fmpDrained c ((off - 0x520000) / 1024)))

/-- Read words of register space, in order; a refused read of the bulk window is ACCESS (Table 11.5). -/
def Block.regsRead (b : Block) (r : Requester) : List Nat → List Byte → Acc (List Byte)
  | [], l => .done b l
  | o :: rest, l =>
    if 0x02000000 ≤ o ∧ b.bulkRdRefused r (o - 0x02000000) then .err b 7
    else
      let z := b.busRead r o
      z.1.regsRead r rest (l ++ leBytes 4 z.2.toNat)

/-- Write words of register space, in order; a write that has no effect is ACCESS (R362). -/
def Block.regsWrite (b : Block) (r : Requester) (l : List Byte) : List Nat → Nat → Acc Unit
  | [], _ => .done b ()
  | o :: rest, i =>
    let v : Word := BitVec.ofNat 32 (leAt l i 4)
    if b.busVoid r o v then .err (b.busWrite r o v) 7 else (b.busWrite r o v).regsWrite r l rest (i + 4)

/-- The target of a request of channel n takes it: the module is awake, and a bank serves the channel. After a RETRY the channel waits 64 cycles of NET_CLK (R380). -/
def Block.dmaGate (b : Block) (n space addr : Nat) : Acc Unit :=
  if inFrost space addr ∧ b.pwrState ≠ 0 then .wait b.wakeUp
  else if space = 2 then
    let k := addr / 2 ^ 20
    if (b.dmaCh n).again.any (fun t => decide (b.pw.ctl < t + 16)) then .wait b
    else match b.sspAsk k (b.dmaOwner n) with
      | .error => .err b 7
      | .retry => .wait (b.modDma n (fun d => { d with again := some b.pw.ctl }))
      | .hold => .wait (b.sspWake k)
      | .serve => .done (b.modDma n (fun d => { d with again := none })) ()
  else .done b ()

/-- What a bank's checks of the words of a read find (R386): a single-bit error is corrected and written back, an uncorrectable word is marked. -/
def Block.sspFound (b : Block) (k off len : Nat) (found : Found) : Block :=
  b.wordsFound (wordCount off len) found (fun i x => x.modSsp (fun y => { y with bad := NMap.set false y.bad ((k * 2 ^ 20 + off) / 8 + i) true }))

/-- The node from which the engine's accesses to a space go out: far memory is reached through a control-plane FMP only (R25), which one is a free value (log
entry 172). -/
def engineNode (n space addr : Nat) : Nat := if space = 1 then 17 * (9 + (Config.cpFmp n (addr / 64)).toNat) + 8 else dmaNode

/-- A write of a node to a stack has not been applied, of those before a transaction number where one is given: the controller holds what comes later (R379). -/
def Block.farBehind (b : Block) (node stack : Nat) (txn : Option Nat) : Bool :=
  b.noc.sent.any (fun q => decide (q.node = node ∧ q.space = 1 ∧ q.addr / 2 ^ 35 = stack ∧ q.done = false ∧ q.lost = false) &&
    (match txn with
     | some t => decide (0 < (t + 4096 - q.txn) % 4096 ∧ (t + 4096 - q.txn) % 4096 < 2048)
     | none => true))

/-- Read a valid range of far memory, the scratchpad or register space; what the checks of the words find is given. -/
def Block.dmaRead (b : Block) (n space addr len : Nat) (found : Found) : Acc (List Byte) :=
  match b.dmaGate n space addr with
  | .err b0 code => .err b0 code
  | .wait b0 => .wait b0
  | .done b0 _ =>
    match space with
    | 1 =>
      let s := addr / 2 ^ 35
      let a := addr % 2 ^ 35
      if b0.farBehind (engineNode n 1 addr) s none then .wait b0
      else
        let b1 := (b0.snoopRange addr len false).farFound s a len found
        if b1.farPoisoned s a len then .err b1 8 else .done b1 (b1.farBytes s a len)
    | 2 =>
      let k := addr / 2 ^ 20
      let a := addr % 2 ^ 20
      let b1 := b0.sspFound k a len found
      if b1.sspPoisoned k a len then .err b1 8 else .done b1 (b1.sspBytes k a len)
    | _ =>
      let b1 := b0.wordsFound (wordCount addr len) found (fun _ x => x)
      if foundDue (wordCount addr len) found then .err b1 8 else b1.regsRead (.dma (BitVec.ofNat 6 n)) (wordsOf addr len) []

/-- Bytes take their place in a valid range. -/
def Block.dmaPut (b : Block) (n space addr : Nat) (l : List Byte) : Acc Unit :=
  match space with
  | 0 => .done (b.send (.write (b.dmaFn n) addr l)) ()
  | 1 => .done ((b.snoopRange addr l.length true).farWrite (addr / 2 ^ 35) (addr % 2 ^ 35) l) ()
  | 2 => .done (b.sspPut (addr / 2 ^ 20) (addr % 2 ^ 20) l) ()
  | _ => b.regsWrite (.dma (BitVec.ofNat 6 n)) l (wordsOf addr l.length) 0

/-- A request for a write goes out. Far memory and the scratchpad take the bytes when they answer, since a RETRY leaves the request not applied (R380, log
entry 144); the host and register space take them at once. -/
def Block.dmaWrite (b : Block) (n space addr : Nat) (l : List Byte) : Acc Unit :=
  match b.dmaGate n space addr with
  | .done b1 _ => if space = 1 ∨ space = 2 then .done b1 () else b1.dmaPut n space addr l
  | e => e

/-- The engine's request for a write is on its way until its answer. -/
def Block.dmaIssue (b : Block) (n : Nat) (m : MoveRun) (l : List Byte) : Block :=
  let node := engineNode n m.dspc (m.dst + m.pos)
  let t := NMap.get 0 b.noc.txn node
  let q : NocReq := { node := node, txn := t, chan := n, at_ := b.pw.ctl, ins := m.ins, pc := b.dmaPc n, run := m.run, space := m.dspc, addr := m.dst + m.pos,
                      data := if m.dspc = 1 ∨ m.dspc = 2 then l else [] }
  let b1 : Block := { b with noc := { b.noc with txn := b.noc.txn.put node ((t + 1) % 4096), sent := b.noc.sent ++ [q] } }
  b1.modDma n (fun d => { d with writes := d.writes + 1 })

/-- A node from which the engine's requests go out. -/
def isEngine (node : Nat) : Bool := decide (node = dmaNode) || isCpFmp node

/-- The packet of a request is on the meshes, in a queue, or kept for its reissue. -/
def Block.carried (b : Block) (node txn : Nat) : Bool :=
  let mine (p : Packet) : Bool := decide (p.sdev = b.devId ∧ p.snode.toNat = node ∧ p.txn.toNat = txn) && decide (p.kind = 1 ∨ p.kind = 2)
  (b.noc.tx ++ b.noc.fly ++ b.noc.got ++ b.noc.wake.flatMap (·.2)).any (fun f => mine f.pkt) || (b.noc.inq.flatMap (·.2)).any (fun q => mine q.1)
    || b.noc.kept.any (fun q => mine q.1)

/-- The oldest request of channel n that its target can answer now: not refused nor lost, and its packet, where one carries it, has come. -/
def Block.dmaOldest (b : Block) (n : Nat) : Option NocReq :=
  b.noc.sent.find? (fun q => decide (q.chan = n ∧ q.refused = none ∧ q.lost = false) && (q.done || !b.carried q.node q.txn))

/-- A request of channel n is answered. -/
def Block.dmaAnswered (b : Block) (n : Nat) (q : Option NocReq) : Block :=
  ({ b with noc := { b.noc with sent := match q with | some x => b.noc.sent.erase x | none => b.noc.sent } }).modDma n (fun d => { d with writes := d.writes - 1 })

/-- A write of channel n is answered with an error (R371): the channel fails at the MOVE that issued it, whose SINC and DINC are not applied; a channel that
already ends keeps the code with which it does. -/
def Block.dmaNack (b : Block) (n : Nat) (q : NocReq) (code : Nat) : Block :=
  let d := b.dmaCh n
  if d.writes = 0 then b
  else
    let b1 := b.dmaAnswered n (some q)
    if d.ending.isSome then (if d.writes = 1 ∧ d.ending ≠ some 0xB ∧ d.ending ≠ some 0xC then b1.dmaFinish n (d.ending.getD 0) else b1)
    else
      let b2 := if d.move.any (fun m => decide (m.run = q.run)) then b1 else b1.moveInc n q.ins (-1)
      (b2.dmaGoto n q.pc).dmaError n code

/-- A write of channel n is acknowledged and in place (R365): the last one completes a MOVE with POST = 0, or ends a channel that has failed. -/
def Block.dmaAcked (b : Block) (n : Nat) (q : Option NocReq) : Block :=
  let d := b.dmaCh n
  let b1 := b.dmaAnswered n q
  if d.writes ≠ 1 then b1
  else match d.ending, d.held with
    | some code, _ => if code ≠ 0xB ∧ code ≠ 0xC then b1.dmaFinish n code else b1
    | none, some i => b1.moveEnd n i
    | none, none => b1

/-- The target of the named request of channel n, else of its oldest one, answers: unless it has taken them already (R385, R388), the bytes take their place,
in the order of R379, or the bank's owner has changed. -/
def Block.dmaAck (b : Block) (n : Nat) (named : Option NocReq) : Block :=
  if (b.dmaCh n).writes = 0 then b
  else match (match named with | some q => some q | none => b.dmaOldest n) with
    | none => if b.noc.sent.any (fun q => decide (q.chan = n)) then b else b.dmaAcked n none
    | some q =>
      if q.done ∨ q.data.isEmpty then b.dmaAcked n (some q)
      else if q.space = 1 ∧ b.farBehind q.node (q.addr / 2 ^ 35) (some q.txn) then b
      else match b.dmaGate n q.space q.addr with
        | .err b1 code => b1.dmaNack n q code
        | .wait b1 => b1
        | .done b1 _ => match b1.dmaPut n q.space q.addr q.data with
          | .done b2 _ => b2.dmaAcked n (some q)
          | .err b2 code => b2.dmaNack n q code
          | .wait b2 => b2

/-- DMA_WRITE_ACK (R365). -/
def execDmaWriteAck (n : BitVec 6) (s : State) : Host.Outcome State Fault Refusal := s.run (·.dmaAck n.toNat none)

/-! ## MOVE (R365) -/

/-- The ranges of a MOVE of channel n. -/
def Block.moveOp (b : Block) (n : Nat) (i : BitVec 128) : MoveRun :=
  { ins := i, sspc := insFld i 121 3, dspc := insFld i 118 3, src := b.dmaAddr n (insFld i 116 2) (insFld i 40 40),
    dst := b.dmaAddr n (insFld i 114 2) (insFld i 0 40), len := insFld i 80 24 + 1 }

/-- A reserved or invalid space, an immediate of wrong length, or overlapping ranges (SPACE). -/
def MoveRun.spaceBad (m : MoveRun) : Bool :=
  decide (4 < m.sspc ∨ 3 < m.dspc ∨ (m.sspc = 4 ∧ m.len ≠ 4) ∨ (m.sspc = m.dspc ∧ m.src < m.dst + m.len ∧ m.dst < m.src + m.len))

/-- The bytes of the next request of a MOVE: up to the end of a 64-byte line of either range (R365, R385); whole words, one at least, where a range lies in
register space, whose accesses are words (Table 11.2). -/
def MoveRun.chunk (m : MoveRun) : Nat :=
  let k := min (m.len - m.pos) (min (64 - (m.dst + m.pos) % 64) (if m.sspc = 4 then 64 else 64 - (m.src + m.pos) % 64))
  if m.sspc = 3 ∨ m.dspc = 3 then max 4 (k / 4 * 4) else k

/-- The next request of a MOVE has its data: the write is issued; after the last one a MOVE with POST = 1 is done, one with POST = 0 waits for its
acknowledgements. -/
def Block.moveStore (b : Block) (n : Nat) (m : MoveRun) (l : List Byte) : Block :=
  match b.dmaWrite n m.dspc (m.dst + m.pos) l with
  | .done b1 _ =>
    let m1 := { m with pos := m.pos + l.length }
    let b2 := (b1.dmaIssue n m l).modDma n (fun d => { d with move := some m1 })
    if m1.pos = m1.len ∧ m.ins.getLsbD 109 then b2.moveEnd n m.ins else b2
  | .err b1 code => b1.dmaError n code
  | .wait b1 => b1

/-- The next request of the MOVE under way: 64 bytes at most, and at most 16 outstanding (R365); a read of host memory waits for its completion. -/
def Block.moveStep (b : Block) (n : Nat) (e : Found) : Block :=
  match (b.dmaCh n).move with
  | none => b
  | some m =>
    let k := m.chunk
    if m.pos = m.len ∨ 16 ≤ (b.dmaCh n).writes then b
    else match b.dmaGate n m.dspc (m.dst + m.pos) with
      | .wait b1 => b1
      | _ =>
        if m.sspc = 4 then b.moveStore n m (sliceBytes (leBytes 4 (insFld m.ins 40 32)) m.pos k)
        else if m.sspc = 0 then (b.send (.read (b.dmaFn n) n (m.src + m.pos) k)).modDma n (fun d => { d with hostOp := some m.ins })
        else match b.dmaRead n m.sspc (m.src + m.pos) k e with
          | .done b1 l => b1.moveStore n m l
          | .err b1 code => b1.dmaError n code
          | .wait b1 => b1

/-- A MOVE begins: the rules of both ranges, then its first request. -/
def Block.dmaMove (b : Block) (n : Nat) (i : BitVec 128) (e : Found) : Block :=
  let m := b.moveOp n i
  if m.spaceBad then b.dmaError n 5
  else match (if m.sspc = 4 then none else b.rangeErr n m.sspc m.src m.len), b.rangeErr n m.dspc m.dst m.len with
    | some code, _ => b.dmaError n code
    | none, some code => b.dmaError n code
    | none, none =>
      let k := (b.dmaCh n).runs + 1
      (b.modDma n (fun d => { d with move := some { m with run := k }, runs := k })).moveStep n e

/-- MOVE: its beginning, or its next request (R365). -/
def execMove (n : BitVec 6) (fetch : Ecc) (data : Found) (s : State) : Host.Outcome State Fault Refusal :=
  s.run (fun b =>
    if b.dmaLive n.toNat ∧ (b.dmaCh n.toNat).move.isSome then b.moveStep n.toNat data
    else b.dmaExec n.toNat 1 fetch (fun i x => x.dmaMove n.toNat i data))

/-! ## LOOP (R366) -/

/-- The flag of an active loop counter. -/
def lcAct (k : Nat) : Fld := if k = 0 then F.DMA_CHn_STATUS_LC0_ACT else F.DMA_CHn_STATUS_LC1_ACT

/-- LOOP on its counter. -/
def Block.dmaLoop (b : Block) (n : Nat) (i : BitVec 128) : Block :=
  let k := insFld i 123 1
  let hf := i.getLsbD 122
  let target := insFld i 108 14
  let count := insFld i 76 32
  let st := r1 .DMA_CHn_STATUS n
  let lc := r2 .DMA_CHn_LCk n k
  let b1 := if b.bit st (lcAct k) then b else (b.setReg lc (BitVec.ofNat 32 count)).setBit st (lcAct k)
  let left := (b1.reg lc).toNat
  let half := hf && decide (count ≠ 0xFFFFFFFF ∧ (count : Int) - left + 1 = (ceilDiv (count + 1) 2 : Nat))
  let b2 := if half then b1.dmaFlag n F.DMA_CHn_EVT_HALF F.DMA_CHn_EVT_HALF_EN true else b1
  if count = 0xFFFFFFFF then b2.dmaGoto n target
  else if 0 < left then (b2.setReg lc (BitVec.ofNat 32 (left - 1))).dmaGoto n target
  else
    let b3 := (b2.clrFld st (lcAct k)).dmaNext n
    if hf then b3.dmaFlag n F.DMA_CHn_EVT_FULL F.DMA_CHn_EVT_FULL_EN true else b3

/-- LOOP. -/
def execLoop (n : BitVec 6) (fetch : Ecc) (s : State) : Host.Outcome State Fault Refusal :=
  s.run (fun b => b.dmaExec n.toNat 2 fetch (fun i x => x.dmaLoop n.toNat i))

/-! ## WAIT (R367, R368) -/

/-- WAIT: complete at once when the object is signalled, else the channel enters WAIT. -/
def Block.dmaWaitOn (b : Block) (n : Nat) (i : BitVec 128) : Block :=
  let cls := insFld i 121 3
  let pol := i.getLsbD 120
  let num := insFld i 104 16
  let tmo := insFld i 84 20
  if cls = 4 ∧ b.dmaModule n = false ∧ b.cluPart (bitsOf num 4 8) ≠ some (b.dmaPart n) then b.dmaError n 7
  else if b.signalled n cls num pol then (b.consume n cls num pol).dmaNext n
  else
    ((b.modDma n (fun d => { d with waitPol := pol, deadline := if tmo = 0 then none else some (b.tick + BitVec.ofNat 32 tmo) })).showObj n cls num).dmaSetState n 3

/-- DMA_WAIT. -/
def execDmaWait (n : BitVec 6) (fetch : Ecc) (s : State) : Host.Outcome State Fault Refusal :=
  s.run (fun b => b.dmaExec n.toNat 3 fetch (fun i x => x.dmaWaitOn n.toNat i))

/-! ## SIGNAL (R369) and END (R370) -/

/-- Read the 8 bytes of a SIGNAL or an END, then go on with them; a read of host memory waits for its completion. -/
def Block.dmaEight (b : Block) (n : Nat) (i : BitVec 128) (e : Found) (f : BitVec 64 → Block → Block) : Block :=
  let space := insFld i 121 3
  let addr := b.dmaAddr n (insFld i 119 2) (insFld i 40 40)
  if 4 < space then b.dmaError n 5
  else if space = 4 then f (BitVec.ofNat 64 (insFld i 40 40)) b
  else match b.rangeErr n space addr 8 with
    | some code => b.dmaError n code
    | none =>
      if space = 0 then (b.send (.read (b.dmaFn n) n addr 8)).modDma n (fun d => { d with hostOp := some i })
      else match b.dmaRead n space addr 8 e with
        | .done b1 l => f (BitVec.ofNat 64 (leAt l 0 8)) b1
        | .err b1 code => b1.dmaError n code
        | .wait b1 => b1

/-- The fragment of a SIGNAL. -/
def Block.signalFrag (b : Block) (n : Nat) (i : BitVec 128) (v : BitVec 64) : Frag :=
  let d := b.dmaCh n
  ⟨.dma n, if i.getLsbD 80 then d.taskChan else insFld i 106 10, if i.getLsbD 118 then d.taskTag else insFld i 90 16, insFld i 116 2, v⟩

/-- What the TDU has answered to the fragment of the SIGNAL at the PC: accepted, the next instruction; refused, SIG_REFUSED (R369). -/
def Block.sigEnd (b : Block) (n : Nat) : Block :=
  match (b.dmaCh n).sig with
  | some (some ok) =>
    let b1 := b.modDma n (fun d => { d with sig := none })
    if ok then b1.dmaNext n else b1.dmaError n 0xA
  | _ => b

/-- SIGNAL with its data: the fragment is posted; while the TDU has not taken it in, the channel stays at the SIGNAL (R345). -/
def Block.dmaPost (b : Block) (n : Nat) (i : BitVec 128) (v : BitVec 64) : Block :=
  (b.modDma n (fun d => { d with sig := some none })).pushFrag (b.signalFrag n i v)

/-- SIGNAL: its beginning, or what follows the TDU's answer. -/
def execSignal (n : BitVec 6) (fetch : Ecc) (data : Found) (s : State) : Host.Outcome State Fault Refusal :=
  s.run (fun b =>
    if b.dmaLive n.toNat ∧ (b.dmaCh n.toNat).sig.isSome then b.sigEnd n.toNat
    else b.dmaExec n.toNat 4 fetch (fun i x => x.dmaEight n.toNat i data (fun v y => y.dmaPost n.toNat i v)))

/-- Bit n of every channel's done mask (R368). -/
def Block.dmaMarkDone (b : Block) (n : Nat) : Block :=
  forEach (List.range 64) b (fun m x =>
    let lo := r1 .DMA_CHn_DONEM_LO m
    let hi := r1 .DMA_CHn_DONEM_HI m
    x.setReg64 lo hi (x.reg64 lo hi ||| 2 ^ n))

/-- END with its result (R370). -/
def Block.dmaFinishOk (b : Block) (n : Nat) (v : BitVec 64) : Block :=
  let b1 := b.setReg64 (r1 .DMA_CHn_RESULT_LO n) (r1 .DMA_CHn_RESULT_HI n) v.toNat
  let b2 := (b1.dmaFlag n F.DMA_CHn_EVT_DONE F.DMA_CHn_EVT_DONE_EN false).dmaMarkDone n
  let b3 := b2.dmaRetire n v false
  if b3.bit (r1 .DMA_CHn_TRIG n) F.DMA_CHn_TRIG_REARM then b3.dmaEnterArmed n else b3.dmaSetState n 0

/-- DMA_END. -/
def execDmaEnd (n : BitVec 6) (fetch : Ecc) (data : Found) (s : State) : Host.Outcome State Fault Refusal :=
  s.run (fun b => b.dmaExec n.toNat 5 fetch (fun i x => x.dmaEight n.toNat i data (fun v y => y.dmaFinishOk n.toNat v)))

/-! ## Host memory -/

/-- The completion of a channel's read of host memory: the instruction goes on with its data; not successful is ACCESS (Table 11.5).
The completion of a read whose channel has ended is not used, nor that of one that ends. -/
def Block.dmaCompletion (b : Block) (n : Nat) (ok : Bool) (l : List Byte) : Block :=
  let d := b.dmaCh n
  if 0 < d.stale then b.modDma n (fun d => { d with stale := d.stale - 1 })
  else match d.hostOp with
  | none => b
  | some i =>
    let b1 := b.modDma n (fun d => { d with hostOp := none })
    if d.ending.isSome then b1
    else if ok = false then b1.dmaError n 7
    else match d.move with
      | some m => b1.moveStore n m (sliceBytes l 0 m.chunk)
      | none =>
        if insFld i 124 4 = 4 then b1.dmaPost n i (BitVec.ofNat 64 (leAt l 0 8))
        else b1.dmaFinishOk n (BitVec.ofNat 64 (leAt l 0 8))

/-- PCIE_COMPLETION. -/
def execPcieCompletion (n : BitVec 6) (ok : Bool) (data : List Byte) (s : State) : Host.Outcome State Fault Refusal :=
  s.run (·.dmaCompletion n.toNat ok data)

end Sys2Proof.Machine
end

