-- ==== Sys2Proof/Machine/Equinox.lean ====
section
/-!
DEFINITION. The Equinox (R33, Table 1.4): the commit of the state bits, what is handed to trace and to the Vector Port, the sequencers,
the hazard budget (R206), and the stop at a target (R184).
-/
namespace Sys2Proof.Machine

/-- The state bits whose committed value has changed by the commit and the loads of an Equinox, by BP and address (R33, R416). -/
def Cluster.changed (x : Cluster) : List TrcEnt :=
  (x.before.filter (fun e => decide (NMap.get false x.vs e.1 ≠ e.2))).map (fun e => .state (e.1 / 4096) (e.1 % 4096) (!e.2))

/-- What a cluster hands over: its probes by step and BP, and its changed state bits (R421). -/
def Cluster.handed (x : Cluster) (c : Nat) : Handed :=
  ⟨c, (sortBy (fun e f => decide (e.1 * 128 + e.2.1 ≤ f.1 * 128 + f.2.1)) x.probes).map (fun e => .probe e.1 e.2.1 e.2.2), x.changed⟩

/-- STATE_BIT_COMMIT (R50): every state bit takes its next value. -/
def Cluster.commit (x : Cluster) : Cluster :=
  { x with
    vs := x.next.foldl (fun m e => NMap.set false m e.1 e.2) x.vs
    before := x.next.map (fun e => (e.1, NMap.get false x.vs e.1))
    next := [] }

/-- A cluster has handed over what it held for trace. -/
def Cluster.handedOver (x : Cluster) : Cluster := { x with before := [], probes := [] }

/-- PROBE_HANDOFF (R33, R59): action 6 sees the results of action 3, so what a DC hands to trace waits for the transfers that its Equinox made due. -/
def Block.handOff (b : Block) (p : Nat) : Block :=
  let x := b.part p
  match x.hand with
  | none => b
  | some (n, ts, iv) =>
    if x.clusters.any (fun c => (b.clu c).sp.due) then b
    else
      let b1 := b.trcEquinox p n iv ts (x.clusters.map (fun c => (b.clu c).handed c))
      (forEach x.clusters b1 (fun c y => y.modClu c Cluster.handedOver)).modPart p (fun y => { y with hand := none })

/-- STATE_PORT_TRANSFER (R72, R75). -/
def execStatePortTransfer (c : ClusterId) (s : State) : Host.Outcome State Fault Refusal :=
  s.run (fun b => match b.cluPart c.toNat with
    | some p => if (b.part p).state = .running then ((b.spTransfer p c.toNat).handOff p).spStop p else b
    | none => b)

/-- HAZARD_BUDGET_CHECK (R206) of cluster c for a DC with n slip steps of the causes of index 2 to 6. -/
def Block.budgetCheck (b : Block) (c n : Nat) : Block :=
  let lim := b.fld (r1 .HZ_BUDGET c) F.HZ_BUDGET_BUDGET
  if lim ≠ 0xFFFF ∧ lim < n then
    ((b.wrapFld (r1 .HZ_OVER c) ⟨0, 32⟩ 1).modClu c (fun x => { x with overSeen := true })).raiseIf (!(b.clu c).overSeen) (192 + groupOf c)
  else b

/-- The word engines begin the next DC at word 0. -/
def Block.wePcZero (b : Block) (c : Nat) : Block := forEach (List.range 4) b (fun k x => x.clrFld (r2 .WE_PC c k) F.WE_PC_PC)

/-- A cluster at the Equinox beside the commit: state port, sentinel, word engines, sequencer. -/
def Block.eqxClu (b : Block) (slips c : Nat) : Block := ((((b.budgetCheck c slips).spEquinox c).sentAdvance c).wePcZero c).seqStep c

/-- The partition's counter moves on to the next DC, whose step 0 has not begun. -/
def Block.nextDc (b : Block) (p : Nat) (ts : Stamp) : Block :=
  b.modPart p (fun x => { x with
    dc := x.dc + 1, step := 0, dcp := .start, dcSlip := 0, firstDc := false, eqxAt := ts })

/-- FREEZE_TARGET_STOP (R184, R413): a target of DC n, or a step break after step L − 1, stops the partition; a state-port transfer that is due comes first. -/
def Block.eqxStop (b : Block) (p n : Nat) : Block :=
  let x := b.part p
  let t := BitVec.ofNat 32 n
  if x.target = some t ∨ x.brkStop then
    let b1 := if x.target = some t then b.meet p t else b
    if b.spBusy p then b1.modPart p (fun y => { y with stopAfter := true }) else b1.enterFrozen p
  else b.pathDownStop p

/-- The actions of Table 1.4 for the Equinox that closes the running DC of partition p. -/
def Block.equinoxNow (b : Block) (p : Nat) : Block :=
  let x := b.part p
  let n := x.dc.toNat
  let ts := b.now
  let b1 := forEach x.clusters b (fun c y => y.modClu c Cluster.commit)
  let smp := b1.vptSample p
  let b2 := (b1.emitRest p).nextDc p ts
  let b3 := forEach x.clusters b2 (fun c y => y.eqxClu x.dcSlip c)
  let hit := x.clusters.any (fun c => bitAt (b3.tseq c) 7)
  let b4 := ((b3.noteHit p n hit).modPart p (fun y => { y with hand := some (n, ts, (stampUnits ts - stampUnits x.eqxAt) / 65536) })).handOff p
  (b4.vptEquinox p n smp).eqxStop p n

/-- EQUINOX (R33): due when the END step has executed; an abort that waited for it stops the partition instead (R186, R78). -/
def Block.equinox (b : Block) (p : Nat) : Block :=
  let x := b.part p
  if x.state = .running ∧ x.dcp = .eqx then
    let b1 := b.settle p
    if (b1.part p).state ≠ .running then b1 else if x.abortPend then b1.abortStop p else b1.equinoxNow p
  else b

/-- EQUINOX. -/
def execEquinox (p : PartNo) (s : State) : Host.Outcome State Fault Refusal := s.run (·.equinox p.toNat)

end Sys2Proof.Machine
end

