-- ==== Sys2Proof/Machine/Noc.lean ====
section
/-!
DEFINITION. What packets do where they are ejected (R374 to R387): requests, answers, snoops, fragments; RETRY and reissue; the answer timeout; the wake queues.
Their way there is in Mesh.lean.
-/
namespace Sys2Proof.Machine

/-! ## Answers -/

/-- An answer to a request, from a node: back to its source, with its transaction number. -/
def Block.answerAt (b : Block) (node : Nat) (p : Packet) (kind : Nat) (addr : Nat) (data : BitVec 512) : Block :=
  b.inject node { p with
    kind := BitVec.ofNat 5 kind, ddev := p.sdev, dnode := p.snode, snode := p.dnode, sdev := b.devId, addr := BitVec.ofNat 46 addr, data := data }

/-- An answer of the terminal at DNODE. -/
def Block.answer (b : Block) (p : Packet) (kind : Nat) (addr : Nat) (data : BitVec 512) : Block := b.answerAt p.dnode.toNat p kind addr data

/-- ERROR with a code of Table 11.5. -/
def Block.answerErr (b : Block) (p : Packet) (code : Nat) : Block := b.answer p 7 code 0
/-- ACK. -/
def Block.answerAck (b : Block) (p : Packet) : Block := b.answer p 5 0 0
/-- RETRY from a node (R380): a source on this module keeps the request. -/
def Block.answerRetry (b : Block) (node : Nat) (p : Packet) : Block :=
  let b1 : Block := if p.sdev = b.devId then { b with noc := { b.noc with kept := b.noc.kept ++ [(p, none)] } } else b
  b1.answerAt node p 6 0 0
/-- RD_DATA, with the poison flag in ADDR[0] (R386). -/
def Block.answerData (b : Block) (p : Packet) (l : List Byte) (poison : Bool) : Block :=
  b.answer p 4 (b2n poison) (BitVec.ofNat 512 (leNat (sliceBytes l 0 64)))

/-- Bytes of a request: 2^SIZE. -/
def pktBytes (p : Packet) : Nat := 2 ^ p.size.toNat

/-- The data of a write. -/
def pktPayload (p : Packet) : List Byte := leBytes (pktBytes p) p.data.toNat

/-- A later request of the same source, by TXN. -/
def pktAfter (q p : Packet) : Bool :=
  decide (q.snode = p.snode ∧ q.sdev = p.sdev) && decide (0 < (q.txn - p.txn).toNat ∧ (q.txn - p.txn).toNat < 2048)

/-- A request or fragment, which a terminal can answer RETRY (R380). -/
def isRequest (p : Packet) : Bool := decide (p.kind = 1 ∨ p.kind = 2 ∨ p.kind = 3)

/-! ## Input queues (R379, R380) -/

/-- The keys of the input queue of a node: the four banks at a scratchpad node share one. -/
def queueKeys (n : Nat) : List Nat :=
  match nodeSsp n with
  | some k => (List.range 4).map (fun i => k + i)
  | none => [64 + n]

/-- Put the requests held at a key. -/
def Block.setHeld (b : Block) (k : Nat) (l : List (Packet × Found)) : Block := { b with noc := { b.noc with inq := NMap.set [] b.noc.inq k l } }

/-- The input queue of a node has its 16 requests. -/
def Block.nocFull (b : Block) (node : Nat) : Bool := decide (16 ≤ ((queueKeys node).map (fun j => (b.sspHeld j).length)).sum)

/-- A request comes to a full queue: RETRY, also to the later ones of its source, which are dropped (R380). -/
def Block.nocRefuse (b : Block) (p : Packet) : Block :=
  forEach (queueKeys p.dnode.toNat) (b.answerRetry p.dnode.toNat p) (fun j x =>
    forEach ((x.sspHeld j).filter (fun q => pktAfter q.1 p)) (x.setHeld j ((x.sspHeld j).filter (fun q => !pktAfter q.1 p)))
      (fun q y => y.answerRetry p.dnode.toNat q.1))

/-- A request waits in the input queue of its terminal. -/
def Block.nocHold (b : Block) (k : Nat) (p : Packet) (e : Found) : Block := b.setHeld k (b.sspHeld k ++ [(p, e)])

/-- An FMP request of a cluster whose packet a controller has not had: issued before a packet of the cluster, to its stack, and not served from the cache. -/
def Block.fmpAhead (b : Block) (c : Nat) (p : Packet) : Bool :=
  (List.range 4).any (fun n => ((b.clu c).fmpQ n).any (fun e =>
    decide (e.kind < 2 ∧ e.acted = false ∧ e.present = false ∧ e.served = false ∧ e.stack = p.addr.toNat / 2 ^ 35)
      && decide (0 < (p.txn - BitVec.ofNat 12 e.num).toNat ∧ (p.txn - BitVec.ofNat 12 e.num).toNat < 2048) && !(b.clu c).hasLine e.stack e.addr))

/-- A far-memory controller or the TDU has not had an earlier request of the same source (R379). -/
def Block.outOfOrder (b : Block) (p : Packet) : Bool :=
  let n := p.dnode.toNat
  (decide (n = tduNode) || (nodeFmc n).isSome) &&
    ((b.noc.tx ++ b.noc.fly ++ b.noc.got).any (fun f => isRequest f.pkt && decide (f.pkt.dnode = p.dnode) && pktAfter p f.pkt)
      || (b.sspHeld (64 + n)).any (fun q => pktAfter p q.1)
      || (decide (n ≠ tduNode) && (b.farBehind p.snode.toNat (p.addr.toNat / 2 ^ 35) (some p.txn.toNat) ||
        (match nodeClu p.snode.toNat with | some c => b.fmpAhead c p | none => false))))

/-! ## Targets -/

/-- The request of the DMA engine that a write carries is applied. -/
def Block.reqDone (b : Block) (p : Packet) : Block :=
  { b with noc := { b.noc with
    sent := b.noc.sent.map (fun q => if isEngine q.node ∧ q.node = p.snode.toNat ∧ q.txn = p.txn.toNat then { q with done := true } else q) } }

/-- The entry of a cluster's FMP whose request a packet carries, with its FMP. -/
def Block.fmpSent (b : Block) (p : Packet) : Option (Nat × Nat × FmpEnt) :=
  (nodeClu p.snode.toNat).bind (fun c => (List.range 4).findSome? (fun n =>
    (((b.clu c).fmpQ n).find? (fun e => decide (e.kind < 2 ∧ e.num % 4096 = p.txn.toNat ∧ e.present = false))).map (fun e => (c, n, e))))

/-- Change the entry of a cluster's FMP whose request a packet carries. -/
def Block.fmpPkt (b : Block) (p : Packet) (f : FmpEnt → FmpEnt) : Block :=
  match b.fmpSent p with
  | some (c, n, e) => b.modClu c (fun x => x.setFmpQ n ((x.fmpQ n).map (fun g => if g.num = e.num then f g else g)))
  | none => b

/-- A write of far memory at its controller: that of an FMP entry acts as the entry does (R141, R145), another stores its bytes. -/
def Block.farStore (b : Block) (p : Packet) : Block :=
  match b.fmpSent p with
  | some (c, n, e) => if e.kind = 1 then (if e.acted then b else b.fmpAct c n e []) else b
  | none =>
    let addr := p.addr.toNat
    ((b.snoopRange addr (pktBytes p) true).farWrite (addr / 2 ^ 35) (addr % 2 ^ 35) (pktPayload p)).reqDone p

/-- Far memory serves a request, coherently with the caches (R146, R149, R552); `e` is what the checks of the words find that it reads, or of a packet's data. -/
def Block.farServe (b : Block) (p : Packet) (e : Found) : Block :=
  let addr := p.addr.toNat
  let s := addr / 2 ^ 35
  let a := addr % 2 ^ 35
  let n := pktBytes p
  if 2 ^ 37 ≤ addr ∨ 24 * 2 ^ 30 < a + n then b.answerErr p 6
  else if p.kind = 1 then
    let b1 := (b.snoopRange addr n false).farFound s a n e
    b1.answerData p (b1.farBytes s a n) (b1.farPoisoned s a n)
  else ((b.farStore p).farFound s a n e).answerAck p

/-- The owner that a packet of the DMA engine acts as: its channel's (R387); of a request that the module does not list, its PART's where a channel of scope
partition serves that partition, else the HKC's (log entry 143). -/
def Block.dmaPktOwner (b : Block) (p : Packet) : SspOwner :=
  match b.noc.sent.find? (fun q => decide (q.node = dmaNode ∧ q.txn = p.txn.toNat)) with
  | some q => b.dmaOwner q.chan
  | none => if (List.range 64).any (fun n => !b.dmaModule n && decide (b.dmaPart n = p.part.toNat)) then ⟨1, p.part.toNat⟩ else ⟨4, 0⟩

/-- The owner that the source of a request is, to the scratchpad; no other terminal is one (R387). -/
def Block.sspRequester (b : Block) (p : Packet) : SspOwner :=
  if p.sdev ≠ b.devId then ⟨0, 0⟩
  else if p.snode.toNat = tduNode then ⟨2, 0⟩
  else if p.snode.toNat = hostNode then ⟨4, 0⟩
  else if p.snode.toNat = dmaNode then b.dmaPktOwner p
  else ⟨0, 0⟩

/-- The bank that a request names: one of the four at the node, the range within it. -/
def sspBank (p : Packet) : Option Nat :=
  let addr := p.addr.toNat
  if addr < 2 ^ 26 ∧ addr % 2 ^ 20 + (pktBytes p) ≤ 2 ^ 20 ∧ nodeSsp p.dnode.toNat = some (addr / 2 ^ 22 * 4) then some (addr / 2 ^ 20) else none

/-- A bank serves a request (R385, R386); `e` is what the checks of the words find that it reads, or of a packet's data. -/
def Block.sspServe (b : Block) (k : Nat) (p : Packet) (e : Found) : Block :=
  let off := p.addr.toNat % 2 ^ 20
  let n := pktBytes p
  if p.kind = 1 then
    let b1 := b.sspFound k off n e
    b1.answerData p (b1.sspBytes k off n) (b1.sspPoisoned k off n)
  else (((b.sspPut k off (pktPayload p)).reqDone p).sspFound k off n e).answerAck p

/-- A request at a scratchpad node. -/
def Block.sspRequest (b : Block) (p : Packet) (e : Found) : Block :=
  match sspBank p with
  | none => b.answerErr p 6
  | some k =>
    match b.sspAsk k (b.sspRequester p) with
    | .serve => b.sspServe k p e
    | .retry => b.answerRetry p.dnode.toNat p
    | .hold => (b.nocHold k p e).sspWake k
    | .error => b.answerErr p 7

/-- A bank answers the requests held for it, in the order of their arrival: on, it serves them for the owner that they came from (R388); in retention it
wakes, or refuses them without AUTO_WAKE; off, it refuses them (Table 12.4). -/
def Block.bankGo (b : Block) (k : Nat) : Block :=
  let l := b.sspHeld k
  if l.isEmpty ∨ b.sspState k = 3 then b
  else if b.sspState k = 2 then forEach l (b.setHeld k []) (fun q x => x.sspServe k q.1 q.2)
  else if b.sspState k = 1 ∧ b.bit (r1 .SSP_PWRb k) F.SSP_PWRb_AUTO_WAKE then b.sspWake k
  else forEach l (b.setHeld k []) (fun q x => x.answerErr q.1 7)

/-- A register access by the HKC of a module (R382): words of BAR0. -/
def Block.regRequest (b : Block) (p : Packet) : Block :=
  let addr := p.addr.toNat
  let n := pktBytes p
  if addr % 4 ≠ 0 ∨ n % 4 ≠ 0 ∨ 2 ^ 26 < addr + n then b.answerErr p 6
  else if p.kind = 1 then
    match b.regsRead .hkc (wordsOf addr n) [] with
    | .done b1 l => b1.answerData p l false
    | .err b1 code => b1.answerErr p code
    | .wait b1 => b1.nocHold (64 + p.dnode.toNat) p []
  else
    match b.regsWrite .hkc (pktPayload p) (wordsOf addr n) 0 with
    | .done b1 _ => b1.answerAck p
    | .err b1 code => b1.answerErr p code
    | .wait b1 => b1.nocHold (64 + p.dnode.toNat) p []

/-- A read or write at its node: the HKC reaches registers, but the scratchpad at its nodes; clusters and control-plane FMPs reach far memory (R25). -/
def Block.nocRequest (b : Block) (p : Packet) (e : Found) : Block :=
  let n := p.dnode.toNat
  if p.size = 7 then b.answerErr p 1
  else if (nodeSsp n).isSome then b.sspRequest p e
  else if p.snode.toNat = hostNode then b.regRequest p
  else if nodeFmc n = some (p.addr.toNat / 2 ^ 35) ∧ ((nodeClu p.snode.toNat).isSome ∨ isCpFmp p.snode.toNat) then
    (b.fmpPkt p (fun f => { f with served := true })).farServe p e
  else b.answerErr p 6

/-- The node from which the fragments of a source go out; those of a FORWARD dispatch stay in the TDU. -/
def fragNode : FragSrc → Option Nat
  | .event => some tuNode
  | .dma _ => some dmaNode
  | .design c _ _ => some (cluNode c)
  | .host _ => some hostNode
  | .forward => none

/-- A packet carries a fragment (Table 12.3): CHAN in [27:18], TAG in [17:2], OP in [1:0] of ADDR, the data in [63:0]; TXN numbers a cluster's request. -/
def pktCarries (p : Packet) (f : Frag) : Bool :=
  decide (fragNode f.src = some p.snode.toNat ∧ f.chan = bitsOf p.addr.toNat 18 10 ∧ f.tag = bitsOf p.addr.toNat 2 16 ∧ f.op = bitsOf p.addr.toNat 0 2
    ∧ f.data = p.data.setWidth 64) &&
    (match f.src with | .design _ _ id => decide (id % 4096 = p.txn.toNat) | _ => true)

/-- The fragment of a packet that is dropped is never applied (R381). -/
def Block.fragLost (b : Block) (p : Packet) : Block :=
  { b with tdu := { b.tdu with queue := dropFirst (fun e => pktCarries p e.2) b.tdu.queue } }

/-- A fragment at the TDU, whose queue holds it since its issue (R320); one whose data fails its check is dropped (log entry 141). -/
def Block.nocMsg (b : Block) (p : Packet) (e : Found) : Block :=
  let b0 := b.wordsFound 1 e (fun _ x => x)
  if foundDue 1 e then (b0.fragLost p).nocDrop
  else if p.dnode.toNat ≠ tduNode then b0.answerErr p 6
  else b0

/-- A request or fragment at its terminal is dealt with. -/
def Block.nocGo (b : Block) (p : Packet) (e : Found) : Block := if p.kind = 3 then b.nocMsg p e else b.nocRequest p e

/-- A request that comes ahead of an earlier one of its source waits (R379), a fragment also while the TDU accepts none (R345). -/
def Block.mustWait (b : Block) (p : Packet) : Bool := b.outOfOrder p || (decide (p.kind = 3) && b.tduStuck)

/-- A request or fragment arrives at its terminal (R379, R380). -/
def Block.nocServe (b : Block) (p : Packet) (e : Found) : Block :=
  if b.nocFull p.dnode.toNat then b.nocRefuse p
  else if b.mustWait p then b.nocHold (64 + p.dnode.toNat) p e
  else b.nocGo p e

/-- The first request of an input queue that need not wait leaves it. -/
def Block.nocPass (b : Block) (k : Nat) : Block :=
  match (b.sspHeld k).find? (fun q => !b.mustWait q.1) with
  | some q => (b.setHeld k ((b.sspHeld k).erase q)).nocGo q.1 q.2
  | none => b

/-- The input queues are gone through again. -/
def Block.nocRelease (b : Block) : Block :=
  forEach b.noc.inq b (fun e x => if e.1 < 64 then x.bankGo e.1 else forEach e.2 x (fun _ y => y.nocPass e.1))

/-! ## Snoops (R146) -/

/-- A snoop at a cluster: the line is invalidated or becomes shared; a modified line is answered with its data. -/
def Block.nocSnoop (b : Block) (p : Packet) : Block :=
  match nodeClu p.dnode.toNat with
  | none => b
  | some c =>
    let s := p.addr.toNat / 2 ^ 35
    let a := p.addr.toNat % 2 ^ 35 / 64 * 64
    let dirty := ((b.clu c).setOf a).any (fun l => decide (l.tag = lineTag s a ∧ l.st = 2))
    let b1 := b.modClu c (fun x => x.snoop s a (decide (p.kind = 8)))
    if dirty then b1.answer p 0x0B p.addr.toNat (BitVec.ofNat 512 (b.farRead s a 64)) else b1.answer p 0x0A p.addr.toNat 0

/-! ## Answers at their source -/

/-- The outstanding request of the DMA engine from a node with a transaction number. -/
def Block.dmaSent (b : Block) (node txn : Nat) : Option NocReq := b.noc.sent.find? (fun q => decide (q.node = node ∧ q.txn = txn))

/-- The FMP and class of a cluster's request with a transaction number. -/
def Cluster.fmpOf (x : Cluster) (txn : Nat) : Option (Nat × FmpEnt) :=
  (List.range 4).findSome? (fun n => ((x.fmpQ n).find? (fun e => decide (e.num % 4096 = txn ∧ e.present = false))).map (fun e => (n, e)))

/-- A request of the HKC that an answer from another module answers. -/
def abroadOf (p q : Packet) : Bool := decide (q.txn = p.txn ∧ q.ddev = p.sdev ∧ p.dnode = q.snode)

/-- A RETRY reaches the source of a request (R380), which keeps it for its reissue. What the engine has written to the host or to register space is in place. -/
def Block.nocRetry (b : Block) (node txn : Nat) : Block :=
  let out (q : Packet) : Bool := decide (q.snode.toNat = node ∧ q.txn.toNat = txn)
  let b1 : Block := { b with noc := { b.noc with
    kept := b.noc.kept.map (fun q => if out q.1 then (q.1, some b.pw.ctl) else q) ++ (b.noc.abroad.filter out).map (fun q => (q, some b.pw.ctl))
    abroad := b.noc.abroad.filter (fun q => !out q)
    sent := b.noc.sent.map (fun q => if q.node = node ∧ isEngine node ∧ q.txn = txn ∧ q.data ≠ [] ∧ q.done = false then { q with refused := some b.pw.ctl } else q) } }
  match nodeClu node with
  | some c => if ((b.clu c).fmpOf txn).isSome then { b1 with noc := { b1.noc with fmpRetry := b1.noc.fmpRetry.put (c * 4096 + txn) b.pw.ctl } } else b1
  | none => b1

/-- An answer reaches the DMA engine. -/
def Block.dmaReply (b : Block) (p : Packet) : Block :=
  match b.dmaSent p.dnode.toNat p.txn.toNat with
  | none => b
  | some q => if p.kind = 7 then b.dmaNack q.chan q (bitsOf p.addr.toNat 0 4) else b.dmaAck q.chan (some q)

/-- A response to an FMP request: `bad` where it carries the uncorrectable-error flag, or is an ERROR, with which nothing is written (log entry 140). -/
def Block.fmpReply (b : Block) (c n : Nat) (e : FmpEnt) (refused bad : Bool) : Block :=
  let mark (x : Block) : Block := x.modClu c (fun y => y.setFmpQ n ((y.fmpQ n).map (fun f => if f.num = e.num then { f with present := true, err := true } else f)))
  if refused then mark b else if bad then mark (b.fmpArrive c n e.cls []) else b.fmpArrive c n e.cls []

/-- An answer to a request at its source. -/
def Block.nocAnswer (b : Block) (p : Packet) (e : Found) : Block :=
  let n := p.dnode.toNat
  let words := if p.kind = 4 then 8 else 0
  let b0 := b.wordsFound words e (fun _ x => x)
  if p.kind = 6 then b.nocRetry n p.txn.toNat
  else if isEngine n then b0.dmaReply p
  else match nodeClu n with
    | none => { b0 with noc := { b0.noc with abroad := b0.noc.abroad.filter (fun q => !abroadOf p q) } }
    | some c =>
      match (b0.clu c).fmpOf p.txn.toNat with
      | some f => b0.fmpReply c f.1 f.2 (decide (p.kind = 7)) (decide (p.kind = 4) && (foundDue words e || p.addr.getLsbD 0))
      | none => b0

/-! ## PACKET_EJECT -/

/-- A packet leaves the module at the link gateway (R382); the HKC keeps its request until it is answered. -/
def Block.goAbroad (b : Block) (p : Packet) : Block :=
  let b1 := b.sendMsg (.pkt p)
  if (p.kind = 1 ∨ p.kind = 2) ∧ p.sdev = b.devId ∧ p ∉ b1.noc.abroad then { b1 with noc := { b1.noc with abroad := b1.noc.abroad ++ [p] } } else b1

/-- The effect of a packet at its terminal, by its kind (Table 12.3); `e` is what the checks of its data find, or of the words that it reads. -/
def Block.nocEffect (b : Block) (p : Packet) (e : Found) : Block :=
  let k := p.kind.toNat
  if b.pktOwn p = false then b.goAbroad p
  else if k = 1 ∨ k = 2 ∨ k = 3 then b.nocServe p e
  else if k = 8 ∨ k = 9 then b.nocSnoop p
  else if k = 0x0A ∨ k = 0x0B then b
  else b.nocAnswer p e

/-- A packet for a Frost domain (R383, R384): while the module enters, is in or leaves Frost it joins the domain's queue and asks for Thaw. A full queue, or
WAKE_EN = 0, answers RETRY to a request; for other packets their receiver has kept a place (R380). -/
def Block.wakeIn (b : Block) (d : Nat) (f : Transit) : Block :=
  let q := NMap.get [] b.noc.wake d
  let on := b.bit (r0 .NOC_CTRL) F.NOC_CTRL_WAKE_EN
  if isRequest f.pkt ∧ (on = false ∨ 16 ≤ q.length) then b.answerRetry f.node f.pkt
  else
    let b1 : Block := { b with noc := { b.noc with wake := b.noc.wake.put d (q ++ [f]) } }
    if on then b1.thawByPacket else b1

/-- A packet is dropped with its header (R381): its request is never served nor reissued, its fragment never applied. -/
def Block.pktLost (b : Block) (p : Packet) : Block :=
  let b1 : Block := if p.kind = 2 then { b with noc := { b.noc with
    sent := b.noc.sent.map (fun q => if q.node = p.snode.toNat ∧ q.txn = p.txn.toNat ∧ p.sdev = b.devId ∧ q.done = false then { q with lost := true } else q) } } else b
  let b2 := if p.kind = 1 ∨ p.kind = 2 then b1.fmpPkt p (fun f => { f with lost := true }) else b1
  (if p.kind = 3 then b2.fragLost p else b2).nocDrop

/-- The control-plane unit whose queue or registers a packet uses at its node (Table 17.1, class 0x0B). -/
def nodeUnit (n : Nat) : Option CUnit :=
  if (nodeSsp n).isSome then some .ssp
  else if n = tuNode then some .tu
  else if n = tguNode then some .tgu
  else if n = tduNode then some .tdu
  else if n = dmaNode then some .dma
  else none

/-- A packet has left its network at a node: a header that fails correction drops it (R381). -/
def Block.nocArrive (b : Block) (f : Transit) (header : Ecc) (words : Found) (unit : Ecc) : Block :=
  match header with
  | .due => b.pktLost f.pkt
  | h =>
    let b1 := if h = .corr then b.corrected else b
    match b1.asleep f.node f.pkt with
    | some d => b1.wakeIn d f
    | none =>
      (match (if b1.pktOwn f.pkt then nodeUnit f.pkt.dnode.toNat else none) with
        | some k => b1.unitUse k 0 unit (fun x => x.nocEffect f.pkt words)
        | none => b1.nocEffect f.pkt words).nocRelease

/-- A packet whose injection by a terminal of the module the model does not list, but which that terminal can send now (log entry 142): a request of a cluster
or a control-plane FMP to far memory; of the DMA engine, the TDU or the HKC to the scratchpad; of the HKC to register space; a write of the engine
only while its request waits, a fragment only while the TDU's queue holds it; an answer of a target; a snoop, or its answer. -/
def Block.pktSource (b : Block) (p : Packet) : Bool :=
  let n := p.snode.toNat
  let d := p.dnode.toNat
  let clu := (nodeClu n).isSome
  decide (p.sdev = b.devId ∧ CUnit.noc ∉ b.flt.refusing) &&
    (if p.kind = 1 ∨ p.kind = 2 then
      (if b.pktOwn p = false then decide (n = hostNode)
       else if (nodeSsp d).isSome then decide (n = dmaNode ∨ n = tduNode ∨ n = hostNode)
       else if (nodeFmc d).isSome then clu || isCpFmp n
       else decide (n = hostNode)) && !b.carried n p.txn.toNat &&
      (decide (p.kind = 1) || !isEngine n ||
        (match b.dmaSent n p.txn.toNat with
          | some q => decide (q.refused = none ∧ q.done = false ∧ q.lost = false ∧ q.addr = p.addr.toNat ∧ q.data = pktPayload p)
          | none => false))
     else if p.kind = 3 then b.pktOwn p && b.tdu.queue.any (fun e => pktCarries p e.2)
     else if p.kind = 8 ∨ p.kind = 9 then b.pktOwn p && (nodeFmc n).isSome
     else if p.kind = 0x0A ∨ p.kind = 0x0B then b.pktOwn p && clu
     else (nodeFmc n).isSome || (nodeSsp n).isSome || decide (n = tduNode ∨ n = hostNode ∨ n = dmaNode))

/-- A packet is ejected (R376): one that its source now sends is injected there (R377), and the meshes are brought to the cycle in which its router ejects it,
which R378 bounds. One of a reserved kind is dropped at its first router (Table 12.3). -/
def Block.nocEject (b : Block) (net : Nat) (p : Packet) (header : Ecc) (words : Found) (unit : Ecc) : Block :=
  if pktNet p.kind.toNat = none ∨ b.meshDest p = none then b.nocDrop
  else if pktNet p.kind.toNat ≠ some net then b
  else
    let b0 := if b.onMesh net p = false ∧ b.pktSource p then b.inject p.snode.toNat p else b
    if b0.onMesh net p then
      let b1 := b0.meshUntil net p 1024
      match b1.noc.got.find? (fun f => f.isPkt net p) with
      | some f => ({ b1 with noc := { b1.noc with got := b1.noc.got.erase f } }).nocArrive f header words unit
      | none => b1
    else b

/-- PACKET_EJECT. -/
def execPacketEject (net : BitVec 2) (pkt : Packet) (header : Ecc) (words : Found) (unit : Ecc) (s : State) : Host.Outcome State Fault Refusal :=
  s.run (·.nocEject net.toNat pkt header words unit)

/-- RETRY (R380). -/
def execRetry (t : Terminal) (txn : BitVec 12) (s : State) : Host.Outcome State Fault Refusal := s.run (·.nocRetry (termNode t) txn.toNat)

/-- The refused requests of a terminal go out again in TXN order, 64 NET_CLK cycles after their RETRY (R380). -/
def Block.nocReissue (b : Block) (node : Nat) : Block :=
  let due (at_ : Nat) : Bool := decide (at_ + 16 ≤ b.pw.ctl)
  let again (q : Packet × Option Nat) : Bool := decide (q.1.snode.toNat = node) && q.2.any due
  let b1 : Block := { b with noc := { b.noc with
    kept := b.noc.kept.filter (fun q => !again q)
    sent := b.noc.sent.map (fun q => if q.node = node ∧ q.refused.any due then { q with refused := none, at_ := b.pw.ctl } else q)
    fmpRetry := match nodeClu node with | some c => b.noc.fmpRetry.filter (fun e => !(decide (e.1 / 4096 = c) && due e.2)) | none => b.noc.fmpRetry } }
  forEach (sortBy (fun p q => !pktAfter p q) ((b.noc.kept.filter again).map (·.1))) b1 (fun p x => x.inject node p)

/-- REQUEST_REISSUE (R380). -/
def execRequestReissue (t : Terminal) (s : State) : Host.Outcome State Fault Refusal := s.run (·.nocReissue (termNode t))

/-- A request of a cluster's FMP is unanswered after 100 µs (class 0x08), any other is a dropped packet (class 0x09, Table 17.1). -/
def Block.nocTimeout (b : Block) (node txn : Nat) : Block :=
  if isEngine node then
    match b.dmaSent node txn with
    | some q =>
      if q.at_ + 25000 ≤ b.pw.ctl ∧ q.refused = none then
        ({ b with noc := { b.noc with sent := b.noc.sent.erase q } }).unitFault .noc 0x09 q.chan
      else b
    | none => b
  else match nodeClu node with
    | some c =>
      (match (b.clu c).fmpOf txn with
      | some e => b.cluFault 0x08 (unitOf c e.1) c
      | none => b)
    | none => b.nocDrop

/-- REQUEST_ANSWER_TIMEOUT (R381, R498). -/
def execRequestAnswerTimeout (t : Terminal) (txn : BitVec 12) (s : State) : Host.Outcome State Fault Refusal :=
  s.run (·.nocTimeout (termNode t) txn.toNat)

/-! ## Wake queues (R383, R384) -/

/-- The wake queue of a Frost domain. -/
def wakeKey : FrostDomain → Nat
  | .quadrant q => q.toNat
  | .ssp => 4

/-- A packet for a Frost domain reaches the router at which its path enters that domain. -/
def Block.wakePkt (b : Block) (d : Nat) (net : Nat) (p : Packet) : Block :=
  if b.pwrState = 0 ∨ b.pktOwn p = false ∨ frostOf p.dnode.toNat ≠ some d then b else b.nocEject net p .ok [] .ok

/-- WAKE_PACKET (R383). -/
def execWakePacket (d : FrostDomain) (net : BitVec 2) (pkt : Packet) (s : State) : Host.Outcome State Fault Refusal :=
  s.run (·.wakePkt (wakeKey d) net.toNat pkt)

/-! ## Power changes of a bank (R390) -/

/-- A bank reaches its state, and answers what was held for it. -/
def Block.sspPowered (b : Block) (k : Nat) : Block := ((b.sspDone k).bankGo k).snapTry

/-- SSP_POWER_CHANGE_DONE (R390). -/
def execSspPowerChangeDone (k : BitVec 6) (s : State) : Host.Outcome State Fault Refusal := s.run (·.sspPowered k.toNat)

end Sys2Proof.Machine
end

