-- ==== Sys2Proof/Machine/Dispatch.lean ====
section
/-!
DEFINITION. What each command does: one meaning for each constructor.
-/
namespace Sys2Proof.Machine

/-- The effect of a command on everything but the queue. -/
def exec (i : Instr) (s : State) : Host.Outcome State Fault Refusal :=
  match i with
  -- the schedule (chapters 1, 2, 5)
  | .scheduleStep p found => Sys2Proof.Machine.execScheduleStep p found s
  | .slipStep p => Sys2Proof.Machine.execSlipStep p s
  | .nop c b w => Sys2Proof.Machine.execNop c b w s
  | .eval c b w => Sys2Proof.Machine.execEval c b w s
  | .evalq c b w => Sys2Proof.Machine.execEvalq c b w s
  | .send c b w => Sys2Proof.Machine.execSend c b w s
  | .evals c b w => Sys2Proof.Machine.execEvals c b w s
  | .wait c b w => Sys2Proof.Machine.execWait c b w s
  | .trig c b w => Sys2Proof.Machine.execTrig c b w s
  | .bpEnd c b w => Sys2Proof.Machine.execBpEnd c b w s
  | .equinox p => Sys2Proof.Machine.execEquinox p s
  | .statePortTransfer c => Sys2Proof.Machine.execStatePortTransfer c s
  | .dcStart p => Sys2Proof.Machine.execDcStart p s
  | .routeLatch p => Sys2Proof.Machine.execRouteLatch p s
  | .segmentReceive n seg => Sys2Proof.Machine.execSegmentReceive n seg s
  | .eqxWaitTimeout p => Sys2Proof.Machine.execEqxWaitTimeout p s
  | .freeze r p => Sys2Proof.Machine.execFreeze r p s
  | .freezeAt r p => Sys2Proof.Machine.execFreezeAt r p s
  | .resume r p => Sys2Proof.Machine.execResume r p s
  | .freezeSymbolReceive n y => Sys2Proof.Machine.execFreezeSymbolReceive n y s
  | .partMarginWrite r p v => Sys2Proof.Machine.execPartMarginWrite r p v s
  | .cluSentCtrlWrite r c v => Sys2Proof.Machine.execCluSentCtrlWrite r c v s
  | .faultRecordClear r c v => Sys2Proof.Machine.execFaultRecordClear r c v s
  | .weFaultClear r c k v => Sys2Proof.Machine.execWeFaultClear r c k v s
  | .memFaultClear r c v => Sys2Proof.Machine.execMemFaultClear r c v s
  | .cluSpCtrlWrite r c v => Sys2Proof.Machine.execCluSpCtrlWrite r c v s
  | .spCtrlTakeEffect c => Sys2Proof.Machine.execSpCtrlTakeEffect c s
  | .selectListWrite r c j v => Sys2Proof.Machine.execSelectListWrite r c j v s
  | .loadBufferWrite r c buf w v => Sys2Proof.Machine.execLoadBufferWrite r c buf w v s
  | .freeUnload r c buf => Sys2Proof.Machine.execFreeUnload r c buf s
  | .fullLoad r c buf => Sys2Proof.Machine.execFullLoad r c buf s
  -- word engines (chapter 3)
  | .weNop c k w => Sys2Proof.Machine.execWeNop c k w s
  | .add c k w => Sys2Proof.Machine.execAdd c k w s
  | .sub c k w => Sys2Proof.Machine.execSub c k w s
  | .and c k w => Sys2Proof.Machine.execAnd c k w s
  | .or c k w => Sys2Proof.Machine.execOr c k w s
  | .xor c k w => Sys2Proof.Machine.execXor c k w s
  | .andn c k w => Sys2Proof.Machine.execAndn c k w s
  | .shl c k w => Sys2Proof.Machine.execShl c k w s
  | .shr c k w => Sys2Proof.Machine.execShr c k w s
  | .sar c k w => Sys2Proof.Machine.execSar c k w s
  | .ror c k w => Sys2Proof.Machine.execRor c k w s
  | .bfxu c k w => Sys2Proof.Machine.execBfxu c k w s
  | .bfxs c k w => Sys2Proof.Machine.execBfxs c k w s
  | .bfi c k w => Sys2Proof.Machine.execBfi c k w s
  | .cmpeq c k w => Sys2Proof.Machine.execCmpeq c k w s
  | .cmplt c k w => Sys2Proof.Machine.execCmplt c k w s
  | .cmpltu c k w => Sys2Proof.Machine.execCmpltu c k w s
  | .min c k w => Sys2Proof.Machine.execMin c k w s
  | .max c k w => Sys2Proof.Machine.execMax c k w s
  | .abs c k w => Sys2Proof.Machine.execAbs c k w s
  | .movi c k w => Sys2Proof.Machine.execMovi c k w s
  | .movhi c k w => Sys2Proof.Machine.execMovhi c k w s
  | .norm c k w => Sys2Proof.Machine.execNorm c k w s
  | .expx c k w => Sys2Proof.Machine.execExpx c k w s
  | .rnd c k w => Sys2Proof.Machine.execRnd c k w s
  | .pack c k w => Sys2Proof.Machine.execPack c k w s
  | .unpk c k w => Sys2Proof.Machine.execUnpk c k w s
  | .movb c k w => Sys2Proof.Machine.execMovb c k w s
  | .muls c k w => Sys2Proof.Machine.execMuls c k w s
  | .mulu c k w => Sys2Proof.Machine.execMulu c k w s
  | .macs c k w => Sys2Proof.Machine.execMacs c k w s
  | .macu c k w => Sys2Proof.Machine.execMacu c k w s
  | .msus c k w => Sys2Proof.Machine.execMsus c k w s
  | .mpya c k w => Sys2Proof.Machine.execMpya c k w s
  | .clra c k w => Sys2Proof.Machine.execClra c k w s
  | .lda c k w => Sys2Proof.Machine.execLda c k w s
  | .rnda c k w => Sys2Proof.Machine.execRnda c k w s
  | .moval c k w => Sys2Proof.Machine.execMoval c k w s
  | .movah c k w => Sys2Proof.Machine.execMovah c k w s
  | .norma c k w => Sys2Proof.Machine.execNorma c k w s
  | .rep c k w => Sys2Proof.Machine.execRep c k w s
  | .weResultLand c k checkFails => Sys2Proof.Machine.execWeResultLand c k checkFails s
  | .weRegisterWrite r c k w v => Sys2Proof.Machine.execWeRegisterWrite r c k w v s
  | .weLoopStateWrite r c k w v => Sys2Proof.Machine.execWeLoopStateWrite r c k w v s
  -- design memory (chapter 4)
  | .dmbRd c j o e => Sys2Proof.Machine.execDmbRd c j o e s
  | .dmbWr c j o e => Sys2Proof.Machine.execDmbWr c j o e s
  | .fmpRd c j o => Sys2Proof.Machine.execFmpRd c j o s
  | .fmpWr c j o => Sys2Proof.Machine.execFmpWr c j o s
  | .fmpMsg c j o => Sys2Proof.Machine.execFmpMsg c j o s
  | .deferredPortOp c => Sys2Proof.Machine.execDeferredPortOp c s
  | .dmbReadReturn c => Sys2Proof.Machine.execDmbReadReturn c s
  | .fmpResponseArrival c n cls found => Sys2Proof.Machine.execFmpResponseArrival c n cls found s
  | .waitComplete c b q => Sys2Proof.Machine.execWaitComplete c b q s
  | .dramRefresh s1 => Sys2Proof.Machine.execDramRefresh s1 s
  | .flush r c => Sys2Proof.Machine.execFlush r c s
  | .flushComplete c => Sys2Proof.Machine.execFlushComplete c s
  | .freeSlotAccess c st odd => Sys2Proof.Machine.execFreeSlotAccess c st odd s
  -- the compiler contract (chapter 6)
  | .hzClear r c => Sys2Proof.Machine.execHzClear r c s
  | .hzBudgetWrite r c v => Sys2Proof.Machine.execHzBudgetWrite r c v s
  -- configuration (chapter 7)
  | .cfgStart r => Sys2Proof.Machine.execCfgStart r s
  | .endStream r => Sys2Proof.Machine.execEndStream r s
  | .commit r => Sys2Proof.Machine.execCommit r s
  | .clrErr r => Sys2Proof.Machine.execClrErr r s
  | .streamWrite r off bytes => Sys2Proof.Machine.execStreamWrite r off bytes s
  | .imageHeader key => Sys2Proof.Machine.execImageHeader key s
  | .manifest => Sys2Proof.Machine.execManifest s
  | .store => Sys2Proof.Machine.execStore s
  | .fill => Sys2Proof.Machine.execFill s
  | .regs => Sys2Proof.Machine.execRegs s
  | .queue => Sys2Proof.Machine.execQueue s
  | .firmware => Sys2Proof.Machine.execFirmware s
  | .endFrame => Sys2Proof.Machine.execEndFrame s
  | .loadTimeout => Sys2Proof.Machine.execLoadTimeout s
  | .endMark n => Sys2Proof.Machine.execEndMark n s
  | .fanoutReport n ok fail dev code => Sys2Proof.Machine.execFanoutReport n ok fail dev code s
  | .fanoutReportTimeout n => Sys2Proof.Machine.execFanoutReportTimeout n s
  | .scrubRead c st f => Sys2Proof.Machine.execScrubRead c st f s
  | .scrubWriteBack c st => Sys2Proof.Machine.execScrubWriteBack c st s
  | .cfgScrubCtrlWrite r v => Sys2Proof.Machine.execCfgScrubCtrlWrite r v s
  | .bulkRead r off len => Sys2Proof.Machine.execBulkRead r off len s
  | .bulkWrite r off bytes => Sys2Proof.Machine.execBulkWrite r off bytes s
  -- links (chapter 8)
  | .downTimeout n => Sys2Proof.Machine.execDownTimeout n s
  | .detectionPatternSeen n => Sys2Proof.Machine.execDetectionPatternSeen n s
  | .detectTimeout n => Sys2Proof.Machine.execDetectTimeout n s
  | .trainComplete n => Sys2Proof.Machine.execTrainComplete n s
  | .alignComplete n => Sys2Proof.Machine.execAlignComplete n s
  | .configExchange n x => Sys2Proof.Machine.execConfigExchange n x s
  | .trainingAttemptTimeout n => Sys2Proof.Machine.execTrainingAttemptTimeout n s
  | .retrain r n => Sys2Proof.Machine.execRetrain r n s
  | .lnkCtrlEnWrite r n v => Sys2Proof.Machine.execLnkCtrlEnWrite r n v s
  | .lnkDevidWrite r v => Sys2Proof.Machine.execLnkDevidWrite r v s
  | .flitTransmit n => Sys2Proof.Machine.execFlitTransmit n s
  | .flitReceive n f corrected uncorrectable stamp answer => Sys2Proof.Machine.execFlitReceive n f corrected uncorrectable stamp answer s
  | .nakReceive n ack => Sys2Proof.Machine.execNakReceive n ack s
  | .nakResendTimeout n => Sys2Proof.Machine.execNakResendTimeout n s
  | .alignmentLoss n => Sys2Proof.Machine.execAlignmentLoss n s
  | .lossOfSignal n => Sys2Proof.Machine.execLossOfSignal n s
  | .pathHoldEnd n => Sys2Proof.Machine.execPathHoldEnd n s
  | .pathHold n y => Sys2Proof.Machine.execPathHold n y s
  | .pathDown n y => Sys2Proof.Machine.execPathDown n y s
  | .linkReset n => Sys2Proof.Machine.execLinkReset n s
  | .fecWindow n => Sys2Proof.Machine.execFecWindow n s
  -- time (chapter 9)
  | .timerExpire k => Sys2Proof.Machine.execTimerExpire k s
  | .timerArm r k v => Sys2Proof.Machine.execTimerArm r k v s
  | .timerDisarm r k => Sys2Proof.Machine.execTimerDisarm r k s
  | .timSet r => Sys2Proof.Machine.execTimSet r s
  | .relock r => Sys2Proof.Machine.execRelock r s
  | .timCtrlWrite r v => Sys2Proof.Machine.execTimCtrlWrite r v s
  | .sync n b stamp => Sys2Proof.Machine.execSync n b stamp s
  | .fupHi n dom seq void sec => Sys2Proof.Machine.execFupHi n dom seq void sec s
  | .fupLo n dom seq nsf => Sys2Proof.Machine.execFupLo n dom seq nsf s
  | .pdlyReq n dom seq t2 t3 => Sys2Proof.Machine.execPdlyReq n dom seq t2 t3 s
  | .pdlyResp n dom seq t4 => Sys2Proof.Machine.execPdlyResp n dom seq t4 s
  | .pdlyFup n dom seq void turn => Sys2Proof.Machine.execPdlyFup n dom seq void turn s
  | .announce n b => Sys2Proof.Machine.execAnnounce n b s
  | .syncInterval n dom egress => Sys2Proof.Machine.execSyncInterval n dom egress s
  | .pdelayInterval n dom egress => Sys2Proof.Machine.execPdelayInterval n dom egress s
  | .announceInterval n dom => Sys2Proof.Machine.execAnnounceInterval n dom s
  | .syncPairTimeout n dom => Sys2Proof.Machine.execSyncPairTimeout n dom s
  | .masterLoss => Sys2Proof.Machine.execMasterLoss s
  | .mgmtSync annexC domNum seq stamp => Sys2Proof.Machine.execMgmtSync annexC domNum seq stamp s
  | .mgmtFollowUp annexC domNum seq t1 t3 => Sys2Proof.Machine.execMgmtFollowUp annexC domNum seq t1 t3 s
  | .mgmtDelayResp annexC domNum seq t4 => Sys2Proof.Machine.execMgmtDelayResp annexC domNum seq t4 s
  | .mgmtAnnounce annexC domNum steps gmClass gm traceable => Sys2Proof.Machine.execMgmtAnnounce annexC domNum steps gmClass gm traceable s
  | .ppsInEdge stamp => Sys2Proof.Machine.execPpsInEdge stamp s
  | .referenceInputLoss ref10m => Sys2Proof.Machine.execReferenceInputLoss ref10m s
  | .ppsOutEdge => Sys2Proof.Machine.execPpsOutEdge s
  | .ppsOutFall => Sys2Proof.Machine.execPpsOutFall s
  | .eventInputEdge n rising stamp => Sys2Proof.Machine.execEventInputEdge n rising stamp s
  | .eviQueuePop r n => Sys2Proof.Machine.execEviQueuePop r n s
  | .timeReadLatch r => Sys2Proof.Machine.execTimeReadLatch r s
  -- transactors (chapter 10)
  | .fragmentApply unit => Sys2Proof.Machine.execFragmentApply unit s
  | .post r n v => Sys2Proof.Machine.execPost r n v s
  | .retireNotify r n v => Sys2Proof.Machine.execRetireNotify r n v s
  | .dispatch unit => Sys2Proof.Machine.execDispatch unit s
  | .entryExpire chan tag => Sys2Proof.Machine.execEntryExpire chan tag s
  | .spill => Sys2Proof.Machine.execSpill s
  | .refill found => Sys2Proof.Machine.execRefill found s
  | .spillSweep found => Sys2Proof.Machine.execSpillSweep found s
  | .stallQuiescent => Sys2Proof.Machine.execStallQuiescent s
  | .nheadRead r n => Sys2Proof.Machine.execNheadRead r n s
  | .releasePassComplete n => Sys2Proof.Machine.execReleasePassComplete n s
  -- DMA (chapter 11)
  | .dmaStart r n slot => Sys2Proof.Machine.execDmaStart r n slot s
  | .dmaArm r n => Sys2Proof.Machine.execDmaArm r n s
  | .dmaAbort r n => Sys2Proof.Machine.execDmaAbort r n s
  | .dmaClear r n => Sys2Proof.Machine.execDmaClear r n s
  | .abortComplete n => Sys2Proof.Machine.execAbortComplete n s
  | .dmaTriggerStart n unit => Sys2Proof.Machine.execDmaTriggerStart n unit s
  | .move n fetch data => Sys2Proof.Machine.execMove n fetch data s
  | .loop n fetch => Sys2Proof.Machine.execLoop n fetch s
  | .dmaWait n fetch => Sys2Proof.Machine.execDmaWait n fetch s
  | .signal n fetch data => Sys2Proof.Machine.execSignal n fetch data s
  | .dmaEnd n fetch data => Sys2Proof.Machine.execDmaEnd n fetch data s
  | .dmaWaitComplete n unit => Sys2Proof.Machine.execDmaWaitComplete n unit s
  | .dmaWaitTimeout n => Sys2Proof.Machine.execDmaWaitTimeout n s
  | .dmaWriteAck n => Sys2Proof.Machine.execDmaWriteAck n s
  | .dmaSlotOwnWrite r s1 v => Sys2Proof.Machine.execDmaSlotOwnWrite r s1 v s
  | .slotHandoverEnd s1 => Sys2Proof.Machine.execSlotHandoverEnd s1 s
  | .programStoreWrite r w words => Sys2Proof.Machine.execProgramStoreWrite r w words s
  | .dmaCfgWrite r n v => Sys2Proof.Machine.execDmaCfgWrite r n v s
  -- packet networks, scratchpad, March engine (chapter 12)
  | .packetEject net pkt header words unit => Sys2Proof.Machine.execPacketEject net pkt header words unit s
  | .retry t txn => Sys2Proof.Machine.execRetry t txn s
  | .requestReissue t => Sys2Proof.Machine.execRequestReissue t s
  | .requestAnswerTimeout t txn => Sys2Proof.Machine.execRequestAnswerTimeout t txn s
  | .wakePacket d net pkt => Sys2Proof.Machine.execWakePacket d net pkt s
  | .sspOwnWrite r b v => Sys2Proof.Machine.execSspOwnWrite r b v s
  | .sspHandoverEnd b => Sys2Proof.Machine.execSspHandoverEnd b s
  | .sspPwrWrite r b v => Sys2Proof.Machine.execSspPwrWrite r b v s
  | .sspPowerChangeDone b => Sys2Proof.Machine.execSspPowerChangeDone b s
  | .marchStart r => Sys2Proof.Machine.execMarchStart r s
  | .marchAbort r => Sys2Proof.Machine.execMarchAbort r s
  | .marchDone fails => Sys2Proof.Machine.execMarchDone fails s
  -- trigger and trace (chapter 13)
  | .hitArrival p dc unit => Sys2Proof.Machine.execHitArrival p dc unit s
  | .arm r t => Sys2Proof.Machine.execArm r t s
  | .disarm r t => Sys2Proof.Machine.execDisarm r t s
  | .force r t => Sys2Proof.Machine.execForce r t s
  | .trgOutOwnWrite r t v => Sys2Proof.Machine.execTrgOutOwnWrite r t v s
  | .qualifierCfgWrite r q reg v => Sys2Proof.Machine.execQualifierCfgWrite r q reg v s
  | .stepBreakArm r p v => Sys2Proof.Machine.execStepBreakArm r p v s
  | .traceStart r x => Sys2Proof.Machine.execTraceStart r x s
  | .traceStop r x => Sys2Proof.Machine.execTraceStop r x s
  | .traceReturn r x => Sys2Proof.Machine.execTraceReturn r x s
  | .traceFlush r x => Sys2Proof.Machine.execTraceFlush r x s
  | .pagePost r x v => Sys2Proof.Machine.execPagePost r x v s
  | .doneRead r x => Sys2Proof.Machine.execDoneRead r x s
  -- Vector Port (chapter 14)
  | .vptTrainStart => Sys2Proof.Machine.execVptTrainStart s
  | .vptTrainDone locked => Sys2Proof.Machine.execVptTrainDone locked s
  | .vptLockLoss => Sys2Proof.Machine.execVptLockLoss s
  | .vptOwnWrite r ch v => Sys2Proof.Machine.execVptOwnWrite r ch v s
  | .vptCtrlWrite r v => Sys2Proof.Machine.execVptCtrlWrite r v s
  | .smpFrame f unit => Sys2Proof.Machine.execSmpFrame f unit s
  | .sampleTimeout p dc => Sys2Proof.Machine.execSampleTimeout p dc s
  | .vptStateFrame p => Sys2Proof.Machine.execVptStateFrame p s
  -- host, firmware, locks, security (chapters 15, 16)
  | .flr r => Sys2Proof.Machine.execFlr r s
  | .msixUnmask r vec => Sys2Proof.Machine.execMsixUnmask r vec s
  | .go r => Sys2Proof.Machine.execGo r s
  | .mgmtMailboxDatagram port bytes => Sys2Proof.Machine.execMgmtMailboxDatagram port bytes s
  | .getInfo r => Sys2Proof.Machine.execGetInfo r s
  | .sessionChallenge r nonce => Sys2Proof.Machine.execSessionChallenge r nonce s
  | .sessionRespond r key => Sys2Proof.Machine.execSessionRespond r key s
  | .sessionLogout r => Sys2Proof.Machine.execSessionLogout r s
  | .lockoutEnd r => Sys2Proof.Machine.execLockoutEnd r s
  | .fwWrite r flashOk => Sys2Proof.Machine.execFwWrite r flashOk s
  | .fwCommit r => Sys2Proof.Machine.execFwCommit r s
  | .fwConfirm r => Sys2Proof.Machine.execFwConfirm r s
  | .fwSelect r => Sys2Proof.Machine.execFwSelect r s
  | .settingsSave r flashOk => Sys2Proof.Machine.execSettingsSave r flashOk s
  | .settingsDefault r => Sys2Proof.Machine.execSettingsDefault r s
  | .mbxReset r => Sys2Proof.Machine.execMbxReset r s
  | .auditRead r => Sys2Proof.Machine.execAuditRead r s
  | .auditHead r k => Sys2Proof.Machine.execAuditHead r k s
  | .auditAck r => Sys2Proof.Machine.execAuditAck r s
  | .getIdentity r => Sys2Proof.Machine.execGetIdentity r s
  | .installerEnroll r => Sys2Proof.Machine.execInstallerEnroll r s
  | .keyProvision r key => Sys2Proof.Machine.execKeyProvision r key s
  | .keyRevoke r => Sys2Proof.Machine.execKeyRevoke r s
  | .calApply r key => Sys2Proof.Machine.execCalApply r key s
  | .calRead r => Sys2Proof.Machine.execCalRead r s
  | .calClear r => Sys2Proof.Machine.execCalClear r s
  | .fuseWrite r => Sys2Proof.Machine.execFuseWrite r s
  | .debugUnlock r => Sys2Proof.Machine.execDebugUnlock r s
  | .auditMirrorWrite flashOk => Sys2Proof.Machine.execAuditMirrorWrite flashOk s
  | .semAcq r n => Sys2Proof.Machine.execSemAcq r n s
  | .semRel r n => Sys2Proof.Machine.execSemRel r n s
  | .semForce r n => Sys2Proof.Machine.execSemForce r n s
  -- faults (chapter 17)
  | .conservationCheck code unit imbalance => Sys2Proof.Machine.execConservationCheck code unit imbalance s
  | .hkcRestart => Sys2Proof.Machine.execHkcRestart s
  | .release r => Sys2Proof.Machine.execRelease r s
  | .clearOvf r => Sys2Proof.Machine.execClearOvf r s
  | .clearCorr r => Sys2Proof.Machine.execClearCorr r s
  -- clocks, reset, power (chapter 18)
  | .coldReset => Sys2Proof.Machine.execColdReset s
  | .porRelease => Sys2Proof.Machine.execPorRelease s
  | .rootPllLock => Sys2Proof.Machine.execRootPllLock s
  | .firmwareReady b => Sys2Proof.Machine.execFirmwareReady b s
  | .warmReset cause => Sys2Proof.Machine.execWarmReset cause s
  | .clockFault fail => Sys2Proof.Machine.execClockFault fail s
  | .referenceLoss => Sys2Proof.Machine.execReferenceLoss s
  | .railFault => Sys2Proof.Machine.execRailFault s
  | .partitionReset r w v => Sys2Proof.Machine.execPartitionReset r w v s
  | .partitionResetDone p => Sys2Proof.Machine.execPartitionResetDone p s
  | .frostEnter r => Sys2Proof.Machine.execFrostEnter r s
  | .frostEntryComplete => Sys2Proof.Machine.execFrostEntryComplete s
  | .frostExit r => Sys2Proof.Machine.execFrostExit r s
  | .thawComplete => Sys2Proof.Machine.execThawComplete s
  | .sensorRead sites power => Sys2Proof.Machine.execSensorRead sites power s
  | .throttleUpdate => Sys2Proof.Machine.execThrottleUpdate s
  | .i3cPrivateRead addr q => Sys2Proof.Machine.execI3cPrivateRead addr q s
  | .registerWrite r bar2 off bytes poisoned => Sys2Proof.Machine.execRegisterWrite r bar2 off bytes poisoned s
  | .tapInstruction ir => Sys2Proof.Machine.execTapInstruction ir s
  | .timeCounterMismatch => Sys2Proof.Machine.execTimeCounterMismatch s
  | .eventOutputPulseEnd n => Sys2Proof.Machine.execEventOutputPulseEnd n s
  | .fireTimestampRead r t => Sys2Proof.Machine.execFireTimestampRead r t s
  | .ref10mCountWindow count => Sys2Proof.Machine.execRef10mCountWindow count s
  | .i3cEntdaa addr => Sys2Proof.Machine.execI3cEntdaa addr s
  | .pcieCompletion n ok data => Sys2Proof.Machine.execPcieCompletion n ok data s
  | .pcieConfigRequest q => Sys2Proof.Machine.execPcieConfigRequest q s

end Sys2Proof.Machine
end

