-- ==== Sys2Proof/Machine/Tick.lean ====
section
/-!
DEFINITION. One cycle of CTL_CLK, which passes when no command waits (log entry 4): the counts that the manual takes in cycles of the
control clock advance. What happens when a count ends is a command of its own.
-/
namespace Sys2Proof.Machine

/-- The wait timer of a partition (R177, R269): the time since the hold began, and the counted time, which pauses. -/
def Part.waitTick (x : Part) (paused : Bool) : Part :=
  if x.waiting then { x with held := x.held + 1, counted := if paused then x.counted else x.counted + 1 } else x

/-- Eight STEP_CLK cycles of a FROZEN partition (R174), and one CTL_CLK cycle without a frame of it (R446). -/
def Part.idleTick (x : Part) : Part :=
  { x with
    frozenFor := if x.state = .frozen then x.frozenFor + 8 else x.frozenFor
    vptIdle := x.vptIdle + 1 }

/-- The partitions in one cycle. -/
def Block.partsTick (b : Block) : Block :=
  { b with parts := b.parts.map (fun e => (e.1, (e.2.waitTick (b.waitPaused e.1)).idleTick)) }

/-- TDU_TICK counts a microsecond in 250 cycles (R338); the base of a second's corrections moves on every 1,000,000 of them (R509). -/
def Block.microTick (b : Block) : Block :=
  if b.tdu.sub + 1 < 250 then { b with tdu := { b.tdu with sub := b.tdu.sub + 1 } }
  else
    let b1 : Block := { b with tdu := { b.tdu with sub := 0 } }
    let b2 := b1.setReg (r0 .TDU_TICK) (b.tick + 1)
    if (b.tick + 1).toNat % 1000000 = 0 then b2.corrSecond else b2

/-- The time for which the conditions of R348 have held. -/
def Block.calmTick (b : Block) : Block :=
  { b with tdu := { b.tdu with calm := if b.quiet then b.tdu.calm + 1 else 0 } }

/-- The control clock runs once the dividers are released (R518). -/
def Block.clocked (b : Block) : Bool := decide (b.pw.phase = .boot ∨ b.pw.phase = .ready)

/-- One cycle: CTL_CLK, two edges of TIME_CLK (R287), the partitions, what runs on in those that stand still (R106), the Vector Port, four cycles of the meshes and what their terminals hold, TDU_TICK, the quiescence conditions. -/
def Block.cycle (b : Block) : Block :=
  if b.clocked then
    let b1 : Block := { b with pw := { b.pw with ctl := b.pw.ctl + 1 } }
    (((((((b1.timeEdges 2).partsTick).stoppedTick).vptDrain).meshTick).nocRelease).microTick).calmTick
  else b

end Sys2Proof.Machine
end

