-- ==== Sys2Proof/Machine/Step.lean ====
section
/-!
DEFINITION. The step: the command at the front of the queue, or one cycle of CTL_CLK when none waits.
-/
namespace Sys2Proof.Machine

/-- A step takes the command at the front of the queue and answers its outcome on the queue's rest; with no command waiting the module runs for one
cycle of CTL_CLK (log entry 4). -/
def step (s : State) : Host.Outcome State Fault Refusal :=
  match s.pending with
  | [] => .next ⟨[], s.b.cycle⟩
  | i :: r => exec i ⟨r, s.b⟩

/-- The state with the command that a word spells put at the front of the queue; no word spells one. -/
def State.withFetchWord (s : State) (nbits w : Nat) : State :=
  match decodeTableWord nbits w with
  | some i => { s with pending := i :: s.pending }
  | none => s

end Sys2Proof.Machine
end

