-- ==== Sys2Proof/WellFormed.lean ====
section
/-!
DEFINITION. Which commands can occur: requesters that make such accesses (Table 15.2, R362, R457, R461), lengths, alignments and index ranges.
The widths of the other operands are those of their types.
-/
namespace Sys2Proof

/-- A requester that accesses BAR0: a PCIe function, a DMA channel, the HKC. -/
def isBar : Requester → Bool
  | .pf0 => true
  | .vf _ => true
  | .dma _ => true
  | .hkc => true
  | .mgmt => false
  | .fanout => false

/-- A requester that has a mailbox: a PCIe function or the management port. -/
def isMbxUser : Requester → Bool
  | .pf0 => true
  | .vf _ => true
  | .mgmt => true
  | .dma _ => false
  | .hkc => false
  | .fanout => false

/-- A PCIe function. -/
def isPcie : Requester → Bool
  | .pf0 => true
  | .vf _ => true
  | .mgmt => false
  | .dma _ => false
  | .hkc => false
  | .fanout => false

/-- A command is well formed. -/
def Instr.wf : Instr → Bool
  | .segmentReceive _ y => decide (y.payload.length = y.count.toNat ∧ 0 < y.count.toNat ∧ y.count.toNat ≤ 1024)
  | .loadBufferWrite r _ _ w _ => isBar r && decide (w.toNat < 130)
  | .weRegisterWrite r _ _ w _ => isBar r && decide (w.toNat < 144)
  | .weLoopStateWrite r _ _ w _ => isBar r && decide (w.toNat < 8)
  | .streamWrite r _ bytes => isBar r && decide (0 < bytes.length ∧ bytes.length ≤ 32768)
  | .bulkRead r off len => isBar r && decide (len.toNat ≤ 64 ∧ off.toNat % 4 = 0 ∧ len.toNat % 4 = 0 ∧ off.toNat + len.toNat ≤ 2 ^ 25)
  | .bulkWrite r off bytes => isBar r && decide (bytes.length ≤ 64 ∧ off.toNat % 4 = 0 ∧ bytes.length % 4 = 0 ∧ off.toNat + bytes.length ≤ 2 ^ 25)
  | .configExchange _ x => decide (x.free.length = 6)
  | .programStoreWrite r w words => isBar r && decide (0 < words.length ∧ words.length ≤ 16 ∧ w.toNat + words.length ≤ 65536)
  | .smpFrame f _ => decide (f.payload.length % 8 = 0)
  | .flr r => isPcie r
  | .msixUnmask r vec => isPcie r && (decide (r = .pf0) || decide (vec.toNat < 8))
  | .mgmtMailboxDatagram _ bytes => decide (16 ≤ bytes.length ∧ bytes.length ≤ 4096)
  | .sensorRead sites _ => decide (sites.length = 9)
  | .registerWrite r bar2 _ bytes poisoned => isBar r && (isPcie r || (!bar2 && !poisoned)) && decide (0 < bytes.length ∧ bytes.length ≤ 512)
  | .pcieCompletion _ ok data => !ok || !data.isEmpty
  | .pcieConfigRequest q => isPcie q.fn
  | .go r | .getInfo r | .sessionChallenge r _ | .sessionRespond r _ | .sessionLogout r | .lockoutEnd r | .fwWrite r _ | .fwCommit r
  | .fwConfirm r | .fwSelect r | .settingsSave r _ | .settingsDefault r | .mbxReset r | .auditRead r | .auditHead r _ | .auditAck r
  | .getIdentity r | .installerEnroll r | .keyProvision r _ | .keyRevoke r | .calApply r _ | .calRead r | .calClear r | .fuseWrite r
  | .debugUnlock r => isMbxUser r
  | .freeze r _ | .freezeAt r _ | .resume r _ | .partMarginWrite r _ _ | .cluSentCtrlWrite r _ _ | .faultRecordClear r _ _
  | .weFaultClear r _ _ _ | .memFaultClear r _ _ | .cluSpCtrlWrite r _ _ | .selectListWrite r _ _ _ | .freeUnload r _ _ | .fullLoad r _ _
  | .flush r _ | .hzClear r _ | .hzBudgetWrite r _ _ | .cfgStart r | .endStream r | .commit r | .clrErr r | .cfgScrubCtrlWrite r _
  | .retrain r _ | .lnkCtrlEnWrite r _ _ | .lnkDevidWrite r _ | .timerArm r _ _ | .timerDisarm r _ | .timSet r | .relock r | .timCtrlWrite r _
  | .eviQueuePop r _ | .timeReadLatch r | .post r _ _ | .retireNotify r _ _ | .nheadRead r _ | .dmaStart r _ _ | .dmaArm r _ | .dmaAbort r _
  | .dmaClear r _ | .dmaSlotOwnWrite r _ _ | .dmaCfgWrite r _ _ | .sspOwnWrite r _ _ | .sspPwrWrite r _ _ | .marchStart r | .marchAbort r
  | .arm r _ | .disarm r _ | .force r _ | .trgOutOwnWrite r _ _ | .qualifierCfgWrite r _ _ _ | .stepBreakArm r _ _ | .traceStart r _
  | .traceStop r _ | .traceReturn r _ | .traceFlush r _ | .pagePost r _ _ | .doneRead r _ | .vptOwnWrite r _ _ | .vptCtrlWrite r _
  | .semAcq r _ | .semRel r _ | .semForce r _ | .release r | .clearOvf r | .clearCorr r | .partitionReset r _ _ | .frostEnter r | .frostExit r
  | .fireTimestampRead r _ => isBar r
  | .scheduleStep _ _ | .slipStep _ | .nop _ _ _ | .eval _ _ _ | .evalq _ _ _ | .send _ _ _ | .evals _ _ _ | .wait _ _ _ | .trig _ _ _
  | .bpEnd _ _ _ | .equinox _ | .statePortTransfer _ | .dcStart _ | .routeLatch _ | .eqxWaitTimeout _ | .freezeSymbolReceive _ _
  | .spCtrlTakeEffect _ | .weNop _ _ _ | .add _ _ _ | .sub _ _ _ | .and _ _ _ | .or _ _ _ | .xor _ _ _ | .andn _ _ _ | .shl _ _ _ | .shr _ _ _
  | .sar _ _ _ | .ror _ _ _ | .bfxu _ _ _ | .bfxs _ _ _ | .bfi _ _ _ | .cmpeq _ _ _ | .cmplt _ _ _ | .cmpltu _ _ _ | .min _ _ _ | .max _ _ _
  | .abs _ _ _ | .movi _ _ _ | .movhi _ _ _ | .norm _ _ _ | .expx _ _ _ | .rnd _ _ _ | .pack _ _ _ | .unpk _ _ _ | .movb _ _ _ | .muls _ _ _
  | .mulu _ _ _ | .macs _ _ _ | .macu _ _ _ | .msus _ _ _ | .mpya _ _ _ | .clra _ _ _ | .lda _ _ _ | .rnda _ _ _ | .moval _ _ _ | .movah _ _ _
  | .norma _ _ _ | .rep _ _ _ | .weResultLand _ _ _ | .dmbRd _ _ _ _ | .dmbWr _ _ _ _ | .fmpRd _ _ _ | .fmpWr _ _ _ | .fmpMsg _ _ _
  | .deferredPortOp _ | .dmbReadReturn _ | .fmpResponseArrival _ _ _ _ | .waitComplete _ _ _ | .dramRefresh _ | .flushComplete _
  | .freeSlotAccess _ _ _ | .imageHeader _ | .manifest | .store | .fill | .regs | .queue | .firmware | .endFrame | .loadTimeout | .endMark _
  | .fanoutReport _ _ _ _ _ | .fanoutReportTimeout _ | .scrubRead _ _ _ | .scrubWriteBack _ _ | .downTimeout _ | .detectionPatternSeen _
  | .detectTimeout _ | .trainComplete _ | .alignComplete _ | .trainingAttemptTimeout _ | .flitTransmit _ | .flitReceive _ _ _ _ _ _
  | .nakReceive _ _ | .nakResendTimeout _ | .alignmentLoss _ | .lossOfSignal _ | .pathHoldEnd _ | .pathHold _ _ | .pathDown _ _ | .linkReset _
  | .fecWindow _ | .timerExpire _ | .sync _ _ _ | .fupHi _ _ _ _ _ | .fupLo _ _ _ _ | .pdlyReq _ _ _ _ _ | .pdlyResp _ _ _ _
  | .pdlyFup _ _ _ _ _ | .announce _ _ | .syncInterval _ _ _ | .pdelayInterval _ _ _ | .announceInterval _ _ | .syncPairTimeout _ _
  | .masterLoss | .mgmtSync _ _ _ _ | .mgmtFollowUp _ _ _ _ _ | .mgmtDelayResp _ _ _ _ | .mgmtAnnounce _ _ _ _ _ _ | .ppsInEdge _
  | .referenceInputLoss _ | .ppsOutEdge | .ppsOutFall | .eventInputEdge _ _ _ | .fragmentApply _ | .dispatch _ | .entryExpire _ _ | .spill
  | .refill _ | .spillSweep _ | .stallQuiescent | .releasePassComplete _ | .abortComplete _ | .dmaTriggerStart _ _ | .move _ _ _ | .loop _ _
  | .dmaWait _ _ | .signal _ _ _ | .dmaEnd _ _ _ | .dmaWaitComplete _ _ | .dmaWaitTimeout _ | .dmaWriteAck _ | .slotHandoverEnd _
  | .packetEject _ _ _ _ _ | .retry _ _ | .requestReissue _ | .requestAnswerTimeout _ _ | .wakePacket _ _ _ | .sspHandoverEnd _
  | .sspPowerChangeDone _ | .marchDone _ | .hitArrival _ _ _ | .vptTrainStart | .vptTrainDone _ | .vptLockLoss | .sampleTimeout _ _
  | .vptStateFrame _ | .auditMirrorWrite _ | .conservationCheck _ _ _ | .hkcRestart | .coldReset | .porRelease | .rootPllLock
  | .firmwareReady _ | .warmReset _ | .clockFault _ | .referenceLoss | .railFault | .partitionResetDone _ | .frostEntryComplete
  | .thawComplete | .throttleUpdate | .i3cPrivateRead _ _ | .tapInstruction _ | .timeCounterMismatch | .eventOutputPulseEnd _
  | .ref10mCountWindow _ | .i3cEntdaa _ => true

/-- Who makes the access that a command is; none where the command is an event of the module or of the world. -/
def Instr.requester : Instr → Option Requester
  | .freeze r _ | .freezeAt r _ | .resume r _ | .partMarginWrite r _ _ | .cluSentCtrlWrite r _ _ | .faultRecordClear r _ _
  | .weFaultClear r _ _ _ | .memFaultClear r _ _ | .cluSpCtrlWrite r _ _ | .selectListWrite r _ _ _ | .loadBufferWrite r _ _ _ _
  | .freeUnload r _ _ | .fullLoad r _ _ | .weRegisterWrite r _ _ _ _ | .weLoopStateWrite r _ _ _ _ | .flush r _ | .hzClear r _
  | .hzBudgetWrite r _ _ | .cfgStart r | .endStream r | .commit r | .clrErr r | .streamWrite r _ _ | .cfgScrubCtrlWrite r _ | .bulkRead r _ _
  | .bulkWrite r _ _ | .retrain r _ | .lnkCtrlEnWrite r _ _ | .lnkDevidWrite r _ | .timerArm r _ _ | .timerDisarm r _ | .timSet r | .relock r
  | .timCtrlWrite r _ | .eviQueuePop r _ | .timeReadLatch r | .post r _ _ | .retireNotify r _ _ | .nheadRead r _ | .dmaStart r _ _
  | .dmaArm r _ | .dmaAbort r _ | .dmaClear r _ | .dmaSlotOwnWrite r _ _ | .programStoreWrite r _ _ | .dmaCfgWrite r _ _ | .sspOwnWrite r _ _
  | .sspPwrWrite r _ _ | .marchStart r | .marchAbort r | .arm r _ | .disarm r _ | .force r _ | .trgOutOwnWrite r _ _
  | .qualifierCfgWrite r _ _ _ | .stepBreakArm r _ _ | .traceStart r _ | .traceStop r _ | .traceReturn r _ | .traceFlush r _ | .pagePost r _ _
  | .doneRead r _ | .vptOwnWrite r _ _ | .vptCtrlWrite r _ | .flr r | .msixUnmask r _ | .go r | .getInfo r | .sessionChallenge r _
  | .sessionRespond r _ | .sessionLogout r | .lockoutEnd r | .fwWrite r _ | .fwCommit r | .fwConfirm r | .fwSelect r | .settingsSave r _
  | .settingsDefault r | .mbxReset r | .auditRead r | .auditHead r _ | .auditAck r | .getIdentity r | .installerEnroll r | .keyProvision r _
  | .keyRevoke r | .calApply r _ | .calRead r | .calClear r | .fuseWrite r | .debugUnlock r | .semAcq r _ | .semRel r _ | .semForce r _
  | .release r | .clearOvf r | .clearCorr r | .partitionReset r _ _ | .frostEnter r | .frostExit r | .registerWrite r _ _ _ _
  | .fireTimestampRead r _ => some r
  | .scheduleStep _ _ | .slipStep _ | .nop _ _ _ | .eval _ _ _ | .evalq _ _ _ | .send _ _ _ | .evals _ _ _ | .wait _ _ _ | .trig _ _ _
  | .bpEnd _ _ _ | .equinox _ | .statePortTransfer _ | .dcStart _ | .routeLatch _ | .segmentReceive _ _ | .eqxWaitTimeout _
  | .freezeSymbolReceive _ _ | .spCtrlTakeEffect _ | .weNop _ _ _ | .add _ _ _ | .sub _ _ _ | .and _ _ _ | .or _ _ _ | .xor _ _ _
  | .andn _ _ _ | .shl _ _ _ | .shr _ _ _ | .sar _ _ _ | .ror _ _ _ | .bfxu _ _ _ | .bfxs _ _ _ | .bfi _ _ _ | .cmpeq _ _ _ | .cmplt _ _ _
  | .cmpltu _ _ _ | .min _ _ _ | .max _ _ _ | .abs _ _ _ | .movi _ _ _ | .movhi _ _ _ | .norm _ _ _ | .expx _ _ _ | .rnd _ _ _ | .pack _ _ _
  | .unpk _ _ _ | .movb _ _ _ | .muls _ _ _ | .mulu _ _ _ | .macs _ _ _ | .macu _ _ _ | .msus _ _ _ | .mpya _ _ _ | .clra _ _ _ | .lda _ _ _
  | .rnda _ _ _ | .moval _ _ _ | .movah _ _ _ | .norma _ _ _ | .rep _ _ _ | .weResultLand _ _ _ | .dmbRd _ _ _ _ | .dmbWr _ _ _ _
  | .fmpRd _ _ _ | .fmpWr _ _ _ | .fmpMsg _ _ _ | .deferredPortOp _ | .dmbReadReturn _ | .fmpResponseArrival _ _ _ _ | .waitComplete _ _ _
  | .dramRefresh _ | .flushComplete _ | .freeSlotAccess _ _ _ | .imageHeader _ | .manifest | .store | .fill | .regs | .queue | .firmware
  | .endFrame | .loadTimeout | .endMark _ | .fanoutReport _ _ _ _ _ | .fanoutReportTimeout _ | .scrubRead _ _ _ | .scrubWriteBack _ _
  | .downTimeout _ | .detectionPatternSeen _ | .detectTimeout _ | .trainComplete _ | .alignComplete _ | .configExchange _ _
  | .trainingAttemptTimeout _ | .flitTransmit _ | .flitReceive _ _ _ _ _ _ | .nakReceive _ _ | .nakResendTimeout _ | .alignmentLoss _
  | .lossOfSignal _ | .pathHoldEnd _ | .pathHold _ _ | .pathDown _ _ | .linkReset _ | .fecWindow _ | .timerExpire _ | .sync _ _ _
  | .fupHi _ _ _ _ _ | .fupLo _ _ _ _ | .pdlyReq _ _ _ _ _ | .pdlyResp _ _ _ _ | .pdlyFup _ _ _ _ _ | .announce _ _ | .syncInterval _ _ _
  | .pdelayInterval _ _ _ | .announceInterval _ _ | .syncPairTimeout _ _ | .masterLoss | .mgmtSync _ _ _ _ | .mgmtFollowUp _ _ _ _ _
  | .mgmtDelayResp _ _ _ _ | .mgmtAnnounce _ _ _ _ _ _ | .ppsInEdge _ | .referenceInputLoss _ | .ppsOutEdge | .ppsOutFall
  | .eventInputEdge _ _ _ | .fragmentApply _ | .dispatch _ | .entryExpire _ _ | .spill | .refill _ | .spillSweep _ | .stallQuiescent
  | .releasePassComplete _ | .abortComplete _ | .dmaTriggerStart _ _ | .move _ _ _ | .loop _ _ | .dmaWait _ _ | .signal _ _ _ | .dmaEnd _ _ _
  | .dmaWaitComplete _ _ | .dmaWaitTimeout _ | .dmaWriteAck _ | .slotHandoverEnd _ | .packetEject _ _ _ _ _ | .retry _ _ | .requestReissue _
  | .requestAnswerTimeout _ _ | .wakePacket _ _ _ | .sspHandoverEnd _ | .sspPowerChangeDone _ | .marchDone _ | .hitArrival _ _ _
  | .vptTrainStart | .vptTrainDone _ | .vptLockLoss | .smpFrame _ _ | .sampleTimeout _ _ | .vptStateFrame _ | .mgmtMailboxDatagram _ _
  | .auditMirrorWrite _ | .conservationCheck _ _ _ | .hkcRestart | .coldReset | .porRelease | .rootPllLock | .firmwareReady _ | .warmReset _
  | .clockFault _ | .referenceLoss | .railFault | .partitionResetDone _ | .frostEntryComplete | .thawComplete | .sensorRead _ _
  | .throttleUpdate | .i3cPrivateRead _ _ | .tapInstruction _ | .timeCounterMismatch | .eventOutputPulseEnd _ | .ref10mCountWindow _
  | .i3cEntdaa _ | .pcieCompletion _ _ _ | .pcieConfigRequest _ => none

end Sys2Proof
end

