-- ==== Sys2Proof/Safety.lean ====
section
/-!
DEFINITION. What the claims say of a state: the canonical form of the register file and of the byte memories, and the queue of well-formed commands.
-/
namespace Sys2Proof.Machine

/-- The canonical form of a byte memory: addresses strictly rising, no byte listed that an unlisted address reads as (0, log entry 7). -/
def Memory.wf (m : NMap Byte) : Bool := NMap.wf 0 m

/-- The canonical form of the register file: the registers in order, each once, none at its reset value. -/
def RegFile.wf : RegFile → Bool
  | [] => true
  | [(k, v)] => decide (v ≠ k.name.info.reset)
  | (k, v) :: (k', v') :: r => decide (v ≠ k.name.info.reset) && k.before k' && RegFile.wf ((k', v') :: r)

/-- What holds of the module at reset and after every step: the register file and the byte memories in canonical form, CTL_ID at the value that the
spec gives it (R16), at most 32 unacknowledged fault-log entries (R508), at most 4,096 audit entries on chip but for those that are not yet mirrored (R485, R486), at most 16 waiting Vector Port
frames (R441), and less than a microsecond in the cycle counter of TDU_TICK (R338). No settings copy holds CTL_ID. -/
structure Block.Sound (b : Block) : Prop where
  regs : RegFile.wf b.regs = true
  far : Memory.wf b.far = true
  ssp : Memory.wf b.ssp.bytes = true
  id : b.reg (r0 .CTL_ID) = RegName.CTL_ID.info.reset
  log : b.flt.unacked ≤ 32
  audit : b.sec.audit.length ≤ max 4096 b.sec.unmirrored
  vpt : b.vpt.tx.length ≤ 16
  sub : b.tdu.sub < 250
  set0 : ∀ e ∈ b.fw.set0.values, e.1.name ≠ .CTL_ID
  set1 : ∀ e ∈ b.fw.set1.values, e.1.name ≠ .CTL_ID

/-- Every command that waits is well formed. -/
def State.queueOk (s : State) : Bool := s.pending.all Instr.wf

/-- Nothing changes but the words of the listed registers (what a statement about a register command leaves alone). -/
def Block.onlyRegs (b t : Block) (ks : List RegKey) : Prop :=
  t = { b with regs := t.regs } ∧ ∀ k, k ∉ ks → t.reg k = b.reg k

/-- Every byte of far memory and of the scratchpad reads as before. -/
def Block.sameMem (b t : Block) : Prop :=
  (∀ a, NMap.get 0 t.far a = NMap.get 0 b.far a) ∧ ∀ a, NMap.get 0 t.ssp.bytes a = NMap.get 0 b.ssp.bytes a

/-- Nothing changes but cluster c. -/
def Block.onlyClu (b t : Block) (c : Nat) : Prop :=
  t = { b with clus := t.clus } ∧ ∀ d, d ≠ c → t.clu d = b.clu d

/-- Nothing changes but link n. -/
def Block.onlyLink (b t : Block) (n : Nat) : Prop :=
  t = { b with links := t.links } ∧ ∀ m, m ≠ n → t.link m = b.link m

/-- Nothing changes but partition p. -/
def Block.onlyPart (b t : Block) (p : Nat) : Prop :=
  t = { b with parts := t.parts } ∧ ∀ q, q ≠ p → t.part q = b.part q

/-- The registers outside a list of names keep their words. -/
def Block.regsKept (b t : Block) (ns : List RegName) : Prop := ∀ k, k.name ∉ ns → t.reg k = b.reg k

/-- The unit that the stream brings next is a sound frame of type t (R215), within the partition that its function serves, and the stream goes on. -/
def Block.frameNext (b : Block) (t : Nat) : Prop :=
  b.cfgState = 3 ∧ b.unitReady = true ∧ b.frameOk (frameAt b.cfg.buf) (b.frameLen.getD 0) = true ∧ (frameAt b.cfg.buf).typ = t ∧
    (t ≤ 5 → b.vfOk (frameAt b.cfg.buf).part = true) ∧ b.cfg.ended = false

/-- Such a frame names the module, the image may hold its type, and its payload can be had (R216, R217, R219). -/
def Block.frameDue (b : Block) (t : Nat) : Prop :=
  b.frameNext t ∧ b.named (frameAt b.cfg.buf) = true ∧ b.typeForKind t = true ∧ b.framePayload ≠ none

/-- The frame at the head of the stream has been counted and taken, the load goes on, and no byte of memory has changed. -/
def Block.counted (b t : Block) : Prop :=
  t.reg (r0 .CFG_PROGRESS) = b.reg (r0 .CFG_PROGRESS) + 1 ∧ t.cfg.pos = b.cfg.pos + 1 ∧ t.cfg.buf = b.cfg.buf.drop (b.frameLen.getD 0) ∧
    t.cfgState = 3 ∧ b.sameMem t

/-- The frame at the head of the stream with its payload, decrypted (R217). -/
def Block.frameNow (b : Block) : Frame := { frameAt b.cfg.buf with data := b.framePayload.getD [] }

/-- One entry more stands in the fault log, at HEAD, or before it among those of its cycle (R508): level code, class, unit, partition. -/
def Block.logged (b t : Block) (lv cls unit part : Nat) : Prop :=
  let h := b.fld (r0 .FLT_STATUS) F.FLT_STATUS_HEAD
  (∃ i < 32, t.reg (r1 .FLT_LOGi_W0 i) = BitVec.ofNat 32 (2 ^ 31 + lv * 2 ^ 28 + cls * 2 ^ 23 + unit * 2 ^ 8 + part) ∧ (b.flt.cycle ≠ b.pw.ctl → i = h)) ∧
    t.fld (r0 .FLT_STATUS) F.FLT_STATUS_HEAD = (h + 1) % 32 ∧ (b.flt.unacked < 32 → t.flt.unacked = b.flt.unacked + 1)

/-- The mailbox of r has answered the command that stood in it (R458, Tables 15.3, 15.4): the response with status and payload, BUSY clear, DONE set;
over the management port the response goes out as a datagram (R461). -/
def Block.answered (b t : Block) (r : Requester) (status : Nat) (pl : List Byte) : Prop :=
  let f := b.func (fnOf r)
  let g := t.func (fnOf r)
  g.resp = putBytes [] 0 (f.responseBytes status pl) ∧ g.mbxStatus = (f.mbxStatus &&& 0xFFFFFFFE#32) ||| 2 ∧ g.req = f.req ∧
    (r = .mgmt → t.out.getLast? = some (.datagram (f.responseBytes status pl)))

/-- The command cmd stands submitted in the mailbox of r, its turn among the functions has come (R459), the mode serves it, and r has the role and the length that it needs (R458, Table 15.4). -/
def Block.served (b : Block) (r : Requester) (cmd : Nat) (need : Need) (lenOk : Nat → Bool) : Prop :=
  let f := b.func (fnOf r)
  (r = .mgmt ∨ b.fnExists r = true) ∧ f.busy = true ∧ f.cmd = cmd ∧ b.mbxNext r = true ∧ (b.pw.phase = .ready ∨ cmd = 1) ∧
    (b.safeMode = true → isVf r = false ∧ mbxSafe cmd = true) ∧ (need.none_ = true ∨ roleIn (b.roleOf r) need.roles = true) ∧
    lenOk f.reqLen = true ∧ f.reqLen ≤ 4080

/-- One audit entry more (R484): the next SEQ, the fields of Table 16.4, and the hash chained to the previous entry's. -/
def Block.audited (b t : Block) (typ : Nat) (role : Role) (slot src res : Nat) (detail : List Byte) : Prop :=
  t.sec.nextSeq = b.sec.nextSeq + 1 ∧ ∃ e, t.sec.audit.getLast? = some e ∧ e.seq = b.sec.nextSeq ∧ e.typ = BitVec.ofNat 16 typ ∧ e.role = role ∧
    e.slot = BitVec.ofNat 8 slot ∧ e.source = BitVec.ofNat 16 src ∧ e.result = BitVec.ofNat 16 res ∧ e.detail = sliceBytes detail 0 52 ∧
    e.hash = sha384 (leBytes 48 b.sec.lastHash.toNat ++ auditBytes b.sec.nextSeq e.time typ role slot src res detail) ∧
    t.sec.lastHash = e.hash

/-- The mailbox command that a command of the table is: the requester whose mailbox it serves, its CMD, who may send it, and its lengths
(Tables 15.5, 16.2, 16.6). -/
def Instr.mailbox : Instr → Option (Requester × Nat × Need × (Nat → Bool))
  | .getInfo r => some (r, 0x0001, needNone, (· = 0))
  | .sessionChallenge r _ => some (r, 0x0010, needNone, (· = 4))
  | .sessionRespond r _ => some (r, 0x0011, needNone, (· = 96))
  | .sessionLogout r => some (r, 0x0012, needNone, (· = 0))
  | .fwWrite r _ => some (r, 0x0020, needI, (8 ≤ ·))
  | .fwCommit r => some (r, 0x0021, needI, (1 ≤ ·))
  | .fwConfirm r => some (r, 0x0022, needI, (· = 0))
  | .fwSelect r => some (r, 0x0023, needI, (1 ≤ ·))
  | .settingsSave r _ => some (r, 0x0030, needI, (· = 0))
  | .settingsDefault r => some (r, 0x0031, needI, (· = 0))
  | .mbxReset r => some (r, 0x0040, needI, (1 ≤ ·))
  | .auditRead r => some (r, 0x0050, needOI, (· = 8))
  | .auditHead r _ => some (r, 0x0051, needOI, (· = 0))
  | .auditAck r => some (r, 0x0052, needI, (· = 8))
  | .getIdentity r => some (r, 0x0058, needNone, (· = 0))
  | .installerEnroll r => some (r, 0x005F, needNone, fun _ => true)
  | .keyProvision r _ => some (r, 0x0060, needI, fun n => decide (n = 132 ∨ n = 196))
  | .keyRevoke r => some (r, 0x0061, needI, (2 ≤ ·))
  | .calApply r _ => some (r, 0x0070, needOI, (120 ≤ ·))
  | .calRead r => some (r, 0x0071, needOI, fun n => n % 4 = 0 && decide (n ≤ 1984))
  | .calClear r => some (r, 0x0072, needOI, (· = 0))
  | .fuseWrite r => some (r, 0x0080, needM, (4 ≤ ·))
  | .debugUnlock r => some (r, 0x0090, needIM, fun _ => true)
  | _ => none

/-- The register write that a command stands for: requester, register, word written; none for an event and for a command that is more than one
write. -/
def Instr.regWrite (b : Block) : Instr → Option (Requester × RegKey × Word)
  | .freeze r p => some (r, r1 .PART_FRZ_CMD p.toNat, 1)
  | .freezeAt r p => some (r, r1 .PART_FRZ_CMD p.toNat, 2)
  | .resume r p => some (r, r1 .PART_FRZ_CMD p.toNat, 4)
  | .partMarginWrite r p v => some (r, r1 .PART_MARGIN p.toNat, v)
  | .cluSentCtrlWrite r c v => some (r, r1 .CLU_SENT_CTRL c.toNat, v)
  | .faultRecordClear r c v => some (r, r1 .CLU_FAULT c.toNat, v)
  | .weFaultClear r c k v => some (r, r2 .WE_FAULT c.toNat k.toNat, v)
  | .memFaultClear r c v => some (r, r1 .CLU_MEM_FAULT c.toNat, v)
  | .cluSpCtrlWrite r c v => some (r, r1 .CLU_SP_CTRL c.toNat, v)
  | .flush r c => some (r, r1 .CLU_FMC_CTRL c.toNat, 1)
  | .hzClear r c => some (r, r1 .HZ_CLEAR c.toNat, 1)
  | .hzBudgetWrite r c v => some (r, r1 .HZ_BUDGET c.toNat, v)
  | .cfgScrubCtrlWrite r v => some (r, r0 .CFG_SCRUB_CTRL, v)
  | .retrain r n => some (r, r1 .LNK_CTRLn n.toNat, b.reg (r1 .LNK_CTRLn n.toNat) ||| 2)
  | .lnkCtrlEnWrite r n v => some (r, r1 .LNK_CTRLn n.toNat, v)
  | .lnkDevidWrite r v => some (r, r0 .LNK_DEVID, v)
  | .timSet r => some (r, r0 .TIM_CMD, 1)
  | .relock r => some (r, r0 .TIM_CMD, 2)
  | .timCtrlWrite r v => some (r, r0 .TIM_CTRL, v)
  | .timerArm r k v => some (r, r1 .TIM_TMRk_CTRL k.toNat, v ||| 1)
  | .dmaSlotOwnWrite r s v => some (r, r1 .DMA_SLOT_OWNs s.toNat, v)
  | .dmaCfgWrite r n v => some (r, r1 .DMA_CHn_CFG n.toNat, v)
  | .sspOwnWrite r k v => some (r, r1 .SSP_OWNb k.toNat, v)
  | .sspPwrWrite r k v => some (r, r1 .SSP_PWRb k.toNat, v)
  | .marchStart r => some (r, r0 .MTE_CTRL, b.reg (r0 .MTE_CTRL) ||| 1)
  | .marchAbort r => some (r, r0 .MTE_CTRL, b.reg (r0 .MTE_CTRL) ||| 2)
  | .arm r t => some (r, r1 .TRG_OUTt_CMD t.toNat, 1)
  | .disarm r t => some (r, r1 .TRG_OUTt_CMD t.toNat, 2)
  | .force r t => some (r, r1 .TRG_OUTt_CMD t.toNat, 4)
  | .trgOutOwnWrite r t v => some (r, r1 .TRG_OUTt_OWN t.toNat, v)
  | .stepBreakArm r p v => some (r, r1 .TRG_SBRKp_CTRL p.toNat, v)
  | .traceStart r x => some (r, r1 .TRC_Sx_CMD x.toNat, 1)
  | .traceStop r x => some (r, r1 .TRC_Sx_CMD x.toNat, 2)
  | .traceReturn r x => some (r, r1 .TRC_Sx_CMD x.toNat, 4)
  | .traceFlush r x => some (r, r1 .TRC_Sx_CMD x.toNat, 8)
  | .pagePost r x v => some (r, r1 .TRC_Sx_POST_HI x.toNat, v)
  | .vptCtrlWrite r v => some (r, r0 .VPT_CTRL, v)
  | .vptOwnWrite r ch v => some (r, r1 .VPT_CHc_OWN ch.toNat, v)
  | .semForce r n => some (r, r1 .SEM_CFGn n.toNat, 0x80000000)
  | .release r => some (r, r0 .FLT_CLR, 1)
  | .clearOvf r => some (r, r0 .FLT_CLR, 2)
  | .clearCorr r => some (r, r0 .FLT_CLR, 4)
  | .partitionReset r w v => some (r, r1 .CTL_PRSTw w.toNat, v)
  | .frostEnter r => some (r, r0 .PWR_FROST, b.reg (r0 .PWR_FROST) ||| 0x80000000)
  | .frostExit r => some (r, r0 .PWR_FROST, b.reg (r0 .PWR_FROST) ||| 0x40000000)
  | _ => none

/-- The registers that a write does more with than its access codes say. -/
def actionRegisters : List RegName :=
  [.CTL_PRSTw, .CFG_SCRUB_ERR, .TIM_SERVO, .TIM_PPS_OFS, .PART_FRZ_CMD, .PART_MARGIN, .PART_FRZ_TARGET, .PART_EQX_TMO, .PART_FRZ_STATUS, .SSP_OWNb, .SSP_PWRb, .FLT_STATUS, .FLT_CLR,
   .MBX_CTRL, .MBX_STATUS, .MBX_DOORBELL, .SEM_RELn, .SEM_CFGn, .CFG_CTRL, .CFG_SRC, .CFG_SCRUB_CTRL, .TIM_CMD, .TIM_CTRL, .TIM_TMRk_CTRL,
   .TIM_TMRk_STARTw, .TIM_TMRk_PERIOD_LO, .TIM_TMRk_PERIOD_HI, .TDU_SPILL_BASE, .TDU_SPILL_SIZE, .TDU_CTRL, .TDU_CHn_CFG, .TDU_CHn_POST, .DMA_CHn_CFG,
   .DMA_CHn_CMD, .DMA_CHn_TRIG, .DMA_CHn_Bk_LO, .DMA_CHn_Bk_HI, .DMA_SLOT_OWNs, .LNK_CTRLn, .LNK_DEVID, .VPT_CTRL, .VPT_CHc_OWN, .VPT_Pp_FIRST, .EVT_PENDw, .TRG_OUTt_CMD, .TRG_OUTt_OWN,
   .TRG_Qq_CFG, .TRG_Qq_MIN, .TRG_Qq_MAX, .TRG_Qq_OWN, .TRG_SBRKp_CTRL, .TRC_Sx_CMD, .TRC_Sx_POST_HI, .TRC_Sx_CFG, .TRC_Sx_POSTDC, .TRC_Sx_OWN,
   .CLU_FAULT, .CLU_MEM_FAULT, .WE_FAULT, .CLU_SENT_CTRL, .CLU_SP_CTRL, .CLU_SP_HANDOFF, .CLU_FMC_CTRL, .HZ_CLEAR, .WE_PC, .WE_LOOP_CTRL,
   .WE_LPn_ADDR, .WE_LPn_CNT, .CLU_LANE_LATCHn, .PWR_FROST, .MTE_CTRL]

/-- The registers that a write changes by their access codes alone (R15, R17). -/
def plainRegisters : List RegName := RegName.all.filter (fun n => decide (n ∉ actionRegisters))

/-- The register read that a command is. -/
def Instr.regRead : Instr → Option (Requester × RegKey)
  | .eviQueuePop r n => some (r, r2 .TIM_EVIn_TSw n.toNat 2)
  | .timeReadLatch r => some (r, r1 .TIM_NOW_w 0)
  | .nheadRead r n => some (r, r1 .TDU_CHn_NHEAD n.toNat)
  | .fireTimestampRead r t => some (r, r2 .TRG_OUTt_TSw t.toNat 0)
  | .doneRead r x => some (r, r1 .TRC_Sx_DONE_LO x.toNat)
  | _ => none

end Sys2Proof.Machine
end

