-- ==== Sys2Proof/Certificates/Slice0/Obligations.lean ====
section
/-!
DEFINITION. The statements about the model, one definition each.
-/
open Sys2Proof Sys2Proof.Machine

/-- For every command c, queue q and module b: the step of the state whose queue is c followed by q is exec of c on the state with the queue q. (The queue is the model's, log entry 4.) -/
def Obligations.StepRunsFrontCommand : Prop :=
  ∀ (c : Instr) (q : List Instr) (b : Block), step ⟨c :: q, b⟩ = exec c ⟨q, b⟩

/-- For every command and every state, exec answers a next state (never a fault, never a refusal) in which the queue is the one it was given. -/
def Obligations.EveryCommandAnswersAndKeepsTheQueue : Prop :=
  ∀ (c : Instr) (s : State), ∃ t, exec c s = .next t ∧ t.pending = s.pending

/-- On an empty queue a step answers a next state with an empty queue. Before the root PLL has locked nothing changes; afterwards, with no packet in the meshes or held at a terminal and no word-engine result in flight or deferred operation in a cluster, the count of CTL_CLK cycles grows by one, the time counter, while it runs, advances by two TIME_CLK edges (R287), TDU_TICK by one in every 250th cycle (R338), a partition FROZEN counts eight more STEP_CLK cycles, the wait timer of a waiting partition counts, but while it pauses only towards its bound (R177, R269), the time without a Vector Port frame grows for each partition when none is sent (R446), and so does the time for which the conditions of R348 hold, and cluster, link and memory contents, the DMA channels and the configuration engine stay as they are. That a cycle passes only on an empty queue is the model's choice (log entry 4). -/
def Obligations.IdleStepIsOneControlClock : Prop :=
  ∀ b : Block, ∃ t, step ⟨[], b⟩ = .next ⟨[], t⟩ ∧
    (b.pw.phase = .por ∨ b.pw.phase = .lock → t = b) ∧
    (b.pw.phase = .boot ∨ b.pw.phase = .ready → b.noc.tx = [] → b.noc.fly = [] → b.noc.inq = [] →
      (∀ c, (b.clu c).flight = [] ∧ (b.clu c).deferred = [] ∧ (b.clu c).defRun = false) →
      t.pw.ctl = b.pw.ctl + 1 ∧
      t.time = (if b.timeRuns then (b.time + 2 * b.edgeLen).toNat else b.time) ∧
      (b.tdu.sub + 1 < 250 → t.reg (r0 .TDU_TICK) = b.reg (r0 .TDU_TICK) ∧ t.tdu.sub = b.tdu.sub + 1) ∧
      (250 ≤ b.tdu.sub + 1 → t.reg (r0 .TDU_TICK) = b.reg (r0 .TDU_TICK) + 1 ∧ t.tdu.sub = 0) ∧
      t.tdu.calm = (if t.quiet then b.tdu.calm + 1 else 0) ∧
      (∀ p x, NMap.find b.parts p = some x → (t.part p).frozenFor = (if x.state = .frozen then x.frozenFor + 8 else x.frozenFor) ∧
        (t.part p).held = (if x.waiting then x.held + 1 else x.held) ∧
        (t.part p).counted = (if x.waiting && !b.waitPaused p then x.counted + 1 else x.counted) ∧ (b.vpt.tx = [] → (t.part p).vptIdle = x.vptIdle + 1)) ∧
      (∀ c, t.clu c = b.clu c) ∧ t.links = b.links ∧ t.dma = b.dma ∧ t.prog = b.prog ∧ t.cfg = b.cfg ∧ t.streams = b.streams ∧ b.sameMem t)

/-- At reset no command waits, POR_N is low, no partition, cluster or link holds anything, no far-memory or scratchpad byte is listed, the fault log and the message queues are empty, every register reads the reset value of its line, and CTL_ID reads 0x4C320200 (stepping B0, log entry 6). -/
def Obligations.ResetState : Prop :=
  State.reset.pending = [] ∧ State.reset.b.pw.phase = .por ∧ State.reset.b.parts = [] ∧ State.reset.b.clus = [] ∧ State.reset.b.links = [] ∧
    State.reset.b.far = [] ∧ State.reset.b.ssp.bytes = [] ∧ State.reset.b.out = [] ∧ State.reset.b.flt.unacked = 0 ∧
    (∀ k, State.reset.b.reg k = k.name.info.reset) ∧ State.reset.b.reg (r0 .CTL_ID) = 0x4C320200#32

/-- The module at reset is Sound: register file and byte memories in canonical form, CTL_ID at its value, and the bounds of the fault log, the audit log, the Vector Port queue and the microsecond counter. (The canonical form is the model's.) -/
def Obligations.ResetIsSound : Prop :=
  State.reset.b.Sound

/-- From every state whose module is Sound, a step that answers a next state answers one whose module is Sound: no command and no clock cycle changes CTL_ID, makes the register file or a byte memory lose its canonical form, or lets the fault log hold more than 32 unacknowledged entries, the audit log more than 4,096 entries on chip besides those that are yet to be mirrored, the Vector Port more than 16 waiting frames. -/
def Obligations.EveryStepKeepsSoundness : Prop :=
  ∀ s t : State, s.b.Sound → step s = .next t → t.b.Sound

/-- In a cluster whose partition is within a DC, an EVAL (at a step before L - 1) or an END (at step L - 1) whose reserved bits are zero, whose selectors are not reserved and whose DST is no state bit answers a next state: entry DST of the BP's value store and its result latch hold the truth-table bit of index A + 2B + 4C + 8D (R40, R43, R47, R58); no other value-store entry, no other latch, no next value, no register, no byte of memory and no other cluster changes. -/
def Obligations.EvalAndEndWriteTheValueStore : Prop :=
  ∀ (s : State) (c : ClusterId) (k : BpNo) (w : BpArgs) (p : Nat) (va vb vc vd : Bool),
    s.b.inDc c.toNat = some p → w.flg = 0 →
    s.b.operand p c.toNat k.toNat w.a = some va → s.b.operand p c.toNat k.toNat w.b = some vb →
    s.b.operand p c.toNat k.toNat w.c = some vc → s.b.operand p c.toNat k.toNat w.d = some vd →
    (s.b.clu c.toNat).isState k.toNat w.dst.toNat = false →
    let effect := fun (t : State) =>
      let v := w.tt.getLsbD (va.toNat + 2 * vb.toNat + 4 * vc.toNat + 8 * vd.toNat)
      (t.b.clu c.toNat).value k.toNat w.dst.toNat = v ∧ (t.b.clu c.toNat).latchOf k.toNat = v ∧
      (∀ (j : BpNo) (a : BitVec 12), (j, a) ≠ (k, w.dst) → (t.b.clu c.toNat).value j.toNat a.toNat = (s.b.clu c.toNat).value j.toNat a.toNat) ∧
      (∀ j : BpNo, j ≠ k → (t.b.clu c.toNat).latchOf j.toNat = (s.b.clu c.toNat).latchOf j.toNat) ∧
      (t.b.clu c.toNat).next = (s.b.clu c.toNat).next ∧ (t.b.clu c.toNat).trigIn = (s.b.clu c.toNat).trigIn ∧
      (∀ d, d ≠ c.toNat → t.b.clu d = s.b.clu d) ∧ t.b.regs = s.b.regs ∧ t.b.parts = s.b.parts ∧ t.b.out = s.b.out ∧ s.b.sameMem t.b
    ((s.b.part p).step + 1 ≠ (s.b.part p).len → ∃ t, exec (.eval c k w) s = .next t ∧ effect t) ∧
    ((s.b.part p).step + 1 = (s.b.part p).len → ∃ t, exec (.bpEnd c k w) s = .next t ∧ effect t)

/-- In a cluster whose partition is within a DC before step L - 1: an EVALQ to a state bit loads the latch and leaves the result as the next value of that bit while its committed value stays (R49, R50); a TRIG with DST below 8 loads the latch and sets input DST when the result is 1 (R57); a NOP whose reserved bits are zero changes nothing, whatever its other fields hold (R46). None of them changes a value-store entry, a register, a byte of memory or another cluster. -/
def Obligations.EvalqTrigAndNop : Prop :=
  ∀ (s : State) (c : ClusterId) (k : BpNo) (w : BpArgs) (p : Nat),
    s.b.inDc c.toNat = some p → w.flg = 0 → (s.b.part p).step + 1 ≠ (s.b.part p).len →
    let frame := fun (t : State) => (t.b.clu c.toNat).vs = (s.b.clu c.toNat).vs ∧ (∀ d, d ≠ c.toNat → t.b.clu d = s.b.clu d) ∧
      t.b.regs = s.b.regs ∧ t.b.parts = s.b.parts ∧ s.b.sameMem t.b
    (∃ t, exec (.nop c k w) s = .next t ∧ (∀ d, t.b.clu d = s.b.clu d) ∧ { t.b with clus := s.b.clus } = s.b) ∧
    (∀ v, s.b.evalBp p c.toNat k.toNat w = some v →
      ((s.b.clu c.toNat).isState k.toNat w.dst.toNat = true → ∃ t, exec (.evalq c k w) s = .next t ∧ frame t ∧
        NMap.find (t.b.clu c.toNat).next (k.toNat * 4096 + w.dst.toNat) = some v ∧
        (∀ (j : BpNo) (a : BitVec 12), (j, a) ≠ (k, w.dst) →
          NMap.find (t.b.clu c.toNat).next (j.toNat * 4096 + a.toNat) = NMap.find (s.b.clu c.toNat).next (j.toNat * 4096 + a.toNat)) ∧
        (t.b.clu c.toNat).latchOf k.toNat = v ∧ (t.b.clu c.toNat).trigIn = (s.b.clu c.toNat).trigIn) ∧
      (w.dst.toNat < 8 → ∃ t, exec (.trig c k w) s = .next t ∧ frame t ∧
        (∀ i < 8, (t.b.clu c.toNat).trigIn.getLsbD i = ((s.b.clu c.toNat).trigIn.getLsbD i || (v && decide (i = w.dst.toNat)))) ∧
        (t.b.clu c.toNat).latchOf k.toNat = v ∧ (t.b.clu c.toNat).next = (s.b.clu c.toNat).next))

/-- In a cluster whose partition is within a DC before step L - 1, a SEND with DST below 64 on a lane with a route at this step, or an EVALS to a state bit on such a lane, loads the latch with the result and puts one bit with that value on its way to each on-die destination of the route, with the route's latency, and into each slot of a frame path that is a destination (R52, R55, R158, R159, R164). EVALS also leaves the result as the next value of state bit EVALS_PAGE x 64 + DST[11:6], every other next value as it was; SEND leaves every next value as it was. No other lane, slot, latch or sequencer input changes. Neither changes a value-store entry, another cluster or a byte of memory. -/
def Obligations.SendAndEvalsDriveALane : Prop :=
  ∀ (s : State) (c : ClusterId) (k : BpNo) (w : BpArgs) (p : Nat) (v : Bool) (rt : Route),
    s.b.inDc c.toNat = some p → w.flg = 0 → (s.b.part p).step + 1 ≠ (s.b.part p).len →
    s.b.evalBp p c.toNat k.toNat w = some v →
    (s.b.part p).routeAt c.toNat (s.b.part p).step (w.dst.toNat % 64) = some rt →
    let effect := fun (t : State) =>
      (t.b.clu c.toNat).latchOf k.toNat = v ∧ (t.b.clu c.toNat).vs = (s.b.clu c.toNat).vs ∧ (∀ d, d ≠ c.toNat → t.b.clu d = s.b.clu d) ∧
      s.b.sameMem t.b ∧ (∀ j : BpNo, j ≠ k → (t.b.clu c.toNat).latchOf j.toNat = (s.b.clu c.toNat).latchOf j.toNat) ∧
      (t.b.clu c.toNat).trigIn = (s.b.clu c.toNat).trigIn ∧
      (∀ dev path slot i, .frame dev path slot ∈ rt.dests → (s.b.part p).outIdx dev path = some i → NMap.find (t.b.part p).outHeld (i * 65536 + slot) = some v) ∧
      (∀ n, (∀ dev path slot i, .frame dev path slot ∈ rt.dests → (s.b.part p).outIdx dev path = some i → n ≠ i * 65536 + slot) →
        NMap.find (t.b.part p).outHeld n = NMap.find (s.b.part p).outHeld n) ∧
      (t.b.part p).bits = (s.b.part p).bits ++ rt.dests.filterMap (fun d => match d with | .die c2 l lat => some ⟨c2, l, v, lat⟩ | .frame _ _ _ => none)
    (w.dst.toNat < 64 → ∃ t, exec (.send c k w) s = .next t ∧ effect t ∧ (t.b.clu c.toNat).next = (s.b.clu c.toNat).next) ∧
    ((s.b.clu c.toNat).isState k.toNat (s.b.fld (r1 .CLU_CFG c.toNat) F.CLU_CFG_EVALS_PAGE * 64 + w.dst.toNat / 64) = true →
      ∃ t, exec (.evals c k w) s = .next t ∧ effect t ∧
        (∀ n, n ≠ k.toNat * 4096 + (s.b.fld (r1 .CLU_CFG c.toNat) F.CLU_CFG_EVALS_PAGE * 64 + w.dst.toNat / 64) →
          NMap.find (t.b.clu c.toNat).next n = NMap.find (s.b.clu c.toNat).next n) ∧
        NMap.find (t.b.clu c.toNat).next (k.toNat * 4096 + (s.b.fld (r1 .CLU_CFG c.toNat) F.CLU_CFG_EVALS_PAGE * 64 + w.dst.toNat / 64)) = some v)

/-- When an instruction of a running cluster raises schedule faults (its codes by Table 2.6 are not empty), the command answers a next state in which CLU_FAULT has the bit of every code and keeps the others, the instruction has had no other effect on a cluster (no value, latch, next value, sequencer input, FMP entry, port operation or inbound lane has changed) and has put no bit on a lane, no other partition and no byte of memory has changed, the partition is STOPPED_FAULT and inconsistent and its step has not moved, and, when no record was held, CLU_FAULT_INFO names the lowest code, the step and the BP (R83, R84, R85). It holds for every operation code. -/
def Obligations.ScheduleFaultStopsThePartition : Prop :=
  ∀ (s : State) (c : ClusterId) (k : BpNo) (w : BpArgs) (p : Nat) (i : Instr) (opc : Nat),
    (opc, i) ∈ [(0, Instr.nop c k w), (1, .eval c k w), (2, .evalq c k w), (3, .send c k w), (4, .evals c k w), (5, .wait c k w), (6, .trig c k w), (7, .bpEnd c k w)] →
    s.b.inDc c.toNat = some p → s.b.bpCodes p c.toNat k.toNat opc w ≠ [] →
    ∃ t, exec i s = .next t ∧
      (∀ n < 32, (t.b.reg (r1 .CLU_FAULT c.toNat)).getLsbD n =
        ((s.b.reg (r1 .CLU_FAULT c.toNat)).getLsbD n || decide (n ∈ s.b.bpCodes p c.toNat k.toNat opc w))) ∧
      (∀ d, t.b.clu d = s.b.clu d) ∧ (t.b.part p).bits = (s.b.part p).bits ∧ (∀ q, q ≠ p → t.b.part q = s.b.part q) ∧ s.b.sameMem t.b ∧
      (t.b.part p).state = .stoppedFault ∧ (t.b.part p).inconsistent = true ∧ (t.b.part p).step = (s.b.part p).step ∧ (t.b.part p).dc = (s.b.part p).dc ∧
      (s.b.bit (r1 .CLU_FAULT_INFO c.toNat) F.CLU_FAULT_INFO_VALID = false → (s.b.part p).step < 2048 →
        t.b.bit (r1 .CLU_FAULT_INFO c.toNat) F.CLU_FAULT_INFO_VALID = true ∧
        t.b.fld (r1 .CLU_FAULT_INFO c.toNat) F.CLU_FAULT_INFO_STEP = (s.b.part p).step ∧
        t.b.fld (r1 .CLU_FAULT_INFO c.toNat) F.CLU_FAULT_INFO_BP = k.toNat ∧
        t.b.fld (r1 .CLU_FAULT_INFO c.toNat) F.CLU_FAULT_INFO_CODE = (s.b.bpCodes p c.toNat k.toNat opc w).foldl min 15)

/-- For the words of Table 3.2 listed in the statement (ADD to ROR, CMPEQ to MOVHI, UNPK, MOVB, MULS, MULU): in a cluster whose partition is within a DC, with no result due and the word not held (R107, R108), and no loop open after step L - 1, the command answers a next state in which one result is added to those in flight, with the destination, the value, the latency and the SATOV of Table 3.2 and R95, and one cycle of this WE has passed. No register, accumulator, bridge word, value store, latch, other cluster, partition or byte of memory changes yet, no BAR0 register but the WE's program counter and loop registers; with no loop active WPC is one more. -/
def Obligations.WordEngineArithmetic : Prop :=
  ∀ (s : State) (c : ClusterId) (k : WeNo) (w : WeArgs) (p : Nat) (i : Instr) (op : Nat) (dest : WeDest) (v : BitVec 64) (lat : Nat) (ov : Bool),
    let x := s.b.clu c.toNat
    let ga := x.gReg k.toNat w.ga.toNat
    let gd := x.gReg k.toNat w.gd.toNat
    let ob := if w.immb then w.imm.signExtend 64 else x.gReg k.toNat (w.imm.toNat % 64)
    let n := ob.toNat % 64
    let toGd := WeDest.reg w.gd.toNat
    let sat := fun (e : Int) => if w.sat then BitVec.ofInt 64 (max (-(2 ^ 63)) (min e (2 ^ 63 - 1))) else BitVec.ofInt 64 e
    let out := fun (e : Int) => decide (e < -(2 ^ 63) ∨ 2 ^ 63 ≤ e)
    (i, op, dest, v, lat, ov) ∈ [
      (Instr.add c k w, 0x01, toGd, sat (ga.toInt + ob.toInt), 1, w.sat && out (ga.toInt + ob.toInt)),
      (Instr.sub c k w, 0x02, toGd, sat (ga.toInt - ob.toInt), 1, w.sat && out (ga.toInt - ob.toInt)),
      (Instr.and c k w, 0x04, toGd, ga &&& ob, 1, false),
      (Instr.or c k w, 0x05, toGd, ga ||| ob, 1, false),
      (Instr.xor c k w, 0x06, toGd, ga ^^^ ob, 1, false),
      (Instr.andn c k w, 0x07, toGd, ga &&& ~~~ob, 1, false),
      (Instr.shl c k w, 0x08, toGd, ga <<< n, 1, false),
      (Instr.shr c k w, 0x09, toGd, ga >>> n, 1, false),
      (Instr.sar c k w, 0x0A, toGd, ga.sshiftRight n, 1, false),
      (Instr.ror c k w, 0x0B, toGd, ga.rotateRight n, 1, false),
      (Instr.cmpeq c k w, 0x10, toGd, if ga = ob then 1 else 0, 1, false),
      (Instr.cmplt c k w, 0x11, toGd, if ga.toInt < ob.toInt then 1 else 0, 1, false),
      (Instr.cmpltu c k w, 0x12, toGd, if ga.toNat < ob.toNat then 1 else 0, 1, false),
      (Instr.min c k w, 0x13, toGd, BitVec.ofInt 64 (min ga.toInt ob.toInt), 1, false),
      (Instr.max c k w, 0x14, toGd, BitVec.ofInt 64 (max ga.toInt ob.toInt), 1, false),
      (Instr.abs c k w, 0x15, toGd, if ga = BitVec.intMin 64 then BitVec.intMax 64 else if ga.toInt < 0 then -ga else ga, 1, decide (ga = BitVec.intMin 64)),
      (Instr.movi c k w, 0x16, toGd, w.imm.signExtend 64, 1, false),
      (Instr.movhi c k w, 0x17, toGd, w.imm ++ gd.setWidth 32, 1, false),
      (Instr.unpk c k w, 0x1D, WeDest.bridge (4 * k.toNat + w.imm.toNat % 4), ga, 1, false),
      (Instr.movb c k w, 0x1E, toGd, x.bridgeWord (w.imm.toNat % 16), 1, false),
      (Instr.muls c k w, 0x20, toGd, (ga.setWidth 32).signExtend 64 * (ob.setWidth 32).signExtend 64, 3, false),
      (Instr.mulu c k w, 0x21, toGd, (ga.setWidth 32).setWidth 64 * (ob.setWidth 32).setWidth 64, 3, false)] →
    s.b.inDc c.toNat = some p → (∀ f ∈ x.flight, f.left ≠ 0) → x.weHeld k.toNat op w = false →
    ((s.b.part p).step + 1 ≠ (s.b.part p).len ∨ s.b.depth c.toNat k.toNat = 0) →
    ∃ t, exec i s = .next t ∧
      (t.b.clu c.toNat).flight = (x.flight ++ [(⟨k.toNat, dest, .put (v.setWidth 112), lat, ov, false⟩ : Flight)]).map
        (fun (f : Flight) => if f.we = k.toNat then { f with left := f.left - 1 } else f) ∧
      (t.b.clu c.toNat).regs = x.regs ∧ (t.b.clu c.toNat).acc = x.acc ∧ (t.b.clu c.toNat).bridge = x.bridge ∧
      (t.b.clu c.toNat).vs = x.vs ∧ (t.b.clu c.toNat).latch = x.latch ∧ (∀ d, d ≠ c.toNat → t.b.clu d = s.b.clu d) ∧
      t.b.parts = s.b.parts ∧ s.b.regsKept t.b [.WE_PC, .WE_LOOP_CTRL, .WE_LPn_CNT] ∧ s.b.sameMem t.b ∧
      (s.b.depth c.toNat k.toNat = 0 → t.b.wpc c.toNat k.toNat = (s.b.wpc c.toNat k.toNat + 1) % 2048)

/-- For the field words (BFXU, BFXS, BFI), NORM, NORMA, EXPX, RND, RNDA, PACK, MOVAL, MOVAH and the accumulator words (MACS, MACU, MSUS, MPYA, CLRA, LDA): under the conditions of WordEngineArithmetic, and with the parameters in range (R101), the command answers a next state in which one result is added to those in flight, with the destination, the action (a value, or a product that the last stage adds to the accumulator), the latency and the RNDOV of Table 3.2 and R96 to R100. cround, redundant, expx and packBits are the model's functions for R96, R98, R99 and Table 3.7. -/
def Obligations.WordEngineFieldsAndAccumulators : Prop :=
  ∀ (s : State) (c : ClusterId) (k : WeNo) (w : WeArgs) (p : Nat) (i : Instr) (op : Nat) (dest : WeDest) (act : WeAct) (lat : Nat) (rnd : Bool),
    let x := s.b.clu c.toNat
    let ga := x.gReg k.toNat w.ga.toNat
    let gd := x.gReg k.toNat w.gd.toNat
    let am := x.aReg k.toNat (w.ga.toNat % 2)
    let ob := if w.immb then w.imm.signExtend 64 else x.gReg k.toNat (w.imm.toNat % 64)
    let lo := w.sh.toNat % 64
    let wd := w.imm.toNat % 64 + 1
    let toGd := WeDest.reg w.gd.toNat
    let toAn := WeDest.acc (w.gd.toNat % 2)
    let put := fun (v : BitVec 64) => WeAct.put (v.setWidth 112)
    let smul := (ga.setWidth 32).toInt * (ob.setWidth 32).toInt
    let r := cround am.toInt (ob.toNat % 128)
    (i, op, dest, act, lat, rnd) ∈ [
      (Instr.bfxu c k w, 0x0C, toGd, put ((ga >>> lo) &&& BitVec.ofNat 64 (2 ^ wd - 1)), 1, false),
      (Instr.bfxs c k w, 0x0D, toGd, put ((ga <<< (64 - lo - wd)).sshiftRight (64 - wd)), 1, false),
      (Instr.bfi c k w, 0x0E, toGd, put ((gd &&& ~~~(BitVec.ofNat 64 (2 ^ wd - 1) <<< lo)) ||| ((ga &&& BitVec.ofNat 64 (2 ^ wd - 1)) <<< lo)), 1, false),
      (Instr.norm c k w, 0x18, toGd, put (BitVec.ofNat 64 (redundant 64 ga.toNat)), 1, false),
      (Instr.expx c k w, 0x19, toGd, put (expx ga.toNat lo (w.imm.toNat % 16) (w.imm.getLsbD 4)), 1, false),
      (Instr.rnd c k w, 0x1A, toGd, put (BitVec.ofInt 64 (cround ga.toInt (ob.toNat % 128))), 1, false),
      (Instr.pack c k w, 0x1C, toGd, put (BitVec.ofNat 64 (bitsNat (x.packBits (NMap.get 0 x.pack (k.toNat * 16 + w.imm.toNat % 16)) 64 0 false))), 1, false),
      (Instr.macs c k w, 0x24, toAn, .accum smul w.sat, 4, false),
      (Instr.macu c k w, 0x25, toAn, .accum ((ga.setWidth 32).toNat * (ob.setWidth 32).toNat : Nat) w.sat, 4, false),
      (Instr.msus c k w, 0x26, toAn, .accum (-smul) w.sat, 4, false),
      (Instr.mpya c k w, 0x27, toAn, .put (BitVec.ofInt 112 smul), 4, false),
      (Instr.clra c k w, 0x28, toAn, .put 0, 1, false),
      (Instr.lda c k w, 0x29, toAn, .put (ga.signExtend 112 <<< w.sh.toNat), 1, false),
      (Instr.rnda c k w, 0x2A, toGd, put (if w.sat then BitVec.ofInt 64 (max (-(2 ^ 63)) (min r (2 ^ 63 - 1))) else BitVec.ofInt 64 r), 1,
        decide (r < -(2 ^ 63) ∨ 2 ^ 63 ≤ r)),
      (Instr.moval c k w, 0x2B, toGd, put (am.setWidth 64), 1, false),
      (Instr.movah c k w, 0x2C, toGd, put ((am.extractLsb' 64 48).signExtend 64), 1, false),
      (Instr.norma c k w, 0x2D, toGd, put (BitVec.ofNat 64 (redundant 112 am.toNat)), 1, false)] →
    s.b.inDc c.toNat = some p → (∀ f ∈ x.flight, f.left ≠ 0) → x.weHeld k.toNat op w = false → weParamBad op w ob = false →
    ((s.b.part p).step + 1 ≠ (s.b.part p).len ∨ s.b.depth c.toNat k.toNat = 0) →
    ∃ t, exec i s = .next t ∧
      (t.b.clu c.toNat).flight = (x.flight ++ [(⟨k.toNat, dest, act, lat, false, rnd⟩ : Flight)]).map
        (fun (f : Flight) => if f.we = k.toNat then { f with left := f.left - 1 } else f) ∧
      (t.b.clu c.toNat).regs = x.regs ∧ (t.b.clu c.toNat).acc = x.acc ∧ (t.b.clu c.toNat).bridge = x.bridge ∧
      (∀ d, d ≠ c.toNat → t.b.clu d = s.b.clu d) ∧ t.b.parts = s.b.parts ∧
      s.b.regsKept t.b [.WE_PC, .WE_LOOP_CTRL, .WE_LPn_CNT] ∧ s.b.sameMem t.b

/-- For BFXU, BFXS, BFI, EXPX, RND, LDA and RNDA with a parameter out of range (R101), with no result due and the word not held, the command answers a next state in which WE_FAULT has the bit of PARAM beside those it had, no result has been added, and the partition is STOPPED_FAULT and inconsistent at the same step; when no record was held WE_FAULT_INFO names the code, the step and the word (R114). The same for a REP that R113 makes illegal, with REP_LEN, NEST_DEPTH or NEST_CROSS or several of them, and no loop state changed, and for a level still active after the word at step L - 1, here a NOP, with LOOP_OPEN, where the word has moved WPC on (R113, R114). For every one of these words that is held (R107, R108) in a running partition that what latches now does not stop, and no result due, the command answers a next state in which the partition has slipped for one to five steps at the same step index. -/
def Obligations.WordEngineFaultsAndHolds : Prop :=
  (∀ (s : State) (c : ClusterId) (k : WeNo) (w : WeArgs) (p : Nat) (i : Instr) (op : Nat),
    let x := s.b.clu c.toNat
    (i, op) ∈ [(Instr.bfxu c k w, 0x0C), (Instr.bfxs c k w, 0x0D), (Instr.bfi c k w, 0x0E), (Instr.expx c k w, 0x19), (Instr.rnd c k w, 0x1A),
      (Instr.lda c k w, 0x29), (Instr.rnda c k w, 0x2A)] →
    s.b.inDc c.toNat = some p → (∀ f ∈ x.flight, f.left ≠ 0) →
    (x.weHeld k.toNat op w = true → (s.b.settle p).runs p = true → ∃ t n, exec i s = .next t ∧ 1 ≤ n ∧ n ≤ 5 ∧
      (t.b.part p).slip = (s.b.part p).slip + BitVec.ofNat 64 n ∧ (t.b.part p).step = (s.b.part p).step) ∧
    (x.weHeld k.toNat op w = false → weParamBad op w (x.opb k.toNat w) = true →
      ∃ t, exec i s = .next t ∧
        (∀ n < 32, (t.b.reg (r2 .WE_FAULT c.toNat k.toNat)).getLsbD n = ((s.b.reg (r2 .WE_FAULT c.toNat k.toNat)).getLsbD n || decide (n = 3))) ∧
        (t.b.clu c.toNat).flight.length = x.flight.length ∧ (t.b.clu c.toNat).regs = x.regs ∧ (t.b.clu c.toNat).acc = x.acc ∧
        (s.b.bit (r2 .WE_FAULT_INFO c.toNat k.toNat) F.WE_FAULT_INFO_VALID = false → (s.b.part p).step < 2048 →
          let info := r2 .WE_FAULT_INFO c.toNat k.toNat
          t.b.bit info F.WE_FAULT_INFO_VALID = true ∧ t.b.fld info F.WE_FAULT_INFO_CODE = 3 ∧ t.b.fld info F.WE_FAULT_INFO_STEP = (s.b.part p).step ∧
            t.b.fld info F.WE_FAULT_INFO_WORD = s.b.wpc c.toNat k.toNat) ∧
        (t.b.part p).state = .stoppedFault ∧ (t.b.part p).inconsistent = true ∧ (t.b.part p).step = (s.b.part p).step ∧ s.b.sameMem t.b)) ∧
  (∀ (s : State) (c : ClusterId) (k : WeNo) (w : WeArgs) (p : Nat), s.b.inDc c.toNat = some p → (∀ f ∈ (s.b.clu c.toNat).flight, f.left ≠ 0) →
    let e := s.b.wpc c.toNat k.toNat
    let d := s.b.depth c.toNat k.toNat
    let len := w.imm.toNat % 2048
    let info := r2 .WE_FAULT_INFO c.toNat k.toNat
    let open_ := decide (0 < d ∧ (s.b.level c.toNat k.toNat (d - 1)).2.1 ≠ e ∧ (s.b.part p).step + 1 = (s.b.part p).len)
    let code := fun (n : Nat) => decide ((n = 4 ∧ (len = 0 ∨ 2047 < e + len)) ∨ (n = 5 ∧ 3 ≤ d) ∨
      (n = 6 ∧ 0 < d ∧ (s.b.level c.toNat k.toNat (d - 1)).2.1 < e + len))
    let stops := fun (t : State) (q : Nat → Bool) =>
      (∀ n < 32, (t.b.reg (r2 .WE_FAULT c.toNat k.toNat)).getLsbD n = ((s.b.reg (r2 .WE_FAULT c.toNat k.toNat)).getLsbD n || q n)) ∧
      (s.b.bit info F.WE_FAULT_INFO_VALID = false → (s.b.part p).step < 2048 → t.b.bit info F.WE_FAULT_INFO_VALID = true ∧
        q (t.b.fld info F.WE_FAULT_INFO_CODE) = true ∧ (∀ n, q n = true → t.b.fld info F.WE_FAULT_INFO_CODE ≤ n) ∧
        t.b.fld info F.WE_FAULT_INFO_STEP = (s.b.part p).step ∧ t.b.fld info F.WE_FAULT_INFO_WORD = e) ∧
      t.b.depth c.toNat k.toNat = d ∧ (∀ n < 3, t.b.level c.toNat k.toNat n = s.b.level c.toNat k.toNat n) ∧
      (t.b.clu c.toNat).regs = (s.b.clu c.toNat).regs ∧ (t.b.clu c.toNat).acc = (s.b.clu c.toNat).acc ∧
      (t.b.part p).state = .stoppedFault ∧ (t.b.part p).inconsistent = true ∧ (t.b.part p).step = (s.b.part p).step ∧ s.b.sameMem t.b
    (∀ n, code n = true → ∃ t, exec (.rep c k w) s = .next t ∧ stops t code ∧ t.b.wpc c.toNat k.toNat = e) ∧
    (open_ = true → ∃ t, exec (.weNop c k w) s = .next t ∧ stops t (fun n => decide (n = 7)) ∧ t.b.wpc c.toNat k.toNat = (e + 1) % 2048))

/-- NOP moves WPC on and leaves everything else of the WE as it was when no loop is active. A legal REP with at most two levels active pushes a level with START w + 1, END w + LEN and LEFT = COUNT and moves WPC to w + 1 (R111). After a word, here a NOP, at the END of levels whose LEFT is 0 these are popped; the next level out, when the word is its END too and its LEFT is not 0, counts LEFT down and WPC becomes its START, and otherwise WPC is one more (R112). WE_RESULT_LAND writes the result that lands next to its register, accumulator or bridge word and takes it out of flight; a product is added to its accumulator, wrapping modulo 2^112 or, with SAT, clamped, and AOVn is set when the exact sum lies outside the range (R100); SATOV and RNDOV are set where the result brings them, no sticky bit clears, and nothing else changes; a result that a check finds faulty is not written (R106, R556). A word of the WE window (low or high half of a general register, a word of an accumulator, half a bridge word) is written only while the cluster is FROZEN, and no other word changes (R116); WE_PC, WE_LOOP_CTRL and the registers of the three loop levels are written only while MIDDC is 1. -/
def Obligations.WordEngineLoopsAndLanding : Prop :=
  (∀ (s : State) (c : ClusterId) (k : WeNo) (w : WeArgs) (p : Nat),
    s.b.inDc c.toNat = some p → (∀ f ∈ (s.b.clu c.toNat).flight, f.left ≠ 0) → s.b.depth c.toNat k.toNat = 0 →
    (∃ t, exec (.weNop c k w) s = .next t ∧ t.b.wpc c.toNat k.toNat = (s.b.wpc c.toNat k.toNat + 1) % 2048 ∧
      (t.b.clu c.toNat).regs = (s.b.clu c.toNat).regs ∧ (t.b.clu c.toNat).acc = (s.b.clu c.toNat).acc ∧ t.b.parts = s.b.parts ∧
      s.b.regsKept t.b [.WE_PC] ∧ s.b.sameMem t.b) ∧
    (1 ≤ w.imm.toNat % 2048 → s.b.wpc c.toNat k.toNat + w.imm.toNat % 2048 ≤ 2047 → (s.b.part p).step + 1 ≠ (s.b.part p).len →
      ∃ t, exec (.rep c k w) s = .next t ∧ t.b.depth c.toNat k.toNat = 1 ∧
        t.b.level c.toNat k.toNat 0 = (s.b.wpc c.toNat k.toNat + 1, s.b.wpc c.toNat k.toNat + w.imm.toNat % 2048, w.imm.toNat / 65536) ∧
        t.b.wpc c.toNat k.toNat = s.b.wpc c.toNat k.toNat + 1 ∧ t.b.parts = s.b.parts ∧
        s.b.regsKept t.b [.WE_PC, .WE_LOOP_CTRL, .WE_LPn_ADDR, .WE_LPn_CNT] ∧ s.b.sameMem t.b)) ∧
  (∀ (s : State) (c : ClusterId) (k : WeNo) (w : WeArgs) (p : Nat),
    s.b.inDc c.toNat = some p → (∀ f ∈ (s.b.clu c.toNat).flight, f.left ≠ 0) → (s.b.part p).step + 1 ≠ (s.b.part p).len →
    let e := s.b.wpc c.toNat k.toNat
    let d := s.b.depth c.toNat k.toNat
    let lv := s.b.level c.toNat k.toNat
    let len := w.imm.toNat % 2048
    let done := fun (n : Nat) => ∀ j, d - n ≤ j → j < d → (lv j).2.1 = e ∧ (lv j).2.2 = 0
    let kept := fun (t : State) => (t.b.clu c.toNat).regs = (s.b.clu c.toNat).regs ∧ (t.b.clu c.toNat).acc = (s.b.clu c.toNat).acc ∧
      t.b.parts = s.b.parts ∧ s.b.sameMem t.b
    (∀ n, n < d → done n → (lv (d - n - 1)).2.1 = e → 0 < (lv (d - n - 1)).2.2 → ∃ t, exec (.weNop c k w) s = .next t ∧
      t.b.wpc c.toNat k.toNat = (lv (d - n - 1)).1 ∧ t.b.depth c.toNat k.toNat = d - n ∧
      t.b.level c.toNat k.toNat (d - n - 1) = ((lv (d - n - 1)).1, e, (lv (d - n - 1)).2.2 - 1) ∧
      (∀ j < 3, j ≠ d - n - 1 → t.b.level c.toNat k.toNat j = lv j) ∧ kept t ∧ s.b.regsKept t.b [.WE_PC, .WE_LOOP_CTRL, .WE_LPn_CNT]) ∧
    (∀ n, n ≤ d → done n → (n < d → (lv (d - n - 1)).2.1 ≠ e) → ∃ t, exec (.weNop c k w) s = .next t ∧
      t.b.wpc c.toNat k.toNat = (e + 1) % 2048 ∧ t.b.depth c.toNat k.toNat = d - n ∧ (∀ j < 3, t.b.level c.toNat k.toNat j = lv j) ∧
      kept t ∧ s.b.regsKept t.b [.WE_PC, .WE_LOOP_CTRL]) ∧
    (1 ≤ len → e + len ≤ 2047 → d < 3 → (0 < d → e + len ≤ (lv (d - 1)).2.1) → ∃ t, exec (.rep c k w) s = .next t ∧
      t.b.wpc c.toNat k.toNat = e + 1 ∧ t.b.depth c.toNat k.toNat = d + 1 ∧ t.b.level c.toNat k.toNat d = (e + 1, e + len, w.imm.toNat / 65536) ∧
      (∀ j < d, t.b.level c.toNat k.toNat j = lv j) ∧ kept t ∧ s.b.regsKept t.b [.WE_PC, .WE_LOOP_CTRL, .WE_LPn_ADDR, .WE_LPn_CNT])) ∧
  (∀ (s : State) (c : ClusterId) (k : WeNo) (f : Flight), s.b.landing c.toNat k.toNat = some f →
    let x := s.b.clu c.toNat
    let st := r2 .WE_STATUS c.toNat k.toNat
    let sticky := fun (t : State) (a0 a1 : Bool) => t.b.bit st F.WE_STATUS_SATOV = (s.b.bit st F.WE_STATUS_SATOV || f.satov) ∧
      t.b.bit st F.WE_STATUS_RNDOV = (s.b.bit st F.WE_STATUS_RNDOV || f.rndov) ∧
      t.b.bit st F.WE_STATUS_AOV0 = (s.b.bit st F.WE_STATUS_AOV0 || a0) ∧ t.b.bit st F.WE_STATUS_AOV1 = (s.b.bit st F.WE_STATUS_AOV1 || a1)
    let taken := fun (t : State) => (t.b.clu c.toNat).flight = x.flight.erase f ∧ s.b.regsKept t.b [.WE_STATUS] ∧ t.b.parts = s.b.parts ∧
      s.b.sameMem t.b ∧ ∀ d, d ≠ c.toNat → t.b.clu d = s.b.clu d
    let regsAre := fun (t : State) => ∀ j, NMap.get 0 (t.b.clu c.toNat).regs j = NMap.get 0 x.regs j
    let accsAre := fun (t : State) (n : Nat) => ∀ j, j ≠ n → NMap.get 0 (t.b.clu c.toNat).acc j = NMap.get 0 x.acc j
    let bridgeIs := fun (t : State) => ∀ j, (t.b.clu c.toNat).bridgeWord j = x.bridgeWord j
    (∀ (v : BitVec 112) (g : Nat), f.act = .put v → f.dest = .reg g → ∃ t, exec (.weResultLand c k false) s = .next t ∧ taken t ∧ sticky t false false ∧
      (t.b.clu c.toNat).gReg f.we g = v.setWidth 64 ∧ (∀ j, j ≠ f.we * 64 + g → NMap.get 0 (t.b.clu c.toNat).regs j = NMap.get 0 x.regs j) ∧
      (t.b.clu c.toNat).acc = x.acc ∧ bridgeIs t) ∧
    (∀ (v : BitVec 112) (n : Nat), f.act = .put v → f.dest = .bridge n → ∃ t, exec (.weResultLand c k false) s = .next t ∧ taken t ∧ sticky t false false ∧
      (t.b.clu c.toNat).bridgeWord n = v.setWidth 64 ∧ (∀ j, j ≠ n → (t.b.clu c.toNat).bridgeWord j = x.bridgeWord j) ∧
      (t.b.clu c.toNat).acc = x.acc ∧ regsAre t) ∧
    (∀ (v : BitVec 112) (n : Nat), f.act = .put v → f.dest = .acc n → ∃ t, exec (.weResultLand c k false) s = .next t ∧ taken t ∧ sticky t false false ∧
      (t.b.clu c.toNat).aReg f.we n = v ∧ accsAre t (f.we * 2 + n) ∧ regsAre t ∧ bridgeIs t) ∧
    (∀ (d : Int) (sat : Bool) (n : Nat), f.act = .accum d sat → f.dest = .acc n → n < 2 →
      let e := (x.aReg f.we n).toInt + d
      let out := decide (e < -(2 ^ 111) ∨ 2 ^ 111 ≤ e)
      ∃ t, exec (.weResultLand c k false) s = .next t ∧ taken t ∧ sticky t (out && decide (n = 0)) (out && decide (n = 1)) ∧
        (t.b.clu c.toNat).aReg f.we n = BitVec.ofInt 112 (if sat then max (-(2 ^ 111)) (min e (2 ^ 111 - 1)) else e) ∧
        accsAre t (f.we * 2 + n) ∧ regsAre t ∧ bridgeIs t) ∧
    ∃ t, exec (.weResultLand c k true) s = .next t ∧ (t.b.clu c.toNat).flight = x.flight.erase f ∧
      (t.b.clu c.toNat).regs = x.regs ∧ (t.b.clu c.toNat).acc = x.acc ∧ (t.b.clu c.toNat).bridge = x.bridge ∧
      t.b.reg st = s.b.reg st ∧ s.b.sameMem t.b) ∧
  (∀ (s : State) (r : Requester) (c : ClusterId) (k : WeNo) (w : BitVec 8) (v : Word),
    s.b.reaches r (r2 .WE_PC c.toNat k.toNat) = true → s.b.designOk r (r2 .WE_PC c.toNat k.toNat) = true →
    let x := s.b.clu c.toNat
    ∃ t, exec (.weRegisterWrite r c k w v) s = .next t ∧ t.b = { s.b with clus := t.b.clus } ∧ (∀ d, d ≠ c.toNat → t.b.clu d = s.b.clu d) ∧
      (s.b.cluState c.toNat ≠ .frozen → t.b = s.b) ∧
      (s.b.cluState c.toNat = .frozen →
        (∀ (j : WeNo) (n : BitVec 8), (j, n) ≠ (k, w) → (t.b.clu c.toNat).weWord j.toNat n.toNat = x.weWord j.toNat n.toNat) ∧
        (∀ g < 64, w.toNat = 2 * g → (t.b.clu c.toNat).gReg k.toNat g = (x.gReg k.toNat g).extractLsb' 32 32 ++ v) ∧
        (∀ g < 64, w.toNat = 2 * g + 1 → (t.b.clu c.toNat).gReg k.toNat g = v ++ (x.gReg k.toNat g).extractLsb' 0 32) ∧
        (∀ n < 2, ∀ i < 3, w.toNat = 128 + 4 * n + i → ((t.b.clu c.toNat).aReg k.toNat n).extractLsb' (32 * i) 32 = v) ∧
        (∀ n < 2, w.toNat = 131 + 4 * n → ((t.b.clu c.toNat).aReg k.toNat n).extractLsb' 96 16 = v.setWidth 16) ∧
        (∀ n < 4, ∀ i < 2, w.toNat = 136 + 2 * n + i → ((t.b.clu c.toNat).bridgeWord (4 * k.toNat + n)).extractLsb' (32 * i) 32 = v))) ∧
  (∀ (s : State) (r : Requester) (c : ClusterId) (k : WeNo) (v m : Word) (n : BitVec 4) (q : RegKey),
    (n, q, m) ∈ [(0, r2 .WE_PC c.toNat k.toNat, 0x7FF#32), (1, r2 .WE_LOOP_CTRL c.toNat k.toNat, 0x3#32),
      (2, r3 .WE_LPn_ADDR c.toNat k.toNat 0, 0x7FF07FF#32), (3, r3 .WE_LPn_CNT c.toNat k.toNat 0, 0xFFFF#32),
      (4, r3 .WE_LPn_ADDR c.toNat k.toNat 1, 0x7FF07FF#32), (5, r3 .WE_LPn_CNT c.toNat k.toNat 1, 0xFFFF#32),
      (6, r3 .WE_LPn_ADDR c.toNat k.toNat 2, 0x7FF07FF#32), (7, r3 .WE_LPn_CNT c.toNat k.toNat 2, 0xFFFF#32)] →
    s.b.reaches r q = true → s.b.roleOk r q = true →
    ∃ t, exec (.weLoopStateWrite r c k n v) s = .next t ∧ s.b.onlyRegs t.b [q] ∧
      t.b.reg q = if s.b.midDc c.toNat k.toNat then v &&& m else s.b.reg q)

/-- In a cluster whose partition is within a DC, for a field that meets no condition of R129 and no reserved selector: DMB_RD with an error-free row puts one return on its way that carries the addressed word of the row, to latch after two ends of steps (R122, R123); with a corrected one it does the same and counts in CLU_MEM_ECC.DMB_CORR; with an uncorrectable row it puts none and notes DMB_DUE for the next step (R121). DMB_WR replaces exactly the bits of the addressed word (R122, Table 4.1); no other bit of any row changes; where it reads the row first, a word narrower than the row, an uncorrectable row stays as it is and DMB_DUE is noted (R121). A field that meets a condition of R129 records MSP_RSVD, another one with a reserved selector SEL_RSVD; it does nothing else, and the partition stops (R129, R130, R155). A slip step in which ports hold deferred operations executes the first of each port and keeps the others (R133). No far-memory or scratchpad byte, register or other cluster changes. -/
def Obligations.DesignMemoryReadsAndWrites : Prop :=
  (∀ (s : State) (c : ClusterId) (j : BitVec 3) (o : OpArgs) (p : Nat) (idx : List Bool),
    let x := s.b.clu c.toNat
    let k := s.b.ratio c.toNat o.unit.toNat
    let q := dmbPlace k (bitsNat idx)
    let wd := ratioWidth k
    let frame := fun (t : State) => t.b.regs = s.b.regs ∧ t.b.parts = s.b.parts ∧ (∀ d, d ≠ c.toNat → t.b.clu d = s.b.clu d) ∧ s.b.sameMem t.b ∧
      (t.b.clu c.toNat).fmp = x.fmp ∧ (t.b.clu c.toNat).vs = x.vs
    s.b.inDc c.toNat = some p → x.gather o.map.toNat 0 (ratioAddr k) = some idx →
    (s.b.opReserved p c.toNat 0 o = false →
      (∃ t, exec (.dmbRd c j o .ok) s = .next t ∧ frame t ∧ (t.b.clu c.toNat).dmb = x.dmb ∧ (t.b.clu c.toNat).dmbDue = x.dmbDue ∧
        (t.b.clu c.toNat).rets = x.rets ++ [⟨false, j.toNat, 0, x.pmapFld o.map.toNat 23 9, wd,
          BitVec.ofNat 72 ((x.dmbRow o.unit.toNat q.1).toNat / 2 ^ q.2 % 2 ^ wd), 2⟩]) ∧
      (∃ t u, exec (.dmbRd c j o .corr) s = .next t ∧ exec (.dmbRd c j o .ok) s = .next u ∧ t.b.clus = u.b.clus ∧
        t.b.fld (r1 .CLU_MEM_ECC c.toNat) F.CLU_MEM_ECC_DMB_CORR =
          min (s.b.fld (r1 .CLU_MEM_ECC c.toNat) F.CLU_MEM_ECC_DMB_CORR + 1) (2 ^ F.CLU_MEM_ECC_DMB_CORR.len - 1) ∧
        t.b.reg (r0 .FLT_CORR) = s.b.reg (r0 .FLT_CORR) + 1 ∧ s.b.regsKept t.b [.CLU_MEM_ECC, .FLT_CORR, .FLT_STATUS, .EVT_PENDw] ∧
        t.b.parts = s.b.parts ∧ s.b.sameMem t.b) ∧
      (∃ t, exec (.dmbRd c j o .due) s = .next t ∧ frame t ∧ (t.b.clu c.toNat).dmb = x.dmb ∧ (t.b.clu c.toNat).rets = x.rets ∧
        (t.b.clu c.toNat).dmbDue = x.dmbDue ++ [(false, j.toNat)])) ∧
    (∀ data, s.b.opReserved p c.toNat 1 o = false → x.gatherData o.map.toNat wd = some data →
      (∀ e, e = .due → k ≠ 6 → ∃ t, exec (.dmbWr c j o e) s = .next t ∧ frame t ∧ (t.b.clu c.toNat).dmb = x.dmb ∧ (t.b.clu c.toNat).rets = x.rets ∧
        (t.b.clu c.toNat).dmbDue = x.dmbDue ++ [(false, j.toNat)]) ∧
      ∀ e, e ≠ .due ∨ k = 6 → ∃ t, exec (.dmbWr c j o e) s = .next t ∧ (e ≠ .corr → frame t) ∧ (t.b.clu c.toNat).rets = x.rets ∧
        (t.b.clu c.toNat).dmbDue = x.dmbDue ∧ (∀ d, d ≠ c.toNat → t.b.clu d = s.b.clu d) ∧ s.b.sameMem t.b ∧
        (∀ n < 72, ((t.b.clu c.toNat).dmbRow o.unit.toNat q.1).getLsbD n =
          if q.2 ≤ n ∧ n < q.2 + wd then data.testBit (n - q.2) else (x.dmbRow o.unit.toNat q.1).getLsbD n) ∧
        (∀ i, i ≠ o.unit.toNat * 1024 + q.1 → NMap.get 0 (t.b.clu c.toNat).dmb i = NMap.get 0 x.dmb i))) ∧
  (∀ (s : State) (c : ClusterId) (j : BitVec 3) (o : OpArgs) (p : Nat) (i : Instr) (kind : Nat) (e : Ecc),
    let x := s.b.clu c.toNat
    let m := o.map.toNat
    let k := s.b.ratio c.toNat o.unit.toNat
    let noIdx := (x.gather m 0 (if kind < 2 then ratioAddr k else x.pmapFld m 10 6)).isNone
    let noData := (decide (kind = 1) && (x.gatherData m (ratioWidth k)).isNone) || (decide (3 ≤ kind) && (x.gatherData m (x.pmapFld m 16 7)).isNone)
    let info := r1 .CLU_MEM_FAULT_INFO c.toNat
    (i, kind) ∈ [(Instr.dmbRd c j o e, 0), (.dmbWr c j o e, 1), (.fmpRd c j o, 2), (.fmpWr c j o, 3), (.fmpMsg c j o, 4)] →
    s.b.inDc c.toNat = some p → s.b.opReserved p c.toNat kind o = true ∨ noIdx = true ∨ noData = true →
    let code := if s.b.opReserved p c.toNat kind o then 1 else 3
    ∃ t, exec i s = .next t ∧
      (∀ n < 32, (t.b.reg (r1 .CLU_MEM_FAULT c.toNat)).getLsbD n = ((s.b.reg (r1 .CLU_MEM_FAULT c.toNat)).getLsbD n || decide (n = code))) ∧
      (s.b.bit info F.CLU_MEM_FAULT_INFO_VALID = false → (s.b.part p).step < 2048 → t.b.bit info F.CLU_MEM_FAULT_INFO_VALID = true ∧
        t.b.fld info F.CLU_MEM_FAULT_INFO_CODE = code ∧ t.b.fld info F.CLU_MEM_FAULT_INFO_FIELD = j.toNat ∧
        t.b.fld info F.CLU_MEM_FAULT_INFO_STEP = (s.b.part p).step ∧ t.b.bit info F.CLU_MEM_FAULT_INFO_WAIT = false) ∧
      (t.b.clu c.toNat).dmb = x.dmb ∧ (t.b.clu c.toNat).rets = x.rets ∧ (t.b.clu c.toNat).fmp = x.fmp ∧ (t.b.clu c.toNat).deferred = x.deferred ∧
      t.b.tdu = s.b.tdu ∧ (t.b.part p).state = .stoppedFault ∧ (t.b.part p).inconsistent = true ∧ (t.b.part p).step = (s.b.part p).step ∧
      (∀ d, d ≠ c.toNat → t.b.clu d = s.b.clu d) ∧ s.b.sameMem t.b) ∧
  (∀ (s : State) (c : ClusterId),
    let x := s.b.clu c.toNat
    let l := x.deferred
    let first := fun (i : Nat) => (l.take i).all (fun q => (l[i]?).all (fun o => decide (q.port ≠ o.port)))
    let firsts := (List.range l.length).filterMap (fun i => if first i then l[i]? else none)
    (x.defRun = false → s.b.cluState c.toNat = .running → exec (.deferredPortOp c) s = .next s) ∧
    (x.defRun = true ∨ s.b.cluState c.toNat ≠ .running → ∃ t, exec (.deferredPortOp c) s = .next t ∧ (t.b.clu c.toNat).defRun = false ∧
      (t.b.clu c.toNat).deferred = (List.range l.length).filterMap (fun i => if first i then none else l[i]?) ∧
      (t.b.clu c.toNat).rets = x.rets ++ firsts.filterMap (fun o => match o.act with | .read r => some { r with left := 1 } | _ => none) ∧
      (∀ n, (t.b.clu c.toNat).fmpQ n = x.fmpQ n ++ firsts.filterMap (fun o => match o.act with | .fmp m e _ _ _ => if m = n then some e else none | _ => none)) ∧
      (∀ d row, d * 1024 + row ∉ firsts.filterMap (fun o => match o.act with | .write d' row' _ _ => some (d' * 1024 + row') | _ => none) →
        (t.b.clu c.toNat).dmbRow d row = x.dmbRow d row) ∧
      (∀ o d row mask data, firsts.filter (fun q => match q.act with | .write d' row' _ _ => decide (d' * 1024 + row' = d * 1024 + row) | _ => false) = [o] →
        o.act = .write d row mask data → (t.b.clu c.toNat).dmbRow d row = (x.dmbRow d row &&& ~~~mask) ||| (data &&& mask)) ∧
      t.b.regs = s.b.regs ∧ t.b.parts = s.b.parts ∧ (∀ d, d ≠ c.toNat → t.b.clu d = s.b.clu d) ∧ s.b.sameMem t.b))

/-- When memory returns are due at a cluster, DMB_READ_RETURN (one of them a DMB read) or WAIT_COMPLETE (one the return of that WAIT) latches what is due there: a lane takes the data bit of the highest-ranked return that covers it, from the return's first lane on, modulo 512, else the bit that a route brings, else keeps its value, and what was due is gone (R123, R132, R139, R159). When they conflict, LANE_MEM is recorded for the return that R132 names, and the partition stops (R132, R155). With no such return due nothing changes. ROUTE_LATCH, in a partition with no memory return due, gives every lane with a bit due that bit's value, leaves every other lane as it was, and removes the bits due (R159). No memory byte and no value store changes. -/
def Obligations.LanesLatchWhatIsDue : Prop :=
  (∀ (s : State) (c : ClusterId) (p : Nat) (b : BpNo) (q : BitVec 4) (i : Instr),
    let rs := (s.b.clu c.toNat).retsDue
    let info := r1 .CLU_MEM_FAULT_INFO c.toNat
    let bits := (s.b.part p).bits.filter (fun e => decide (e.c = c.toNat ∧ e.left = 0))
    let taker := fun (n : Nat) => rs.find? (fun r => decide ((n + 512 - r.base % 512) % 512 < r.width))
    s.b.cluPart c.toNat = some p → (∀ r ∈ rs, r.width ≤ 72) →
    (∀ e ∈ bits, e.lane < 512 ∧ ∀ u ∈ bits, e.lane = u.lane → e.v = u.v) →
    (i = .dmbReadReturn c ∧ ∃ r ∈ rs, r.wait = false) ∨ (i = .waitComplete c b q ∧ ∃ r ∈ rs, r.wait = true ∧ r.rank = q.toNat ∧ r.bp = b.toNat) →
    let taken := fun (t : State) => (t.b.clu c.toNat).rets = (s.b.clu c.toNat).rets.filter (fun e => decide (e.left ≠ 0)) ∧
      (t.b.part p).bits = (s.b.part p).bits.filter (fun e => !decide (e.c = c.toNat ∧ e.left = 0)) ∧
      (∀ n < 512, (∀ r, taker n = some r → t.b.lane c.toNat n = r.data.getLsbD ((n + 512 - r.base % 512) % 512)) ∧
        (taker n = none → (∀ e ∈ bits, e.lane = n → t.b.lane c.toNat n = e.v) ∧ ((∀ e ∈ bits, e.lane ≠ n) → t.b.lane c.toNat n = s.b.lane c.toNat n))) ∧
      (t.b.clu c.toNat).vs = (s.b.clu c.toNat).vs ∧ s.b.sameMem t.b
    (laneConflict (s.b.part p) c.toNat bits rs = none → ∃ t, exec i s = .next t ∧ taken t ∧
      (t.b.part p).state = (s.b.part p).state ∧ s.b.regsKept t.b [.CLU_LANE_LATCHn]) ∧
    (∀ r, laneConflict (s.b.part p) c.toNat bits rs = some r → (s.b.part p).state = .running → s.b.hosts p = true → ∃ t, exec i s = .next t ∧ taken t ∧
      (∀ n < 32, (t.b.reg (r1 .CLU_MEM_FAULT c.toNat)).getLsbD n = ((s.b.reg (r1 .CLU_MEM_FAULT c.toNat)).getLsbD n || decide (n = 8))) ∧
      (s.b.bit info F.CLU_MEM_FAULT_INFO_VALID = false → (s.b.part p).last < 2048 → t.b.bit info F.CLU_MEM_FAULT_INFO_VALID = true ∧
        (r.bp < 128 → r.rank < 8 → t.b.fld info F.CLU_MEM_FAULT_INFO_CODE = 8 ∧ t.b.bit info F.CLU_MEM_FAULT_INFO_WAIT = r.wait)) ∧
      (t.b.part p).state = .stoppedFault ∧ (t.b.part p).inconsistent = true)) ∧
  (∀ (s : State) (c : ClusterId) (b : BpNo) (q : BitVec 4),
    ((∀ r ∈ (s.b.clu c.toNat).rets, r.left = 0 → r.wait = true) → exec (.dmbReadReturn c) s = .next s) ∧
    ((∀ r ∈ (s.b.clu c.toNat).rets, r.left = 0 → r.wait = true → r.rank = q.toNat → r.bp ≠ b.toNat) → exec (.waitComplete c b q) s = .next s)) ∧
  (∀ (s : State) (p : PartNo),
    (∀ c ∈ (s.b.part p.toNat).clusters, (s.b.clu c).retsDue = []) →
    (∀ t ∈ (s.b.part p.toNat).bits, ∀ u ∈ (s.b.part p.toNat).bits, t.left = 0 → u.left = 0 → t.c = u.c → t.lane = u.lane → t.v = u.v) →
    ∃ t, exec (.routeLatch p) s = .next t ∧
      (∀ c ∈ (s.b.part p.toNat).clusters, ∀ n < 512,
        (∀ e ∈ (s.b.part p.toNat).bits, e.c = c → e.lane = n → e.left = 0 → t.b.lane c n = e.v) ∧
        ((∀ e ∈ (s.b.part p.toNat).bits, e.c = c → e.left = 0 → e.lane ≠ n) → (∀ e ∈ (s.b.part p.toNat).bits, e.lane < 512) → t.b.lane c n = s.b.lane c n)) ∧
      (t.b.part p.toNat).bits = (s.b.part p.toNat).bits.filter (fun e => decide (¬(e.left = 0 ∧ e.c ∈ (s.b.part p.toNat).clusters))) ∧
      (t.b.part p.toNat).state = (s.b.part p.toNat).state ∧ s.b.regsKept t.b [.CLU_LANE_LATCHn] ∧ s.b.sameMem t.b)

/-- In a cluster whose partition is within a DC, for a field that meets no condition of R129 and no reserved selector: when the FMP has fewer than 64 reserved entries, one entry is added behind them with the class, the width, the first lane, the address of R141 and R142 and the data, and far memory is as before; FMP_MSG also puts one fragment with CHAN of the port map, the tag and the operand in the TDU's queue (R135, R320). When 64 entries are reserved, the command records QUEUE_FULL, reserves nothing, and the partition stops (R136, R155). -/
def Obligations.FarMemoryRequests : Prop :=
  ∀ (s : State) (c : ClusterId) (j : BitVec 3) (o : OpArgs) (p : Nat) (i : Instr) (kind : Nat) (idx : List Bool) (data : Nat),
    let x := s.b.clu c.toNat
    let m := o.map.toNat
    let n := o.unit.toNat % 4
    let dw := x.pmapFld m 16 7
    let a := s.b.farAddr c.toNat (x.pmapFld m 6 4) dw (bitsNat idx)
    let e : FmpEnt := { num := x.nextReq, cls := decide (kind = 4), kind := kind - 2, dw := dw, base := x.pmapFld m 23 9, stack := a.1, addr := a.2,
                        data := BitVec.ofNat 72 data }
    (i, kind) ∈ [(Instr.fmpRd c j o, 2), (Instr.fmpWr c j o, 3), (Instr.fmpMsg c j o, 4)] →
    s.b.inDc c.toNat = some p → s.b.opReserved p c.toNat kind o = false → x.gather m 0 (x.pmapFld m 10 6) = some idx →
    (if kind = 2 then some 0 else x.gatherData m dw) = some data →
    ((x.fmpQ n).length < 64 →
      ∃ t, exec i s = .next t ∧ (t.b.clu c.toNat).fmpQ n = x.fmpQ n ++ [e] ∧ (∀ k, k ≠ n → (t.b.clu c.toNat).fmpQ k = x.fmpQ k) ∧
        (kind = 4 → t.b.tdu.queue = s.b.tdu.queue ++ [(s.b.pw.ctl, ⟨.design c.toNat n x.nextReq, x.pmapFld m 38 10, bitsNat idx % 65536, bitsNat idx / 65536 % 4, e.data.setWidth 64⟩)]) ∧
        (kind ≠ 4 → t.b.tdu = s.b.tdu) ∧ t.b.regs = s.b.regs ∧ t.b.parts = s.b.parts ∧ (∀ d, d ≠ c.toNat → t.b.clu d = s.b.clu d) ∧ s.b.sameMem t.b) ∧
    (64 ≤ (x.fmpQ n).length →
      ∃ t, exec i s = .next t ∧ (t.b.clu c.toNat).fmpQ n = x.fmpQ n ∧ (t.b.reg (r1 .CLU_MEM_FAULT c.toNat)).getLsbD 5 = true ∧
        (t.b.part p).state = .stoppedFault ∧ (t.b.part p).inconsistent = true ∧ s.b.sameMem t.b)

/-- The response of the oldest class-0 request without one, when no earlier request to its line is pending, no RETRY holds it (R380) and its packet was not dropped (R381), whatever is found in its line: a read carries the bytes of far memory at its address and changes no byte, with its error mark when a word that it touches is found uncorrectable or is known to be (R145, R149); a write stores its data, least significant byte first, in the 8 or 16 bytes from its address and changes no other byte (R138, R141, R144). The response of the oldest class-1 request carries the TDU's reply once that is on its way, and nothing else changes; a request whose packet was dropped gets none. WAIT on a configured queue leaves everything of the cluster as it is while the oldest response is absent; when it is present and neither an error nor an acknowledgement, it takes the entry and its data are due on the lanes; an acknowledgement is taken and brings nothing; a response with an error is taken, records FAR_DUE and is logged at level P with class 0x08, and a WAIT on a queue with no reserved entry records WAIT_EMPTY: both stop the partition (R56, R139, R155). A refresh counts at most as many delayed responses as wait for its stack, at cluster FMPs, in the DMA engine and in the TDU, without having been counted, and draws one free value for each (R151, R551, log entry 20); no request changes but for that mark. FLUSH marks a cache that does not belong to a running partition busy, and has no effect on one that does; FLUSH_COMPLETE leaves no line modified (R150). -/
def Obligations.FarMemoryResponses : Prop :=
  (∀ (s : State) (c : ClusterId) (n : FmpNo) (e : FmpEnt),
    (s.b.clu c.toNat).awaited n.toNat false = some e → e.acted = false → (s.b.clu c.toNat).earlier e = [] → e.kind ≤ 1 → e.lost = false →
    s.b.noc.fmpRetry.find (c.toNat * 4096 + e.num % 4096) = none → ∀ found : List (BitVec 3 × Ecc),
    ∃ t, exec (.fmpResponseArrival c n false found) s = .next t ∧ (∃ f ∈ (t.b.clu c.toNat).fmpQ n.toNat, f.num = e.num ∧ f.present = true) ∧
      (e.kind = 0 → s.b.sameMem t.b ∧ ∀ f ∈ (t.b.clu c.toNat).fmpQ n.toNat, f.num = e.num →
        f.data = BitVec.ofNat 72 (s.b.farRead e.stack e.addr (strideOf e.dw) % 2 ^ e.dw) ∧
        (found = [] → f.err = s.b.farPoisoned e.stack e.addr (ceilDiv e.dw 8)) ∧
        (∀ i, (i, Ecc.due) ∈ found → e.stack * 2 ^ 32 + e.addr / 64 * 8 + i.toNat ∈ touchedWords e.stack e.addr (ceilDiv e.dw 8) → f.err = true)) ∧
      (e.kind = 1 → (∀ i < strideOf e.dw, NMap.get 0 t.b.far (farKey e.stack (e.addr + i)) = BitVec.ofNat 8 (e.data.toNat % 2 ^ e.dw / 256 ^ i)) ∧
        (∀ a, (∀ i < strideOf e.dw, a ≠ farKey e.stack (e.addr + i)) → NMap.get 0 t.b.far a = NMap.get 0 s.b.far a)) ∧
      t.b.parts = s.b.parts ∧ (found = [] → s.b.regsKept t.b [.CLU_FMC_HIT, .CLU_FMC_MISS])) ∧
  (∀ (s : State) (c : ClusterId) (n : FmpNo) (e : FmpEnt) (cls : Bool) (found : List (BitVec 3 × Ecc)),
    (s.b.clu c.toNat).awaited n.toNat cls = some e →
    (e.lost = true ∨ (cls = true ∧ (s.b.clu c.toNat).replies.find e.num = none) → exec (.fmpResponseArrival c n cls found) s = .next s) ∧
    (∀ d, cls = true → e.lost = false → s.b.noc.fmpRetry.find (c.toNat * 4096 + e.num % 4096) = none →
      (s.b.clu c.toNat).replies.find e.num = some d →
      ∃ t, exec (.fmpResponseArrival c n true found) s = .next t ∧ t.b = { s.b with clus := t.b.clus } ∧ (∀ k, k ≠ c.toNat → t.b.clu k = s.b.clu k) ∧
        (t.b.clu c.toNat).fmpQ n.toNat = ((s.b.clu c.toNat).fmpQ n.toNat).map (fun g => if g.num = e.num then { g with present := true, data := d } else g) ∧
        (t.b.clu c.toNat).replies.find e.num = none)) ∧
  (∀ (s : State) (c : ClusterId) (k : BpNo) (w : BpArgs) (p : Nat) (e : FmpEnt),
    let q := w.a.toNat % 16
    s.b.inDc c.toNat = some p → w.flg = 0 → (s.b.part p).step + 1 ≠ (s.b.part p).len → s.b.queueOk p c.toNat q = true → (s.b.clu c.toNat).oldest q = some e →
    (e.present = false → ∃ t, exec (.wait c k w) s = .next t ∧ (∀ d, t.b.clu d = s.b.clu d) ∧ { t.b with clus := s.b.clus } = s.b) ∧
    (e.present = true → e.err = false → e.ack = false → ∃ t, exec (.wait c k w) s = .next t ∧
      (t.b.clu c.toNat).fmpQ (q % 4) = ((s.b.clu c.toNat).fmpQ (q % 4)).filter (fun f => decide (f.num ≠ e.num)) ∧
      (t.b.clu c.toNat).rets = (s.b.clu c.toNat).rets ++ [⟨true, q, k.toNat, e.base, e.dw, e.data, 0⟩] ∧
      (t.b.clu c.toNat).latch = (s.b.clu c.toNat).latch ∧ t.b.regs = s.b.regs ∧ s.b.sameMem t.b) ∧
    (e.present = true → e.err = false → e.ack = true → ∃ t, exec (.wait c k w) s = .next t ∧
      (t.b.clu c.toNat).fmpQ (q % 4) = ((s.b.clu c.toNat).fmpQ (q % 4)).filter (fun f => decide (f.num ≠ e.num)) ∧
      (t.b.clu c.toNat).rets = (s.b.clu c.toNat).rets ∧ t.b.regs = s.b.regs ∧ t.b.parts = s.b.parts ∧ s.b.sameMem t.b) ∧
    (e.present = true → e.err = true → ∃ t, exec (.wait c k w) s = .next t ∧
      (t.b.clu c.toNat).fmpQ (q % 4) = ((s.b.clu c.toNat).fmpQ (q % 4)).filter (fun f => decide (f.num ≠ e.num)) ∧
      (t.b.clu c.toNat).rets = (s.b.clu c.toNat).rets ∧ (t.b.reg (r1 .CLU_MEM_FAULT c.toNat)).getLsbD 7 = true ∧
      s.b.logged t.b 1 8 (unitOf c.toNat (q % 4)) p ∧ (t.b.part p).state = .stoppedFault ∧ (t.b.part p).inconsistent = true ∧ s.b.sameMem t.b)) ∧
  (∀ (s : State) (c : ClusterId) (k : BpNo) (w : BpArgs) (p : Nat),
    let q := w.a.toNat % 16
    let info := r1 .CLU_MEM_FAULT_INFO c.toNat
    s.b.inDc c.toNat = some p → w.flg = 0 → (s.b.part p).step + 1 ≠ (s.b.part p).len → s.b.queueOk p c.toNat q = true → (s.b.clu c.toNat).oldest q = none →
    ∃ t, exec (.wait c k w) s = .next t ∧ (t.b.reg (r1 .CLU_MEM_FAULT c.toNat)).getLsbD 6 = true ∧
      (s.b.bit info F.CLU_MEM_FAULT_INFO_VALID = false → (s.b.part p).step < 2048 → t.b.bit info F.CLU_MEM_FAULT_INFO_VALID = true ∧
        t.b.fld info F.CLU_MEM_FAULT_INFO_CODE = 6 ∧ t.b.bit info F.CLU_MEM_FAULT_INFO_WAIT = true ∧ t.b.fld info F.CLU_MEM_FAULT_INFO_BP = k.toNat ∧
        t.b.fld info F.CLU_MEM_FAULT_INFO_STEP = (s.b.part p).step) ∧
      (∀ d, t.b.clu d = s.b.clu d) ∧ (t.b.part p).state = .stoppedFault ∧ (t.b.part p).inconsistent = true ∧ s.b.sameMem t.b) ∧
  (∀ (s : State) (k : BitVec 2),
    let waits : Nat := ((s.b.clus.flatMap (fun e => (List.range 4).flatMap (fun n => (e.2.fmpQ n).filter
        (fun f => decide (f.cls = false ∧ f.present = false ∧ f.stack = k.toNat ∧ f.late = false))))).length +
      (s.b.noc.sent.filter (fun q => decide (q.space = 1 ∧ q.addr / 2 ^ 35 = k.toNat ∧ q.late = false))).length +
      (s.b.tdu.reads.filter (fun f => s.b.readIn k.toNat f && decide (f ∉ s.b.tdu.late))).length : Nat)
    ∃ t d, exec (.dramRefresh k) s = .next t ∧ d ≤ waits ∧
      t.b.fld (r1 .FMC_STATUSs k.toNat) F.FMC_STATUSs_REFDLY =
        min (s.b.fld (r1 .FMC_STATUSs k.toNat) F.FMC_STATUSs_REFDLY + d) (2 ^ F.FMC_STATUSs_REFDLY.len - 1) ∧
      t.b.drawn = s.b.drawn + waits ∧ s.b.regsKept t.b [.FMC_STATUSs] ∧
      (∀ c n, ((t.b.clu c).fmpQ n).map (fun f => { f with late := false }) = ((s.b.clu c).fmpQ n).map (fun f => { f with late := false })) ∧
      (∀ c, (t.b.clu c).vs = (s.b.clu c).vs ∧ (t.b.clu c).rets = (s.b.clu c).rets) ∧ t.b.parts = s.b.parts ∧ s.b.sameMem t.b) ∧
  (∀ (s : State) (r : Requester) (c : ClusterId),
    s.b.reaches r (r1 .CLU_FMC_CTRL c.toNat) = true → s.b.roleOk r (r1 .CLU_FMC_CTRL c.toNat) = true →
    ∃ t, exec (.flush r c) s = .next t ∧ s.b.onlyRegs t.b [r1 .CLU_FMC_CTRL c.toNat] ∧
      t.b.bit (r1 .CLU_FMC_CTRL c.toNat) F.CLU_FMC_CTRL_FLUSH_BUSY =
        (decide (s.b.cluState c.toNat ≠ .running) || s.b.bit (r1 .CLU_FMC_CTRL c.toNat) F.CLU_FMC_CTRL_FLUSH_BUSY)) ∧
  (∀ (s : State) (c : ClusterId), s.b.bit (r1 .CLU_FMC_CTRL c.toNat) F.CLU_FMC_CTRL_FLUSH_BUSY = true →
    ∃ t, exec (.flushComplete c) s = .next t ∧ t.b.bit (r1 .CLU_FMC_CTRL c.toNat) F.CLU_FMC_CTRL_FLUSH_BUSY = false ∧
      (∀ k l, l ∈ NMap.get [] (t.b.clu c.toNat).cache k → l.st ≠ 2) ∧ (∀ d, d ≠ c.toNat → t.b.clu d = s.b.clu d) ∧ s.b.sameMem t.b)

/-- For a requester that reaches the register and holds the role: a write of CLU_SP_CTRL leaves the settings in the register and sets CTRL_PENDING (R78); while the partition is not RUNNING a pending write takes effect with MODE_EFF following (R78). A select-list entry changes only while the mode in effect is OFF and no write is pending (R70). A word of a load buffer changes only while the buffer is not full, in its bits that are not reserved; a write to a full one sets OVERRUN and SP_OVERRUN and nothing else (R71, R77). A write beyond the 65 words of a buffer has no effect (log entry 104). FULL_LOAD and FREE_UNLOAD set and clear the buffer's flag (R77). -/
def Obligations.StatePortSettingsAndBuffers : Prop :=
  (∀ (s : State) (r : Requester) (c : ClusterId) (v : Word),
    s.b.reaches r (r1 .CLU_SP_CTRL c.toNat) = true → s.b.roleOk r (r1 .CLU_SP_CTRL c.toNat) = true →
    ∃ t, exec (.cluSpCtrlWrite r c v) s = .next t ∧ s.b.onlyRegs t.b [r1 .CLU_SP_CTRL c.toNat, r1 .CLU_SP_STATUS c.toNat] ∧
      t.b.reg (r1 .CLU_SP_CTRL c.toNat) = v &&& 0x3000DFFF#32 ∧ t.b.bit (r1 .CLU_SP_STATUS c.toNat) F.CLU_SP_STATUS_CTRL_PENDING = true) ∧
  (∀ (s : State) (c : ClusterId), s.b.cluState c.toNat ≠ .running → s.b.bit (r1 .CLU_SP_STATUS c.toNat) F.CLU_SP_STATUS_CTRL_PENDING = true →
    ∃ t, exec (.spCtrlTakeEffect c) s = .next t ∧ (t.b.clu c.toNat).sp.eff = s.b.reg (r1 .CLU_SP_CTRL c.toNat) ∧
      t.b.bit (r1 .CLU_SP_STATUS c.toNat) F.CLU_SP_STATUS_CTRL_PENDING = false ∧
      t.b.fld (r1 .CLU_SP_STATUS c.toNat) F.CLU_SP_STATUS_MODE_EFF = s.b.fld (r1 .CLU_SP_CTRL c.toNat) F.CLU_SP_CTRL_MODE ∧
      s.b.regsKept t.b [.CLU_SP_STATUS] ∧ (t.b.clu c.toNat).vs = (s.b.clu c.toNat).vs ∧ s.b.sameMem t.b) ∧
  (∀ (s : State) (r : Requester) (c : ClusterId) (j : BitVec 12) (v : Word) (buf : Bool) (w : BitVec 8),
    s.b.reaches r (r1 .CLU_SP_CTRL c.toNat) = true → s.b.designOk r (r1 .CLU_SP_CTRL c.toNat) = true →
    (∃ t, exec (.selectListWrite r c j v) s = .next t ∧ t.b = { s.b with clus := t.b.clus } ∧ (∀ d, d ≠ c.toNat → t.b.clu d = s.b.clu d) ∧
      (∀ i : BitVec 12, NMap.get 0 (t.b.clu c.toNat).sp.sel i.toNat =
        if i = j ∧ (s.b.clu c.toNat).sp.mode = 0 ∧ s.b.bit (r1 .CLU_SP_STATUS c.toNat) F.CLU_SP_STATUS_CTRL_PENDING = false then v &&& 0xC007FFFF#32
        else NMap.get 0 (s.b.clu c.toNat).sp.sel i.toNat)) ∧
    (s.b.bit (r1 .CLU_SP_STATUS c.toNat) (loadFull buf) = true → w.toNat < 130 → ∃ t, exec (.loadBufferWrite r c buf w v) s = .next t ∧
      s.b.onlyRegs t.b [r1 .CLU_SP_STATUS c.toNat, r1 .CLU_FAULT c.toNat] ∧ t.b.bit (r1 .CLU_SP_STATUS c.toNat) F.CLU_SP_STATUS_OVERRUN = true ∧
      t.b.bit (r1 .CLU_FAULT c.toNat) F.CLU_FAULT_SP_OVERRUN = true) ∧
    (s.b.bit (r1 .CLU_SP_STATUS c.toNat) (loadFull buf) = false → w.toNat < 130 → ∃ t, exec (.loadBufferWrite r c buf w v) s = .next t ∧
      t.b = { s.b with clus := t.b.clus } ∧ (∀ d, d ≠ c.toNat → t.b.clu d = s.b.clu d) ∧
      (∀ i, i ≠ buf.toNat * 65 + w.toNat / 2 → NMap.get 0 (t.b.clu c.toNat).sp.buf i = NMap.get 0 (s.b.clu c.toNat).sp.buf i) ∧
      (NMap.get 0 (t.b.clu c.toNat).sp.buf (buf.toNat * 65 + w.toNat / 2)).extractLsb' (32 * (w.toNat % 2)) 32 = v &&& loadMask w.toNat) ∧
    (130 ≤ w.toNat → exec (.loadBufferWrite r c buf w v) s = .next s)) ∧
  (∀ (s : State) (r : Requester) (c : ClusterId) (buf : Bool),
    s.b.reaches r (r1 .CLU_SP_HANDOFF c.toNat) = true → s.b.roleOk r (r1 .CLU_SP_HANDOFF c.toNat) = true →
    (∃ t, exec (.fullLoad r c buf) s = .next t ∧ s.b.onlyRegs t.b [r1 .CLU_SP_STATUS c.toNat] ∧ t.b.bit (r1 .CLU_SP_STATUS c.toNat) (loadFull buf) = true ∧
      t.b.bit (r1 .CLU_SP_STATUS c.toNat) (loadFull !buf) = s.b.bit (r1 .CLU_SP_STATUS c.toNat) (loadFull !buf)) ∧
    (∃ t, exec (.freeUnload r c buf) s = .next t ∧ s.b.onlyRegs t.b [r1 .CLU_SP_STATUS c.toNat] ∧ t.b.bit (r1 .CLU_SP_STATUS c.toNat) (unloadFull buf) = false ∧
      t.b.bit (r1 .CLU_SP_STATUS c.toNat) (unloadFull !buf) = s.b.bit (r1 .CLU_SP_STATUS c.toNat) (unloadFull !buf)))

/-- When a transfer is due and its buffers are ready in a running partition: bit j of the unload buffer in turn is the value that the state bit of entry j had before any load, for entries whose effective direction unloads and which name a state bit, and 0 for every other j; a state bit that an entry loads, and no later entry loads, takes bit j of the load buffer in turn; every value-store entry that no entry loads is unchanged; SP_LOADED, SP_UNLOADED and the tag follow (R68, R69, R71, R72, R75). While the buffers are not ready nothing changes (R73). Both where no DC waits to be handed to trace, which the end of the last transfer does (R33). -/
def Obligations.StatePortTransfersStateBits : Prop :=
  ∀ (s : State) (c : ClusterId) (p : Nat),
    let x := s.b.clu c.toNat
    let w := x.sp.eff
    let n := (s.b.spNext c.toNat).toNat
    let sel := fun j => (NMap.get 0 x.sp.sel j : Word)
    let bp := fun j => (sel j).toNat / 4096 % 128
    let ad := fun j => (sel j).toNat % 4096
    let loads := fun j => decide (j < spCount w) && (sel j).getLsbD 30 && w.getLsbD 15 && x.isState (bp j) (ad j)
    let unloads := fun j => decide (j < spCount w) && (sel j).getLsbD 31 && w.getLsbD 14 && x.isState (bp j) (ad j)
    s.b.cluPart c.toNat = some p → (s.b.part p).state = .running →
    (x.sp.due = true → s.b.spReady c.toNat w = false → (s.b.part p).stopAfter = false → (s.b.part p).hand = none → exec (.statePortTransfer c) s = .next s) ∧
    (x.sp.due = true → s.b.spReady c.toNat w = true →
      ∃ t, exec (.statePortTransfer c) s = .next t ∧ (t.b.clu c.toNat).sp.due = false ∧
        (t.b.clu c.toNat).sp.loaded = w.getLsbD 15 ∧ (t.b.clu c.toNat).sp.unloaded = w.getLsbD 14 ∧
        (w.getLsbD 15 = true → (t.b.clu c.toNat).sp.tag = (NMap.get 0 x.sp.buf (n * 65)).setWidth 16) ∧
        (w.getLsbD 14 = true → ∀ j < 4096, (NMap.get 0 (t.b.clu c.toNat).sp.buf ((2 + n) * 65 + 1 + j / 64)).getLsbD (j % 64) =
          (unloads j && x.value (bp j) (ad j))) ∧
        (∀ j, loads j = true → (∀ i, j < i → loads i = true → (bp i, ad i) ≠ (bp j, ad j)) →
          (t.b.clu c.toNat).value (bp j) (ad j) = (NMap.get 0 x.sp.buf (n * 65 + 1 + j / 64)).getLsbD (j % 64)) ∧
        (∀ b a, a < 4096 → (∀ j, loads j = true → (bp j, ad j) ≠ (b, a)) → (t.b.clu c.toNat).value b a = x.value b a) ∧
        ((s.b.part p).hand = none → (∀ d, d ≠ c.toNat → t.b.clu d = s.b.clu d) ∧ s.b.sameMem t.b))

/-- When what stands out of the last step has taken place, the partition runs within a DC, no interlock holds, no check finds anything, no step break is due and nothing faults, SCHEDULE_STEP answers a next state in which every evaluating BP of the hosted clusters has the result of its word, read at the start of the step, in its latch, for EVAL and END in entry DST, for EVALQ and EVALS in the next value, for TRIG, where 1, in trigger input DST; SEND and EVALS put one bit into the network per on-die destination of the route, with its latency; every other entry, next value, latch and trigger input is unchanged (R2, R40, R43, R47, R49, R52, R53, R55, R57). Every WE has issued the word at its WPC, in flight, and with no loop active WPC is one more (R91, R106). A cluster whose slot entry has one operation, in a step without WAIT, has done it as that command does; with none its DMBs are unchanged (R128). The step index is one more, or at step L - 1 the Equinox is due; the DC stays (R32). On one outbound path each segment that the step completes, and that has not gone, joins its link's queue, one for each run of its slots, without LAST (R165). A faulting step stops the partition, inconsistent, with ABORTED (R84, R186); a step break stops it FROZEN and drained before the next step or at its Equinox, clears EN, sets HIT (R413); the steps counted from a resume are one fewer (R415). While an interlock holds, SCHEDULE_STEP only lets the outstanding take place; on a partition that does not run it changes nothing. A sentinel that agrees, or shadows NOP or WAIT, changes nothing; one that differs in result, write enable and address, or lane sets SENT_MISMATCH and fills an empty CLU_SENT_LOG; with ACTION 0 the cluster is suspect, with ACTION 1 the partition stops, inconsistent, and the latch stays (R79, R81). In self-check the stored result is compared (R80). weDest, weResult, weLatency, routeAt and selfResult are said by other statements, R53 and R80. -/
def Obligations.ScheduleStepExecutesEveryInstruction : Prop :=
  (∀ (s : State) (p : PartNo),
    let b := s.b.settle p.toNat
    let x := b.part p.toNat
    (s.b.runs p.toNat = false → ∀ fs, exec (.scheduleStep p fs) s = .next s) ∧
    (s.b.runs p.toNat = true → b.runs p.toNat = true → x.dcp = .run →
    (b.holds p.toNat ≠ [] → ∃ t, exec (.scheduleStep p []) s = .next t ∧ t.b = b) ∧
    (b.holds p.toNat = [] → (foldFaults x.clusters b (fun c y => y.stepClu b p.toNat [] c)).2 ≠ [] →
      ∃ t, exec (.scheduleStep p []) s = .next t ∧ (t.b.part p.toNat).state = .stoppedFault ∧ (t.b.part p.toNat).inconsistent = true ∧
        (t.b.part p.toNat).step = x.step ∧ (t.b.part p.toNat).dc = x.dc ∧ t.b.bit (r1 .PART_FRZ_STATUS p.toNat) F.PART_FRZ_STATUS_ABORTED = true) ∧
    (b.holds p.toNat = [] → b.breakHere p.toNat = true → (foldFaults x.clusters b (fun c y => y.stepClu b p.toNat [] c)).2 = [] →
      ∃ t, exec (.scheduleStep p []) s = .next t ∧ t.b.bit (r1 .TRG_SBRKp_CTRL p.toNat) F.TRG_SBRKp_CTRL_EN = false ∧
        t.b.bit (r1 .TRG_SBRKp_STATUS p.toNat) F.TRG_SBRKp_STATUS_HIT = true ∧ (t.b.part p.toNat).brkStop = true ∧ (t.b.part p.toNat).brkLeft = 0 ∧
        (t.b.part p.toNat).dc = x.dc ∧
        (x.step + 1 ≠ x.len → (t.b.part p.toNat).state = .frozen ∧ (t.b.part p.toNat).midDc = true ∧ (t.b.part p.toNat).step = x.step + 1 ∧
          t.b.bit (r1 .PART_FRZ_STATUS p.toNat) F.PART_FRZ_STATUS_FROZEN = true ∧ t.b.bit (r1 .PART_FRZ_STATUS p.toNat) F.PART_FRZ_STATUS_DRAINED = true) ∧
        (x.step + 1 = x.len → (t.b.part p.toNat).state = .running ∧ (t.b.part p.toNat).dcp = .eqx)) ∧
    (b.holds p.toNat = [] → b.breakHere p.toNat = false → x.clusters.Nodup →
      (foldFaults x.clusters b (fun c y => y.stepClu b p.toNat [] c)).2 = [] →
      ∃ t, exec (.scheduleStep p []) s = .next t ∧
        (∀ c ∈ x.clusters, ∀ k < 128,
          let w := (b.clu c).bpWord k x.step
          let a := (bpArgs w).dst.toNat
          let y := t.b.clu c
          (bpOpc w = 0 ∨ bpOpc w = 5 → y.latchOf k = (b.clu c).latchOf k ∧ (∀ e < 4096, y.value k e = (b.clu c).value k e ∧
            y.next.find (k * 4096 + e) = (b.clu c).next.find (k * 4096 + e))) ∧
          (∀ v, bpOpc w ≠ 0 → bpOpc w ≠ 5 → b.evalBp p.toNat c k (bpArgs w) = some v → y.latchOf k = v ∧
            (∀ e < 4096, y.value k e = if (bpOpc w = 1 ∨ bpOpc w = 7) ∧ e = a then v else (b.clu c).value k e) ∧
            (∀ e < 4096, y.next.find (k * 4096 + e) =
              if (bpOpc w = 2 ∧ e = a) ∨ (bpOpc w = 4 ∧ e = b.evalsAddr c (bpArgs w)) then some v else (b.clu c).next.find (k * 4096 + e)))) ∧
        (∀ c ∈ x.clusters, ∀ i < 8, (t.b.clu c).trigIn.getLsbD i = ((b.clu c).trigIn.getLsbD i || (List.range 128).any (fun k =>
          let w := (b.clu c).bpWord k x.step
          decide (bpOpc w = 6 ∧ (bpArgs w).dst.toNat = i ∧ b.evalBp p.toNat c k (bpArgs w) = some true)))) ∧
        (t.b.part p.toNat).bits = (x.bits ++ x.clusters.flatMap (fun c => (List.range 128).flatMap (fun k =>
          let w := (b.clu c).bpWord k x.step
          if bpOpc w = 3 ∨ bpOpc w = 4 then
            match x.routeAt c x.step ((bpArgs w).dst.toNat % 64) with
            | none => []
            | some r => r.dests.filterMap (fun d => match d with
              | .die c2 l lat => some (⟨c2, l, (b.evalBp p.toNat c k (bpArgs w)).getD false, lat⟩ : Bit)
              | .frame _ _ _ => none)
          else []))).map (fun e => { e with left := e.left - 1 }) ∧
        (∀ c ∈ x.clusters, (t.b.clu c).flight = ((b.clu c).flight ++ (List.range 4).filterMap (fun k =>
          let op := weOp (b.weWordAt c k)
          let w := weArgs (b.weWordAt c k)
          (weDest k op w).map (fun d => (⟨k, d, ((b.clu c).weResult k op w).1, weLatency op, ((b.clu c).weResult k op w).2.1,
            ((b.clu c).weResult k op w).2.2⟩ : Flight)))).map (fun f => { f with left := f.left - 1 })) ∧
        (∀ c ∈ x.clusters, ∀ k < 4, b.depth c k = 0 → weOp (b.weWordAt c k) ≠ 0x3E → t.b.wpc c k = (b.wpc c k + 1) % 2048) ∧
        (∀ c : ClusterId, c.toNat ∈ x.clusters → (∀ k < 128, bpOpc ((b.clu c.toNat).bpWord k x.step) ≠ 5) →
          let e := NMap.get 0 (b.clu c.toNat).slot x.step
          let y := t.b.clu c.toNat
          ((∀ i < 8, slotKind e i = none) → y.dmb = (b.clu c.toNat).dmb ∧ (∀ n < 4, y.fmpQ n = (b.clu c.toNat).fmpQ n)) ∧
          (∀ j : BitVec 3, (∀ i < 8, i ≠ j.toNat → slotKind e i = none) → b.inDc c.toNat = some p.toNat →
            let o := slotArgs e j.toNat
            ∀ i, (slotKind e j.toNat, i) ∈ [(some 0, Instr.dmbRd c j o .ok), (some 1, Instr.dmbWr c j o .ok), (some 2, Instr.fmpRd c j o),
                (some 3, Instr.fmpWr c j o), (some 4, Instr.fmpMsg c j o)] →
              ∃ u, exec i { s with b := b } = .next u ∧ y.dmb = (u.b.clu c.toNat).dmb ∧ (∀ n < 4, y.fmpQ n = (u.b.clu c.toNat).fmpQ n) ∧
                y.deferred = (u.b.clu c.toNat).deferred ∧ y.rets = (u.b.clu c.toNat).rets.map (fun r => { r with left := r.left - 1 }))) ∧
        (t.b.part p.toNat).state = .running ∧ (t.b.part p.toNat).dc = x.dc ∧ (t.b.part p.toNat).last = x.step ∧
        (t.b.part p.toNat).slipping = false ∧ (t.b.part p.toNat).brkLeft = x.brkLeft - 1 ∧
        (∀ (q : OutPath) (port : Nat) (vc : Bool), x.man.outs = [q] → x.step + 1 ≠ x.len → b.route (BitVec.ofNat 10 q.dev).toNat = some (port, vc) →
          port ≠ 16 → b.lnkState port = 5 ∨ b.lnkState port = 6 →
          let whole := fun (g : Nat) => decide ((x.segStep q g).getD 0 = x.step ∧ g ∉ x.emitted)
          (t.b.part p.toNat).emitted = x.emitted ++ q.segNums.filter whole ∧
          (t.b.link port).queue = (b.link port).queue ++ ((q.segNums.filter whole).flatMap (fun g => runsOf (q.slotsOf g))).map (fun e =>
            ({ cls := 1, vc := vc, flits := (Msg.seg ⟨b.devId, BitVec.ofNat 10 q.dev, p, BitVec.ofNat 8 q.path, x.dc.setWidth 32, BitVec.ofNat 16 e.1,
              BitVec.ofNat 11 e.2, false, (List.range e.2).map (fun j => NMap.get false (t.b.part p.toNat).outHeld (e.1 + j))⟩).flits vc } : TxMsg))) ∧
        (x.step + 1 ≠ x.len → (t.b.part p.toNat).step = x.step + 1 ∧ (t.b.part p.toNat).dcp = .run) ∧
        (x.step + 1 = x.len → (t.b.part p.toNat).step = x.step ∧ (t.b.part p.toNat).dcp = .eqx)))) ∧
  (∀ (s : State) (p : PartNo) (c : ClusterId) (res wen : Bool) (addr : BitVec 12) (lane : BitVec 6),
    let b := s.b.settle p.toNat
    let x := b.part p.toNat
    let q := b.clu c.toNat
    let i := Instr.scheduleStep p [.sentinel c res wen addr lane]
    s.b.runs p.toNat = true → b.runs p.toNat = true → x.dcp = .run → b.holds p.toNat = [] → b.breakHere p.toNat = false → x.clusters.Nodup →
    (foldFaults x.clusters b (fun d y => y.stepClu b p.toNat [] d)).2 = [] → c.toNat ∈ x.clusters →
    let log := r1 .CLU_SENT_LOG c.toNat
    let dcLog := r1 .CLU_SENT_LOG_DC c.toNat
    let miss := fun (self dst diff : Bool) (bp : Nat) => ∃ t u, exec i s = .next t ∧ exec (.scheduleStep p []) s = .next u ∧
      t.b.bit (r1 .CLU_FAULT c.toNat) F.CLU_FAULT_SENT_MISMATCH = true ∧
      (b.bit log F.CLU_SENT_LOG_VALID = true → t.b.reg log = b.reg log ∧ t.b.reg dcLog = b.reg dcLog) ∧
      (b.bit log F.CLU_SENT_LOG_VALID = false → t.b.reg dcLog = x.dc.setWidth 32 ∧ t.b.reg log = BitVec.ofNat 32 (2 ^ 31 + x.step * 2 ^ 20 + self.toNat * 2 ^ 11 +
        dst.toNat * 2 ^ 10 + diff.toNat * 2 ^ 9 + res.toNat * 2 ^ 8 + bp)) ∧
      (b.bit (r1 .CLU_SENT_CTRL c.toNat) F.CLU_SENT_CTRL_ACTION = false → (t.b.clu c.toNat).suspect = true ∧ (t.b.part p.toNat).state = .running ∧
        (t.b.part p.toNat).step = (u.b.part p.toNat).step ∧
        ∀ d, (t.b.clu d).vs = (u.b.clu d).vs ∧ (t.b.clu d).next = (u.b.clu d).next ∧ (t.b.clu d).latch = (u.b.clu d).latch) ∧
      (b.bit (r1 .CLU_SENT_CTRL c.toNat) F.CLU_SENT_CTRL_ACTION = true → (t.b.part p.toNat).state = .stoppedFault ∧ (t.b.part p.toNat).inconsistent = true ∧
        (t.b.part p.toNat).step = x.step ∧ (∀ j < 128, (self = true ∨ j ≠ bp) → (t.b.clu c.toNat).latchOf j = (u.b.clu c.toNat).latchOf j) ∧
        (self = false → (t.b.clu c.toNat).latchOf bp = q.latchOf bp))
    (∀ k < 128, q.shadow = some k →
      let w := q.bpWord k x.step
      let a := (bpArgs w).dst.toNat
      let dest := if bpOpc w = 1 ∨ bpOpc w = 2 ∨ bpOpc w = 7 then some a else if bpOpc w = 4 then some (b.evalsAddr c.toNat (bpArgs w)) else none
      let dst := decide (wen ≠ dest.isSome) || (wen && decide (dest ≠ some addr.toNat)) || (decide (bpOpc w = 3 ∨ bpOpc w = 4) && decide (a % 64 ≠ lane.toNat))
      (bpOpc w = 0 ∨ bpOpc w = 5 → exec i s = exec (.scheduleStep p []) s) ∧
      (∀ v, bpOpc w ≠ 0 → bpOpc w ≠ 5 → b.evalBp p.toNat c.toNat k (bpArgs w) = some v →
        (v = res → dst = false → exec i s = exec (.scheduleStep p []) s) ∧
        (v ≠ res ∨ dst = true → miss false dst (decide (v ≠ res)) k))) ∧
    (q.shadow = none → ∀ v, selfResult x.step = some v →
      (v = res → exec i s = exec (.scheduleStep p []) s) ∧ (v ≠ res → miss true false true 0)))

/-- When what stands out of the last steps has taken place and an interlock holds the step of a running partition, SLIP_STEP counts one step of slip, and one under the first cause that holds (R174, R203), leaves the step index and the DC as they were, and changes no value store, next value or latch of any cluster (R4, R7). When no interlock holds, it does no more than let what was outstanding take place; on a partition that does not run it changes nothing. -/
def Obligations.SlipStepsAreCountedAndChangeNoValue : Prop :=
  ∀ (s : State) (p : PartNo),
    let b := s.b.settle p.toNat
    (s.b.runs p.toNat = false → exec (.slipStep p) s = .next s) ∧
    (s.b.runs p.toNat = true → (s.b.part p.toNat).dcp ≠ .eqx → b.runs p.toNat = true →
      (b.holds p.toNat = [] → ∃ t, exec (.slipStep p) s = .next t ∧ t.b = b) ∧
      (∀ k ks, b.holds p.toNat = k :: ks → ∃ t, exec (.slipStep p) s = .next t ∧
        (t.b.part p.toNat).slip = (b.part p.toNat).slip + 1 ∧ NMap.get 0 (t.b.part p.toNat).hz k = NMap.get 0 (b.part p.toNat).hz k + 1 ∧
        (∀ j, j ≠ k → NMap.get 0 (t.b.part p.toNat).hz j = NMap.get 0 (b.part p.toNat).hz j) ∧
        (t.b.part p.toNat).step = (b.part p.toNat).step ∧ (t.b.part p.toNat).dc = (b.part p.toNat).dc ∧
        ((b.part p.toNat).pathDown = false → (b.part p.toNat).stopAfter = false → (t.b.part p.toNat).slipping = true ∧ (t.b.part p.toNat).state = .running) ∧
        (∀ c, (t.b.clu c).vs = (b.clu c).vs ∧ (t.b.clu c).next = (b.clu c).next ∧ (t.b.clu c).latch = (b.clu c).latch) ∧ s.b.sameMem t.b))

/-- While something holds step 0 (R32, R168) DC_START changes nothing. Otherwise step 0 of the DC begins; when the DC needs the frames of its inbound paths, every slot of every complete frame is on the lane it maps to and the next frame becomes the one after (R168). No value store, latch or memory byte changes. -/
def Obligations.DcStartBeginsStepZero : Prop :=
  ∀ (s : State) (p : PartNo),
    (s.b.dcReady p.toNat = false → exec (.dcStart p) s = .next s) ∧
    (s.b.dcReady p.toNat = true → ∃ t, exec (.dcStart p) s = .next t ∧ (t.b.part p.toNat).dcp = .run ∧ (t.b.part p.toNat).step = 0 ∧
      (t.b.part p.toNat).dc = (s.b.part p.toNat).dc ∧ t.b.clus = s.b.clus ∧ s.b.regsKept t.b [.CLU_LANE_LATCHn] ∧ s.b.sameMem t.b ∧
      ((s.b.part p.toNat).needsFrame = true → (s.b.part p.toNat).missing = [] → (t.b.part p.toNat).base = (s.b.part p.toNat).base + 1 ∧
        ∀ q ∈ (s.b.part p.toNat).man.ins, ((s.b.part p.toNat).man.ins.flatMap (·.slots)).Nodup → ∀ (i c n : Nat), q.slots[i]? = some (c, n) → t.b.lane c n = NMap.get false ((s.b.part p.toNat).buf q.path 0).got i) ∧
      ((s.b.part p.toNat).needsFrame = false → t.b.regs = s.b.regs))

/-- EQUINOX changes nothing when none is due. When one is due, and the outstanding results of the last step leave the partition running: without a waiting abort every state bit written in the DC takes its next value, every other value-store entry keeps its value, no next value is pending, the DC counter is one more and step 0 of the next DC has not begun (R33 actions 1 and 4, R50); when the target of a freeze is the closing DC, no state-port transfer is due and no path is down, the partition is FROZEN (R33 action 7, R184). In every hosted cluster the sequencer takes the rule that holds, with its counters, timer and outputs, and the trigger inputs clear (R400); the sentinel moves on unless it is locked, counts a sweep after position 128, and takes the lock that CLU_SENT_CTRL asks for (R80, R82); HZ_OVER counts when the DC slipped more than the budget (R206). A state-port transfer falls due in every cluster whose settings, with a pending write of them in effect, load or unload in mode 1, or in mode 2 with its buffers ready (R72, R78). What the DC hands to trace waits while one is due; else it is handed over (R33 action 6): a running stream of a partition without channels counts a DC that it does not select as dead, and captures one that it selects or counts it as lost and dead (R417, R423 to R425). On one outbound path every segment not yet sent goes, the last with LAST, or a closing one where all went before (R165). For a partition with channels on an ACTIVE Vector Port one DRV frame of the DC with the drive codes after the commit joins the transmit queue, or, when that holds 16 frames, TX_LOST counts (R441). With an abort waiting, the partition stops instead, inconsistent, and neither the state bits nor the counter change (R186). -/
def Obligations.EquinoxCommitsTheStateBits : Prop :=
  ∀ (s : State) (p : PartNo),
    let b := s.b.settle p.toNat
    ((s.b.part p.toNat).state ≠ .running ∨ (s.b.part p.toNat).dcp ≠ .eqx → exec (.equinox p) s = .next s) ∧
    ((s.b.part p.toNat).state = .running → (s.b.part p.toNat).dcp = .eqx → (b.part p.toNat).state = .running →
      (∀ c ∈ (b.part p.toNat).clusters, ((b.clu c).next.map (·.1)).Nodup) → (b.part p.toNat).clusters.Nodup →
      ((s.b.part p.toNat).abortPend = false → ∃ t, exec (.equinox p) s = .next t ∧ (t.b.part p.toNat).dc = (b.part p.toNat).dc + 1 ∧
        (t.b.part p.toNat).step = 0 ∧ (t.b.part p.toNat).dcp = .start ∧
        (∀ c ∈ (b.part p.toNat).clusters, (t.b.clu c).next = [] ∧
          ∀ k, NMap.get false (t.b.clu c).vs k = ((b.clu c).next.find k).getD (NMap.get false (b.clu c).vs k)) ∧
        (∀ c ∈ (b.part p.toNat).clusters,
          let fs := fun (y : Block) (f : Fld) => y.fld (r1 .TSQ_STATUS c) f
          let fc := fun (y : Block) (f : Fld) => y.fld (r1 .TSQ_CTR c) f
          let tm := fun (y : Block) => y.fld (r1 .TSQ_CNT c) F.TSQ_CNT_TM
          let w1 := fun (f : Fld) => (b.seqTaken c).any (fun k => b.bit k f)
          let start := w1 F.TSQ_RULEs_r_W1_TSTART
          let runs := start || (b.bit (r1 .TSQ_STATUS c) F.TSQ_STATUS_TRUN && !w1 F.TSQ_RULEs_r_W1_TSTOP)
          fs t.b F.TSQ_STATUS_STATE = (match b.seqTaken c with | some k => b.fld k F.TSQ_RULEs_r_W1_NEXT | none => fs b F.TSQ_STATUS_STATE) ∧
          fs t.b F.TSQ_STATUS_TSEQ = b.fld (r2 .TSQ_OUTs c (fs t.b F.TSQ_STATUS_STATE)) F.TSQ_OUTs_OUT ∧
          t.b.bit (r1 .TSQ_STATUS c) F.TSQ_STATUS_TRUN = runs ∧
          tm t.b = (if start then 0 else if runs then min (tm b + 1) 0xFFFFFF else tm b) ∧
          fc t.b F.TSQ_CTR_C0 = min ((if w1 F.TSQ_RULEs_r_W1_C0CLR then 0 else fc b F.TSQ_CTR_C0) + (w1 F.TSQ_RULEs_r_W1_C0INC).toNat) 0xFFFF ∧
          fc t.b F.TSQ_CTR_C1 = min ((if w1 F.TSQ_RULEs_r_W1_C1CLR then 0 else fc b F.TSQ_CTR_C1) + (w1 F.TSQ_RULEs_r_W1_C1INC).toNat) 0xFFFF ∧
          (t.b.clu c).trigIn = 0) ∧
        (∀ c ∈ (b.part p.toNat).clusters,
          let st := r1 .CLU_SENT_STATUS c
          let q := b.clu c
          let ends := decide (q.sentLock = none ∧ q.sentPos = 128)
          let pos := if q.sentLock.isSome then q.sentPos else if q.sentPos = 128 then 0 else q.sentPos + 1
          let want := if b.bit (r1 .CLU_SENT_CTRL c) F.CLU_SENT_CTRL_LOCK then some (b.fld (r1 .CLU_SENT_CTRL c) F.CLU_SENT_CTRL_LOCK_BP) else none
          (t.b.clu c).sentPos = pos ∧ (t.b.clu c).sentLock = want ∧ t.b.fld st F.CLU_SENT_STATUS_POS = (want.getD pos) % 256 ∧
          t.b.fld st F.CLU_SENT_STATUS_SWEEPS = (b.fld st F.CLU_SENT_STATUS_SWEEPS + ends.toNat) % 2 ^ 24) ∧
        (∀ c ∈ (b.part p.toNat).clusters,
          let lim := b.fld (r1 .HZ_BUDGET c) F.HZ_BUDGET_BUDGET
          let past := decide (lim ≠ 0xFFFF ∧ lim < (b.part p.toNat).dcSlip)
          t.b.reg (r1 .HZ_OVER c) = b.reg (r1 .HZ_OVER c) + (if past then 1 else 0) ∧ (t.b.clu c).overSeen = ((b.clu c).overSeen || past)) ∧
        (let due := (b.part p.toNat).clusters.any (fun c =>
            let w := if b.bit (r1 .CLU_SP_STATUS c) F.CLU_SP_STATUS_CTRL_PENDING then b.reg (r1 .CLU_SP_CTRL c) else (b.clu c).sp.eff
            (w.getLsbD 15 || w.getLsbD 14) && (decide (F.CLU_SP_CTRL_MODE.get w = 1) || (decide (F.CLU_SP_CTRL_MODE.get w = 2) && b.spReady c w)))
          let n := (b.part p.toNat).dc.toNat
          (due = true → (t.b.part p.toNat).hand = some (n, b.now, (stampUnits b.now - stampUnits (b.part p.toNat).eqxAt) / 65536)) ∧
          (due = false → (t.b.part p.toNat).hand = none ∧ (∀ c ∈ (b.part p.toNat).clusters, (t.b.clu c).probes = [] ∧ (t.b.clu c).before = []) ∧
            (b.chansOf p.toNat = [] → ∀ x : BitVec 4, x.toNat ∈ b.strLive p.toNat → (b.stream x.toNat).first ≤ n →
              let f := (b.stream x.toNat).factor
              let lost := t.b.reg (r1 .TRC_Sx_LOST x.toNat) = b.reg (r1 .TRC_Sx_LOST x.toNat) + 1
              let kept := t.b.reg (r1 .TRC_Sx_LOST x.toNat) = b.reg (r1 .TRC_Sx_LOST x.toNat)
              let dead := t.b.reg (r1 .TRC_Sx_DEAD_DC x.toNat) = b.reg (r1 .TRC_Sx_DEAD_DC x.toNat) + 1
              (n % 2 ^ f ≠ 0 → kept ∧ dead) ∧
              (n % 2 ^ f = 0 → (lost ∧ dead) ∨ (kept ∧ t.b.reg (r1 .TRC_Sx_DEAD_DC x.toNat) = b.reg (r1 .TRC_Sx_DEAD_DC x.toNat) ∧
                (b.strState x.toNat = 1 → (b.stream x.toNat).stopAt = none → (t.b.stream x.toNat).cur = some (n, b.now, f))))))) ∧
        (b.chansOf p.toNat ≠ [] → b.vptUp = true → (∀ e ∈ (b.part p.toNat).expects, e.later < 255) → (b.part p.toNat).pathDown = false →
          let r := chanRange (b.chansOf p.toNat)
          let code := fun (ch : Nat) => if ch ∈ b.chansOf p.toNat then t.b.driveCode ch else 0
          (b.vpt.tx.length < 16 → t.b.vpt.tx = b.vpt.tx ++ [b.vpt.stamped ⟨1, p, (b.part p.toNat).dc.setWidth 32, BitVec.ofNat 13 r.2, BitVec.ofNat 12 r.1, 0,
            false, 0, codePayload r.1 r.2 code, 0⟩]) ∧
          (16 ≤ b.vpt.tx.length → t.b.vpt.tx = b.vpt.tx ∧
            t.b.fld (r0 .VPT_CNT) F.VPT_CNT_TX_LOST = min (b.fld (r0 .VPT_CNT) F.VPT_CNT_TX_LOST + 1) (2 ^ F.VPT_CNT_TX_LOST.len - 1))) ∧
        (∀ (q : OutPath) (port : Nat) (vc : Bool), (b.part p.toNat).man.outs = [q] → b.route (BitVec.ofNat 10 q.dev).toNat = some (port, vc) →
          port ≠ 16 → b.lnkState port = 5 ∨ b.lnkState port = 6 →
          let rest := q.segNums.filter (fun g => decide (g ∉ (b.part p.toNat).emitted))
          let rs := if rest = [] then [(0, 0)] else rest.flatMap (fun g => runsOf (q.slotsOf g))
          (t.b.part p.toNat).emitted = [] ∧ (t.b.link port).queue = (b.link port).queue ++ ((List.range rs.length).zip rs).map (fun e =>
            ({ cls := 1, vc := vc, flits := (Msg.seg ⟨b.devId, BitVec.ofNat 10 q.dev, p, BitVec.ofNat 8 q.path, (b.part p.toNat).dc.setWidth 32,
              BitVec.ofNat 16 e.2.1, BitVec.ofNat 11 e.2.2, decide (e.1 + 1 = rs.length),
              (List.range e.2.2).map (fun j => NMap.get false (b.part p.toNat).outHeld (e.2.1 + j))⟩).flits vc } : TxMsg))) ∧
        ((b.part p.toNat).target = some (BitVec.ofNat 32 (b.part p.toNat).dc.toNat) → t.b.spBusy p.toNat = false →
          (b.part p.toNat).pathDown = false → (t.b.part p.toNat).state = .frozen ∧ t.b.bit (r1 .PART_FRZ_STATUS p.toNat) F.PART_FRZ_STATUS_FROZEN = true)) ∧
      ((s.b.part p.toNat).abortPend = true → ∃ t, exec (.equinox p) s = .next t ∧ (t.b.part p.toNat).state = .stoppedFault ∧
        (t.b.part p.toNat).inconsistent = true ∧ (t.b.part p.toNat).dc = (b.part p.toNat).dc ∧ t.b.clus = b.clus ∧
        t.b.bit (r1 .PART_FRZ_STATUS p.toNat) F.PART_FRZ_STATUS_ABORTED = true ∧ s.b.sameMem t.b))

/-- For a hosted partition that is neither in Winter nor stopped and has no pending target: FREEZE sets the target DC + EFF and FREEZE_AT the written target when it lies ahead, with PENDING and LAST, takes the next sequence number, records itself in PART_FRZ_ORIGIN and puts its symbol on every ACTIVE or RETRAIN link of the freeze mask (R181, R183); of a target that is pending and another the smaller one stays, and IGNORED counts (R184). FREEZE_AT of a passed target sets TGT_PAST and nothing else (R181, R184). A module that hosts no cluster of the partition ignores the command (R191). PART_MARGIN_WRITE leaves the margin and the effective margin of R182. RESUME of a FROZEN, drained, consistent partition makes it RUNNING with FROZEN and DRAINED clear, after a step break with COUNT steps to the next one in LEFT (R415), and changes nothing otherwise (R187). No memory byte changes. -/
def Obligations.FreezesSetATarget : Prop :=
  (∀ (s : State) (r : Requester) (p : PartNo) (i : Instr) (tgt : BitVec 32) (w : Word),
    let x := s.b.part p.toNat
    let k := r1 .PART_FRZ_CMD p.toNat
    (i, tgt, w) ∈ [(Instr.freeze r p, x.dc.setWidth 32 + BitVec.ofNat 32 (s.b.fld (r1 .PART_MARGIN_EFF p.toNat) F.PART_MARGIN_EFF_EFF), (1 : Word)),
      (Instr.freezeAt r p, s.b.reg (r1 .PART_FRZ_TARGET p.toNat), 2)] →
    s.b.reaches r k = true → s.b.roleOk r k = true →
    (s.b.hosts p.toNat = false → exec i s = .next s) ∧
    (s.b.hosts p.toNat = true → (x.state = .running ∨ x.state = .frozen) → x.target = none → (tgt - x.dc.setWidth 32).getLsbD 31 = false →
      ∃ t, exec i s = .next t ∧ (t.b.part p.toNat).target = some tgt ∧ t.b.bit (r1 .PART_FRZ_STATUS p.toNat) F.PART_FRZ_STATUS_PENDING = true ∧
        t.b.reg (r1 .PART_FRZ_LAST p.toNat) = tgt ∧ (t.b.part p.toNat).state = x.state ∧ t.b.clus = s.b.clus ∧ s.b.sameMem t.b ∧
        t.b.frzSeq = (s.b.frzSeq + 1) % 64 ∧
        t.b.reg (r1 .PART_FRZ_ORIGIN p.toNat) = BitVec.ofNat 32 (2 ^ 31 + s.b.devId.toNat * 2 ^ 16 + (s.b.frzSeq + 1) % 64) ∧
        (∀ n < 16, (s.b.reg (r1 .LNK_FRZ_MASKp p.toNat)).getLsbD n = true → s.b.lnkState n = 5 ∨ s.b.lnkState n = 6 → (t.b.link n).ctl =
          (s.b.link n).ctl ++ [freezeToSym ⟨false, p, tgt, s.b.devId, BitVec.ofNat 6 ((s.b.frzSeq + 1) % 64), 0⟩])) ∧
    (∀ u, s.b.hosts p.toNat = true → (x.state = .running ∨ x.state = .frozen) → x.target = some u → (tgt - x.dc.setWidth 32).getLsbD 31 = false →
      ∃ t, exec i s = .next t ∧ t.b.frzSeq = (s.b.frzSeq + 1) % 64 ∧ (t.b.part p.toNat).state = x.state ∧
        (t.b.part p.toNat).target = some (if (tgt - u).getLsbD 31 then tgt else u) ∧
        let ign := fun (b : Block) => b.fld (r1 .PART_FRZ_STATUS p.toNat) F.PART_FRZ_STATUS_IGNORED
        ign t.b = if tgt = u then ign s.b else min (ign s.b + 1) (2 ^ F.PART_FRZ_STATUS_IGNORED.len - 1))) ∧
  (∀ (s : State) (r : Requester) (p : PartNo), s.b.reaches r (r1 .PART_FRZ_CMD p.toNat) = true → s.b.roleOk r (r1 .PART_FRZ_CMD p.toNat) = true →
    s.b.live p.toNat = true → (s.b.part p.toNat).passed (s.b.reg (r1 .PART_FRZ_TARGET p.toNat)) = true →
    ∃ t, exec (.freezeAt r p) s = .next t ∧ s.b.onlyRegs t.b [r1 .PART_FRZ_STATUS p.toNat] ∧
      t.b.bit (r1 .PART_FRZ_STATUS p.toNat) F.PART_FRZ_STATUS_TGT_PAST = true) ∧
  (∀ (s : State) (r : Requester) (p : PartNo) (v : Word), s.b.reaches r (r1 .PART_MARGIN p.toNat) = true → s.b.roleOk r (r1 .PART_MARGIN p.toNat) = true →
    s.b.hosts p.toNat = true → (s.b.part p.toNat).len ≠ 0 →
    let d := max (s.b.part p.toNat).man.diam (v.toNat / 2 ^ 24)
    let eff := max (v.toNat % 2 ^ 16) (d + (d * 172 + (s.b.part p.toNat).len - 1) / (s.b.part p.toNat).len + 1)
    d < 2 ^ 16 → eff < 2 ^ 16 → ∃ t, exec (.partMarginWrite r p v) s = .next t ∧ s.b.onlyRegs t.b [r1 .PART_MARGIN p.toNat, r1 .PART_MARGIN_EFF p.toNat] ∧
      t.b.reg (r1 .PART_MARGIN p.toNat) = v &&& 0xFF00FFFF#32 ∧ t.b.reg (r1 .PART_MARGIN_EFF p.toNat) = BitVec.ofNat 32 (d * 2 ^ 16 + eff)) ∧
  (∀ (s : State) (r : Requester) (p : PartNo), s.b.reaches r (r1 .PART_FRZ_CMD p.toNat) = true → s.b.roleOk r (r1 .PART_FRZ_CMD p.toNat) = true →
    let x := s.b.part p.toNat
    let ok := decide (x.state = .frozen) && s.b.bit (r1 .PART_FRZ_STATUS p.toNat) F.PART_FRZ_STATUS_DRAINED && !x.inconsistent
    (ok = false → exec (.resume r p) s = .next s) ∧
    (ok = true → s.b.hosts p.toNat = true → ∃ t, exec (.resume r p) s = .next t ∧ (t.b.part p.toNat).state = .running ∧
      t.b.bit (r1 .PART_FRZ_STATUS p.toNat) F.PART_FRZ_STATUS_FROZEN = false ∧ t.b.bit (r1 .PART_FRZ_STATUS p.toNat) F.PART_FRZ_STATUS_DRAINED = false ∧
      (t.b.part p.toNat).dc = x.dc ∧ (t.b.part p.toNat).step = x.step ∧ (t.b.part p.toNat).slip = x.slip + BitVec.ofNat 64 x.frozenFor ∧
      (let n := if x.brkStop then s.b.fld (r1 .TRG_SBRKp_CTRL p.toNat) F.TRG_SBRKp_CTRL_COUNT else x.brkLeft;
        (t.b.part p.toNat).brkLeft = n ∧ (t.b.part p.toNat).brkStop = false ∧ t.b.fld (r1 .TRG_SBRKp_STATUS p.toNat) F.TRG_SBRKp_STATUS_LEFT = n % 2 ^ 16) ∧
      (∀ c, (t.b.clu c).vs = (s.b.clu c).vs) ∧ s.b.sameMem t.b))

/-- A FREEZE symbol with the sequence last held for its originator, or of this module's own last freeze, changes nothing. A new one is remembered; when it aborts a hosted partition that is RUNNING within a DC whose step 0 is not held, the abort waits for the next Equinox; one of a partition that stands stopped, between two DCs or at a held step 0 acts at once: inconsistent, ABORTED, a FROZEN one stays FROZEN (R183, R186, R501). It goes on over every other ACTIVE or RETRAIN link of the freeze mask (R183). One that carries a target leaves a partition in Winter or without clusters here as it was; a target that the module has passed stops the partition, inconsistent, with LATE and no target pending (R185); one that lies ahead becomes the pending target, of two the smaller, IGNORED counting the other, and one that is pending already changes nothing (R184); when it is the DC before the counter and nothing has executed since, no transfer is due and no path is down, a RUNNING partition is FROZEN as it stands, IGNORED counting a target that was pending (R184; the count is log entry 117). EQX_WAIT_TIMEOUT stops a waiting partition with TIMEOUT once the timer has expired, no link of its route is in replay or retrain (R503) and no reset of the partition is in progress (R523), and changes nothing before (R177, R179). -/
def Obligations.FreezeSymbolsAndTheWait : Prop :=
  (∀ (s : State) (n : LinkNo) (y : FreezeSym),
    let seen := s.b.frzSeen.find y.origin.toNat = some (some y.seq.toNat) ∨ (y.origin = s.b.devId ∧ y.seq.toNat = s.b.frzSeq)
    (seen → exec (.freezeSymbolReceive n y) s = .next s) ∧
    (¬ seen → ∃ t, exec (.freezeSymbolReceive n y) s = .next t ∧ t.b.frzSeen.find y.origin.toNat = some (some y.seq.toNat) ∧
      (y.kind = true → s.b.hosts y.part.toNat = true → (s.b.part y.part.toNat).state = .running → (s.b.part y.part.toNat).dcp ≠ .start →
        ¬((s.b.part y.part.toNat).dcp = .run ∧ (s.b.part y.part.toNat).step = 0 ∧ (s.b.part y.part.toNat).slipping = true) →
        (t.b.part y.part.toNat).abortPend = true ∧ (t.b.part y.part.toNat).state = .running) ∧
      (y.kind = true → s.b.hosts y.part.toNat = false ∨ (s.b.part y.part.toNat).state = .winter → t.b.parts = s.b.parts) ∧
      (y.kind = true → s.b.hosts y.part.toNat = true →
        (s.b.part y.part.toNat).state = .frozen ∨ (s.b.part y.part.toNat).state = .stoppedFault ∨ ((s.b.part y.part.toNat).state = .running ∧
          ((s.b.part y.part.toNat).dcp = .start ∨ ((s.b.part y.part.toNat).dcp = .run ∧ (s.b.part y.part.toNat).step = 0 ∧
            (s.b.part y.part.toNat).slipping = true))) →
        (t.b.part y.part.toNat).state = (if (s.b.part y.part.toNat).state = .frozen then .frozen else .stoppedFault) ∧
        (t.b.part y.part.toNat).inconsistent = true ∧ (t.b.part y.part.toNat).target = none ∧
        t.b.bit (r1 .PART_FRZ_STATUS y.part.toNat) F.PART_FRZ_STATUS_ABORTED = true) ∧
      (y.kind = true ∨ (s.b.part y.part.toNat).pathDown = false → ∀ m < 16, (t.b.link m).ctl = if m ≠ n.toNat ∧ (s.b.reg (r1 .LNK_FRZ_MASKp y.part.toNat)).getLsbD m ∧ (s.b.lnkState m = 5 ∨ s.b.lnkState m = 6)
        then (s.b.link m).ctl ++ [freezeToSym y] else (s.b.link m).ctl) ∧ t.b.clus = s.b.clus ∧ s.b.sameMem t.b ∧
      (let p := y.part.toNat
        let x := s.b.part p
        let z := t.b.part p
        let k := r1 .PART_FRZ_STATUS p
        let ign := fun (b : Block) => b.fld k F.PART_FRZ_STATUS_IGNORED
        let one := min (ign s.b + 1) (2 ^ F.PART_FRZ_STATUS_IGNORED.len - 1)
        let dc := x.dc.setWidth 32
        let past := (y.target - dc).getLsbD 31
        let last := decide (y.target = dc - 1 ∧ (x.dcp = .start ∨ (x.dcp = .run ∧ x.step = 0)))
        y.kind = false →
        (s.b.hosts p = false ∨ x.state = .winter → t.b.parts = s.b.parts) ∧
        (s.b.hosts p = true → x.state ≠ .winter →
          (past = true → last = false → z.target = none ∧ z.inconsistent = true ∧ t.b.bit k F.PART_FRZ_STATUS_LATE = true ∧
            (x.state ≠ .frost → z.state = .stoppedFault) ∧ (x.state = .frost → z.state = .frost ∧ z.preFrost = .stoppedFault)) ∧
          (past = false → x.target = none → z.target = some y.target ∧ t.b.bit k F.PART_FRZ_STATUS_PENDING = true ∧
            t.b.reg (r1 .PART_FRZ_LAST p) = y.target ∧ ign t.b = ign s.b ∧ z.state = x.state) ∧
          (∀ u, past = false → x.target = some u → u ≠ y.target → z.target = some (if (y.target - u).getLsbD 31 then y.target else u) ∧
            ign t.b = one ∧ z.state = x.state) ∧
          (past = false → x.target = some y.target → z.target = x.target ∧ ign t.b = ign s.b ∧ z.state = x.state) ∧
          (last = true → past = true → x.state = .running → s.b.spBusy p = false → x.stopAfter = false → x.pathDown = false →
            z.state = .frozen ∧ z.target = none ∧ t.b.bit k F.PART_FRZ_STATUS_FROZEN = true ∧ t.b.bit k F.PART_FRZ_STATUS_PENDING = false ∧
            t.b.reg (r1 .PART_FRZ_LAST p) = y.target ∧ ign t.b = if x.target.isSome then one else ign s.b))))) ∧
  (∀ (s : State) (p : PartNo),
    let due := decide ((s.b.part p.toNat).inconsistent = false ∧ s.b.waitPaused p.toNat = false ∧ (s.b.waitLimit p.toNat ≤ (s.b.part p.toNat).counted ∨ 250000 ≤ (s.b.part p.toNat).held))
    ((s.b.part p.toNat).waiting = false ∨ due = false → exec (.eqxWaitTimeout p) s = .next s) ∧
    ((s.b.part p.toNat).waiting = true → due = true → s.b.hosts p.toNat = true →
      (s.b.reg (r1 .CTL_PRST_BUSYw (p.toNat / 32))).getLsbD (p.toNat % 32) = false → ∃ t, exec (.eqxWaitTimeout p) s = .next t ∧
      t.b.bit (r1 .PART_FRZ_STATUS p.toNat) F.PART_FRZ_STATUS_TIMEOUT = true ∧ (t.b.part p.toNat).inconsistent = true ∧
      (t.b.part p.toNat).state ≠ .running ∧ t.b.clus = s.b.clus ∧ s.b.sameMem t.b))

/-- For a requester that reaches the register and holds the role: a write clears exactly the bits written as one (R17). A write that clears the last cause bit clears the records (R85, R114, R155); one that leaves a cause bit, or clears nothing, keeps them. The sentinel log follows SENT_MISMATCH. No other register and nothing else changes. -/
def Obligations.FaultRecordsClear : Prop :=
  (∀ (s : State) (r : Requester) (c : ClusterId) (v : Word),
    let k := r1 .CLU_FAULT c.toNat
    let new := s.b.reg k &&& ~~~(v &&& 0x7FFE#32)
    s.b.reaches r k = true → s.b.roleOk r k = true →
    ∃ t, exec (.faultRecordClear r c v) s = .next t ∧
      s.b.onlyRegs t.b [k, r1 .CLU_FAULT_INFO c.toNat, r1 .CLU_FAULT_DC c.toNat, r1 .CLU_SENT_LOG c.toNat, r1 .CLU_SENT_LOG_DC c.toNat] ∧
      t.b.reg k = new ∧
      (∀ q ∈ [r1 .CLU_FAULT_INFO c.toNat, r1 .CLU_FAULT_DC c.toNat],
        t.b.reg q = if s.b.reg k &&& 0xFFE#32 ≠ 0 ∧ new &&& 0xFFE#32 = 0 then 0 else s.b.reg q) ∧
      (∀ q ∈ [r1 .CLU_SENT_LOG c.toNat, r1 .CLU_SENT_LOG_DC c.toNat],
        t.b.reg q = if v.getLsbD 12 = true ∧ (s.b.reg k).getLsbD 12 = true then 0 else s.b.reg q)) ∧
  (∀ (s : State) (r : Requester) (c : ClusterId) (k : WeNo) (v : Word) (i : Instr) (f g : RegKey),
    (i, f, g) ∈ [(Instr.weFaultClear r c k v, r2 .WE_FAULT c.toNat k.toNat, r2 .WE_FAULT_INFO c.toNat k.toNat),
      (Instr.memFaultClear r c v, r1 .CLU_MEM_FAULT c.toNat, r1 .CLU_MEM_FAULT_INFO c.toNat)] →
    s.b.reaches r f = true → s.b.roleOk r f = true →
    ∃ t, exec i s = .next t ∧ s.b.onlyRegs t.b [f, g] ∧ t.b.reg f = s.b.reg f &&& ~~~(v &&& 0x1FE#32) ∧
      t.b.reg g = if s.b.reg f &&& 0x1FE#32 ≠ 0 ∧ s.b.reg f &&& ~~~(v &&& 0x1FE#32) &&& 0x1FE#32 = 0 then 0 else s.b.reg g)

/-- For a requester that reaches the register and holds the role: CLU_SENT_CTRL keeps its defined bits, and a lock takes effect at once on a cluster that does not run, with POS showing it, and not yet on one that runs (R82). HZ_CLEAR zeroes the own-condition counters, the longest-run record and HZ_OVER of its cluster and ends the run in progress (R208). HZ_BUDGET takes its 16 bits (R206). A step break with EN is armed when the partition has neither frame paths nor remote clusters, the step is below L and the DC's step has not executed; else it is REFUSED or LATE and not armed (R412). Nothing else changes. -/
def Obligations.SentinelHazardAndBreakRegisters : Prop :=
  (∀ (s : State) (r : Requester) (c : ClusterId) (v : Word), s.b.reaches r (r1 .CLU_SENT_CTRL c.toNat) = true → s.b.roleOk r (r1 .CLU_SENT_CTRL c.toNat) = true →
    ∃ t, exec (.cluSentCtrlWrite r c v) s = .next t ∧ t.b.reg (r1 .CLU_SENT_CTRL c.toNat) = v &&& 0xFF01#32 ∧
      s.b.regsKept t.b [.CLU_SENT_CTRL, .CLU_SENT_STATUS] ∧ (∀ d, d ≠ c.toNat → t.b.clu d = s.b.clu d) ∧ { t.b with regs := s.b.regs, clus := s.b.clus } = s.b ∧
      (t.b.clu c.toNat).sentPos = (s.b.clu c.toNat).sentPos ∧
      (s.b.cluState c.toNat = .running → t.b.clus = s.b.clus) ∧
      (s.b.cluState c.toNat ≠ .running → (t.b.clu c.toNat).sentLock = (if v.getLsbD 15 then some (v.toNat / 256 % 128) else none) ∧
        t.b.fld (r1 .CLU_SENT_STATUS c.toNat) F.CLU_SENT_STATUS_POS = (if v.getLsbD 15 then v.toNat / 256 % 128 else (s.b.clu c.toNat).sentPos % 256))) ∧
  (∀ (s : State) (r : Requester) (c : ClusterId), s.b.reaches r (r1 .HZ_CLEAR c.toNat) = true → s.b.roleOk r (r1 .HZ_CLEAR c.toNat) = true →
    ∃ t, exec (.hzClear r c) s = .next t ∧ (∀ j < 5, t.b.reg (r2 .HZ_OWNj c.toNat j) = 0) ∧ t.b.reg (r1 .HZ_WORST_LEN c.toNat) = 0 ∧
      t.b.reg (r1 .HZ_WORST_AT c.toNat) = 0 ∧ t.b.reg (r1 .HZ_WORST_DC c.toNat) = 0 ∧ t.b.reg (r1 .HZ_OVER c.toNat) = 0 ∧ (t.b.clu c.toNat).run = 0 ∧
      (∀ k, k.i ≠ c.toNat → t.b.reg k = s.b.reg k) ∧ s.b.regsKept t.b [.HZ_OWNj, .HZ_WORST_LEN, .HZ_WORST_AT, .HZ_WORST_DC, .HZ_OVER] ∧
      (∀ d, d ≠ c.toNat → t.b.clu d = s.b.clu d) ∧ { t.b with regs := s.b.regs, clus := s.b.clus } = s.b) ∧
  (∀ (s : State) (r : Requester) (c : ClusterId) (v : Word), s.b.reaches r (r1 .HZ_BUDGET c.toNat) = true → s.b.roleOk r (r1 .HZ_BUDGET c.toNat) = true →
    ∃ t, exec (.hzBudgetWrite r c v) s = .next t ∧ s.b.onlyRegs t.b [r1 .HZ_BUDGET c.toNat] ∧ t.b.reg (r1 .HZ_BUDGET c.toNat) = v &&& 0xFFFF#32) ∧
  (∀ (s : State) (r : Requester) (p : PartNo) (v : Word), s.b.reaches r (r1 .TRG_SBRKp_CTRL p.toNat) = true → s.b.roleOk r (r1 .TRG_SBRKp_CTRL p.toNat) = true →
    let x := s.b.part p.toNat
    let n := v.toNat / 2 ^ F.TRG_SBRKp_CTRL_STEP.lo % 2 ^ F.TRG_SBRKp_CTRL_STEP.len
    let refused := decide (x.man.framePaths = true ∨ x.man.remote = true ∨ x.len ≤ n)
    let late := x.executed (s.b.reg (r1 .TRG_SBRKp_DC p.toNat)) n
    ∃ t, exec (.stepBreakArm r p v) s = .next t ∧ s.b.onlyRegs t.b [r1 .TRG_SBRKp_CTRL p.toNat, r1 .TRG_SBRKp_STATUS p.toNat] ∧
      t.b.bit (r1 .TRG_SBRKp_CTRL p.toNat) F.TRG_SBRKp_CTRL_EN = (v.getLsbD 31 && !refused && !late) ∧
      (v.getLsbD 31 = true → refused = true → t.b.bit (r1 .TRG_SBRKp_STATUS p.toNat) F.TRG_SBRKp_STATUS_REFUSED = true) ∧
      (v.getLsbD 31 = true → refused = false → late = true → t.b.bit (r1 .TRG_SBRKp_STATUS p.toNat) F.TRG_SBRKp_STATUS_LATE = true) ∧
      (v.getLsbD 31 = false → t.b.reg (r1 .TRG_SBRKp_STATUS p.toNat) = s.b.reg (r1 .TRG_SBRKp_STATUS p.toNat)))

/-- For a requester that reaches CFG_CTRL and holds a role: START in load states 1 to 5 sets BUSY_REFUSED and nothing else; in the others it enters HEADER with nothing of an earlier load (R228). Bytes written by the loader's function, at any offset of the stream window, are taken behind those waiting (R227, R555); bytes that no load takes set DISCARD (R232); a write without the role enters the audit log with its offset and value (R19, R555). END_STREAM ends the stream, and a load whose next unit has not come fails with status 0x05 (R229). LOAD_TIMEOUT fails a load that has waited CFG_TMO with 0x0B, ERR and CFG_ERR set and event 1 pending, and changes nothing before (R230, R231). COMMIT by an installer of an image that the installer has not signed, or by an operator whose key scope misses a partition of the image, is refused and audited (R474). Otherwise, outside safe mode, COMMIT of a LOADED image gives every cluster of each of its partitions its initial value store, no next value, cleared latches and registers, word 0 in its WEs, state 0 of its sequencer and the budget of the manifest, each partition its starting DC with no step begun, and makes it RUNNING, or FROZEN and drained with frame paths (R240, R241, R187); it sets COMMIT_REFUSED when the image, or a partition of it, is not loaded. CLR_ERR clears ERR and CFG_ERR only (R233). -/
def Obligations.LoadsBeginFailAndCommit : Prop :=
  (∀ (s : State) (r : Requester), s.b.reaches r (r0 .CFG_CTRL) = true → s.b.roleOk r (r0 .CFG_CTRL) = true →
    (1 ≤ s.b.cfgState → s.b.cfgState ≤ 5 → ∃ t, exec (.cfgStart r) s = .next t ∧ s.b.onlyRegs t.b [r0 .CFG_STATUS] ∧
      t.b.bit (r0 .CFG_STATUS) F.CFG_STATUS_BUSY_REFUSED = true ∧ t.b.cfgState = s.b.cfgState) ∧
    (s.b.cfgState = 0 ∨ 5 < s.b.cfgState → ∃ t, exec (.cfgStart r) s = .next t ∧ t.b.cfgState = 1 ∧ t.b.cfg.buf = [] ∧ t.b.cfg.ended = false ∧
      t.b.cfg.touched = [] ∧ t.b.cfg.mans = [] ∧ t.b.reg (r0 .CFG_PROGRESS) = 0 ∧ t.b.pw.cfgErr = false ∧ t.b.clus = s.b.clus ∧ t.b.parts = s.b.parts ∧ s.b.sameMem t.b) ∧
    (∀ l, (s.b.roleOf r = .op ∨ s.b.roleOf r = .inst) → s.b.cfgSrc = 0 → s.b.loadFn r = s.b.cfg.who.fn → s.b.cfg.ended = false → s.b.loading = true →
      ∀ off, ∃ t, exec (.streamWrite r off l) s = .next t ∧ t.b.cfg.buf = s.b.cfg.buf ++ l ∧ t.b.cfg.lastAt = s.b.pw.ctl ∧ t.b.clus = s.b.clus ∧
        t.b.parts = s.b.parts ∧ s.b.sameMem t.b) ∧
    (∀ off l, (s.b.roleOf r = .op ∨ s.b.roleOf r = .inst) → s.b.cfgSrc = 0 → s.b.loadFn r = s.b.cfg.who.fn → s.b.cfg.ended = false → s.b.loading = false →
      (s.b.cfgState = 7 → s.b.cfg.endSeen = true) → ∃ t, exec (.streamWrite r off l) s = .next t ∧ t.b.cfg = s.b.cfg ∧
        t.b.bit (r0 .CFG_STATUS) F.CFG_STATUS_DISCARD = true ∧ t.b.clus = s.b.clus ∧ t.b.parts = s.b.parts ∧ s.b.sameMem t.b) ∧
    (s.b.cfgMine r = true → s.b.cfgSrc = 0 → s.b.cfg.ended = false → s.b.loading = true → s.b.unitReady = false →
      ∃ t, exec (.endStream r) s = .next t ∧ t.b.cfg.ended = true ∧ t.b.cfgState = 7 ∧ t.b.fld (r0 .CFG_STATUS) F.CFG_STATUS_CODE = 5 ∧
        t.b.clus = s.b.clus ∧ t.b.parts = s.b.parts ∧ s.b.sameMem t.b) ∧
    (s.b.cfgMine r = true → ∃ t, exec (.clrErr r) s = .next t ∧ t.b.pw.cfgErr = false ∧ t.b.bit (r0 .CFG_STATUS) F.CFG_STATUS_ERR = false ∧
      t.b.cfgState = s.b.cfgState ∧ (∀ k, k ≠ r0 .CFG_STATUS → t.b.reg k = s.b.reg k) ∧ { t.b with regs := s.b.regs, pw := s.b.pw } = s.b) ∧
    (let may := (s.b.roleOf r = .inst → s.b.signer = 1) ∧ (s.b.roleOf r = .op → ∀ p ∈ s.b.imageParts, s.b.operCovers r p = true);
      s.b.cfgMine r = true → s.b.isPatch = false →
      (¬ may → ∃ t, exec (.commit r) s = .next t ∧ t.b.cfg = s.b.cfg ∧ t.b.cfgState = s.b.cfgState ∧ t.b.clus = s.b.clus ∧ t.b.parts = s.b.parts ∧
        s.b.audited t.b 0x04 (s.b.roleOf r) (s.b.slotOf r) (idOf r) 0 (leBytes 4 (r0 .CFG_CTRL).addr ++ leBytes 4 4)) ∧
      (may → s.b.cfgState ≠ 5 ∨ s.b.safeMode = true → ∃ t, exec (.commit r) s = .next t ∧ s.b.onlyRegs t.b [r0 .CFG_STATUS] ∧
        t.b.bit (r0 .CFG_STATUS) F.CFG_STATUS_COMMIT_REFUSED = true) ∧
      (may → s.b.safeMode = false → s.b.cfgState = 5 → s.b.imageParts.Nodup → (s.b.imageParts.flatMap (fun p => (s.b.part p).clusters)).Nodup →
        s.b.fld (r0 .SEC_STATUS) F.SEC_STATUS_UNLOCK ≠ 1 →
        ((∃ p ∈ s.b.imageParts, s.b.isLoaded p = false) → ∃ t, exec (.commit r) s = .next t ∧ s.b.onlyRegs t.b [r0 .CFG_STATUS] ∧
          t.b.bit (r0 .CFG_STATUS) F.CFG_STATUS_COMMIT_REFUSED = true) ∧
        ((∀ p ∈ s.b.imageParts, s.b.isLoaded p = true) →
          ∃ t, exec (.commit r) s = .next t ∧ t.b.cfgState = 6 ∧ t.b.evtPend 0 = true ∧ s.b.sameMem t.b ∧
          (∀ p ∈ s.b.imageParts, let paths := (s.b.part p).man.framePaths
            (t.b.part p).state = (if paths then .frozen else .running) ∧ (t.b.part p).dc = (s.b.part p).man.startDc ∧ (t.b.part p).dcp = .start ∧
            t.b.bit (r1 .PART_FRZ_STATUS p) F.PART_FRZ_STATUS_FROZEN = paths ∧ t.b.bit (r1 .PART_FRZ_STATUS p) F.PART_FRZ_STATUS_DRAINED = paths ∧
            ∀ c ∈ (s.b.part p).clusters, (t.b.clu c).vs = (s.b.clu c).initVs ∧ (t.b.clu c).next = [] ∧ (t.b.clu c).latch = [] ∧ (t.b.clu c).regs = [] ∧
              (∀ k < 4, t.b.wpc c k = 0) ∧ t.b.fld (r1 .TSQ_STATUS c) F.TSQ_STATUS_STATE = 0 ∧
              t.b.reg (r1 .HZ_BUDGET c) = BitVec.ofNat 32 (s.b.part p).man.budget) ∧
          (∀ c, (∀ p ∈ s.b.imageParts, c ∉ (s.b.part p).clusters) → t.b.clu c = s.b.clu c))))) ∧
  (∀ (s : State) (r : Requester) (off : BitVec 15) (l : List Byte),
    s.b.reaches r (r0 .CFG_CTRL) = true → s.b.roleOf r ≠ .op → s.b.roleOf r ≠ .inst →
    ∃ t, exec (.streamWrite r off l) s = .next t ∧ t.b.cfg = s.b.cfg ∧ t.b.links = s.b.links ∧
      s.b.audited t.b 0x04 (s.b.roleOf r) (s.b.slotOf r) (idOf r) 0 (leBytes 4 (0x00108000 + off.toNat) ++ leBytes 4 (leAt l 0 4 % 2 ^ 32))) ∧
  (∀ s : State,
    (s.b.loading = false ∨ s.b.cfg.ended = true ∨ s.b.pw.ctl - s.b.cfg.lastAt < s.b.cfgTmo → exec .loadTimeout s = .next s) ∧
    (s.b.loading = true → s.b.cfg.ended = false → s.b.cfgTmo ≤ s.b.pw.ctl - s.b.cfg.lastAt → ∃ t, exec .loadTimeout s = .next t ∧
      t.b.cfgState = 7 ∧ t.b.fld (r0 .CFG_STATUS) F.CFG_STATUS_CODE = 0x0B ∧ t.b.bit (r0 .CFG_STATUS) F.CFG_STATUS_ERR = true ∧ t.b.pw.cfgErr = true ∧
      t.b.evtPend 1 = true ∧ t.b.cfg.buf = [] ∧ t.b.clus = s.b.clus ∧ t.b.parts = s.b.parts ∧ s.b.sameMem t.b))

/-- When the 256 header bytes have come: a header whose magic is not that of an image fails the load with status 0x01; one with another family or part code with 0x02; one whose stepping range excludes the module's with 0x03; one that passes these and the next check and that nothing authorizes with 0x07, an authorized encrypted one without an image key with 0x08; each names 0xFFFF_FFFF as the frame (R213, R38, R231, R482). A header that passes every check enters FRAMES with those 256 bytes taken off the stream and kept. No cluster, partition or memory byte changes. Before they have come nothing changes. Where the integrity check at the use of a key finds a fault (R498, log entry 185), the keys are unusable, KEYSTORE_OK is 0, event 15 is pending and a level X fault is held. -/
def Obligations.ImageHeaderIsChecked : Prop :=
  ∀ (s : State),
    let h := s.b.cfg.buf.take 256
    let id := s.b.reg (r0 .CTL_ID)
    let fails := fun (code : Nat) => ∃ t, exec (.imageHeader false) s = .next t ∧ t.b.cfgState = 7 ∧ t.b.fld (r0 .CFG_STATUS) F.CFG_STATUS_CODE = code ∧
      t.b.reg (r0 .CFG_ERR_FRAME) = 0xFFFFFFFF#32 ∧ t.b.clus = s.b.clus ∧ t.b.parts = s.b.parts ∧ s.b.sameMem t.b
    let family := decide (leAt h 8 1 = id.toNat / 2 ^ 24 ∧ leAt h 0xA 2 % 4096 = id.toNat / 2 ^ 12 % 4096)
    let x := ({ s.b with cfg := { s.b.cfg with hdr := h, buf := s.b.cfg.buf.drop 256, taken := 256 } } : Block)
    let y := x.cfgEnter 2
    (s.b.cfgState ≠ 1 ∨ s.b.cfg.buf.length < 256 → exec (.imageHeader false) s = .next s) ∧
    (s.b.cfgState = 1 → 256 ≤ s.b.cfg.buf.length →
      (leAt h 0 4 ≠ 0x4953594C → fails 1) ∧
      (leAt h 0 4 = 0x4953594C → family = false → fails 2) ∧
      (leAt h 0 4 = 0x4953594C → family = true → (id.toNat / 256 % 16 < leAt h 0xC 1 ∨ leAt h 0xD 1 < id.toNat / 256 % 16) → fails 3) ∧
      (x.headerStatus = none → y.authorize = none → fails 7) ∧
      (x.headerStatus = none → y.authorize ≠ none → y.encrypted = true → y.imgKey = none → fails 8) ∧
      (x.headerStatus = none → y.authorize ≠ none → (y.encrypted = true → y.imgKey ≠ none) → s.b.cfg.ended = false →
        ∃ t, exec (.imageHeader false) s = .next t ∧ t.b.cfgState = 3 ∧ t.b.cfg.hdr = h ∧ t.b.cfg.buf = s.b.cfg.buf.drop 256 ∧
          s.b.onlyRegs { t.b with cfg := s.b.cfg } [r0 .CFG_STATUS]) ∧
      (x.headerStatus = none → s.b.sec.keyFault = false → ∃ t, exec (.imageHeader true) s = .next t ∧ t.b.sec.keyFault = true ∧
        t.b.bit (r0 .SEC_STATUS) F.SEC_STATUS_KEYSTORE_OK = false ∧ t.b.bit (r0 .FLT_STATUS) F.FLT_STATUS_X_HELD = true ∧ t.b.evtPend 15 = true))

/-- The frame at the head of the stream is counted in CFG_PROGRESS and taken. A sound one that does not name the module, of whatever type but END, changes nothing else (R219). MANIFEST without LAST appends its payload to the partition's manifest; with LAST the checks of Table 6.4 run: the first that fails ends the load with its status and stands in CFG_MAN_CHECK, an accepted manifest gives its clusters to the partition, with its schedule length (R195, R220). STORE writes its bytes into the cluster's store space, in an image and in a patch (R216, R245); FILL writes its 16 bytes COUNT times; REGS writes the RWL registers that its pairs name, in order; QUEUE appends its saved entries to the FMP, oldest first (R216); FIRMWARE is handed to the HKC. A frame that breaks R215 fails the load with status 0x04, one that names the module and is of an undefined type with 0x0A or of a type that the image may not hold with 0x09, one of a partition that the function does not serve with 0x07, a payload whose tag does not verify with 0x08, each with the frame's number (R231). No far-memory or scratchpad byte changes. -/
def Obligations.FramesFillTheStores : Prop :=
  (∀ (s : State) (i : Instr) (ty : Nat),
    let f := frameAt s.b.cfg.buf
    let fails := fun (code : Nat) => ∃ t, exec i s = .next t ∧ t.b.cfgState = 7 ∧ t.b.fld (r0 .CFG_STATUS) F.CFG_STATUS_CODE = code ∧
      t.b.reg (r0 .CFG_ERR_FRAME) = BitVec.ofNat 32 s.b.cfg.pos ∧ t.b.clus = s.b.clus ∧ t.b.parts = s.b.parts ∧ s.b.sameMem t.b
    let sound := s.b.cfgState = 3 ∧ s.b.unitReady = true ∧ s.b.frameOk f (s.b.frameLen.getD 0) = true
    (i, ty) ∈ [(Instr.manifest, 1), (Instr.store, 2), (Instr.fill, 3), (Instr.regs, 4), (Instr.queue, 5), (Instr.firmware, 6)] →
    (s.b.cfgState = 3 → s.b.unitReady = true → s.b.frameOk f (s.b.frameLen.getD 0) = false → fails 4) ∧
    (sound → (f.typ ≤ 5 → s.b.vfOk f.part = true) → s.b.named f = true → frameTypeOk f.typ = false → fails 0x0A) ∧
    (s.b.frameNext ty → s.b.named f = true → s.b.typeForKind ty = false → fails 9) ∧
    (sound → f.typ = ty → ty ≤ 5 → s.b.vfOk f.part = false → fails 7) ∧
    (s.b.frameNext ty → s.b.named f = true → s.b.typeForKind ty = true → s.b.framePayload = none → fails 8) ∧
    (sound → f.typ = ty ∨ frameTypeOk f.typ = false → (f.typ ≤ 5 → s.b.vfOk f.part = true) → s.b.cfg.ended = false → s.b.named f = false → ∃ t, exec i s = .next t ∧ s.b.counted t.b ∧ t.b.clus = s.b.clus ∧ t.b.parts = s.b.parts ∧
      t.b.cfg.mans = s.b.cfg.mans ∧ t.b.cfg.firmware = s.b.cfg.firmware)) ∧
  (∀ s : State,
    let f := s.b.frameNow
    let l := (s.b.manBuf f.part).bytes ++ f.data
    s.b.frameDue 1 → s.b.scopeAt f.part false ≠ none → (s.b.manBuf f.part).last = false → l.length ≤ 64 * 2 ^ 20 →
    (f.last = false → ∃ t, exec .manifest s = .next t ∧ s.b.counted t.b ∧ (t.b.manBuf f.part).bytes = l ∧ (t.b.manBuf f.part).last = false ∧
      t.b.clus = s.b.clus ∧ t.b.parts = s.b.parts) ∧
    (∀ m, f.last = true → parseMan l = some m → m.part = f.part → s.b.scopeAt f.part (!(m.clusters s.b.devId.toNat).isEmpty) ≠ none →
      (s.b.manFail m = none → ∃ t, exec .manifest s = .next t ∧ s.b.counted t.b ∧ (t.b.manBuf f.part).last = true ∧
        (t.b.manBuf f.part).clusters = m.clusters s.b.devId.toNat ∧ t.b.clus = s.b.clus ∧
        (m.clusters s.b.devId.toNat ≠ [] → (t.b.part f.part).clusters = m.clusters s.b.devId.toNat ∧ (t.b.part f.part).len = m.len ∧
          ∀ c ∈ m.clusters s.b.devId.toNat, t.b.cluPart c = some f.part)) ∧
      (∀ code c n, s.b.manFail m = some (code, c, n) → ∃ t, exec .manifest s = .next t ∧ t.b.cfgState = 7 ∧
        t.b.fld (r0 .CFG_STATUS) F.CFG_STATUS_CODE = checkStatus code ∧ t.b.clus = s.b.clus ∧ t.b.parts = s.b.parts ∧
        (s.b.bit (r0 .CFG_MAN_CHECK) F.CFG_MAN_CHECK_VALID = false →
          t.b.reg (r0 .CFG_MAN_CHECK) = BitVec.ofNat 32 (2 ^ 31 + code * 2 ^ 16 + f.part * 2 ^ 8 + c))))) ∧
  (∀ (s : State) (x : Cluster),
    let f := s.b.frameNow
    let puts := fun (l : List Byte) => storeDefined f.addr l.length = true ∧ (s.b.clu f.clu).putBytes f.addr l = some x ∧
      (pmapTouched f.addr l.length).find? (fun m => !s.b.pmapOk f.clu x m) = none
    let filled := (List.range f.count).flatMap (fun _ => f.data)
    (s.b.frameDue 2 → puts f.data →
      (s.b.isPatch = false ∧ s.b.cluAllowed f = true) ∨ (s.b.isPatch = true ∧ s.b.patchOk f = true ∧ s.b.scopeAt f.part true ≠ none) →
      ∃ t, exec .store s = .next t ∧ s.b.counted t.b ∧ t.b.clu f.clu = x ∧ (∀ c, c ≠ f.clu → t.b.clu c = s.b.clu c) ∧ t.b.parts = s.b.parts) ∧
    (s.b.frameDue 3 → s.b.cluAllowed f = true → f.len = 16 → storeDefined f.addr (16 * f.count) = true → puts filled →
      ∃ t, exec .fill s = .next t ∧ s.b.counted t.b ∧ t.b.clu f.clu = x ∧ (∀ c, c ≠ f.clu → t.b.clu c = s.b.clu c) ∧ t.b.parts = s.b.parts)) ∧
  (∀ s : State,
    let f := s.b.frameNow
    s.b.frameDue 4 → s.b.cluAllowed f = true → f.len % 8 = 0 →
    ∀ y : Block, (List.range (f.len / 8)).foldl (fun (z : Option Block) n => z.bind (fun b =>
        b.regsPair f.clu (leAt f.data (8 * n) 4) (BitVec.ofNat 32 (leAt f.data (8 * n + 4) 4)))) (some s.b) = some y → y.regionsOk f.part f.clu = true →
      ∃ t, exec .regs s = .next t ∧ s.b.counted t.b ∧ t.b.clus = s.b.clus ∧ t.b.parts = s.b.parts ∧ ∀ q, q ≠ r0 .CFG_PROGRESS → t.b.reg q = y.reg q) ∧
  (∀ (s : State),
    let f := s.b.frameNow
    let n := f.addr % 4
    let l := (List.range (f.len / 16)).map (fun i => leAt f.data (16 * i) 16)
    s.b.frameDue 5 → s.b.cluAllowed f = true → f.len % 16 = 0 → (∀ v ∈ l, s.b.queueEntOk f.part f.clu n v = true) →
    ((s.b.clu f.clu).fmpQ n).length + l.length ≤ 64 →
    ∃ t, exec .queue s = .next t ∧ s.b.counted t.b ∧ t.b.clu f.clu = l.foldl (fun x v => x.appendSaved n v) (s.b.clu f.clu) ∧
      (∀ c, c ≠ f.clu → t.b.clu c = s.b.clu c) ∧ t.b.parts = s.b.parts) ∧
  (∀ s : State, s.b.frameDue 6 → ∃ t, exec .firmware s = .next t ∧ s.b.counted t.b ∧ t.b.cfg.firmware = s.b.cfg.firmware ++ s.b.frameNow.data ∧
    t.b.clus = s.b.clus ∧ t.b.parts = s.b.parts)

/-- A sound END frame at the head of the stream: when the SHA-384 digest of the frames is not that of the header the load fails with status 0x06 (R218); when it is, and a manifest has not ended, with 0x09; when every manifest has ended, a design image that is no patch and does not ask to commit is LOADED, with CFG_PART_LOADED set for each partition of it on the module that was not reset since, and no partition leaves Winter state by it; one whose END, naming the module, asks to commit is committed at once, with event 0 pending, each partition RUNNING or FROZEN at its starting DC with its initial value stores, or COMMIT_REFUSED is set where a partition was reset since, in safe mode or with boundary scan unlocked (R240, R467, R488); a patch, or an image of another KIND, ends COMMITTED (Table 7.11, R245). -/
def Obligations.EndFrameLoadsTheImage : Prop :=
  ∀ (s : State),
    let f := frameAt s.b.cfg.buf
    let frames := s.b.cfg.frames ++ s.b.cfg.buf.take (s.b.frameLen.getD 0)
    let ok := decide (leNat (sliceBytes s.b.cfg.hdr 0x30 48) = (sha384 frames).toNat)
    let fails := fun (code : Nat) => ∃ t, exec .endFrame s = .next t ∧ t.b.cfgState = 7 ∧ t.b.fld (r0 .CFG_STATUS) F.CFG_STATUS_CODE = code ∧
      t.b.clus = s.b.clus ∧ t.b.parts = s.b.parts ∧ s.b.sameMem t.b
    s.b.frameNext 0x0F →
    (ok = false → fails 6) ∧
    (ok = true → (∃ e ∈ s.b.cfg.mans, e.2.last = false) → fails 9) ∧
    (ok = true → (∀ e ∈ s.b.cfg.mans, e.2.last = true) → s.b.isPatch = false → s.b.imgKind = 0 → f.auto = false ∨ s.b.named f = false →
      ∃ t, exec .endFrame s = .next t ∧ t.b.cfgState = 5 ∧ (∀ p ∈ s.b.imageParts, p ∉ s.b.cfg.resets → t.b.isLoaded p = true) ∧ t.b.clus = s.b.clus ∧
        t.b.parts = s.b.parts ∧ s.b.sameMem t.b) ∧
    (ok = true → (∀ e ∈ s.b.cfg.mans, e.2.last = true) → s.b.isPatch = false → s.b.imgKind = 0 → f.auto = true → s.b.named f = true →
      s.b.imageParts.Nodup → (s.b.imageParts.flatMap (fun p => (s.b.part p).clusters)).Nodup →
      (s.b.safeMode = true ∨ s.b.fld (r0 .SEC_STATUS) F.SEC_STATUS_UNLOCK = 1 ∨ (∃ p ∈ s.b.imageParts, p ∈ s.b.cfg.resets ∧ s.b.isLoaded p = false) →
        ∃ t, exec .endFrame s = .next t ∧ t.b.cfgState = 5 ∧ t.b.bit (r0 .CFG_STATUS) F.CFG_STATUS_COMMIT_REFUSED = true ∧ t.b.clus = s.b.clus ∧ t.b.parts = s.b.parts) ∧
      (s.b.safeMode = false → s.b.fld (r0 .SEC_STATUS) F.SEC_STATUS_UNLOCK ≠ 1 → (∀ p ∈ s.b.imageParts, p ∉ s.b.cfg.resets) →
        ∃ t, exec .endFrame s = .next t ∧ t.b.cfgState = 6 ∧ t.b.evtPend 0 = true ∧
          ∀ p ∈ s.b.imageParts, (t.b.part p).state = (if (s.b.part p).man.framePaths then .frozen else .running) ∧ (t.b.part p).dc = (s.b.part p).man.startDc ∧
            ∀ c ∈ (s.b.part p).clusters, (t.b.clu c).vs = (s.b.clu c).initVs ∧ (t.b.clu c).next = [])) ∧
    (ok = true → (∀ e ∈ s.b.cfg.mans, e.2.last = true) → s.b.isPatch = true ∨ s.b.imgKind ≠ 0 →
      ∃ t, exec .endFrame s = .next t ∧ t.b.cfgState = 6 ∧ t.b.clus = s.b.clus ∧ t.b.parts = s.b.parts ∧ s.b.sameMem t.b)

/-- In every state an end mark answers a next state. On the UP link it is forwarded on every link of MASK that is ACTIVE or in RETRAIN; a load from the link that has not ended then ends, with status 0x05 when its next unit has not come, and nothing else of the engine changes otherwise; on any other link it is a protocol error, counted and with its error bit, and nothing else (R229, R235). A report answers a next state: on a link outside MASK it is a protocol error; on a link of MASK it is kept, and nothing else changes while the own load has not ended or another link of MASK has still to report; the last one makes the module report the sum with its own load: up, with one message more on the UP link where that is ACTIVE or in RETRAIN, or at the root in CFG_FANOUT_RESULT and CFG_FANOUT_FIRST with event 4 (R238). A report that has not come in CFG_TMO after the own load ended is replaced by one of one failed module with code 0x0B in the name of the waiting module, with the same consequences; before, or for a link that has reported or lies outside MASK, the timeout changes nothing (R238). -/
def Obligations.FanOutReports : Prop :=
  (∀ (s : State) (n : LinkNo),
    let up := decide (s.b.upLink = some n.toNat)
    let ends := decide (s.b.cfgSrc = 1) && !s.b.cfg.ended
    let short := s.b.loading && !s.b.unitReady
    ∃ t, exec (.endMark n) s = .next t ∧ t.b.clus = s.b.clus ∧ t.b.parts = s.b.parts ∧ s.b.sameMem t.b ∧
      (up = true → (∀ m ∈ s.b.maskLinks, m ≠ n.toNat → s.b.lnkState m = 5 ∨ s.b.lnkState m = 6 →
        (t.b.link m).queue.length = (s.b.link m).queue.length + 1)) ∧
      (up = true → ends = false → t.b = { s.b with links := t.b.links }) ∧
      (up = true → ends = true → t.b.cfg.ended = true ∧
        (short = false → t.b = { s.b with links := t.b.links, cfg := { s.b.cfg with ended := true } }) ∧
        (short = true → t.b.cfgState = 7 ∧ t.b.fld (r0 .CFG_STATUS) F.CFG_STATUS_CODE = 5 ∧ t.b.cfg.buf = [])) ∧
      (up = false → t.b.cfg = s.b.cfg ∧ t.b.bit (r1 .LNK_ERRn n.toNat) F.LNK_ERRn_PROTO = true ∧
        t.b.fld (r1 .LNK_CNTn n.toNat) F.LNK_CNTn_PROTO = min (s.b.fld (r1 .LNK_CNTn n.toNat) F.LNK_CNTn_PROTO + 1) (2 ^ F.LNK_CNTn_PROTO.len - 1))) ∧
  (∀ (s : State) (n : LinkNo) (ok fail : BitVec 11) (dev : DeviceId) (code : BitVec 8),
    let after := fun (i : Instr) (f : FanReport) =>
      let got := s.b.cfg.reports.put n.toNat f
      let all := s.b.cfg.endAt.isSome && !s.b.cfg.reported && s.b.maskLinks.all (fun m => (got.find m).isSome)
      let sum := (s.b.maskLinks.filterMap (fun m => got.find m)).foldl FanReport.join
        (if s.b.cfgState = 7 then ⟨0, 1, s.b.devId.toNat, s.b.fld (r0 .CFG_STATUS) F.CFG_STATUS_CODE, false⟩ else ⟨1, 0, 0, 0, false⟩)
      ∃ t, exec i s = .next t ∧
        (all = false → t.b = { s.b with cfg := { s.b.cfg with reports := got } }) ∧
        (all = true → t.b.cfg = { s.b.cfg with reports := got, reported := true } ∧ t.b.clus = s.b.clus ∧ t.b.parts = s.b.parts ∧ s.b.sameMem t.b ∧
          (∀ u, s.b.upLink = some u → t.b = { s.b with links := t.b.links, cfg := t.b.cfg } ∧
            (s.b.lnkState u = 5 ∨ s.b.lnkState u = 6 → (t.b.link u).queue.length = (s.b.link u).queue.length + 1)) ∧
          (s.b.upLink = none → t.b.reg (r0 .CFG_FANOUT_RESULT) = BitVec.ofNat 32 (min sum.ok 2047 * 2 ^ 16 + min sum.fail 2047) ∧
            t.b.reg (r0 .CFG_FANOUT_FIRST) = (if sum.fail = 0 then 0 else
              BitVec.ofNat 32 (2 ^ 31 + sum.missing.toNat * 2 ^ 30 + sum.code % 256 * 2 ^ 16 + sum.dev % 1024)) ∧ t.b.evtPend 4 = true))
    let late := decide (n.toNat ∈ s.b.maskLinks ∧ s.b.cfg.reports.find n.toNat = none ∧ s.b.cfg.endAt.any (fun e => decide (s.b.cfgTmo ≤ s.b.pw.ctl - e)) = true)
    (n.toNat ∉ s.b.maskLinks → ∃ t, exec (.fanoutReport n ok fail dev code) s = .next t ∧ t.b.cfg = s.b.cfg ∧
      t.b.bit (r1 .LNK_ERRn n.toNat) F.LNK_ERRn_PROTO = true ∧ t.b.clus = s.b.clus ∧ t.b.parts = s.b.parts ∧ s.b.sameMem t.b) ∧
    (n.toNat ∈ s.b.maskLinks → after (.fanoutReport n ok fail dev code) ⟨ok.toNat, fail.toNat, dev.toNat, code.toNat, false⟩) ∧
    (late = false → exec (.fanoutReportTimeout n) s = .next s) ∧
    (late = true → after (.fanoutReportTimeout n) ⟨0, 1, s.b.devId.toNat, 0x0B, true⟩))

/-- While scrub is off, or the cluster is in Frost, SCRUB_READ changes nothing; otherwise the read takes a free slot of its word's bank, or waits where there is none or a request of higher order waits (R65); the store's pointer moves on by one modulo 2,048, a clean word changes no instruction or value, a corrected word waits for its write-back and counts in SCRUB_CORR, an uncorrectable one of a running partition faults at the next step, one of a FROZEN partition stops it as STOPPED_FAULT, inconsistent, and so does a frame whose CRC-32 is not that of the stored words (R246 to R249). SCRUB_WRITE_BACK takes the oldest waiting correction of the store whose bank is free and not awaited by a bulk read, FREE_SLOT_ACCESS first a word of the oldest bulk read that waits for its bank, then the oldest correction of it, then a scrub read that waits (R65). CFG_SCRUB_CTRL takes its defined bits. BULK_READ returns the bytes of the store space where Table 7.10 and the operator's scope allow all of them and changes nothing else, but in a running cluster waits, with no byte returned, while a word of it has no free slot (R65); otherwise it returns zeros and sets REFUSED_RD. BULK_WRITE puts the bytes where they allow it, and sets REFUSED_WR and changes nothing else where they do not (R224, R226). -/
def Obligations.ScrubAndBulkAccess : Prop :=
  (∀ (s : State) (c : ClusterId) (st : StoreSel) (g : ScrubFinding),
    (s.b.bit (r0 .CFG_SCRUB_CTRL) F.CFG_SCRUB_CTRL_EN = false ∨ s.b.cluState c.toNat = .frost → exec (.scrubRead c st g) s = .next s) ∧
    (s.b.bit (r0 .CFG_SCRUB_CTRL) F.CFG_SCRUB_CTRL_EN = true → s.b.cluState c.toNat ≠ .frost →
      let x := s.b.clu c.toNat
      let w := NMap.get 0 x.scrubAt (storeNo st)
      let now := s.b.slotFree c.toNat st w && !x.scrubBehind st
      (now = false → ∃ t, exec (.scrubRead c st g) s = .next t ∧ s.b.onlyClu t.b c.toNat ∧ t.b.clu c.toNat = { x with scrubWait := x.scrubWait ++ [(st, g)] }) ∧
      (now = true → ∃ t, exec (.scrubRead c st g) s = .next t ∧ NMap.get 0 (t.b.clu c.toNat).scrubAt (storeNo st) = (w + 1) % 2048 ∧
        (t.b.clu c.toNat).instr = x.instr ∧ (t.b.clu c.toNat).vs = x.vs ∧ s.b.sameMem t.b ∧
        (∀ d, d ≠ c.toNat → t.b.clu d = { s.b.clu d with scrubPass := (t.b.clu d).scrubPass }) ∧
        (g = .ok → t.b.parts = s.b.parts ∧ (t.b.clu c.toNat).scrubFix = x.scrubFix) ∧
        (g = .corr → (t.b.clu c.toNat).scrubFix = x.scrubFix ++ [(st, w)] ∧
          t.b.fld (r1 .CLU_ECC_CNT c.toNat) F.CLU_ECC_CNT_SCRUB_CORR = min (s.b.fld (r1 .CLU_ECC_CNT c.toNat) F.CLU_ECC_CNT_SCRUB_CORR + 1) 0xFFFF) ∧
        (g = .due → s.b.cluState c.toNat = .running → (t.b.clu c.toNat).scrubDue = x.scrubDue ++ [(st, w)]) ∧
        (∀ p, g = .due → s.b.cluPart c.toNat = some p → (s.b.part p).state = .frozen →
          (t.b.part p).state = .stoppedFault ∧ (t.b.part p).inconsistent = true) ∧
        (∀ v, g = .crc v → w % 64 = 63 → v ≠ x.frameCrc st (w / 64) → s.b.cluState c.toNat = .running →
          (t.b.clu c.toNat).scrubDue = x.scrubDue ++ [(st, w / 64 * 64)]) ∧
        (∀ v, g = .crc v → (w % 64 ≠ 63 ∨ v = x.frameCrc st (w / 64)) → (t.b.clu c.toNat).scrubDue = x.scrubDue ∧ t.b.parts = s.b.parts))) ∧
    (∃ t, exec (.scrubWriteBack c st) s = .next t ∧
      (t.b.clu c.toNat).scrubFix = dropFirst (fun e => decide (e.1 = st) && s.b.slotFree c.toNat st e.2 && !(s.b.clu c.toNat).bulkAhead e) (s.b.clu c.toNat).scrubFix ∧
      (t.b.clu c.toNat).instr = (s.b.clu c.toNat).instr ∧ s.b.onlyClu t.b c.toNat) ∧
    (∀ odd, (s.b.slotFree c.toNat st (b2n odd) = false → exec (.freeSlotAccess c st odd) s = .next s) ∧
      (∀ e, s.b.slotFree c.toNat st (b2n odd) = true → (s.b.clu c.toNat).bulkWait.find? (fun e => e.words.any (sameBank (st, b2n odd))) = some e →
        let left := dropFirst (sameBank (st, b2n odd)) e.words
        ∃ t, exec (.freeSlotAccess c st odd) s = .next t ∧ (∀ d, d ≠ c.toNat → t.b.clu d = s.b.clu d) ∧
          t.b = { s.b with clus := t.b.clus, reply := t.b.reply } ∧ (t.b.clu c.toNat).instr = (s.b.clu c.toNat).instr ∧
          (t.b.clu c.toNat).scrubFix = (s.b.clu c.toNat).scrubFix ∧ (t.b.clu c.toNat).scrubWait = (s.b.clu c.toNat).scrubWait ∧
          (left = [] → t.b.reply = s.b.storeBytes c.toNat e.off e.len ∧ (t.b.clu c.toNat).bulkWait = (s.b.clu c.toNat).bulkWait.erase e) ∧
          (left ≠ [] → t.b.reply = s.b.reply ∧
            (t.b.clu c.toNat).bulkWait = (s.b.clu c.toNat).bulkWait.map (fun f => if f = e then { e with words := left } else f))) ∧
      (s.b.slotFree c.toNat st (b2n odd) = true → (s.b.clu c.toNat).bulkAhead (st, b2n odd) = false → (∃ e ∈ (s.b.clu c.toNat).scrubFix, e.1 = st ∧ e.2 % 2 = b2n odd) →
        ∃ t, exec (.freeSlotAccess c st odd) s = .next t ∧
          (t.b.clu c.toNat).scrubFix = dropFirst (fun e => decide (e.1 = st ∧ e.2 % 2 = b2n odd)) (s.b.clu c.toNat).scrubFix ∧
          (t.b.clu c.toNat).instr = (s.b.clu c.toNat).instr ∧ s.b.onlyClu t.b c.toNat) ∧
      (∀ g, s.b.slotFree c.toNat st (b2n odd) = true → (s.b.clu c.toNat).bulkAhead (st, b2n odd) = false → (∀ e ∈ (s.b.clu c.toNat).scrubFix, ¬(e.1 = st ∧ e.2 % 2 = b2n odd)) →
        NMap.get 0 (s.b.clu c.toNat).scrubAt (storeNo st) % 2 = b2n odd → (s.b.clu c.toNat).scrubWait.find? (fun e => decide (e.1 = st)) = some (st, g) →
        ∃ t, exec (.freeSlotAccess c st odd) s = .next t ∧ (t.b.clu c.toNat).scrubWait = dropFirst (fun e => decide (e.1 = st)) (s.b.clu c.toNat).scrubWait ∧
          NMap.get 0 (t.b.clu c.toNat).scrubAt (storeNo st) = (NMap.get 0 (s.b.clu c.toNat).scrubAt (storeNo st) + 1) % 2048 ∧
          (t.b.clu c.toNat).instr = (s.b.clu c.toNat).instr ∧ s.b.sameMem t.b))) ∧
  (∀ (s : State) (r : Requester) (v : Word), s.b.reaches r (r0 .CFG_SCRUB_CTRL) = true → s.b.roleOk r (r0 .CFG_SCRUB_CTRL) = true →
    ∃ t, exec (.cfgScrubCtrlWrite r v) s = .next t ∧ t.b.reg (r0 .CFG_SCRUB_CTRL) = v &&& 0xFF01#32 ∧ (∀ k, k ≠ r0 .CFG_SCRUB_CTRL → t.b.reg k = s.b.reg k) ∧
      { t.b with regs := s.b.regs, clus := s.b.clus } = s.b ∧ (v.getLsbD 0 = false → t.b.clus = s.b.clus)) ∧
  (∀ (s : State) (r : Requester) (off : BitVec 25) (len : BitVec 7),
    let c := s.b.bulkSel
    let ok := s.b.bulkRight r c && (List.range len.toNat).all (fun i => s.b.bulkByteOk c (off.toNat + i))
    s.b.reaches r (r0 .CFG_BULK_SEL) = true →
    let left := s.b.bulkLeft c (storeWords off.toNat len.toNat)
    let waits := decide (s.b.cluState c = .running ∧ left ≠ [])
    ∃ t, exec (.bulkRead r off len) s = .next t ∧
      (ok = true → waits = true → t.b.reply = [] ∧ s.b.onlyClu { t.b with reply := s.b.reply } c ∧
        t.b.clu c = { s.b.clu c with bulkWait := (s.b.clu c).bulkWait ++ [⟨off.toNat, len.toNat, left⟩] }) ∧
      (ok = true → waits = false → t.b = { s.b with reply := (List.range len.toNat).map (fun i => (s.b.clu c).getByte (decide (s.b.cluState c = .winter)) (off.toNat + i)) }) ∧
      (ok = false → t.b.reply = List.replicate len.toNat 0 ∧ t.b.bit (r0 .CFG_BULK_STATUS) F.CFG_BULK_STATUS_REFUSED_RD = true ∧
        s.b.onlyRegs { t.b with reply := s.b.reply } [r0 .CFG_BULK_STATUS])) ∧
  (∀ (s : State) (r : Requester) (off : BitVec 25) (l : List Byte),
    let c := s.b.bulkSel
    let ok := s.b.bulkRight r c && (List.range l.length).all (fun i => bulkWriteOk (s.b.cluState c) (regionOf (off.toNat + i)))
    s.b.reaches r (r0 .CFG_BULK_SEL) = true →
    (∀ x, ok = true → (s.b.clu c).putBytes off.toNat l = some x → ∃ t, exec (.bulkWrite r off l) s = .next t ∧ t.b.clu c = x ∧ s.b.onlyClu t.b c) ∧
    (ok = false → ∃ t, exec (.bulkWrite r off l) s = .next t ∧ s.b.onlyRegs t.b [r0 .CFG_BULK_STATUS] ∧
      t.b.bit (r0 .CFG_BULK_STATUS) F.CFG_BULK_STATUS_REFUSED_WR = true))

/-- DOWN_TIMEOUT takes an enabled link with a device ID from DOWN to DETECT after 1 ms, and an enabled one without leaves a reason in DOWN_WHY, DETECTION_PATTERN_SEEN takes it there at once and a link in DETECT to TRAIN, DETECT_TIMEOUT a link in DETECT to DOWN after 2 ms, TRAIN_COMPLETE from TRAIN to ALIGN, ALIGN_COMPLETE from ALIGN to CONFIG, TRAINING_ATTEMPT_TIMEOUT after 150 us from TRAIN, ALIGN or CONFIG to DOWN (R255, R256). No other link, register or memory byte changes, and in every other state, or before the time, nothing changes, but that a retraining link notes TRAIN_COMPLETE and ALIGN_COMPLETE. A retrain whose attempt times out counts a try, and after the last one goes DOWN with RETRAIN_FAIL (R274). -/
def Obligations.LinkStatesOfTraining : Prop :=
  ∀ (s : State) (n : LinkNo),
    let st := s.b.lnkState n.toNat
    let may := s.b.lnkMayTrain n.toNat
    let waited := s.b.pw.ctl - (s.b.link n.toNat).since
    let tries := s.b.fld (r1 .LNK_STATUSn n.toNat) F.LNK_STATUSn_TRIES
    let goes := fun (i : Instr) (x : Nat) => ∃ t, exec i s = .next t ∧ t.b.lnkState n.toNat = x ∧
      s.b.onlyRegs { t.b with links := s.b.links } [r1 .LNK_STATUSn n.toNat] ∧ ∀ m, m ≠ n.toNat → t.b.link m = s.b.link m
    (st = 0 → may = true → 250000 ≤ waited → goes (.downTimeout n) 1) ∧
    (st = 0 → may = false → 250000 ≤ waited → s.b.bit (r1 .LNK_CTRLn n.toNat) F.LNK_CTRLn_EN = true → s.b.bit (r0 .LNK_DEVID) F.LNK_DEVID_VALID = false →
      goes (.downTimeout n) 0 ∧ ∃ t, exec (.downTimeout n) s = .next t ∧ t.b.fld (r1 .LNK_STATUSn n.toNat) F.LNK_STATUSn_DOWN_WHY = 6) ∧
    (st ≠ 0 ∨ waited < 250000 ∨ (may = false ∧
      (s.b.bit (r1 .LNK_CTRLn n.toNat) F.LNK_CTRLn_EN = false ∨ s.b.bit (r0 .LNK_DEVID) F.LNK_DEVID_VALID = true)) → exec (.downTimeout n) s = .next s) ∧
    (st = 0 → may = true → goes (.detectionPatternSeen n) 1) ∧ (st = 1 → goes (.detectionPatternSeen n) 2) ∧
    (st ≠ 1 → (st ≠ 0 ∨ may = false) → exec (.detectionPatternSeen n) s = .next s) ∧
    (st = 1 → 500000 ≤ waited → goes (.detectTimeout n) 0) ∧
    (st ≠ 1 ∨ waited < 500000 → exec (.detectTimeout n) s = .next s) ∧
    (st = 2 → goes (.trainComplete n) 3) ∧ (st ≠ 2 → st ≠ 6 → exec (.trainComplete n) s = .next s) ∧
    (st = 6 → ∃ t, exec (.trainComplete n) s = .next t ∧ s.b.onlyLink t.b n.toNat) ∧
    (st = 3 → goes (.alignComplete n) 4) ∧ (st ≠ 3 → st ≠ 6 → exec (.alignComplete n) s = .next s) ∧
    (st = 6 → ∃ t, exec (.alignComplete n) s = .next t ∧ s.b.onlyLink t.b n.toNat) ∧
    (waited < 37500 ∨ st = 0 ∨ st = 1 ∨ st = 5 ∨ st = 7 → exec (.trainingAttemptTimeout n) s = .next s) ∧
    (37500 ≤ waited → (st = 2 ∨ st = 3 ∨ st = 4 → goes (.trainingAttemptTimeout n) 0) ∧
      (st = 6 → tries + 1 < s.b.tries → goes (.trainingAttemptTimeout n) 6 ∧
        ∃ t, exec (.trainingAttemptTimeout n) s = .next t ∧ t.b.fld (r1 .LNK_STATUSn n.toNat) F.LNK_STATUSn_TRIES = tries + 1) ∧
      (st = 6 → s.b.tries ≤ tries + 1 → ∃ t, exec (.trainingAttemptTimeout n) s = .next t ∧ t.b.lnkState n.toNat = 0 ∧
        t.b.bit (r1 .LNK_ERRn n.toNat) F.LNK_ERRn_RETRAIN_FAIL = true))

/-- The CONFIG exchange of a link in CONFIG with another device makes it ACTIVE, with the neighbour in its status, the partner's free counts as credit, empty sequences and its event pending; of a retraining link that has trained and aligned again it does the same, but keeps the flits that the partner has not acknowledged and puts all of them into the replay; with the module's own ID it takes the link DOWN with reason 5; in every other state it changes nothing (R257, R273, R276). RETRAIN and ALIGNMENT_LOSS take an ACTIVE link to RETRAIN, count it, raise its event and leave PATH_HOLD ON reported for every partition seen on it, outstanding when there is one (R272, R267); in every other state they change nothing. LOSS_OF_SIGNAL of an ACTIVE link and LINK_RESET of an ACTIVE or retraining one take it DOWN with reasons 1 and 3, with nothing kept for it, and where no partition was seen on it one level L entry of class 0x0A names the link (R255, R282, R504); in every other state they change nothing. LNK_CTRL without EN disables the link, an ACTIVE one after LINK_RESET, which goes out behind the replay in progress and the symbols that wait (R282, R264), with EN it enables a disabled one to DOWN unless the firmware keeps every link disabled (R466), with RETRAIN it retrains an ACTIVE one; LNK_DEVID takes its bits while every link is DOWN or DISABLED and nothing otherwise (Table 8.17). FEC_WINDOW sets FEC_DEGRADE when the window's corrections exceed DEGRADE, and begins a new window (R283). -/
def Obligations.LinksComeUpRetrainAndGoDown : Prop :=
  (∀ (s : State) (n : LinkNo) (x : ConfigInfo),
    let st := s.b.lnkState n.toNat
    let k := r1 .LNK_STATUSn n.toNat
    let trained := st = 4 ∨ (st = 6 ∧ (s.b.link n.toNat).phase = 2)
    (¬ trained → exec (.configExchange n x) s = .next s) ∧
    (trained → x.devId = s.b.devId → ∃ t, exec (.configExchange n x) s = .next t ∧ t.b.lnkState n.toNat = 0 ∧ t.b.fld k F.LNK_STATUSn_DOWN_WHY = 5) ∧
    (trained → x.devId ≠ s.b.devId → ∃ t, exec (.configExchange n x) s = .next t ∧ t.b.lnkState n.toNat = 5 ∧
      t.b.fld k F.LNK_STATUSn_NBR_ID = x.devId.toNat ∧ t.b.fld k F.LNK_STATUSn_NBR_LINK = x.link.toNat ∧
      (∀ j < 6, t.b.fld (r2 .LNK_CRDn_k n.toNat j) F.LNK_CRDn_k_AVAIL = min (bufSize j) (x.free[j]?.getD 0)) ∧
      t.b.evtPend (32 + 2 * n.toNat) = true ∧
      (st = 4 → (t.b.link n.toNat).txSeq = 0 ∧ (t.b.link n.toNat).unacked = [] ∧ (t.b.link n.toNat).rxSeq = 4095) ∧
      (st = 6 → (t.b.link n.toNat).unacked.map (·.seq) = (ackDrop (s.b.link n.toNat).unacked x.ack.toNat).map (·.seq) ∧
        (t.b.link n.toNat).replay.map (·.seq) = (t.b.link n.toNat).unacked.map (·.seq)) ∧
      t.b.clus = s.b.clus ∧ t.b.parts = s.b.parts ∧ s.b.sameMem t.b)) ∧
  (∀ (s : State) (r : Requester) (n : LinkNo) (i : Instr), i ∈ [Instr.retrain r n, .alignmentLoss n] →
    (i = .retrain r n → s.b.reaches r (r1 .LNK_CTRLn n.toNat) = true ∧ s.b.roleOk r (r1 .LNK_CTRLn n.toNat) = true) →
    (s.b.lnkState n.toNat ≠ 5 → exec i s = .next s) ∧
    (s.b.lnkState n.toNat = 5 → ∃ t, exec i s = .next t ∧ t.b.lnkState n.toNat = 6 ∧
      (t.b.link n.toNat).holdOut = ((s.b.link n.toNat).holdOut || decide (s.b.seen n.toNat ≠ [])) ∧
      (∀ p ∈ s.b.seen n.toNat, p ∈ (t.b.link n.toNat).holdFor ∧ s.b.devId.toNat * 16 + n.toNat ∈ (t.b.part p).holds) ∧
      (t.b.link n.toNat).unacked = (s.b.link n.toNat).unacked ∧
      t.b.fld (r1 .LNK_CNTn n.toNat) F.LNK_CNTn_RETRAINS = min (s.b.fld (r1 .LNK_CNTn n.toNat) F.LNK_CNTn_RETRAINS + 1) 255 ∧
      t.b.evtPend (32 + 2 * n.toNat) = true ∧ t.b.clus = s.b.clus ∧ s.b.sameMem t.b)) ∧
  (∀ (s : State) (n : LinkNo),
    let down := fun (i : Instr) (why : Nat) => ∃ t, exec i s = .next t ∧ t.b.lnkState n.toNat = 0 ∧
      t.b.fld (r1 .LNK_STATUSn n.toNat) F.LNK_STATUSn_DOWN_WHY = why ∧ (t.b.link n.toNat).unacked = [] ∧ (t.b.link n.toNat).queue = [] ∧
      (s.b.lnkState n.toNat = 5 → t.b.evtPend (32 + 2 * n.toNat) = true) ∧ (s.b.seen n.toNat = [] → s.b.logged t.b 2 0x0A n.toNat 0)
    (s.b.lnkState n.toNat = 5 → down (.lossOfSignal n) 1) ∧ (s.b.lnkState n.toNat ≠ 5 → exec (.lossOfSignal n) s = .next s) ∧
    (s.b.lnkState n.toNat = 5 ∨ s.b.lnkState n.toNat = 6 → down (.linkReset n) 3) ∧
    (s.b.lnkState n.toNat ≠ 5 → s.b.lnkState n.toNat ≠ 6 → exec (.linkReset n) s = .next s)) ∧
  (∀ (s : State) (r : Requester) (n : LinkNo) (v : Word), s.b.reaches r (r1 .LNK_CTRLn n.toNat) = true → s.b.roleOk r (r1 .LNK_CTRLn n.toNat) = true →
    ∃ t, exec (.lnkCtrlEnWrite r n v) s = .next t ∧ t.b.reg (r1 .LNK_CTRLn n.toNat) = v &&& 5#32 ∧
      (v.getLsbD 0 = false → t.b.lnkState n.toNat = 7) ∧
      (let l := s.b.link n.toNat;
        v.getLsbD 0 = false → s.b.lnkState n.toNat = 5 →
        (∃ w, (t.b.link n.toNat).wire = l.wire ++ w ∧ l.replay.length < w.length) ∧
        (l.replay = [] → l.ctl = [] → (t.b.link n.toNat).wire = l.wire ++
          [flitWord { ctlFlit [⟨4, 0⟩] with seq := l.txSeq } l.rxSeq l.sendNak l.turn (NMap.get 0 l.freed l.turn)])) ∧
      (v.getLsbD 0 = true → s.b.lnkState n.toNat = 7 → s.b.fw.linksOff = false → t.b.lnkState n.toNat = 0) ∧
      (v.getLsbD 0 = true → v.getLsbD 1 = true → s.b.lnkState n.toNat = 5 → t.b.lnkState n.toNat = 6) ∧
      (v.getLsbD 0 = true → v.getLsbD 1 = false → s.b.lnkState n.toNat ≠ 7 → s.b.onlyRegs t.b [r1 .LNK_CTRLn n.toNat])) ∧
  (∀ (s : State) (r : Requester) (v : Word), s.b.reaches r (r0 .LNK_DEVID) = true → s.b.roleOk r (r0 .LNK_DEVID) = true →
    ((∀ n < 16, s.b.lnkState n = 0 ∨ s.b.lnkState n = 7) → ∃ t, exec (.lnkDevidWrite r v) s = .next t ∧ s.b.onlyRegs t.b [r0 .LNK_DEVID] ∧
      t.b.reg (r0 .LNK_DEVID) = v &&& 0x800003FF#32) ∧
    (∀ n < 16, s.b.lnkState n ≠ 0 → s.b.lnkState n ≠ 7 → exec (.lnkDevidWrite r v) s = .next s)) ∧
  (∀ (s : State) (n : LinkNo), ∃ t, exec (.fecWindow n) s = .next t ∧ (t.b.link n.toNat).window = 0 ∧ t.b.clus = s.b.clus ∧ t.b.parts = s.b.parts ∧
    (s.b.fld (r0 .LNK_CFG) F.LNK_CFG_DEGRADE < (s.b.link n.toNat).window → t.b.bit (r1 .LNK_ERRn n.toNat) F.LNK_ERRn_FEC_DEGRADE = true) ∧
    ((s.b.link n.toNat).window ≤ s.b.fld (r0 .LNK_CFG) F.LNK_CFG_DEGRADE → t.b.regs = s.b.regs))

/-- FLIT_TRANSMIT on an ACTIVE link sends exactly one flit: the head of the replay while there is one, which is repeated unchanged with the present acknowledgement (R264, R271), else with symbols waiting a control flit with the oldest that fit, numbered next and kept until acknowledged (R262, R265), else the next flit of the class that the round robin serves, for one credit (R264, R276), else with nothing to send an idle flit. FLIT_RECEIVE of the first flit of an uncorrectable codeword counts it, and each flit of it that is sequenced is discarded and asked for again once (R254, R270); a good idle flit without NAK frees the flits that its ACK covers; a good message flit without NAK in sequence is accepted: the first flit of a message for another module joins the transmit queue of its route's open link at once, on the route's virtual channel (R278, R279, R281), and one without SOM outside a message, or without a route, is a protocol error (R261, R280); one out of sequence is not and is asked for again once. A NAK frees what its ACK covers, counts, and has every later flit resent; when flit ACK + 1 has been resent as often as the limit allows it starts a retrain (R271, R272). NAK_RESEND_TIMEOUT repeats an outstanding NAK after 300 ns. A count of freed flits that frees more than were sent starts a retrain that mends the credits (R505). On a link that is not ACTIVE nothing changes. FLIT_TRANSMIT first frees the receive buffers of the configuration messages that have gone on to every link of MASK (R237); without such messages it frees nothing. -/
def Obligations.FlitsAreSentAcceptedAndReplayed : Prop :=
  (∀ (s : State) (n : LinkNo),
    let b := s.b.relayDone
    let l := b.link n.toNat
    (s.b.cfg.relays = [] → b = s.b) ∧ b.cfg.relays = s.b.cfg.relays.filter (fun e => !s.b.relayGone e.1) ∧
    (s.b.lnkState n.toNat ≠ 5 → exec (.flitTransmit n) s = .next { s with b := b }) ∧
    (s.b.lnkState n.toNat = 5 → ∃ t, exec (.flitTransmit n) s = .next t ∧ (∃ w, (t.b.link n.toNat).wire = l.wire ++ [w]) ∧
      (t.b.link n.toNat).turn = (l.turn + 1) % 6 ∧ (t.b.link n.toNat).sendNak = false ∧
      (∀ f rest, l.replay = f :: rest → (t.b.link n.toNat).replay = rest ∧ (t.b.link n.toNat).txSeq = l.txSeq ∧ (t.b.link n.toNat).unacked = l.unacked ∧
        (t.b.link n.toNat).wire = l.wire ++ [flitWord f l.rxSeq l.sendNak l.turn (NMap.get 0 l.freed l.turn)]) ∧
      (l.replay = [] → l.unacked.length < 512 → l.ctl ≠ [] → (t.b.link n.toNat).txSeq = (l.txSeq + 1) % 4096 ∧
        (t.b.link n.toNat).unacked = l.unacked ++ [{ ctlFlit (packSyms [] l.ctl) with seq := l.txSeq }] ∧
        (t.b.link n.toNat).ctl = l.ctl.drop (packSyms [] l.ctl).length) ∧
      (l.replay = [] → l.ctl = [] → l.queue = [] → (t.b.link n.toNat).txSeq = l.txSeq ∧ (t.b.link n.toNat).unacked = l.unacked) ∧
      (∀ c m f r, l.replay = [] → l.unacked.length < 512 → l.ctl = [] → b.arbitrate n.toNat = some c → b.readyMsg n.toNat c = some m → m.flits = f :: r →
        (t.b.link n.toNat).txSeq = (l.txSeq + 1) % 4096 ∧ (t.b.link n.toNat).unacked = l.unacked ++ [{ f with seq := l.txSeq }] ∧
        t.b.fld (r2 .LNK_CRDn_k n.toNat (2 * (c - 1) + b2n f.vc)) F.LNK_CRDn_k_AVAIL =
          s.b.fld (r2 .LNK_CRDn_k n.toNat (2 * (c - 1) + b2n f.vc)) F.LNK_CRDn_k_AVAIL - 1) ∧
      t.b.clus = s.b.clus ∧ t.b.parts = s.b.parts ∧ s.b.sameMem t.b)) ∧
  (∀ (s : State) (n : LinkNo) (f : BitVec 512) (corr : BitVec 4) (unc : Bool) (st an : Stamp),
    let l := s.b.link n.toNat
    let cls := flitFld f 509 3
    let seq := flitFld f 497 12
    let first := decide (l.cwPos % 10 = 0)
    let bad := if first then unc else l.cwBad
    let k := 2 * (flitFld f 482 2 - 1) + flitFld f 481 1
    let freed := (flitFld f 469 12 + 4096 - NMap.get 0 l.freedIn k) % 4096
    let past := decide (flitFld f 482 2 ≠ 0 ∧ bufSize k < s.b.fld (r2 .LNK_CRDn_k n.toNat k) F.LNK_CRDn_k_AVAIL + freed)
    (s.b.lnkState n.toNat ≠ 5 → exec (.flitReceive n f corr unc st an) s = .next s) ∧
    (s.b.lnkState n.toNat = 5 → bad = true → ∃ t, exec (.flitReceive n f corr unc st an) s = .next t ∧
      t.b.fld (r1 .LNK_FECn n.toNat) F.LNK_FECn_UNCORR = (if first then min (s.b.fld (r1 .LNK_FECn n.toNat) F.LNK_FECn_UNCORR + 1) 255 else s.b.fld (r1 .LNK_FECn n.toNat) F.LNK_FECn_UNCORR) ∧
      (t.b.link n.toNat).rxSeq = l.rxSeq ∧ (cls ≠ 0 → (t.b.link n.toNat).nakOut = true ∧ (l.nakOut = false → (t.b.link n.toNat).sendNak = true)) ∧
      t.b.clus = s.b.clus ∧ s.b.sameMem t.b) ∧
    (s.b.lnkState n.toNat = 5 → bad = false → flitCrcOk f = true → flitFld f 484 1 = 0 →
      (cls = 0 → ∃ t, exec (.flitReceive n f corr unc st an) s = .next t ∧ (t.b.link n.toNat).unacked = ackDrop l.unacked (flitFld f 485 12) ∧
        (t.b.link n.toNat).rxSeq = l.rxSeq ∧ (t.b.link n.toNat).nakOut = l.nakOut ∧ t.b.clus = s.b.clus ∧ s.b.sameMem t.b ∧
        (past = false → t.b.parts = s.b.parts ∧ t.b.lnkState n.toNat = 5 ∧ (flitFld f 482 2 ≠ 0 →
          t.b.fld (r2 .LNK_CRDn_k n.toNat k) F.LNK_CRDn_k_AVAIL = s.b.fld (r2 .LNK_CRDn_k n.toNat k) F.LNK_CRDn_k_AVAIL + freed)) ∧
        (past = true → t.b.lnkState n.toNat = 6 ∧ (t.b.link n.toNat).credFix = true)) ∧
      (cls = 1 ∨ cls = 2 → seq = (l.rxSeq + 1) % 4096 → ∃ t, exec (.flitReceive n f corr unc st an) s = .next t ∧
        (t.b.link n.toNat).rxSeq = seq ∧ (t.b.link n.toNat).nakOut = false ∧ t.b.clus = s.b.clus ∧ s.b.sameMem t.b ∧
        (let dest := flitFld f 459 10
          let vc := decide (flitFld f 458 1 = 1)
          let som := decide (flitFld f 457 1 = 1)
          let eom := decide (flitFld f 456 1 = 1)
          let onward := fun (v : Bool) => ({ cls := cls, vc := v, flits := [⟨cls, 0, dest, v, true, eom, BitVec.ofNat 416 (flitFld f 32 416)⟩], whole := eom,
                                             from_ := some (n.toNat, 2 * (cls - 1) + b2n vc) } : TxMsg)
          l.rx.find cls = none →
          (som = false ∨ s.b.route dest = none → t.b.bit (r1 .LNK_ERRn n.toNat) F.LNK_ERRn_PROTO = true) ∧
          (∀ port v, som = true → s.b.route dest = some (port, v) → port < 16 → port ≠ n.toNat → s.b.lnkState port = 5 ∨ s.b.lnkState port = 6 →
            (t.b.link port).queue = (s.b.link port).queue ++ [onward (vc || v)] ∧
            ((t.b.link n.toNat).rx.find cls).isSome = !eom))) ∧
      (cls ≠ 0 → seq ≠ (l.rxSeq + 1) % 4096 → ∃ t, exec (.flitReceive n f corr unc st an) s = .next t ∧ (t.b.link n.toNat).rxSeq = l.rxSeq ∧
        (t.b.link n.toNat).nakOut = true ∧ (t.b.link n.toNat).unacked = ackDrop l.unacked (flitFld f 485 12) ∧ t.b.clus = s.b.clus ∧ s.b.sameMem t.b))) ∧
  (∀ (s : State) (n : LinkNo) (ack : BitVec 12),
    let l := s.b.link n.toNat
    let u := ackDrop l.unacked ack.toNat
    let done := if u.length = l.unacked.length then l.resends else 0
    let limit := decide (max 1 (s.b.fld (r0 .LNK_CFG) F.LNK_CFG_REPLAY_LIMIT) ≤ done ∧ u ≠ [])
    (s.b.lnkState n.toNat ≠ 5 → exec (.nakReceive n ack) s = .next s) ∧
    (s.b.lnkState n.toNat = 5 → ∃ t, exec (.nakReceive n ack) s = .next t ∧ (t.b.link n.toNat).unacked.map (·.seq) = u.map (·.seq) ∧
      t.b.fld (r1 .LNK_CNTn n.toNat) F.LNK_CNTn_REPLAYS = min (s.b.fld (r1 .LNK_CNTn n.toNat) F.LNK_CNTn_REPLAYS + 1) 65535 ∧
      (limit = true → t.b.lnkState n.toNat = 6 ∧ t.b.bit (r1 .LNK_ERRn n.toNat) F.LNK_ERRn_REPLAY_LIMIT = true) ∧
      (limit = false → t.b.lnkState n.toNat = 5 ∧ (t.b.link n.toNat).replay.map (·.seq) = u.map (·.seq) ∧ (t.b.link n.toNat).resends = done ∧
        t.b.reg (r0 .FLT_CORR) = s.b.reg (r0 .FLT_CORR) + 1) ∧ t.b.clus = s.b.clus ∧ s.b.sameMem t.b)) ∧
  (∀ (s : State) (n : LinkNo),
    let due := decide ((s.b.link n.toNat).nakOut = true ∧ s.b.lnkState n.toNat = 5 ∧ 75 ≤ s.b.pw.ctl - (s.b.link n.toNat).nakSent)
    (due = false → exec (.nakResendTimeout n) s = .next s) ∧
    (due = true → ∃ t, exec (.nakResendTimeout n) s = .next t ∧ (t.b.link n.toNat).sendNak = true ∧ (t.b.link n.toNat).nakAt = s.b.pw.ctl ∧
      (t.b.link n.toNat).nakSent = s.b.pw.ctl ∧
      (t.b.link n.toNat).nakOut = true ∧ t.b.clus = s.b.clus ∧ s.b.sameMem t.b))

/-- A segment for this module of a configured path and an expected DC that lies within the path puts its bits, and LAST, into the frame buffer of that DC of a running partition; any other is counted as a protocol error and changes no partition (R167). A PATH_HOLD or PATH_DOWN with the sequence last held for its origin and partition changes nothing; a new one is remembered; a hold enters or leaves the holds reported for the partition, a down ends every hold of its origin and link, marks the path of a hosted partition down and stops one that waits for frames, in Frost too, with PATH_DOWN set, unless a reset of it is in progress (R266, R268, R269, R179). PATH_HOLD_END ends the hold that the link reported 1 us after its last NAK, and changes nothing before (R267). -/
def Obligations.SegmentsAndPathSymbols : Prop :=
  (∀ (s : State) (n : LinkNo) (y : Segment),
    let p := y.part.toNat
    let i := (y.dc - (s.b.part p).base).toNat
    (s.b.segmentOk y = true → (s.b.part p).state = .running → ∃ t, exec (.segmentReceive n y) s = .next t ∧
      (∀ j < y.count.toNat, NMap.get false ((t.b.part p).buf y.path.toNat i).got (y.first.toNat + j) = y.payload.getD j false) ∧
      ((t.b.part p).buf y.path.toNat i).last = (((s.b.part p).buf y.path.toNat i).last || y.last) ∧
      (∀ j, (j < y.first.toNat ∨ y.first.toNat + y.count.toNat ≤ j) →
        NMap.get false ((t.b.part p).buf y.path.toNat i).got j = NMap.get false ((s.b.part p).buf y.path.toNat i).got j) ∧
      (t.b.part p).state = .running ∧ (∀ q, q ≠ p → t.b.part q = s.b.part q) ∧ t.b.clus = s.b.clus ∧ s.b.sameMem t.b) ∧
    (s.b.segmentOk y = false → ∃ t, exec (.segmentReceive n y) s = .next t ∧ t.b.parts = s.b.parts ∧ t.b.clus = s.b.clus ∧ s.b.sameMem t.b ∧
      t.b.bit (r1 .LNK_ERRn n.toNat) F.LNK_ERRn_PROTO = true ∧
      t.b.fld (r1 .LNK_CNTn n.toNat) F.LNK_CNTn_PROTO = min (s.b.fld (r1 .LNK_CNTn n.toNat) F.LNK_CNTn_PROTO + 1) 255)) ∧
  (∀ (s : State) (n : LinkNo) (y : PathSym) (down : Bool) (i : Instr), (i, down) ∈ [(Instr.pathHold n y, false), (Instr.pathDown n y, true)] →
    let p := y.part.toNat
    let key := y.origin.toNat * 256 + p
    let seen := s.b.pathSeen.find key = some y.seq.toNat ∨ (y.origin = s.b.devId ∧ s.b.pathSeq.find p = some y.seq.toNat)
    (seen → exec i s = .next s) ∧
    (¬ seen → ∃ t, exec i s = .next t ∧ t.b.pathSeen.find key = some y.seq.toNat ∧ t.b.clus = s.b.clus ∧ s.b.sameMem t.b ∧
      (down = false → (y.origin.toNat * 16 + y.link.toNat ∈ (t.b.part p).holds ↔ y.on = true) ∧
        (t.b.part p).state = (s.b.part p).state ∧ ∀ q, q ≠ p → t.b.part q = s.b.part q) ∧
      (down = true → (∀ q, (t.b.part q).holds = (s.b.part q).holds.filter (fun h => decide (h ≠ y.origin.toNat * 16 + y.link.toNat))) ∧
        (∀ q, q ≠ p → (t.b.part q).state = (s.b.part q).state) ∧
        (s.b.hosts p = true → (t.b.part p).pathDown = true ∧
          ((s.b.part p).awaits = true → (s.b.part p).inconsistent = false → (s.b.reg (r1 .CTL_PRST_BUSYw (p / 32))).getLsbD (p % 32) = false →
            t.b.bit (r1 .PART_FRZ_STATUS p) F.PART_FRZ_STATUS_PATH_DOWN = true ∧ (t.b.part p).inconsistent = true ∧ (t.b.part p).state ≠ .running))))) ∧
  (∀ (s : State) (n : LinkNo),
    let l := s.b.link n.toNat
    let due := decide (l.holdOut = true ∧ s.b.lnkState n.toNat = 5 ∧ 250 ≤ s.b.pw.ctl - l.nakAt ∧ 250 ≤ s.b.pw.ctl - l.since)
    (due = false → exec (.pathHoldEnd n) s = .next s) ∧
    (due = true → ∃ t, exec (.pathHoldEnd n) s = .next t ∧ (t.b.link n.toNat).holdOut = false ∧ (t.b.link n.toNat).holdFor = [] ∧ t.b.clus = s.b.clus ∧ s.b.sameMem t.b))

/-- TIMER_ARM of a timer that is not armed takes START as its target: with the target ahead it waits; in the past it is late, and by RUN_IF_LATE and PERIOD it runs once late, disarms, or goes on at the next multiple of its period, counting those missed (R314 to R316); of an armed timer it changes CTRL alone (log entry 35). TIMER_DISARM clears ARMED, after an expiry whose time has come (R314). TIMER_EXPIRE of an armed timer whose time has come sets FIRED, reaches the timer latch of every DMA channel, and disarms a one-shot timer or moves a periodic one on by its period (R313, R368); before, it changes nothing. SET puts TIM_SET into the time counter when it is allowed, RELOCK steps by the refused offset and acquires the new master (R290, R306); a change of SRC starts the servo anew, on the best candidate of the active domain (R301, R302, R304). A read of TIM_NOW latches all three words of one time (R319). An event output's pulse ends when its width has passed (R312). No cluster, partition or memory byte changes. -/
def Obligations.TimersAndTheTimeCounter : Prop :=
  (∀ (s : State) (r : Requester) (k : BitVec 3) (v : Word), s.b.reaches r (r1 .TIM_TMRk_CTRL k.toNat) = true → s.b.roleOk r (r1 .TIM_TMRk_CTRL k.toNat) = true →
    let st := r1 .TIM_TMRk_STATUS k.toNat
    let start := stampUnits (s.b.reg96 .TIM_TMRk_STARTw k.toNat)
    let p := s.b.tmrPeriod k.toNat
    let n := (s.b.units - start) / p + 1
    (∃ t, exec (.timerDisarm r k) s = .next t ∧ t.b.tmrArmed k.toNat = false ∧
      t.b.reg (r1 .TIM_TMRk_CTRL k.toNat) = s.b.reg (r1 .TIM_TMRk_CTRL k.toNat) &&& 6#32 ∧ t.b.clus = s.b.clus ∧ t.b.parts = s.b.parts ∧ s.b.sameMem t.b ∧
      (s.b.tmrDue k.toNat s.b.units = false → s.b.onlyRegs t.b [r1 .TIM_TMRk_CTRL k.toNat, st]) ∧
      (s.b.tmrDue k.toNat s.b.units = true → t.b.bit st F.TIM_TMRk_STATUS_FIRED = true)) ∧
    (s.b.tmrArmed k.toNat = true → ∃ t, exec (.timerArm r k v) s = .next t ∧ s.b.onlyRegs t.b [r1 .TIM_TMRk_CTRL k.toNat] ∧
      t.b.reg (r1 .TIM_TMRk_CTRL k.toNat) = (v ||| 1#32) &&& 7#32) ∧
    (s.b.tmrArmed k.toNat = false → CUnit.tu ∉ s.b.flt.refusing →
      (s.b.units < start → ∃ t, exec (.timerArm r k v) s = .next t ∧ t.b.tmrArmed k.toNat = true ∧ t.b.fld st F.TIM_TMRk_STATUS_MISSED = 0 ∧
        t.b.tu.tmr.find k.toNat = some ⟨start, none⟩ ∧ s.b.onlyRegs { t.b with tu := s.b.tu } [r1 .TIM_TMRk_CTRL k.toNat, st]) ∧
      (start ≤ s.b.units → ∃ t, exec (.timerArm r k v) s = .next t ∧ t.b.bit st F.TIM_TMRk_STATUS_LATE = true ∧
        t.b.bit (r0 .TIM_STATUS) F.TIM_STATUS_LATE = true ∧ t.b.evtPend 22 = true ∧
        (p = 0 → t.b.tmrArmed k.toNat = v.getLsbD 1 ∧ (v.getLsbD 1 = true → t.b.tu.tmr.find k.toNat = some ⟨start, some (s.b.edgeAt 1)⟩)) ∧
        (p ≠ 0 → t.b.tmrArmed k.toNat = true ∧ t.b.tu.tmr.find k.toNat = some ⟨start + n * p, if v.getLsbD 1 then some (s.b.edgeAt 1) else none⟩ ∧
          t.b.fld st F.TIM_TMRk_STATUS_MISSED = min (if v.getLsbD 1 then n - 1 else n) 65535) ∧
        t.b.clus = s.b.clus ∧ t.b.parts = s.b.parts ∧ s.b.sameMem t.b))) ∧
  (∀ (s : State) (k : BitVec 3),
    let x := NMap.get {} s.b.tu.tmr k.toNat
    let p := s.b.tmrPeriod k.toNat
    let due := s.b.tmrDue k.toNat s.b.units
    (due = false → exec (.timerExpire k) s = .next s) ∧
    (due = true → ∃ t, exec (.timerExpire k) s = .next t ∧ t.b.bit (r1 .TIM_TMRk_STATUS k.toNat) F.TIM_TMRk_STATUS_FIRED = true ∧
      t.b.tmrArmed k.toNat = decide (p ≠ 0) ∧
      (p ≠ 0 → t.b.tu.tmr.find k.toNat = some (if x.late.isSome then { x with late := none } else { x with next := x.next + p })) ∧
      (∀ j < 64, (t.b.dmaCh j).timers.getLsbD k.toNat = true) ∧
      (s.b.bit (r1 .TIM_TMRk_CTRL k.toNat) F.TIM_TMRk_CTRL_EVENT = true → t.b.evtPend (24 + k.toNat) = true) ∧
      t.b.time = s.b.time ∧ t.b.clus = s.b.clus ∧ t.b.parts = s.b.parts ∧ s.b.sameMem t.b)) ∧
  (∀ (s : State) (r : Requester), s.b.reaches r (r0 .TIM_CMD) = true → s.b.roleOk r (r0 .TIM_CMD) = true →
    let ok := decide (s.b.timSrc = 0 ∨ s.b.bit (r0 .TIM_STATUS) F.TIM_STATUS_TIME_VALID = false)
    (ok = false → exec (.timSet r) s = .next s) ∧
    (ok = true → ∃ t, exec (.timSet r) s = .next t ∧ t.b.time = stampUnits (BitVec.ofNat 96 ((s.b.reg (r1 .TIM_SET_w 0)).toNat +
        2 ^ 32 * (s.b.reg (r1 .TIM_SET_w 1)).toNat + 2 ^ 64 * (s.b.reg (r1 .TIM_SET_w 2)).toNat)) * 2 ^ 24 ∧
      t.b.bit (r0 .TIM_STATUS) F.TIM_STATUS_TIME_VALID = true ∧ t.b.bit (r0 .TIM_STATUS) F.TIM_STATUS_STEPPED = true ∧ t.b.evtPend 23 = true ∧
      t.b.clus = s.b.clus ∧ t.b.parts = s.b.parts ∧ s.b.sameMem t.b) ∧
    (s.b.tu.refused = none ∨ s.b.servo ≠ 4 → exec (.relock r) s = .next s) ∧
    (∀ o, s.b.tu.refused = some o → s.b.servo = 4 → ∃ t, exec (.relock r) s = .next t ∧ t.b.time = ((s.b.time : Int) - o * 2 ^ 24).toNat ∧
      t.b.servo = 2 ∧ t.b.tu.refused = none ∧ t.b.bit (r0 .TIM_STATUS) F.TIM_STATUS_MASTER_CHG = true ∧ t.b.evtPend 17 = true ∧
      t.b.clus = s.b.clus ∧ t.b.parts = s.b.parts ∧ s.b.sameMem t.b)) ∧
  (∀ (s : State) (r : Requester) (v : Word), s.b.reaches r (r0 .TIM_CTRL) = true → s.b.roleOk r (r0 .TIM_CTRL) = true →
    let src := if 4 < v.toNat / 2 % 8 then 0 else v.toNat / 2 % 8
    (src = s.b.timSrc → ∃ t, exec (.timCtrlWrite r v) s = .next t ∧ s.b.onlyRegs t.b [r0 .TIM_CTRL] ∧ t.b.reg (r0 .TIM_CTRL) = v &&& 0x7F#32) ∧
    (src ≠ s.b.timSrc → ∃ t, exec (.timCtrlWrite r v) s = .next t ∧ t.b.reg (r0 .TIM_CTRL) = v &&& 0x7F#32 ∧
      (src = 0 → t.b.servo = 0 ∧ t.b.reg (r0 .TIM_RATE) = 0 ∧ t.b.actPort = 31) ∧ (src ≠ 0 → t.b.servo = 1) ∧
      t.b.actPort = ((s.b.setReg (r0 .TIM_CTRL) (v &&& 0x7F#32)).bestPort s.b.actDom 31).getD 31 ∧
      (3 ≤ src → t.b.actPort = 31) ∧ t.b.time = s.b.time ∧ t.b.clus = s.b.clus ∧ t.b.parts = s.b.parts ∧ s.b.sameMem t.b)) ∧
  (∀ (s : State) (r : Requester),
    let now := stampOf s.b.time
    (s.b.mayRead r (r1 .TIM_NOW_w 0) = true → ∃ t, exec (.timeReadLatch r) s = .next t ∧ t.b.reply = leBytes 4 (now.setWidth 32).toNat ∧
      (∀ w < 3, t.b.reg (r1 .TIM_NOW_w w) = BitVec.ofNat 32 (now.toNat >>> (32 * w))) ∧
      s.b.onlyRegs { t.b with reply := s.b.reply } [r1 .TIM_NOW_w 0, r1 .TIM_NOW_w 1, r1 .TIM_NOW_w 2]) ∧
    (s.b.mayRead r (r1 .TIM_NOW_w 0) = false → exec (.timeReadLatch r) s = .next { s with b := { s.b with reply := leBytes 4 0 } })) ∧
  (∀ (s : State) (n : BitVec 3),
    let due := decide ((s.b.evoSel n.toNat = 1 ∨ s.b.evoSel n.toNat = 4) ∧ NMap.get false s.b.tu.evo n.toNat = true ∧ NMap.get 0 s.b.tu.evoEnd n.toNat ≤ s.b.units)
    (due = false → exec (.eventOutputPulseEnd n) s = .next s) ∧
    (due = true → ∃ t, exec (.eventOutputPulseEnd n) s = .next t ∧ t.b.evoLevel n.toNat = false ∧ NMap.get false t.b.tu.evo n.toNat = false ∧ (∀ m, m ≠ n.toNat → t.b.evoLevel m = s.b.evoLevel m) ∧
      t.b.regs = s.b.regs ∧ { t.b with tu := s.b.tu } = s.b))

/-- On an ACTIVE link SYNC, on a SLAVE port, keeps its sequence and stamp until its pair, the asymmetry A of the port at its arrival (R492), and the grandmaster it reports; on a port that is no SLAVE in the domain SYNC and ANNOUNCE change nothing (R295); FUP_HI joins the Sync of its sequence; FUP_LO completes it, and a VOID or late pair gives no sample, and neither does a pair on a port that is no SLAVE any more, while a pair on the active port, still a SLAVE, of the source SRC = 1 with a valid path delay gives the offset t2 - t1 - MPD - A, with the A kept, in TIM_OFFSET (R294 to R298, R301, R492). Every PDLY_REQ is answered with PDLY_RESP and PDLY_FUP that carries the turn-round; PDLY_RESP is stamped; PDLY_FUP ends the exchange and gives one path delay unless VOID, and with four or more TIM_MPD holds their mean (R299). ANNOUNCE takes steps, class and grandmaster. A served port sends SYNC, FUP_HI and FUP_LO, PDLY_REQ, or ANNOUNCE with the next sequence when the interval of TIM_INTERVAL has passed since it last did. SYNC_PAIR_TIMEOUT discards a Sync that waited 10 us; MASTER_LOSS does nothing while the masters of both domains are heard; when that of the active port is lost it makes the best other candidate active, else goes over to the other domain where MODE allows it and that is heard, else enters HOLDOVER with no port (R304, R307). On a link that is not ACTIVE, or in a domain that is not in use, nothing changes. -/
def Obligations.TimingSymbolsAndTheServo : Prop :=
  (∀ (s : State) (n : LinkNo) (y : SyncBody) (stamp : Stamp) (a : AnnounceBody) (d void : Bool) (seq : BitVec 16) (sec nsf : BitVec 48) (t2 t3 t4 : Stamp) (turn : BitVec 64),
    let up := s.b.timLink n.toNat
    let quiet := fun (t : State) => t.b.time = s.b.time ∧ t.b.links = s.b.links ∧ t.b.clus = s.b.clus ∧ t.b.parts = s.b.parts ∧ s.b.sameMem t.b
    let x := s.b.pt n.toNat d
    (up = false → ∀ i ∈ [Instr.sync n y stamp, .fupHi n d seq void sec, .fupLo n d seq nsf, .pdlyReq n d seq t2 t3, .pdlyResp n d seq t4, .pdlyFup n d seq void turn, .announce n a],
      exec i s = .next s) ∧
    (s.b.timTaken n.toNat d = false → exec (.fupHi n d seq void sec) s = .next s ∧ exec (.fupLo n d seq nsf) s = .next s) ∧
    (s.b.timHeard n.toNat y.dom = false → exec (.sync n y stamp) s = .next s) ∧ (s.b.timHeard n.toNat a.dom = false → exec (.announce n a) s = .next s) ∧
    (∀ e : Bool, s.b.timHeard n.toNat e = true ↔ s.b.timTaken n.toNat e = true ∧ s.b.portRole n.toNat e = 2) ∧
    (s.b.timHeard n.toNat y.dom = true → ∃ t, exec (.sync n y stamp) s = .next t ∧ (t.b.pt n.toNat y.dom).sync = some (y.seq, takenUnits stamp, s.b.pw.ctl) ∧
      (t.b.pt n.toNat y.dom).hi = none ∧ (t.b.pt n.toNat y.dom).asymAt = (s.b.reg (r1 .SEC_ASYM_En n.toNat)).toInt ∧ (t.b.pt n.toNat y.dom).gm = some (y.gm.setWidth 64) ∧ (t.b.pt n.toNat y.dom).steps = y.steps ∧ quiet t) ∧
    (up = true → (∀ e, x.sync = some e → e.1 ≠ seq) → exec (.fupHi n d seq void sec) s = .next s ∧ exec (.fupLo n d seq nsf) s = .next s) ∧
    (∀ e, s.b.timTaken n.toNat d = true → x.sync = some e → e.1 = seq → ∃ t, exec (.fupHi n d seq void sec) s = .next t ∧ (t.b.pt n.toNat d).hi = some (void, sec.toNat) ∧
      t.b.regs = s.b.regs ∧ quiet t) ∧
    (∀ e v h, s.b.timTaken n.toNat d = true → x.sync = some e → e.1 = seq → x.hi = some (v, h) →
      (v = true ∨ 2500 < s.b.pw.ctl - e.2.2 ∨ s.b.portRole n.toNat d ≠ 2 → ∃ t, exec (.fupLo n d seq nsf) s = .next t ∧ (t.b.pt n.toNat d).sync = none ∧ t.b.regs = s.b.regs ∧ quiet t) ∧
      (v = false → s.b.pw.ctl - e.2.2 ≤ 2500 → s.b.bit (r1 .TIM_MPDn n.toNat) F.TIM_MPDn_VALID = true → d = s.b.actDom → n.toNat = s.b.actPort → s.b.timSrc = 1 → s.b.portRole n.toNat d = 2 →
        ∃ t, exec (.fupLo n d seq nsf) s = .next t ∧ (t.b.pt n.toNat d).sync = none ∧ (t.b.pt n.toNat d).lastSync = some s.b.pw.ctl ∧
          t.b.reg (r0 .TIM_OFFSET) = BitVec.ofInt 32 (max (-(2 ^ 31)) (min (2 ^ 31 - 1)
            (e.2.1 - ((h * 1000000000 * 65536 + nsf.toNat : Nat) : Int) - (s.b.mpd n.toNat + x.asymAt)))) ∧ t.b.clus = s.b.clus ∧ t.b.parts = s.b.parts ∧ s.b.sameMem t.b)) ∧
    (up = true → ∃ t, exec (.pdlyReq n d seq t2 t3) s = .next t ∧ s.b.onlyLink t.b n.toNat ∧
      (t.b.link n.toNat).ctl = (s.b.link n.toNat).ctl ++ [⟨0x14, BitVec.ofNat 96 (timHead d seq)⟩,
        ⟨0x15, BitVec.ofNat 96 (timHead d seq + ((takenUnits t3 - takenUnits t2) % 2 ^ 64).toNat * 2 ^ 14)⟩]) ∧
    (∀ t1 a4, up = true → x.req = some (seq, t1, a4) → ∃ t, exec (.pdlyResp n d seq t4) s = .next t ∧
      (t.b.pt n.toNat d).req = some (seq, t1, some (takenUnits t4)) ∧ t.b.regs = s.b.regs ∧ quiet t) ∧
    (∀ (t1 a4 : Int), up = true → x.req = some (seq, t1, some a4) → ∃ t, exec (.pdlyFup n d seq void turn) s = .next t ∧ (t.b.pt n.toNat d).req = none ∧
      (void = true → t.b.tu.mpd = s.b.tu.mpd ∧ t.b.regs = s.b.regs) ∧
      (void = false → let l := (NMap.get [] s.b.tu.mpd n.toNat ++ [(a4 - t1 - (turn.toNat : Int)) / 2]).drop ((NMap.get [] s.b.tu.mpd n.toNat).length + 1 - 8)
        NMap.get [] t.b.tu.mpd n.toNat = l ∧ (l.length < 4 → t.b.regs = s.b.regs) ∧
        (4 ≤ l.length → t.b.reg (r1 .TIM_MPDn n.toNat) = BitVec.ofNat 32 (2 ^ 31 + (l.foldl (· + ·) 0 / (l.length : Int)).toNat % 2 ^ 31))) ∧ quiet t) ∧
    (s.b.timHeard n.toNat a.dom = true → ∃ t, exec (.announce n a) s = .next t ∧ (t.b.pt n.toNat a.dom).steps = a.steps ∧ (t.b.pt n.toNat a.dom).cls = a.gmClass ∧
      (t.b.pt n.toNat a.dom).traceable = a.traceable ∧ (t.b.pt n.toNat a.dom).gm = some (a.gm.setWidth 64) ∧ quiet t)) ∧
  (∀ (s : State) (n : LinkNo) (d : Bool) (egress : Stamp),
    let ctl := (s.b.link n.toNat).ctl
    let master := s.b.timServed n.toNat d && decide (s.b.portRole n.toNat d = 1)
    let syncDue := master && s.b.intervalDue F.TIM_INTERVAL_SYNC_N (s.b.pt n.toNat d).atSync
    let annDue := master && s.b.intervalDue F.TIM_INTERVAL_ANN_N (s.b.pt n.toNat d).atAnn
    let pdlyDue := s.b.timServed n.toNat d && s.b.intervalDue F.TIM_INTERVAL_PDLY_N (s.b.pt n.toNat d).atPdly
    (syncDue = false → exec (.syncInterval n d egress) s = .next s) ∧ (annDue = false → exec (.announceInterval n d) s = .next s) ∧
    (syncDue = true → (∃ t x y z, exec (.syncInterval n d egress) s = .next t ∧ (t.b.link n.toNat).ctl = ctl ++ [⟨0x10, x⟩, ⟨0x11, y⟩, ⟨0x12, z⟩] ∧
        x >>> 79 = BitVec.ofNat 96 (b2n d * 2 ^ 16 + (s.b.pt n.toNat d).txSync.toNat) ∧ y >>> 79 = x >>> 79 ∧ z >>> 79 = x >>> 79 ∧
        (t.b.pt n.toNat d).txSync = (s.b.pt n.toNat d).txSync + 1 ∧ t.b.regs = s.b.regs ∧ t.b.clus = s.b.clus ∧ t.b.parts = s.b.parts ∧ s.b.sameMem t.b)) ∧
    (annDue = true → (∃ t x, exec (.announceInterval n d) s = .next t ∧ (t.b.link n.toNat).ctl = ctl ++ [⟨0x16, x⟩] ∧
        x >>> 79 = BitVec.ofNat 96 (b2n d * 2 ^ 16 + (s.b.pt n.toNat d).txAnn.toNat) ∧ (t.b.pt n.toNat d).txAnn = (s.b.pt n.toNat d).txAnn + 1 ∧
        t.b.regs = s.b.regs ∧ t.b.clus = s.b.clus ∧ t.b.parts = s.b.parts ∧ s.b.sameMem t.b)) ∧
    (pdlyDue = false → exec (.pdelayInterval n d egress) s = .next s) ∧
    (pdlyDue = true → ∃ t, exec (.pdelayInterval n d egress) s = .next t ∧
      (t.b.link n.toNat).ctl = ctl ++ [⟨0x13, BitVec.ofNat 96 (timHead d (s.b.pt n.toNat d).txPdly)⟩] ∧
      (t.b.pt n.toNat d).req = some ((s.b.pt n.toNat d).txPdly, takenUnits egress, none) ∧
      (t.b.pt n.toNat d).txPdly = (s.b.pt n.toNat d).txPdly + 1 ∧ t.b.regs = s.b.regs ∧ t.b.clus = s.b.clus ∧ t.b.parts = s.b.parts ∧ s.b.sameMem t.b) ∧
    ((∀ e, (s.b.pt n.toNat d).sync = some e → s.b.pw.ctl - e.2.2 < 2500) → exec (.syncPairTimeout n d) s = .next s) ∧
    (∀ e, (s.b.pt n.toNat d).sync = some e → 2500 ≤ s.b.pw.ctl - e.2.2 → ∃ t, exec (.syncPairTimeout n d) s = .next t ∧
      (t.b.pt n.toNat d).sync = none ∧ (t.b.pt n.toNat d).hi = none ∧ t.b.regs = s.b.regs ∧ { t.b with tu := s.b.tu } = s.b)) ∧
  (∀ s : State,
    let d := s.b.actDom
    let n := s.b.actPort
    let other := s.b.portLost (!d) s.b.tu.alt s.b.tu.altSince
    let lost := s.b.portLost d n s.b.tu.since
    let rest := fun (t : State) => t.b.time = s.b.time ∧ t.b.clus = s.b.clus ∧ t.b.parts = s.b.parts ∧ s.b.sameMem t.b
    let swaps := s.b.bit (r0 .TIM_CTRL) F.TIM_CTRL_MODE && s.b.bit (r0 .TIM_CTRL) F.TIM_CTRL_DOM1_EN
    (other = false → lost = false → exec .masterLoss s = .next s) ∧
    (other = true → lost = false → ∃ t, exec .masterLoss s = .next t ∧ t.b = { s.b with tu := t.b.tu } ∧
      t.b.tu.alt = (s.b.bestPort (!d) s.b.tu.alt).getD 31 ∧ t.b.tu.altSince = s.b.pw.ctl) ∧
    (∀ m, lost = true → s.b.timSrc ≠ 0 → s.b.bestPort d n = some m → ∃ t, exec .masterLoss s = .next t ∧ t.b.actPort = m ∧ t.b.actDom = d ∧
      (s.b.servo = 1 → t.b.servo = 1) ∧ (s.b.servo ≠ 1 → t.b.servo = 4 ∧ t.b.tu.changing = true) ∧ rest t) ∧
    (lost = true → s.b.timSrc ≠ 0 → s.b.bestPort d n = none → swaps = false → ∃ t, exec .masterLoss s = .next t ∧ t.b.servo = 4 ∧ t.b.actPort = 31 ∧
      t.b.evtPend 17 = true ∧ rest t) ∧
    (lost = true → other = false → s.b.timSrc ≠ 0 → s.b.bestPort d n = none → swaps = true → s.b.tu.alt ≤ 16 → s.b.domFresh (!d) = true →
      ∃ t, exec .masterLoss s = .next t ∧ t.b.actDom = (!d) ∧ t.b.actPort = s.b.tu.alt ∧ t.b.bit (r0 .TIM_STATUS) F.TIM_STATUS_DOM_SWITCH = true ∧
        t.b.evtPend 18 = true ∧ rest t))

/-- A Sync of a served domain on the management port is kept, one for each domain, with the asymmetry of port 16 at its arrival; its Follow_Up completes it and remembers the exchange of that domain; a Delay_Req leaves; the Delay_Resp of the same domain gives the end-to-end delay in TIM_MPD16; an Announce reports the grandmaster with its whole identity, class and traceability (R292, R294, R295, R307). A message of a domain that is not served changes nothing. A PPS_IN edge with SRC 3, or with SRC 4 while the 10 MHz reference is there, gives the offset from the nearest whole second in TIM_OFFSET; with another source, or with SRC 4 while that reference is lost (log entry 132), no register changes (R301). The loss of a reference sets REF_LOSS and event 19 (R310). PPS_OUT rises once for each further second while it is on, and falls after WIDTH; while it is off a second that passes gives no edge; a write of TIM_PPS_OFS makes the next edge that of the new offset (R310). An edge of an event input that EDGE selects and that is not within 2 ns of the last enters its queue of 16 with COUNT, or sets OVF when the queue is full; a read of TS2 pops the head, and reads zero with an empty queue (R311, R319). REF10M_COUNT_WINDOW ends the loss of that reference; with SRC 4 it also makes a new frequency estimate, a free function of the count (log entry 36), and in LOCKING and LOCKED RATE stays within SLEW of it (R303). -/
def Obligations.PinsAndTheManagementPort : Prop :=
  (∀ (s : State) (x : Bool) (k : BitVec 8) (seq : BitVec 16) (a c : Stamp) (d : Bool) (steps : BitVec 16) (cl : BitVec 8) (gm : BitVec 64) (tr : Bool), s.b.mgDom x k = some d →
    (s.b.portRole 16 d ≠ 2 → ∀ i ∈ [Instr.mgmtSync x k seq a, .mgmtFollowUp x k seq a c, .mgmtDelayResp x k seq a, .mgmtAnnounce x k steps cl gm tr], exec i s = .next s) ∧
    (s.b.portRole 16 d = 2 →
    (∃ t, exec (.mgmtSync x k seq a) s = .next t ∧ t.b.tu.mgSync.find (b2n d) = some (seq, takenUnits a) ∧
      t.b.tu.mgSync.find (b2n (!d)) = s.b.tu.mgSync.find (b2n (!d)) ∧ (t.b.pt 16 d).asymAt = (s.b.reg (r1 .SEC_ASYM_En 16)).toInt ∧ { t.b with tu := s.b.tu } = s.b) ∧
    (∀ t2, s.b.tu.mgSync.find (b2n d) = some (seq, t2) → ∃ t, exec (.mgmtFollowUp x k seq a c) s = .next t ∧ t.b.tu.mgSync.find (b2n d) = none ∧
      t.b.tu.mgSync.find (b2n (!d)) = s.b.tu.mgSync.find (b2n (!d)) ∧ t.b.tu.mgReq.find (b2n d) = some (seq, t2 - (stampUnits a : Int), takenUnits c) ∧ HostMsg.delayReq x k seq ∈ t.b.out ∧ t.b.clus = s.b.clus ∧ t.b.parts = s.b.parts ∧ s.b.sameMem t.b) ∧
    (∀ v t3, s.b.tu.mgReq.find (b2n d) = some (seq, v, t3) → ∃ t, exec (.mgmtDelayResp x k seq a) s = .next t ∧ t.b.tu.mgReq.find (b2n d) = none ∧
      t.b.tu.mgReq.find (b2n (!d)) = s.b.tu.mgReq.find (b2n (!d)) ∧
      t.b.reg (r1 .TIM_MPDn 16) = BitVec.ofNat 32 (2 ^ 31 + ((v + ((stampUnits a : Int) - t3)) / 2).toNat % 2 ^ 31) ∧
      (s.b.bit (r1 .TIM_MPDn 16) F.TIM_MPDn_VALID = true → s.b.onlyRegs { t.b with tu := s.b.tu } [r1 .TIM_MPDn 16]) ∧
      t.b.clus = s.b.clus ∧ t.b.parts = s.b.parts ∧ s.b.sameMem t.b) ∧
    (∃ t, exec (.mgmtAnnounce x k steps cl gm tr) s = .next t ∧ (t.b.pt 16 d).gm = some gm ∧ (t.b.pt 16 d).traceable = tr ∧ (t.b.pt 16 d).cls = cl ∧
      (t.b.pt 16 d).steps = BitVec.ofNat 8 (min 255 steps.toNat) ∧ t.b.clus = s.b.clus ∧ t.b.parts = s.b.parts ∧ s.b.sameMem t.b))) ∧
  (∀ (s : State) (stamp : Stamp),
    let m := (takenUnits stamp - s.b.ppsOfs) % oneSecond
    let off := if oneSecond / 2 ≤ m then m - oneSecond else m
    (s.b.timSrc = 3 ∨ (s.b.timSrc = 4 ∧ s.b.tu.refLost = false) → ∃ t, exec (.ppsInEdge stamp) s = .next t ∧ t.b.tu.lastPps = some s.b.pw.ctl ∧
      t.b.reg (r0 .TIM_OFFSET) = BitVec.ofInt 32 (max (-(2 ^ 31)) (min (2 ^ 31 - 1) off)) ∧ t.b.clus = s.b.clus ∧ t.b.parts = s.b.parts ∧ s.b.sameMem t.b) ∧
    (s.b.timSrc ≠ 3 → (s.b.timSrc = 4 → s.b.tu.refLost = true) → ∃ t, exec (.ppsInEdge stamp) s = .next t ∧ t.b.tu.lastPps = some s.b.pw.ctl ∧ { t.b with tu := s.b.tu } = s.b) ∧
    (∃ t, exec (.referenceInputLoss true) s = .next t ∧ t.b.bit (r0 .TIM_STATUS) F.TIM_STATUS_REF_LOSS = true ∧ t.b.evtPend 19 = true ∧
      (s.b.timSrc = 4 → 16 < s.b.tu.alt → t.b.servo = 4 ∧ t.b.actPort = 31) ∧ t.b.tu.refLost = true ∧ (s.b.timSrc ≠ 4 → t.b.servo = s.b.servo ∧ t.b.tu = { s.b.tu with refLost := true }) ∧
      t.b.clus = s.b.clus ∧ t.b.parts = s.b.parts ∧ s.b.sameMem t.b) ∧
    (∀ e, s.b.tu.lastPps = some e → 275000000 ≤ s.b.pw.ctl - e → ∃ t, exec (.referenceInputLoss false) s = .next t ∧
      t.b.bit (r0 .TIM_STATUS) F.TIM_STATUS_REF_LOSS = true ∧ t.b.evtPend 19 = true ∧ t.b.tu.lastPps = none ∧
      (s.b.timSrc = 3 ∨ s.b.timSrc = 4 → 16 < s.b.tu.alt → t.b.servo = 4 ∧ t.b.actPort = 31) ∧ t.b.clus = s.b.clus ∧ t.b.parts = s.b.parts ∧ s.b.sameMem t.b) ∧
    (∀ cnt, (s.b.timSrc ≠ 4 → exec (.ref10mCountWindow cnt) s = .next { s with b := { s.b with tu := { s.b.tu with refLost := false } } }) ∧
      (s.b.timSrc = 4 → ∃ t, exec (.ref10mCountWindow cnt) s = .next t ∧
        t.b.tu = { s.b.tu with freq := max (-rateMax) (min rateMax (Config.refRate cnt)), refLost := false } ∧
        (s.b.servo ≠ 2 → s.b.servo ≠ 3 → t.b.regs = s.b.regs) ∧
        (s.b.servo = 2 ∨ s.b.servo = 3 → ((t.b.reg (r0 .TIM_RATE)).toInt - t.b.tu.freq).natAbs ≤ s.b.slewMax) ∧
        s.b.onlyRegs { t.b with tu := s.b.tu } [r0 .TIM_RATE]))) ∧
  (∀ s : State,
    let sec := ((s.b.units : Int) - s.b.ppsOfs) / oneSecond
    ((∃ x, s.b.tu.ppsSec = some x ∧ sec ≤ x) → exec .ppsOutEdge s = .next s) ∧
    ((∀ x, s.b.tu.ppsSec = some x → x < sec) → s.b.ppsOn = true → ∃ t, exec .ppsOutEdge s = .next t ∧ t.b.tu.pps = true ∧ t.b.tu.ppsSec = some sec ∧
      t.b.tu.ppsEnd = (sec * oneSecond + s.b.ppsOfs).toNat + max 1 (s.b.fld (r0 .TIM_PPS) F.TIM_PPS_WIDTH) * 65536000 ∧ { t.b with tu := s.b.tu } = s.b) ∧
    ((∀ x, s.b.tu.ppsSec = some x → x < sec) → s.b.ppsOn = false → exec .ppsOutEdge s = .next { s with b := { s.b with tu := { s.b.tu with ppsSec := some sec } } }) ∧
    (s.b.tu.pps = true → s.b.tu.ppsEnd ≤ s.b.units ∨ s.b.ppsOn = false → ∃ t, exec .ppsOutFall s = .next t ∧ t.b.tu.pps = false ∧ { t.b with tu := s.b.tu } = s.b) ∧
    (s.b.tu.pps = false ∨ (s.b.units < s.b.tu.ppsEnd ∧ s.b.ppsOn = true) → exec .ppsOutFall s = .next s)) ∧
  (∀ (s : State) (n : BitVec 3) (rising : Bool) (stamp : Stamp) (r : Requester),
    let k := r1 .TIM_EVIn_CTRL n.toNat
    let e := s.b.fld k F.TIM_EVIn_CTRL_EDGE
    let q := NMap.get [] s.b.tu.evi n.toNat
    let close := (s.b.tu.eviLast.find n.toNat).any (fun u => decide (u ≤ takenUnits stamp ∧ takenUnits stamp - u < 131072))
    let sel := decide (if rising then e = 1 ∨ e = 3 else e = 2 ∨ e = 3)
    (sel = false ∨ close = true → exec (.eventInputEdge n rising stamp) s = .next s) ∧
    (sel = true → close = false → q.length < 16 → ∃ t, exec (.eventInputEdge n rising stamp) s = .next t ∧ NMap.get [] t.b.tu.evi n.toNat = q ++ [takeStamp stamp] ∧
      t.b.fld k F.TIM_EVIn_CTRL_COUNT = q.length + 1 ∧ (q = [] → t.b.evtPend 20 = true) ∧ t.b.clus = s.b.clus ∧ t.b.parts = s.b.parts ∧ s.b.sameMem t.b) ∧
    (sel = true → close = false → 16 ≤ q.length → ∃ t, exec (.eventInputEdge n rising stamp) s = .next t ∧ t.b.tu.evi = s.b.tu.evi ∧
      t.b.bit k F.TIM_EVIn_CTRL_OVF = true ∧ t.b.evtPend 21 = true ∧ t.b.clus = s.b.clus ∧ t.b.parts = s.b.parts ∧ s.b.sameMem t.b) ∧
    (∀ x rest, q = x :: rest → rest.length < 32 → s.b.mayRead r (r2 .TIM_EVIn_TSw n.toNat 2) = true → ∃ t, exec (.eviQueuePop r n) s = .next t ∧
      NMap.get [] t.b.tu.evi n.toNat = rest ∧ t.b.fld k F.TIM_EVIn_CTRL_COUNT = rest.length ∧
      t.b.reply = leBytes 4 (s.b.reg (r2 .TIM_EVIn_TSw n.toNat 2)).toNat ∧ s.b.onlyRegs { t.b with tu := s.b.tu, reply := s.b.reply } [k]) ∧
    (q = [] → s.b.mayRead r (r2 .TIM_EVIn_TSw n.toNat 2) = true → exec (.eviQueuePop r n) s = .next { s with b := { s.b with reply := leBytes 4 0 } }))

/-- POST queues a fragment with the data registers. FRAGMENT_APPLY takes the next fragment in the order of R320, R321, R343; a full store of which no entry can spill accepts none and sets STORE_FULL (R345), and a fragment of a channel with spilled entries that finds none on chip has its bucket read (R343). Else, refused, it sets the REFUSED flags and changes no entry (R322); a new key opens an entry that holds its operand and a credit (R324 to R326); a key that waits takes the operand, and is READY when it has all it needs (R326, R328); an operand that the entry already has sets DUP and changes no entry (R327). The reply to a design fragment says which. DISPATCH takes the first eligible entry of the highest priority whose target accepts: it becomes ACTIVE; action DMA starts the channel at the slot with the operands in its base registers (R331, R358); action FORWARD retires the entry with OP0 as its result. RETIRE_NOTIFY retires the oldest ACTIVE NOTIFY entry with the tag, with the data registers as its result, and ENTRY_EXPIRE, once every fragment of the cycle is applied (R339), removes a WAITING entry whose deadline has passed, with EXPIRED and TDU_EXP_LAST: both return its credit and reply to whom it owes (R332, R333, R336, R338, R340). With nothing to take nothing changes; this is what they do when the checks of the unit find nothing (a finding is class 0x0B, stated with the fault levels); no value, partition or memory byte changes. -/
def Obligations.FragmentsMatchAndEntriesDispatch : Prop :=
  ∀ (s : State),
    let x := s.b.tdu
    let quiet := fun (t : State) => t.b.parts = s.b.parts ∧ (∀ c, { t.b.clu c with replies := (s.b.clu c).replies } = s.b.clu c) ∧ s.b.sameMem t.b
    let gone := fun (t : State) (e : Entry) => ∀ o ∈ t.b.tdu.store, (o.chan, o.seq) ≠ (e.chan, e.seq)
    let owed := fun (t : State) (e : Entry) (w : BitVec 72) => ∀ o ∈ e.owed, o.1 < 4 → (t.b.clu o.2.1).replies.find o.2.2.2 = some w
    (s.b.nextFrag = none → ∀ u, exec (.fragmentApply u) s = .next s) ∧
    (∀ g, s.b.nextFrag = some g → s.b.tduStuck = true → ∃ t, exec (.fragmentApply .ok) s = .next t ∧ t.b.bit (r0 .TDU_STATUS) F.TDU_STATUS_STORE_FULL = true ∧
      (s.b.bit (r0 .TDU_STATUS) F.TDU_STATUS_STORE_FULL = false → t.b.evtPend 132 = true) ∧ t.b.tdu.store = x.store ∧ t.b.tdu.spilled = x.spilled ∧ (∀ q ∈ x.queue, q ∈ t.b.tdu.queue) ∧ quiet t) ∧
    (∀ g f, s.b.nextFrag = some g → g.2 = f → s.b.tduStuck = false → x.onchip < 16384 →
      (s.b.needsRead f = true → ∃ t, exec (.fragmentApply .ok) s = .next t ∧ t.b = { s.b with tdu := { x with queue := x.queue.erase g, reads := x.reads ++ [f], armed := true, calm := 0 } }) ∧
      (s.b.fragRefused f = true → ∃ t, exec (.fragmentApply .ok) s = .next t ∧ t.b.tdu.store = x.store ∧ t.b.tdu.spilled = x.spilled ∧
        t.b.bit (r1 .TDU_CHn_STATUS f.chan) F.TDU_CHn_STATUS_REFUSED = true ∧ t.b.bit (r0 .TDU_STATUS) F.TDU_STATUS_REFUSED = true ∧
        (∀ c p i, f.src = .design c p i → (t.b.clu c).replies.find i = some (replyWord false false false true false 0)) ∧ quiet t) ∧
      (s.b.fragRefused f = false → s.b.needsRead f = false → x.waiting f.chan f.tag = none →
        ∃ t e, exec (.fragmentApply .ok) s = .next t ∧ e ∈ t.b.tdu.store ∧ e.chan = f.chan ∧ e.tag = f.tag ∧ e.op.getD f.op 0 = f.data ∧
          e.have_ = BitVec.ofNat 4 (2 ^ f.op) ∧ e.state = (if e.have_ = e.need then 1 else 0) ∧
          e.need = BitVec.ofNat 4 (s.b.fld (r1 .TDU_CHn_TMPL f.chan) F.TDU_CHn_TMPL_NEED) ∧ t.b.tduHeld f.chan = (s.b.tduHeld f.chan + 1) % 2 ^ 13 ∧
          (∀ c p i, f.src = .design c p i → s.b.bit (r1 .TDU_CHn_TMPL f.chan) F.TDU_CHn_TMPL_REPLY = false →
            (t.b.clu c).replies.find i = some (replyWord false false false false true 0)) ∧ quiet t) ∧
      (∀ e, s.b.fragRefused f = false → x.waiting f.chan f.tag = some e →
        (e.have_.getLsbD f.op = true → ∃ t, exec (.fragmentApply .ok) s = .next t ∧ t.b.tdu.store = x.store ∧ t.b.tduHeld f.chan = s.b.tduHeld f.chan ∧
          t.b.bit (r1 .TDU_CHn_STATUS f.chan) F.TDU_CHn_STATUS_DUP = true ∧ t.b.bit (r0 .TDU_STATUS) F.TDU_STATUS_DUP = true ∧
          (∀ c p i, f.src = .design c p i → (t.b.clu c).replies.find i = some (replyWord false false true false false 0)) ∧ quiet t) ∧
        (e.have_.getLsbD f.op = false → ∃ t a, exec (.fragmentApply .ok) s = .next t ∧ a ∈ t.b.tdu.store ∧ a.chan = f.chan ∧ a.tag = f.tag ∧ a.seq = e.seq ∧
          a.op = e.op.set f.op f.data ∧ a.have_ = e.have_ ||| BitVec.ofNat 4 (2 ^ f.op) ∧ a.state = (if a.have_ = e.need then 1 else 0) ∧
          t.b.tduHeld f.chan = s.b.tduHeld f.chan ∧ quiet t))) ∧
    (∀ (r : Requester) (n : BitVec 10) (v : Word), s.b.reaches r (r1 .TDU_CHn_POST n.toNat) = true → s.b.roleOk r (r1 .TDU_CHn_POST n.toNat) = true →
      let data := BitVec.ofNat 64 (s.b.reg64 (r1 .TDU_CHn_DATA_LO n.toNat) (r1 .TDU_CHn_DATA_HI n.toNat))
      let pick := oldestBy Entry.done ((x.notifies n.toNat).filter (fun e => decide (e.tag = F.TDU_CHn_POST_TAG.get v)))
      (F.TDU_CHn_POST_CMD.get v ≠ 0 → exec (.post r n v) s = .next s) ∧
      (F.TDU_CHn_POST_CMD.get v = 0 → ∃ t, exec (.post r n v) s = .next t ∧
        t.b.tdu.queue = x.queue ++ [(s.b.pw.ctl, ⟨.host r, n.toNat, v.toNat % 2 ^ 16, v.toNat / 2 ^ 16 % 4, data⟩)] ∧ { t.b with tdu := { t.b.tdu with queue := x.queue } } = s.b) ∧
      (F.TDU_CHn_POST_CMD.get v ≠ 1 ∨ pick = none → exec (.retireNotify r n v) s = .next s) ∧
      (∀ e, F.TDU_CHn_POST_CMD.get v = 1 → pick = some e → ∃ t, exec (.retireNotify r n v) s = .next t ∧ gone t e ∧
        t.b.tduHeld e.chan = s.b.tduHeld e.chan - 1 ∧ owed t e (replyWord false false false false true data) ∧ quiet t)) ∧
    (∀ pick, pick = ([7, 6, 5, 4, 3, 2, 1, 0].filterMap (fun p => (s.b.dispatchable p).head?)).head? →
      (pick = none → ∀ u, exec (.dispatch u) s = .next s) ∧
      (∀ e, pick = some e → ∃ t, exec (.dispatch .ok) s = .next t ∧ (x.onchip ≤ 16384 → quiet t) ∧
        (e.action ≠ 2 → ∃ a ∈ t.b.tdu.store, a.chan = e.chan ∧ a.seq = e.seq ∧ a.tag = e.tag ∧ a.state = 2) ∧
        (e.action = 2 → owed t e (replyWord false false false false true (e.op.getD 0 0))) ∧
        (e.action = 0 → t.b.reg (r1 .DMA_CHn_STATUS e.dmach) = 
            BitVec.ofNat 32 (2 ^ 30 + 2 ^ 22 + b2n (s.b.bit (r1 .DMA_CHn_STATUS e.dmach) F.DMA_CHn_STATUS_CMD_REFUSED) * 2 ^ 21 + 16 * e.slot) ∧
          (t.b.dmaCh e.dmach).taskChan = e.chan ∧ (t.b.dmaCh e.dmach).taskTag = e.tag ∧
          ∀ k < 4, t.b.reg (r2 .DMA_CHn_Bk_LO e.dmach k) = (e.op.getD k 0).setWidth 32 ∧
            t.b.reg (r2 .DMA_CHn_Bk_HI e.dmach k) = ((e.op.getD k 0) >>> 32).setWidth 32))) ∧
    (∀ (chan : BitVec 10) (tag : BitVec 16),
      ((∀ e, x.waiting chan.toNat tag.toNat = some e → s.b.deadlinePassed e.deadline = false) → exec (.entryExpire chan tag) s = .next s) ∧
      (∀ e, x.waiting chan.toNat tag.toNat = some e → s.b.deadlinePassed e.deadline = true →
        let y := s.b.tduDrain
        (∀ a, y.tdu.waiting chan.toNat tag.toNat = some a → a.seq = e.seq → ∃ t, exec (.entryExpire chan tag) s = .next t ∧ gone t a ∧
          t.b.tduHeld chan.toNat = y.tduHeld chan.toNat - 1 ∧ owed t a (replyWord false true false false false 0) ∧
          t.b.bit (r1 .TDU_CHn_STATUS chan.toNat) F.TDU_CHn_STATUS_EXPIRED = true ∧ t.b.bit (r0 .TDU_STATUS) F.TDU_STATUS_EXPIRED = true ∧
          t.b.reg (r0 .TDU_EXP_LAST) = BitVec.ofNat 32 (2 ^ 31 + chan.toNat * 2 ^ 16 + tag.toNat) ∧ (x.queue = [] → quiet t)) ∧
        ((∀ a, y.tdu.waiting chan.toNat tag.toNat = some a → a.seq ≠ e.seq) → ∃ t, exec (.entryExpire chan tag) s = .next t ∧ t.b = y)))

/-- SPILL moves the waiting entry of lowest priority and oldest allocation whose bucket has room off the chip while ONCHIP is above HI: its eight words stand at a place of its bucket in far memory and no other byte changes, with event 130 at the first, and SPILL_FAIL when a bucket before it was full (R341, R342). REFILL ends the oldest bucket read: the entry found there comes back on chip and takes the fragment, its place no longer VALID; with none found the fragment opens an entry (R343); a full store of which no entry can spill takes neither (R345). SPILL_SWEEP goes to the next bucket and takes away its overdue entries and no other; a fragment that waits for an overdue entry joins it in that cycle, and where it completes the entry the entry is READY on chip and does not expire (R339, R344). An uncorrectable word that a bucket read finds counts once in FMC_STATUSs.UNCORR, with event 224 + s when UNCORR was 0 (R552). STALL_QUIESCENT sets QUIESCENT and raises event 128 when the conditions of R348 have held for the window, once until a fragment or dispatch comes (R348), with the snapshot in its bank, or SNAP_FAIL with event 135 when the bank refuses it (R349). A read of NHEAD returns VALID and the tag of the oldest NOTIFY entry not yet read, latches its operands and marks it read; zero when there is none (R334). RELEASE_PASS_COMPLETE ends the handover of a channel with no spilled entry and every credit available (R347). In other states nothing changes. -/
def Obligations.SpillQuiescenceAndChannelHandover : Prop :=
  ∀ (s : State),
    let x := s.b.tdu
    let quiet := fun (t : State) => t.b.parts = s.b.parts ∧ t.b.links = s.b.links ∧ t.b.cfg = s.b.cfg
    let caches := fun (t : State) => ∀ c, { t.b.clu c with cache := (s.b.clu c).cache } = s.b.clu c
    let full := x.victims.takeWhile (fun e => (s.b.spillPlace e).isNone)
    (x.onchip ≤ s.b.tduHi ∨ s.b.tduBuckets = 0 ∨ x.victims = [] → exec .spill s = .next s) ∧
    (∀ v rest k, s.b.tduHi < x.onchip → s.b.tduBuckets ≠ 0 → x.victims.drop full.length = v :: rest → s.b.spillPlace v = some k →
      let a := s.b.spillAt k
      ∃ t, exec .spill s = .next t ∧ t.b.tdu.spilled = x.spilled ++ [(k, v)] ∧ (∀ o ∈ t.b.tdu.store, (o.chan, o.seq) ≠ (v.chan, v.seq)) ∧
        (x.spilling = false → t.b.evtPend 130 = true) ∧ (full ≠ [] → t.b.bit (r0 .TDU_STATUS) F.TDU_STATUS_SPILL_FAIL = true) ∧
        (∀ i < v.bytes.length, NMap.get 0 t.b.far (farKey a.1 (a.2 + i)) = v.bytes.getD i 0) ∧
        (∀ q, (∀ i < v.bytes.length, q ≠ farKey a.1 (a.2 + i)) → NMap.get 0 t.b.far q = NMap.get 0 s.b.far q) ∧ t.b.ssp = s.b.ssp ∧ caches t ∧ quiet t) ∧
    (s.b.tduHi < x.onchip → s.b.tduBuckets ≠ 0 → x.victims ≠ [] → x.victims.drop full.length = [] → ∃ t, exec .spill s = .next t ∧
      t.b.bit (r0 .TDU_STATUS) F.TDU_STATUS_SPILL_FAIL = true ∧ t.b.tdu.store = x.store ∧ t.b.tdu.spilled = x.spilled ∧ t.b.tdu.reads = x.reads ∧
      s.b.sameMem t.b ∧ quiet t) ∧
    (x.reads = [] → ∀ z, exec (.refill z) s = .next s) ∧
    (∀ f r, x.reads = f :: r → s.b.tduStuck = true → ∀ z, ∃ t, exec (.refill z) s = .next t ∧ t.b.tdu.store = x.store ∧ t.b.tdu.spilled = x.spilled ∧ t.b.tdu.reads = x.reads ∧ s.b.sameMem t.b ∧
      t.b.bit (r0 .TDU_STATUS) F.TDU_STATUS_STORE_FULL = true) ∧
    (∀ f r, x.reads = f :: r → s.b.tduStuck = false → x.onchip < 16384 → s.b.fragRefused f = false → x.waiting f.chan f.tag = none →
      (∀ e, s.b.away f.chan f.tag = some e → e.2.state = 0 → e.2.have_.getLsbD f.op = false → ∃ t a, exec (.refill []) s = .next t ∧ t.b.tdu.reads = r ∧
        t.b.tdu.spilled = x.spilled.filter (fun o => decide (o.1 ≠ e.1)) ∧ t.b.spillValid e.1 = false ∧ a ∈ t.b.tdu.store ∧ a.chan = e.2.chan ∧
        a.tag = e.2.tag ∧ a.seq = e.2.seq ∧ a.op = e.2.op.set f.op f.data ∧ a.have_ = e.2.have_ ||| BitVec.ofNat 4 (2 ^ f.op) ∧
        t.b.tduHeld f.chan = s.b.tduHeld f.chan ∧ quiet t) ∧
      (s.b.away f.chan f.tag = none → ∃ t a, exec (.refill []) s = .next t ∧ t.b.tdu.reads = r ∧ t.b.tdu.spilled = x.spilled ∧ a ∈ t.b.tdu.store ∧
        a.chan = f.chan ∧ a.tag = f.tag ∧ a.have_ = BitVec.ofNat 4 (2 ^ f.op) ∧ t.b.tduHeld f.chan = s.b.tduHeld f.chan + 1 ∧ s.b.sameMem t.b ∧ quiet t)) ∧
    (s.b.tduBuckets = 0 → ∀ z, exec (.spillSweep z) s = .next s) ∧
    (s.b.tduBuckets ≠ 0 → x.queue = [] →
      let k := x.sweep % s.b.tduBuckets
      let due := (x.spilled.map (fun e => (e.1, s.b.spillRead e))).filter (fun e => decide (e.1 / 8 = k) && s.b.spillValid e.1 && s.b.deadlinePassed e.2.deadline)
      (x.reads = [] → ∃ t, exec (.spillSweep []) s = .next t ∧ t.b.tdu.sweep = (k + 1) % s.b.tduBuckets ∧
        (∀ o, o ∈ t.b.tdu.spilled ↔ o ∈ x.spilled ∧ ∀ e ∈ due, o.1 ≠ e.1) ∧ (due = [] → t.b = { s.b with tdu := { x with sweep := t.b.tdu.sweep } }) ∧
        (due ≠ [] → t.b.bit (r0 .TDU_STATUS) F.TDU_STATUS_EXPIRED = true) ∧ t.b.ssp = s.b.ssp ∧ quiet t) ∧
      (∀ e f, x.reads = [f] → due = [e] → s.b.away f.chan f.tag = some e → s.b.tduStuck = false → x.onchip < 16384 → x.waiting f.chan f.tag = none →
        s.b.fragRefused f = false → e.2.state = 0 → e.2.have_.getLsbD f.op = false → e.2.have_ ||| BitVec.ofNat 4 (2 ^ f.op) = e.2.need →
        ∃ t a, exec (.spillSweep []) s = .next t ∧ t.b.tdu.reads = [] ∧ (∀ o ∈ t.b.tdu.spilled, o.1 ≠ e.1) ∧ a ∈ t.b.tdu.store ∧ a.chan = e.2.chan ∧ a.tag = e.2.tag ∧
          a.seq = e.2.seq ∧ a.op = e.2.op.set f.op f.data ∧ a.have_ = e.2.need ∧ a.state = 1 ∧ t.b.tduHeld f.chan = s.b.tduHeld f.chan ∧
          (s.b.bit (r0 .TDU_STATUS) F.TDU_STATUS_EXPIRED = false → t.b.bit (r0 .TDU_STATUS) F.TDU_STATUS_EXPIRED = false)) ∧
      (∀ i : BitVec 6, x.reads = [] → x.spilled = [] →
        let a := s.b.spillAt (8 * k + i.toNat / 8)
        let key := a.1 * 2 ^ 32 + (a.2 + 8 * (i.toNat % 8)) / 8
        let n := s.b.fld (r1 .FMC_STATUSs a.1) F.FMC_STATUSs_UNCORR
        (NMap.get false s.b.farBad key = true → ∃ t, exec (.spillSweep [(i, .due)]) s = .next t ∧ t.b.regs = s.b.regs) ∧
        (NMap.get false s.b.farBad key = false → ∃ t, exec (.spillSweep [(i, .due)]) s = .next t ∧ NMap.get false t.b.farBad key = true ∧
          t.b.fld (r1 .FMC_STATUSs a.1) F.FMC_STATUSs_UNCORR = min (n + 1) 255 ∧ (n = 0 → t.b.evtPend (224 + a.1) = true) ∧ s.b.sameMem t.b ∧ quiet t))) ∧
    (s.b.quiescent = false → exec .stallQuiescent s = .next s) ∧
    (s.b.quiescent = true →
      let k := s.b.fld (r0 .TDU_QCTRL) F.TDU_QCTRL_BANK
      ∃ t, exec .stallQuiescent s = .next t ∧ t.b.bit (r0 .TDU_STATUS) F.TDU_STATUS_QUIESCENT = true ∧ t.b.evtPend 128 = true ∧
        t.b.tdu.armed = false ∧ t.b.tdu.store = x.store ∧ t.b.clus = s.b.clus ∧ t.b.far = s.b.far ∧ quiet t ∧
        (s.b.sspAsk k ⟨2, 0⟩ = .serve → ∀ i < s.b.snapBytes.length, NMap.get 0 t.b.ssp.bytes (k * 2 ^ 20 + i) = s.b.snapBytes.getD i 0) ∧
        (s.b.sspAsk k ⟨2, 0⟩ = .error → t.b.bit (r0 .TDU_STATUS) F.TDU_STATUS_SNAP_FAIL = true ∧ t.b.evtPend 135 = true ∧ s.b.sameMem t.b)) ∧
    (∀ (r : Requester) (n : BitVec 10),
      let pick := oldestBy Entry.done ((x.notifies n.toNat).filter (fun e => !e.readOut))
      (s.b.mayRead r (r1 .TDU_CHn_NHEAD n.toNat) = false ∨ pick = none → exec (.nheadRead r n) s = .next { s with b := { s.b with reply := leBytes 4 0 } }) ∧
      (∀ e, s.b.mayRead r (r1 .TDU_CHn_NHEAD n.toNat) = true → pick = some e → ∃ t, exec (.nheadRead r n) s = .next t ∧
        t.b.reply = leBytes 4 (BitVec.ofNat 32 (2 ^ 31 + e.tag)).toNat ∧
        (∀ k < 4, t.b.reg (r2 .TDU_CHn_NOPk_LO n.toNat k) = (e.op.getD k 0).setWidth 32 ∧
          t.b.reg (r2 .TDU_CHn_NOPk_HI n.toNat k) = ((e.op.getD k 0) >>> 32).setWidth 32) ∧
        (∀ o ∈ t.b.tdu.store, (o.chan, o.seq) = (e.chan, e.seq) → o.readOut = true) ∧ t.b.clus = s.b.clus ∧ s.b.sameMem t.b ∧ quiet t)) ∧
    (∀ n : BitVec 10,
      let k := r1 .TDU_CHn_STATUS n.toNat
      (s.b.bit k F.TDU_CHn_STATUS_RELEASING = false → exec (.releasePassComplete n) s = .next s) ∧
      (s.b.bit k F.TDU_CHn_STATUS_RELEASING = true → ∃ t, exec (.releasePassComplete n) s = .next t ∧ t.b.bit k F.TDU_CHn_STATUS_RELEASING = false ∧
        t.b.tduHeld n.toNat = 0 ∧ t.b.fld k F.TDU_CHn_STATUS_AVAIL = s.b.tduCredits n.toNat ∧
        (∀ o ∈ t.b.tdu.spilled, o ∈ x.spilled ∧ o.2.chan ≠ n.toNat) ∧ t.b.tdu.store = x.store ∧ (∀ q, q ≠ k → t.b.reg q = s.b.reg q) ∧ t.b.ssp = s.b.ssp ∧
        caches t ∧ quiet t ∧ (x.spilledOf n.toNat = 0 → s.b.onlyRegs t.b [k])))

/-- START of an idle channel runs it at 16 x SLOT with both loop counters inactive, ARM makes it ARMED on its trigger object; on a channel that is not idle both set CMD_REFUSED and nothing else (R357 to R359). ABORT of a busy channel lets it end with ABORTED once its writes are complete, and of another changes nothing; CLEAR takes ERROR to IDLE (R359, R360). An ARMED channel whose object is signalled starts at its trigger slot; a waiting one whose object is signalled goes on at the next instruction, and one whose TMO has passed ends in ERROR with code 9 (R367, R368). A write acknowledgement takes the oldest request of the channel: bytes for far memory and the scratchpad are in place with it, unless their target has taken them already, and no other byte changes, and it counts one write less; it waits while an earlier write of the same port to that stack is not applied (R379); a bank that refuses the channel makes it fail at the MOVE that issued the write, with code 7, and takes back the increments of a MOVE that is no longer under way (R371); the last one of a MOVE with POST = 0 applies SINC and DINC and goes on, and the last one of a failed channel ends it (R365, R371). A write of an unchanged owner only stores its fields; a slot with no channel in it goes to its new owner with its instructions zeroed at once, else at the end of the handover (R356, R363). The words of the program store that a write of the program window holds are written by who may write their slots, refused and logged for others (R355, R452). A change of DMA_CHn_CFG clears the bases and the result, and takes PART only in IDLE (R363). Cluster values and memory never change. -/
def Obligations.DmaCommandsSlotsAndWaits : Prop :=
  (∀ (s : State) (r : Requester) (n : BitVec 6) (slot : BitVec 10),
    let k := r1 .DMA_CHn_STATUS n.toNat
    let cmd := r1 .DMA_CHn_CMD n.toNat
    s.b.reaches r cmd = true → s.b.roleOk r cmd = true → s.b.dmaCmdOk r n.toNat false = true →
    (s.b.dmaIdle n.toNat = true → (∃ t, exec (.dmaStart r n slot) s = .next t ∧ t.b.reg k = BitVec.ofNat 32 (2 ^ 30 + 16 * slot.toNat) ∧
        s.b.onlyRegs { t.b with dma := s.b.dma, tdu := s.b.tdu } [k, r2 .DMA_CHn_LCk n.toNat 0, r2 .DMA_CHn_LCk n.toNat 1, r1 .DMA_CHn_WAITOBJ n.toNat]) ∧
      (∃ t, exec (.dmaArm r n) s = .next t ∧ t.b.dmaState n.toNat = 1 ∧ t.b.bit k F.DMA_CHn_STATUS_CMD_REFUSED = false ∧
        t.b.waitObj n.toNat = (s.b.trigClass n.toNat, s.b.trigNum n.toNat) ∧ s.b.onlyRegs t.b [k, r1 .DMA_CHn_WAITOBJ n.toNat])) ∧
    (s.b.dmaIdle n.toNat = false → ∀ i ∈ [Instr.dmaStart r n slot, .dmaArm r n], ∃ t, exec i s = .next t ∧ s.b.onlyRegs t.b [k] ∧
      t.b.bit k F.DMA_CHn_STATUS_CMD_REFUSED = true ∧ t.b.dmaState n.toNat = s.b.dmaState n.toNat ∧ t.b.dmaPc n.toNat = s.b.dmaPc n.toNat) ∧
    (s.b.dmaBusy n.toNat = false → exec (.dmaAbort r n) s = .next s) ∧
    (s.b.dmaBusy n.toNat = true → ∃ t, exec (.dmaAbort r n) s = .next t ∧ (t.b.dmaCh n.toNat).ending = some 0xB ∧ t.b.dmaState n.toNat = s.b.dmaState n.toNat ∧
      (∀ j < 64, s.b.semHeld j = true → s.b.semHolder j = 0x200 + n.toNat → t.b.semHeld j = false ∧ t.b.bit (r1 .SEM_PEEKn j) F.SEM_PEEKn_BROKEN = true) ∧
      t.b.clus = s.b.clus ∧ t.b.prog = s.b.prog ∧ s.b.sameMem t.b) ∧
    (∃ t, exec (.dmaClear r n) s = .next t ∧ s.b.onlyRegs t.b [k] ∧ (s.b.dmaState n.toNat = 4 → t.b.dmaState n.toNat = 0) ∧
      (s.b.dmaState n.toNat ≠ 4 → t.b.dmaState n.toNat = s.b.dmaState n.toNat ∧ t.b.bit k F.DMA_CHn_STATUS_CMD_REFUSED = true))) ∧
  (∀ (s : State) (n : BitVec 6),
    let k := r1 .DMA_CHn_STATUS n.toNat
    let d := s.b.dmaCh n.toNat
    let o := s.b.waitObj n.toNat
    let tr := (s.b.trigClass n.toNat, s.b.trigNum n.toNat)
    let q := s.b.dmaOldest n.toNat
    let aborted := decide (d.writes = 0 ∧ (d.ending = some 0xB ∨ d.ending = some 0xC))
    let starts := decide (s.b.dmaState n.toNat = 1 ∧ d.ending = none ∧ CUnit.dma ∉ s.b.flt.refusing) && s.b.signalled n.toNat tr.1 tr.2 false
    let resumes := decide (s.b.dmaState n.toNat = 3 ∧ d.ending = none) && s.b.signalled n.toNat o.1 o.2 d.waitPol
    (aborted = false → exec (.abortComplete n) s = .next s) ∧
    (aborted = true → ∃ t, exec (.abortComplete n) s = .next t ∧ t.b.dmaState n.toNat = 0 ∧ d.ending = some (t.b.fld k F.DMA_CHn_STATUS_ERR) ∧
      (t.b.dmaCh n.toNat).ending = none ∧ s.b.sameMem t.b) ∧
    (starts = false → ∀ u, exec (.dmaTriggerStart n u) s = .next s) ∧
    (starts = true → ∃ t, exec (.dmaTriggerStart n .ok) s = .next t ∧
      t.b.reg k = BitVec.ofNat 32 (2 ^ 30 + b2n (s.b.bit k F.DMA_CHn_STATUS_CMD_REFUSED) * 2 ^ 21 + 16 * s.b.fld (r1 .DMA_CHn_TRIG n.toNat) F.DMA_CHn_TRIG_SLOT) ∧ t.b.clus = s.b.clus ∧ s.b.sameMem t.b) ∧
    (resumes = false → ∀ u, exec (.dmaWaitComplete n u) s = .next s) ∧
    (resumes = true → s.b.dmaPc n.toNat ≠ 16383 → ∃ t, exec (.dmaWaitComplete n .ok) s = .next t ∧ t.b.dmaState n.toNat = 2 ∧
      t.b.dmaPc n.toNat = s.b.dmaPc n.toNat + 1 ∧ t.b.reg (r1 .DMA_CHn_WAITOBJ n.toNat) = 0 ∧ t.b.clus = s.b.clus ∧ s.b.sameMem t.b) ∧
    (d.deadline = none → exec (.dmaWaitTimeout n) s = .next s) ∧
    (∀ x, d.deadline = some x → s.b.dmaState n.toNat = 3 → d.ending = none → (s.b.tick - x).getLsbD 31 = false → s.b.signalled n.toNat o.1 o.2 d.waitPol = false →
      d.writes = 0 → ∃ t, exec (.dmaWaitTimeout n) s = .next t ∧ t.b.dmaState n.toNat = 4 ∧ t.b.fld k F.DMA_CHn_STATUS_ERR = 9 ∧
        t.b.bit (r1 .DMA_CHn_EVT n.toNat) F.DMA_CHn_EVT_ERR = true ∧ s.b.sameMem t.b) ∧
    (d.writes = 0 ∨ (q = none ∧ ∃ x ∈ s.b.noc.sent, x.chan = n.toNat) → exec (.dmaWriteAck n) s = .next s) ∧
    (∀ x, d.writes ≠ 0 → q = some x → (x.data = [] ∨ x.done = true ∨ (s.b.pwrState = 0 ∧ ((x.space = 1 ∧ s.b.farBehind x.node (x.addr / 2 ^ 35) (some x.txn) = false) ∨
        (x.space = 2 ∧ d.again = none ∧ s.b.sspAsk (x.addr / 2 ^ 20) (s.b.dmaOwner n.toNat) = .serve)))) →
      ∃ t, exec (.dmaWriteAck n) s = .next t ∧ t.b.noc.sent = s.b.noc.sent.erase x ∧
        (∀ a, NMap.get 0 t.b.far a = if x.done = false ∧ x.space = 1 ∧ x.addr ≤ a ∧ a < x.addr + x.data.length then x.data.getD (a - x.addr) 0 else NMap.get 0 s.b.far a) ∧
        (∀ a, NMap.get 0 t.b.ssp.bytes a = if x.done = false ∧ x.space = 2 ∧ x.addr ≤ a ∧ a < x.addr + x.data.length then x.data.getD (a - x.addr) 0 else NMap.get 0 s.b.ssp.bytes a) ∧
        (d.writes ≠ 1 ∨ (d.ending = none ∧ d.held = none) ∨ d.ending = some 0xB ∨ d.ending = some 0xC →
          (t.b.dmaCh n.toNat).writes = d.writes - 1 ∧ (t.b.dmaCh n.toNat).move = d.move ∧ t.b.regs = s.b.regs) ∧
        (∀ i, d.writes = 1 → d.ending = none → d.held = some i → s.b.dmaPc n.toNat ≠ 16383 → (t.b.dmaCh n.toNat).writes = 0 ∧
          (t.b.dmaCh n.toNat).move = none ∧ t.b.dmaPc n.toNat = s.b.dmaPc n.toNat + 1 ∧ ∀ j < 4, t.b.dmaBase n.toNat j =
            (s.b.dmaBase n.toNat j + (if i.getLsbD 113 ∧ insFld i 116 2 = j then insFld i 80 24 + 1 else 0) +
              (if i.getLsbD 112 ∧ insFld i 114 2 = j then insFld i 80 24 + 1 else 0)) % 2 ^ 64) ∧
        (∀ code < 16, d.writes = 1 → d.ending = some code → code ≠ 0xB → code ≠ 0xC → t.b.dmaState n.toNat = 4 ∧ t.b.fld k F.DMA_CHn_STATUS_ERR = code)) ∧
    (∀ x, d.writes ≠ 0 → q = some x → x.data ≠ [] → x.done = false → x.space = 1 → s.b.farBehind x.node (x.addr / 2 ^ 35) (some x.txn) = true →
      exec (.dmaWriteAck n) s = .next s) ∧
    (∀ x, d.writes = 1 → q = some x → x.data ≠ [] → x.done = false → x.space = 2 → s.b.pwrState = 0 → d.again = none → d.ending = none →
      s.b.sspAsk (x.addr / 2 ^ 20) (s.b.dmaOwner n.toNat) = .error → ∃ t, exec (.dmaWriteAck n) s = .next t ∧ t.b.dmaState n.toNat = 4 ∧
        t.b.fld k F.DMA_CHn_STATUS_ERR = 7 ∧ (x.pc < 16384 → t.b.dmaPc n.toNat = x.pc) ∧ s.b.sameMem t.b ∧ ∀ j < 4, (t.b.dmaBase n.toNat j : Int) =
          (if d.move.any (fun m => decide (m.run = x.run)) then (s.b.dmaBase n.toNat j : Int)
           else ((s.b.dmaBase n.toNat j : Int) - (if x.ins.getLsbD 113 ∧ insFld x.ins 116 2 = j then insFld x.ins 80 24 + 1 else 0 : Nat) -
            (if x.ins.getLsbD 112 ∧ insFld x.ins 114 2 = j then insFld x.ins 80 24 + 1 else 0 : Nat)) % 2 ^ 64))) ∧
  (∀ (s : State) (r : Requester) (j : BitVec 10) (v : Word),
    let k := r1 .DMA_SLOT_OWNs j.toNat
    let w := v &&& 0x800000FF#32
    let same := decide (s.b.slotOwner j.toNat = (if w.getLsbD 31 then some (w.toNat % 256) else none) ∧ s.b.bit k F.DMA_SLOT_OWNs_HANDOVER = false)
    let zeroed := fun (t : State) => (∀ i < 64, NMap.get 0 t.b.prog (64 * j.toNat + i) = 0) ∧
      (∀ i, (i < 64 * j.toNat ∨ 64 * j.toNat + 64 ≤ i) → NMap.get 0 t.b.prog i = NMap.get 0 s.b.prog i) ∧ t.b.slotNext.find j.toNat = none ∧
      s.b.onlyRegs { t.b with prog := s.b.prog, slotNext := s.b.slotNext } [k]
    (s.b.reaches r k = true → s.b.roleOk r k = true →
      (same = true → ∃ t, exec (.dmaSlotOwnWrite r j v) s = .next t ∧ t.b.reg k = w ∧ s.b.onlyRegs t.b [k]) ∧
      (same = false → s.b.slotBusy j.toNat = false → ∃ t, exec (.dmaSlotOwnWrite r j v) s = .next t ∧ t.b.reg k = w ∧ zeroed t) ∧
      (same = false → s.b.slotBusy j.toNat = true → ∃ t, exec (.dmaSlotOwnWrite r j v) s = .next t ∧
        t.b.bit k F.DMA_SLOT_OWNs_HANDOVER = true ∧ t.b.slotNext.find j.toNat = some w ∧ t.b.prog = s.b.prog ∧
        s.b.onlyRegs { t.b with slotNext := s.b.slotNext } [k])) ∧
    (s.b.slotNext.find j.toNat = none ∨ s.b.slotBusy j.toNat = true → exec (.slotHandoverEnd j) s = .next s) ∧
    (∀ x, s.b.slotNext.find j.toNat = some x → s.b.slotBusy j.toNat = false → ∃ t, exec (.slotHandoverEnd j) s = .next t ∧
      t.b.reg k = x &&& 0x800000FF#32 ∧ zeroed t)) ∧
  (∀ (s : State) (r : Requester) (a : BitVec 16) (l : List Word),
    let may := fun (j : Nat) => decide ((∀ p ∈ s.b.slotOwner j, s.b.operCovers r p = true) ∧ (s.b.slotOwner j = none → roleIn (s.b.roleOf r) 3 = true))
    ((∀ i < l.length, s.b.progReaches r ((a.toNat + i) / 64) = false) → exec (.programStoreWrite r a l) s = .next s) ∧
    ((∀ i < l.length, s.b.progReaches r ((a.toNat + i) / 64) = true ∧ may ((a.toNat + i) / 64) = true) → ∃ t, exec (.programStoreWrite r a l) s = .next t ∧
      (∀ i < l.length, NMap.get 0 t.b.prog (a.toNat + i) = l.getD i 0) ∧
      (∀ i, (i < a.toNat ∨ a.toNat + l.length ≤ i) → NMap.get 0 t.b.prog i = NMap.get 0 s.b.prog i) ∧ { t.b with prog := s.b.prog } = s.b) ∧
    (∀ v, l = [v] → s.b.progReaches r (a.toNat / 64) = true → may (a.toNat / 64) = false →
      exec (.programStoreWrite r a l) s = .next { s with b := s.b.auditRefused r (0x440000 + 4 * a.toNat) v })) ∧
  (∀ (s : State) (r : Requester) (n : BitVec 6) (v : Word),
    let k := r1 .DMA_CHn_CFG n.toNat
    s.b.reaches r k = true → s.b.roleOk r k = true → ∃ t, exec (.dmaCfgWrite r n v) s = .next t ∧
      t.b.reg k = (if s.b.dmaState n.toNat = 0 then v &&& 0x800000FF#32 else (v &&& 0x80000000#32) ||| (s.b.reg k &&& 0xFF#32)) ∧
      (t.b.reg k = s.b.reg k → ∀ x, t.b.reg x = s.b.reg x) ∧ (t.b.reg k ≠ s.b.reg k → (∀ i < 4, t.b.dmaBase n.toNat i = 0) ∧
        t.b.reg (r1 .DMA_CHn_RESULT_LO n.toNat) = 0 ∧ t.b.reg (r1 .DMA_CHn_RESULT_HI n.toNat) = 0) ∧
      s.b.regsKept t.b [.DMA_CHn_CFG, .DMA_CHn_Bk_LO, .DMA_CHn_Bk_HI, .DMA_CHn_RESULT_LO, .DMA_CHn_RESULT_HI] ∧ { t.b with regs := s.b.regs } = s.b)

/-- A channel that is not ready ignores the command. A slot that it may not use, an uncorrectable word and a reserved instruction end the channel in ERROR with codes 4, 2 and 1 (R364, R371). A MOVE of a bad space ends it with code 5, one of an invalid range with the code of Table 11.5. A MOVE of an immediate, far memory, a scratchpad bank, registers or host memory to far memory, a bank or the host issues, to far memory from a control-plane FMP (R25), one request of at most 64 bytes, at most 16 outstanding, each time it is commanded: its bytes are those of the source range (R361, R365); a read of the host waits for its completion. SIGNAL and END of a reserved space end the channel with code 5 and of an invalid range with that of Table 11.5; of host memory they send its read of 8 bytes; of far memory, a bank or registers they take the 8 bytes of the range as the fragment's data or the result (R369, R370). The request that ends a MOVE with POST = 1 applies SINC and DINC and goes on at the next instruction; no byte of memory changes before a target answers. LOOP goes to its target while its counter is not spent, and on when it is (R366). WAIT on a signalled object goes on, and consumes an event when POL is set; on another it makes the channel wait on it (R367, R368). SIGNAL of an immediate posts its fragment and stays at the SIGNAL; when the TDU applies that fragment the channel learns whether it was accepted: then it goes on at the next instruction, or ends in error 10 (R345, R369). END of an immediate leaves it as the result, sets DONE and the channel's bit in every done mask, and makes the channel idle, or ARMED with REARM (R370). A completion that failed ends the channel with error 7; a good one goes on with its bytes, or is the result of an END. -/
def Obligations.DmaInstructionsExecute : Prop :=
  (∀ (s : State) (n : BitVec 6) (fetch : Ecc) (data : Found),
    let c := n.toNat
    let d := s.b.dmaCh c
    let pc := s.b.dmaPc c
    let i := s.b.dmaInstr pc
    let st := r1 .DMA_CHn_STATUS c
    let y := if fetch = .corr then s.b.corrected else s.b
    let all := [Instr.move n fetch data, .loop n fetch, .dmaWait n fetch, .signal n fetch data, .dmaEnd n fetch data]
    let fails := fun (x : Instr) (code : Nat) => ∃ t, exec x s = .next t ∧ t.b.dmaState c = 4 ∧ t.b.fld st F.DMA_CHn_STATUS_ERR = code ∧
      t.b.bit (r1 .DMA_CHn_EVT c) F.DMA_CHn_EVT_ERR = true ∧ s.b.sameMem t.b
    let due := s.b.dmaReady c && s.b.slotUsable c (pc / 16) && decide (fetch ≠ .due) && !insReserved i && !(insWaits i && decide (d.writes ≠ 0)) &&
      decide (pc ≠ 16383)
    let m := { s.b.moveOp c i with run := d.runs + 1 }
    let issues := fun (m : MoveRun) (l : List Byte) =>
      ∃ t q, exec (.move n fetch data) s = .next t ∧ t.b.noc.sent = s.b.noc.sent ++ [q] ∧ (m.dspc = 0 ∨ m.dspc = 2 → q.node = 127) ∧
        (m.dspc = 1 → isCpFmp q.node = true) ∧ q.chan = c ∧ q.pc = pc ∧ q.run = m.run ∧ q.done = false ∧ q.space = m.dspc ∧
        q.addr = m.dst + m.pos ∧ q.data = (if m.dspc = 1 ∨ m.dspc = 2 then l else []) ∧
        (m.dspc = 0 → t.b.out.getLast? = some (.write (s.b.dmaFn c) (m.dst + m.pos) l)) ∧ (t.b.dmaCh c).writes = d.writes + 1 ∧ t.b.dmaState c = 2 ∧
        s.b.sameMem t.b ∧
        (if m.pos + m.chunk = m.len ∧ m.ins.getLsbD 109 = true then (t.b.dmaCh c).move = none ∧ t.b.dmaPc c = pc + 1 ∧ ∀ j < 4, t.b.dmaBase c j =
            (s.b.dmaBase c j + (if m.ins.getLsbD 113 ∧ insFld m.ins 116 2 = j then insFld m.ins 80 24 + 1 else 0) +
              (if m.ins.getLsbD 112 ∧ insFld m.ins 114 2 = j then insFld m.ins 80 24 + 1 else 0)) % 2 ^ 64
          else (t.b.dmaCh c).move = some { m with pos := m.pos + m.chunk } ∧ t.b.dmaPc c = pc ∧ ∀ j < 4, t.b.dmaBase c j = s.b.dmaBase c j)
    let asks := fun (m : MoveRun) => ∃ t, exec (.move n fetch data) s = .next t ∧
      t.b.out.getLast? = some (.read (s.b.dmaFn c) c (m.src + m.pos) m.chunk) ∧ (t.b.dmaCh c).hostOp = some m.ins ∧ (t.b.dmaCh c).move = some m ∧
      t.b.dmaPc c = pc ∧ s.b.sameMem t.b
    let clear := fun (bank : Nat) => d.again.any (fun e => decide (s.b.pw.ctl < e + 16)) = false ∧ s.b.sspAsk bank (s.b.dmaOwner c) = .serve
    let farOk := fun (a len : Nat) => s.b.farBehind (engineNode c 1 a) (a / 2 ^ 35) none = false ∧ s.b.farPoisoned (a / 2 ^ 35) (a % 2 ^ 35) len = false
    let sspOk := fun (a len : Nat) => clear (a / 2 ^ 20) ∧ s.b.sspPoisoned (a / 2 ^ 20) (a % 2 ^ 20) len = false
    let farGot := fun (a len : Nat) => s.b.farBytes (a / 2 ^ 35) (a % 2 ^ 35) len
    let sspGot := fun (a len : Nat) => s.b.sspBytes (a / 2 ^ 20) (a % 2 ^ 20) len
    let goes := fun (m : MoveRun) => s.b.pwrState = 0 → m.dspc = 0 ∨ m.dspc = 1 ∨ (m.dspc = 2 ∧ clear ((m.dst + m.pos) / 2 ^ 20)) → d.writes < 16 → m.pos ≠ m.len →
      let at_ := m.src + m.pos
      (m.sspc = 0 → asks m) ∧
      (m.sspc = 4 → issues m (sliceBytes (leBytes 4 (insFld m.ins 40 32)) m.pos m.chunk)) ∧
      (m.sspc = 1 → data = [] → farOk at_ m.chunk → issues m (farGot at_ m.chunk)) ∧
      (m.sspc = 2 → data = [] → sspOk at_ m.chunk → issues m (sspGot at_ m.chunk)) ∧
      (∀ z l, m.sspc = 3 → data = [] → fetch = .ok → s.b.regsRead (.dma n) (wordsOf at_ m.chunk) [] = .done z l → issues m l)
    let lc := r2 .DMA_CHn_LCk c (insFld i 123 1)
    let count := insFld i 76 32
    let left := if s.b.bit st (lcAct (insFld i 123 1)) then (s.b.reg lc).toNat else count
    let f := s.b.signalFrag c i (BitVec.ofNat 64 (insFld i 40 40))
    let posted := fun (t : State) => exec (.signal n fetch data) s = .next t ∧ (t.b.dmaCh c).sig = some none ∧ t.b.dmaPc c = pc ∧ t.b.dmaState c = 2 ∧
      t.b.tdu.queue = y.tdu.queue ++ [(s.b.pw.ctl, f)] ∧ t.b.tdu.store = s.b.tdu.store ∧ s.b.sameMem t.b
    (s.b.dmaReady c = false → (s.b.dmaLive c = false ∨ d.move = none → exec (.move n fetch data) s = .next s) ∧
      (s.b.dmaLive c = false ∨ d.sig = none → exec (.signal n fetch data) s = .next s) ∧
      ∀ x ∈ [Instr.loop n fetch, .dmaWait n fetch, .dmaEnd n fetch data], exec x s = .next s) ∧
    (s.b.dmaReady c = true → d.writes = 0 →
      (s.b.slotUsable c (pc / 16) = false → ∀ x ∈ all, fails x 4) ∧
      (s.b.slotUsable c (pc / 16) = true → fetch = .due → ∀ x ∈ all, fails x 2) ∧
      (s.b.slotUsable c (pc / 16) = true → fetch ≠ .due → insReserved i = true → ∀ x ∈ all, fails x 1)) ∧
    (due = true → insFld i 124 4 = 1 →
      (m.spaceBad = true → d.writes = 0 → fails (.move n fetch data) 5) ∧
      (∀ code, m.spaceBad = false → d.writes = 0 → m.sspc ≠ 4 → s.b.rangeErr c m.sspc m.src m.len = some code → fails (.move n fetch data) code) ∧
      (∀ code, m.spaceBad = false → d.writes = 0 → (m.sspc = 4 ∨ s.b.rangeErr c m.sspc m.src m.len = none) → s.b.rangeErr c m.dspc m.dst m.len = some code →
        fails (.move n fetch data) code) ∧
      (m.spaceBad = false → (m.sspc = 4 ∨ s.b.rangeErr c m.sspc m.src m.len = none) → s.b.rangeErr c m.dspc m.dst m.len = none → goes m ∧
        (16 ≤ d.writes → ∃ t, exec (.move n fetch data) s = .next t ∧ (t.b.dmaCh c).move = some m ∧ t.b.noc.sent = s.b.noc.sent ∧ t.b.dmaPc c = pc))) ∧
    (∀ m, s.b.dmaLive c = true → d.move = some m → (pc ≠ 16383 → goes m) ∧ (m.pos = m.len ∨ 16 ≤ d.writes → exec (.move n fetch data) s = .next s)) ∧
    (due = true → insFld i 124 4 = 2 → ∃ t, exec (.loop n fetch) s = .next t ∧ t.b.dmaState c = 2 ∧ s.b.sameMem t.b ∧ t.b.clus = s.b.clus ∧
      (count = 0xFFFFFFFF → t.b.dmaPc c = insFld i 108 14) ∧
      (count ≠ 0xFFFFFFFF → 0 < left → t.b.dmaPc c = insFld i 108 14 ∧ (t.b.reg lc).toNat = left - 1 ∧ t.b.bit st (lcAct (insFld i 123 1)) = true) ∧
      (count ≠ 0xFFFFFFFF → left = 0 → t.b.dmaPc c = pc + 1 ∧ t.b.bit st (lcAct (insFld i 123 1)) = false)) ∧
    (due = true → insFld i 124 4 = 3 → (insFld i 121 3 ≠ 4 ∨ s.b.dmaModule c = true ∨ s.b.cluPart (bitsOf (insFld i 104 16) 4 8) = some (s.b.dmaPart c)) →
      ∃ t, exec (.dmaWait n fetch) s = .next t ∧ s.b.sameMem t.b ∧ t.b.clus = s.b.clus ∧
      (y.signalled c (insFld i 121 3) (insFld i 104 16) (i.getLsbD 120) = true → t.b.dmaState c = 2 ∧ t.b.dmaPc c = pc + 1 ∧
        (insFld i 121 3 = 1 → i.getLsbD 120 = true → t.b.evtPend (insFld i 104 16 % 256) = false)) ∧
      (y.signalled c (insFld i 121 3) (insFld i 104 16) (i.getLsbD 120) = false → t.b.dmaState c = 3 ∧ t.b.dmaPc c = pc ∧
        t.b.waitObj c = (insFld i 121 3, insFld i 104 16) ∧
        (t.b.dmaCh c).deadline = (if insFld i 84 20 = 0 then none else some (s.b.tick + BitVec.ofNat 32 (insFld i 84 20))))) ∧
    (due = true → insFld i 124 4 = 3 → insFld i 121 3 = 4 → s.b.dmaModule c = false → s.b.cluPart (bitsOf (insFld i 104 16) 4 8) ≠ some (s.b.dmaPart c) →
      fails (.dmaWait n fetch) 7) ∧
    (due = true → insFld i 124 4 = 4 → insFld i 121 3 = 4 → ∃ t, posted t) ∧
    (∀ x, due = true → (insFld i 124 4 = 4 ∧ x = .signal n fetch data) ∨ (insFld i 124 4 = 5 ∧ x = .dmaEnd n fetch data) →
      let src := insFld i 121 3
      let a := s.b.dmaAddr c (insFld i 119 2) (insFld i 40 40)
      let takes := fun (q : List (Nat × Frag)) (l : List Byte) => ∃ t, exec x s = .next t ∧ s.b.sameMem t.b ∧
        (insFld i 124 4 = 4 → (t.b.dmaCh c).sig = some none ∧ t.b.dmaPc c = pc ∧ t.b.dmaState c = 2 ∧
          t.b.tdu.queue = q ++ [(s.b.pw.ctl, s.b.signalFrag c i (BitVec.ofNat 64 (leAt l 0 8)))]) ∧
        (insFld i 124 4 = 5 → t.b.reg (r1 .DMA_CHn_RESULT_LO c) = BitVec.ofNat 32 (leAt l 0 4) ∧
          t.b.reg (r1 .DMA_CHn_RESULT_HI c) = BitVec.ofNat 32 (leAt l 4 4) ∧ t.b.bit (r1 .DMA_CHn_EVT c) F.DMA_CHn_EVT_DONE = true)
      (4 < src → fails x 5) ∧ (∀ code, src < 4 → s.b.rangeErr c src a 8 = some code → fails x code) ∧
      (s.b.rangeErr c src a 8 = none →
        (src = 0 → ∃ t, exec x s = .next t ∧ t.b.out.getLast? = some (.read (s.b.dmaFn c) c a 8) ∧ (t.b.dmaCh c).hostOp = some i ∧ t.b.dmaPc c = pc ∧
          t.b.dmaState c = 2 ∧ s.b.sameMem t.b) ∧
        (src = 1 → s.b.pwrState = 0 → data = [] → farOk a 8 → takes y.tdu.queue (farGot a 8)) ∧
        (src = 2 → s.b.pwrState = 0 → data = [] → sspOk a 8 → takes y.tdu.queue (sspGot a 8)) ∧
        (∀ z l, src = 3 → s.b.pwrState = 0 → data = [] → fetch = .ok → s.b.regsRead (.dma n) (wordsOf a 8) [] = .done z l → takes s.b.tdu.queue l))) ∧
    (s.b.dmaLive c = true → (d.sig = some none → exec (.signal n fetch data) s = .next s) ∧
      (d.sig = some (some true) → pc ≠ 16383 → ∃ t, exec (.signal n fetch data) s = .next t ∧ t.b.dmaPc c = pc + 1 ∧ (t.b.dmaCh c).sig = none ∧
        s.b.onlyRegs { t.b with dma := s.b.dma } [st]) ∧
      (d.sig = some (some false) → d.writes = 0 → fails (.signal n fetch data) 10)) ∧
    (due = true → insFld i 124 4 = 5 → insFld i 121 3 = 4 → ∃ t, exec (.dmaEnd n fetch data) s = .next t ∧
      s.b.sameMem t.b ∧ t.b.reg (r1 .DMA_CHn_RESULT_LO c) = BitVec.ofNat 32 (insFld i 40 32) ∧ t.b.reg (r1 .DMA_CHn_RESULT_HI c) = BitVec.ofNat 32 (insFld i 72 8) ∧
      t.b.bit (r1 .DMA_CHn_EVT c) F.DMA_CHn_EVT_DONE = true ∧ (∀ j < 64, bitAt (t.b.reg64 (r1 .DMA_CHn_DONEM_LO j) (r1 .DMA_CHn_DONEM_HI j)) c = true) ∧
      t.b.dmaState c = (if s.b.bit (r1 .DMA_CHn_TRIG c) F.DMA_CHn_TRIG_REARM then 1 else 0))) ∧
  (∀ (s : State) (n : BitVec 6) (g : Nat × Frag), s.b.nextFrag = some g → g.2.src = .dma n.toNat → (s.b.dmaCh n.toNat).sig = some none → s.b.tduStuck = false →
    s.b.needsRead g.2 = false → ∃ t, exec (.fragmentApply .ok) s = .next t ∧ (t.b.dmaCh n.toNat).sig = some (some (!s.b.fragRefused g.2)) ∧
      (∀ m, m ≠ n.toNat → t.b.dmaCh m = s.b.dmaCh m) ∧ t.b.parts = s.b.parts) ∧
  (∀ (s : State) (n : BitVec 6) (ok : Bool) (l : List Byte),
    let c := n.toNat
    let d := s.b.dmaCh c
    (d.stale ≠ 0 → exec (.pcieCompletion n ok l) s = .next { s with b := s.b.modDma c (fun x => { x with stale := d.stale - 1 }) }) ∧
    (d.stale = 0 → d.hostOp = none → exec (.pcieCompletion n ok l) s = .next s) ∧
    (∀ i, d.stale = 0 → d.hostOp = some i → d.ending ≠ none →
      exec (.pcieCompletion n ok l) s = .next { s with b := s.b.modDma c (fun x => { x with hostOp := none }) }) ∧
    (∀ i, d.stale = 0 → d.hostOp = some i → d.ending = none →
      (ok = false → d.writes = 0 → ∃ t, exec (.pcieCompletion n ok l) s = .next t ∧ t.b.dmaState c = 4 ∧
        t.b.fld (r1 .DMA_CHn_STATUS c) F.DMA_CHn_STATUS_ERR = 7 ∧ s.b.sameMem t.b) ∧
      (ok = true → d.move = none → insFld i 124 4 = 5 → ∃ t, exec (.pcieCompletion n ok l) s = .next t ∧
        t.b.reg (r1 .DMA_CHn_RESULT_LO c) = BitVec.ofNat 32 (leAt l 0 4) ∧ (t.b.dmaCh c).hostOp = none ∧ s.b.sameMem t.b) ∧
      (ok = true → d.move = none → insFld i 124 4 = 4 → ∃ t, exec (.pcieCompletion n ok l) s = .next t ∧ (t.b.dmaCh c).sig = some none ∧
        t.b.tdu.queue = s.b.tdu.queue ++ [(s.b.pw.ctl, s.b.signalFrag c i (BitVec.ofNat 64 (leAt l 0 8)))] ∧ (t.b.dmaCh c).hostOp = none ∧ s.b.sameMem t.b) ∧
      (∀ m, ok = true → d.move = some m → m.dspc = 1 → s.b.pwrState = 0 →
        ∃ t q, exec (.pcieCompletion n ok l) s = .next t ∧ t.b.noc.sent = s.b.noc.sent ++ [q] ∧ q.chan = c ∧ q.addr = m.dst + m.pos ∧
          q.data = sliceBytes l 0 m.chunk ∧ (t.b.dmaCh c).writes = d.writes + 1 ∧ (t.b.dmaCh c).hostOp = none ∧ s.b.sameMem t.b)))

/-- PACKET_EJECT of a packet that the meshes hold brings them to the cycle in which a router ejects it; one that its source sends now is injected there first (log entry 142). Alone on the meshes it takes a shortest way without a deflection, one hop in each cycle (R376). One of a reserved kind, to a node that does not exist, or whose header fails correction is a fault of class 0x09 at level U, and the request or fragment of one so dropped is never served; one on a network not its own, or that no terminal can have sent, changes nothing (R376, R381, Tables 12.2, 12.3). With nothing in an input queue, in order, and where the checks of the unit at the node find nothing: a read or write of far memory by a cluster or a control-plane FMP, but for the write of a listed FMP entry (which acts as the entry does), at the controller of its stack is answered with the data, poisoned where a word is uncorrectable, or stored and acknowledged, and out of range is an ERROR with code 6; the same of a scratchpad bank that serves its source; one that may not access it gets code 7, one that comes while it is zeroed RETRY, and one that finds it waking is held (R379, R380, R382, R385 to R388, R390). A fragment at the TDU changes nothing, for the queue holds it since its issue (R320), but where its data fails its check it is dropped; a snoop of a write takes the line away and is answered (R146); an answer goes to the request that it answers; a packet for another module leaves by its link, and the HKC keeps such a request until it is answered (R380, R382). RETRY keeps the request for its reissue, which lets it go out again after 64 NET_CLK cycles (R380). A request of the DMA engine without answer for 100 us is a fault of class 0x09, an FMP request one of class 0x08 for its partition (R381, R498). A packet for a domain in Frost waits in its wake queue of 16 and asks for Thaw; a request with WAKE_EN = 0 or a full queue is answered RETRY (R383, R384); WAKE_PACKET is such an ejection. -/
def Obligations.PacketsAtTheirTerminal : Prop :=
  (∀ (s : State) (net : BitVec 2) (p : Packet) (header unit : Ecc) (words : Found),
    let i := Instr.packetEject net p header words unit
    let b0 := if s.b.onMesh net.toNat p = false ∧ s.b.pktSource p = true then s.b.inject p.snode.toNat p else s.b
    let m0 := b0.meshUntil net.toNat p 1024
    let lands := fun (y : Block) (f : Transit) => pktNet p.kind.toNat = some net.toNat ∧ (s.b.meshDest p).isSome = true ∧
      (s.b.onMesh net.toNat p = true ∨ s.b.pktSource p = true) ∧ m0.noc.got.find? (fun g => g.isPkt net.toNat p) = some f ∧
      y = { m0 with noc := { m0.noc with got := m0.noc.got.erase f } }
    (∀ y f d, lands y f → s.b.meshDest p = some d → s.b.noc.tx = [] → s.b.noc.fly = [] → s.b.noc.got = [] → s.b.noc.aged = [] → s.b.pwrState = 0 →
      f.node = d ∧ f.defl = 0 ∧ f.pkt.age.toNat = (p.snode.toNat / 17 - d / 17) + (d / 17 - p.snode.toNat / 17) + (p.snode.toNat % 17 - d % 17) + (d % 17 - p.snode.toNat % 17) ∧
      y.fld (r1 .NOC_STATn net.toNat) F.NOC_STATn_MAX_LAT = max (s.b.fld (r1 .NOC_STATn net.toNat) F.NOC_STATn_MAX_LAT) f.pkt.age.toNat ∧
      y.fld (r1 .NOC_STATn net.toNat) F.NOC_STATn_MAX_DEFL = s.b.fld (r1 .NOC_STATn net.toNat) F.NOC_STATn_MAX_DEFL) ∧
    (pktNet p.kind.toNat = none ∨ s.b.meshDest p = none → ∃ t, exec i s = .next t ∧ s.b.logged t.b 3 0x09 0 0 ∧ CUnit.noc ∈ t.b.flt.refusing ∧
      t.b.evtPend 253 = true ∧ t.b.parts = s.b.parts ∧ t.b.clus = s.b.clus ∧ s.b.sameMem t.b) ∧
    (∀ m, pktNet p.kind.toNat = some m → (s.b.meshDest p).isSome = true → m ≠ net.toNat ∨ (s.b.onMesh net.toNat p = false ∧ s.b.pktSource p = false) →
      exec i s = .next s) ∧
    (∀ y f, lands y f → header = .due → ∃ t, exec i s = .next t ∧ y.logged t.b 3 0x09 0 0 ∧ CUnit.noc ∈ t.b.flt.refusing ∧ t.b.parts = y.parts ∧
      y.sameMem t.b ∧ (p.kind = 2 → p.sdev = y.devId → ∀ r ∈ y.noc.sent, r.node = p.snode.toNat → r.txn = p.txn.toNat → r.done = false →
        { r with lost := true } ∈ t.b.noc.sent) ∧
      (∀ c n e, p.kind = 1 ∨ p.kind = 2 → y.fmpSent f.pkt = some (c, n, e) → { e with lost := true } ∈ (t.b.clu c).fmpQ n)) ∧
    (∀ y0 f, lands y0 f → header ≠ .due →
      let y := if header = .corr then y0.corrected else y0
      let q := f.pkt
      let st := q.addr.toNat / 2 ^ 35
      let a := q.addr.toNat % 2 ^ 35
      let n := pktBytes q
      let ans := fun (k : Nat) (kind : BitVec 5) (addr : BitVec 46) (data : BitVec 512) => (⟨k, q.dnode.toNat,
        { q with kind := kind, ddev := q.sdev, dnode := q.snode, snode := q.dnode, sdev := y.devId, age := 0, addr := addr, data := data }, 0⟩ : Transit)
      let sends := fun (x : Transit) (t : State) => exec i s = .next t ∧ t.b.noc.tx = y.noc.tx ++ [x] ∧ t.b.parts = y.parts
      (∀ k, y.asleep f.node q = some k →
        let l := NMap.get [] y.noc.wake k
        let refused := isRequest q && (!y.bit (r0 .NOC_CTRL) F.NOC_CTRL_WAKE_EN || decide (16 ≤ l.length))
        ∀ j, j = i ∨ (∃ d0, j = Instr.wakePacket d0 net p ∧ header = .ok ∧ words = [] ∧ unit = .ok ∧ s.b.pwrState ≠ 0 ∧ s.b.pktOwn p = true ∧
            frostOf p.dnode.toNat = some (wakeKey d0)) →
          (refused = false → ∃ t, exec j s = .next t ∧ NMap.get [] t.b.noc.wake k = l ++ [f] ∧ t.b.clus = y.clus ∧ y.sameMem t.b ∧
            (y.bit (r0 .NOC_CTRL) F.NOC_CTRL_WAKE_EN = true → (y.pwrState = 2 → t.b.pwrState = 3) ∧ (y.pwrState = 1 → t.b.pw.thawReq = true))) ∧
          (refused = true → q.snode.toNat < 289 → ∃ t, exec j s = .next t ∧ t.b.noc.wake = y.noc.wake ∧ t.b.pwrState = y.pwrState ∧
            t.b.noc.tx = y.noc.tx ++ [{ ans 1 6 0 0 with node := f.node }] ∧
            (q.sdev = y.devId → (q, none) ∈ t.b.noc.kept) ∧ y.sameMem t.b)) ∧
      (y.asleep f.node q = none → y.noc.inq = [] → unit = .ok →
        (y.pktOwn q = false → ∃ t, exec i s = .next t ∧ { t.b with noc := (y.sendMsg (.pkt q)).noc } = y.sendMsg (.pkt q) ∧
          (q.kind = 1 ∨ q.kind = 2 → q.sdev = y.devId → q ∈ t.b.noc.abroad)) ∧
        (y.pktOwn q = true → q.snode.toNat < 289 →
          (q.kind = 1 ∨ q.kind = 2 → q.size ≠ 7 → nodeSsp q.dnode.toNat = none → q.snode.toNat ≠ hostNode → nodeFmc q.dnode.toNat = some st →
            (nodeClu q.snode.toNat).isSome = true ∨ isCpFmp q.snode.toNat = true → y.outOfOrder q = false →
            (a + n ≤ 24 * 2 ^ 30 → q.kind = 1 → ∃ t,
              sends (ans 3 4 (if foundDue (wordCount a n) words = true ∨ y.farPoisoned st a n = true then 1 else 0) (BitVec.ofNat 512 (leNat (y.farBytes st a n)))) t ∧ y.sameMem t.b) ∧
            (a + n ≤ 24 * 2 ^ 30 → q.kind = 2 → y.fmpSent q = none → words = [] → ∃ t, sends (ans 1 5 0 0) t ∧ t.b.farBytes st a n = leBytes n q.data.toNat ∧
              (∀ x, (x < q.addr.toNat ∨ q.addr.toNat + n ≤ x) → NMap.get 0 t.b.far x = NMap.get 0 y.far x) ∧ t.b.ssp = y.ssp ∧
              (isEngine q.snode.toNat = true → ∀ r ∈ y.noc.sent, r.node = q.snode.toNat → r.txn = q.txn.toNat → { r with done := true } ∈ t.b.noc.sent)) ∧
            (24 * 2 ^ 30 < a + n → ∃ t, sends (ans 1 7 6 0) t ∧ y.sameMem t.b)) ∧
          (∀ k, q.kind = 1 ∨ q.kind = 2 → q.size ≠ 7 → (nodeSsp q.dnode.toNat).isSome = true → sspBank q = some k →
            (y.sspAsk k (y.sspRequester q) = .serve → q.kind = 1 → ∃ t,
              sends (ans 3 4 (if foundDue (wordCount (q.addr.toNat % 2 ^ 20) n) words = true ∨ y.sspPoisoned k (q.addr.toNat % 2 ^ 20) n = true then 1 else 0) (BitVec.ofNat 512 (leNat (y.sspBytes k (q.addr.toNat % 2 ^ 20) n)))) t ∧ t.b.clus = y.clus ∧ y.sameMem t.b) ∧
            (y.sspAsk k (y.sspRequester q) = .serve → q.kind = 2 → words = [] → ∃ t, sends (ans 1 5 0 0) t ∧
              t.b.sspBytes k (q.addr.toNat % 2 ^ 20) n = leBytes n q.data.toNat ∧ t.b.far = y.far ∧ t.b.clus = y.clus ∧
              ∀ x, (x < q.addr.toNat ∨ q.addr.toNat + n ≤ x) → NMap.get 0 t.b.ssp.bytes x = NMap.get 0 y.ssp.bytes x) ∧
            (y.sspAsk k (y.sspRequester q) = .error → ∃ t, sends (ans 1 7 7 0) t ∧ t.b.clus = y.clus ∧ y.sameMem t.b) ∧
            (y.sspAsk k (y.sspRequester q) = .retry → ∃ t, sends (ans 1 6 0 0) t ∧ (q.sdev = y.devId → (q, none) ∈ t.b.noc.kept) ∧ t.b.clus = y.clus ∧
              y.sameMem t.b) ∧
            (y.sspAsk k (y.sspRequester q) = .hold → ∃ t, exec i s = .next t ∧ t.b.sspHeld k = [(q, words)] ∧ t.b.sspState k = 3 ∧ t.b.noc.tx = y.noc.tx ∧
              y.sameMem t.b)) ∧
          (q.kind = 3 → y.outOfOrder q = false → y.tduStuck = false →
            (words = [] → q.dnode.toNat = tduNode → exec i s = .next { s with b := y }) ∧
            (words = [] → q.dnode.toNat ≠ tduNode → ∃ t, sends (ans 1 7 6 0) t ∧ y.sameMem t.b) ∧
            (∀ g, words = [(0, .due)] → y.tdu.queue = [g] → pktCarries q g.2 = true → g.2.src ≠ .event →
              ∃ t, exec i s = .next t ∧ (∀ x ∈ t.b.tdu.queue, x.2.src = .event) ∧ y.logged t.b 3 0x09 0 0 ∧ t.b.parts = y.parts ∧ t.b.clus = y.clus ∧ y.sameMem t.b)) ∧
          (∀ c, q.kind = 8 ∨ q.kind = 9 → nodeClu q.dnode.toNat = some c → ∃ t x, sends x t ∧ (x.pkt.kind = 0x0A ∨ x.pkt.kind = 0x0B) ∧
            (q.kind = 8 → (t.b.clu c).hasLine st (a / 64 * 64) = false) ∧ (∀ d, d ≠ c → t.b.clu d = y.clu d) ∧ y.sameMem t.b) ∧
          (q.kind = 0x0A ∨ q.kind = 0x0B → exec i s = .next { s with b := y }) ∧
          (q.kind = 6 → exec i s = .next { s with b := y.nocRetry q.dnode.toNat q.txn.toNat }) ∧
          (q.kind = 4 ∨ q.kind = 5 ∨ q.kind = 7 → words = [] → isEngine q.dnode.toNat = true → exec i s = .next { s with b := y.dmaReply q }) ∧
          (q.kind = 4 ∨ q.kind = 5 ∨ q.kind = 7 → words = [] → q.dnode.toNat = hostNode →
            exec i s = .next { s with b := { y with noc := { y.noc with abroad := y.noc.abroad.filter (fun x => !abroadOf q x) } } }) ∧
          (∀ c e, q.kind = 4 ∨ q.kind = 5 ∨ q.kind = 7 → words = [] → nodeClu q.dnode.toNat = some c → (y.clu c).fmpOf q.txn.toNat = some e →
            exec i s = .next { s with b := y.fmpReply c e.1 e.2 (decide (q.kind = 7)) (decide (q.kind = 4) && q.addr.getLsbD 0) })))) ∧
    (∀ d0, s.b.pwrState = 0 ∨ s.b.pktOwn p = false ∨ frostOf p.dnode.toNat ≠ some (wakeKey d0) → exec (.wakePacket d0 net p) s = .next s)) ∧
  (∀ (s : State) (t0 : Terminal) (txn : BitVec 12),
    let v := s.b.noc
    let node := termNode t0
    let due := fun (x : Packet × Option Nat) => decide (x.1.snode.toNat = node) && x.2.any (fun k => decide (k + 16 ≤ s.b.pw.ctl))
    (∃ t, exec (.retry t0 txn) s = .next t ∧ { t.b with noc := v } = s.b ∧ v.kept.length ≤ t.b.noc.kept.length ∧ t.b.noc.sent.length = v.sent.length ∧
      (∀ x ∈ v.kept, x.1.snode.toNat = node → x.1.txn = txn → (x.1, some s.b.pw.ctl) ∈ t.b.noc.kept) ∧
      (∀ x ∈ v.abroad, x.snode.toNat = node → x.txn = txn → (x, some s.b.pw.ctl) ∈ t.b.noc.kept ∧ x ∉ t.b.noc.abroad) ∧
      (isEngine node = true → ∀ q ∈ v.sent, q.node = node → q.txn = txn.toNat → q.data ≠ [] → q.done = false → { q with refused := some s.b.pw.ctl } ∈ t.b.noc.sent) ∧
      (∀ c e, nodeClu node = some c → (s.b.clu c).fmpOf txn.toNat = some e → t.b.noc.fmpRetry.find (c * 4096 + txn.toNat) = some s.b.pw.ctl)) ∧
    ((∀ x ∈ v.kept, due x = true → (pktNet x.1.kind.toNat).isSome = true ∧ (s.b.meshDest x.1).isSome = true) → ∃ t, exec (.requestReissue t0) s = .next t ∧
      { t.b with noc := v } = s.b ∧ t.b.noc.kept = v.kept.filter (fun x => !due x) ∧
      (∀ x ∈ v.kept, due x = true → ∃ m, pktNet x.1.kind.toNat = some m ∧ (⟨m, node, { x.1 with age := 0 }, 0⟩ : Transit) ∈ t.b.noc.tx) ∧
      (∀ q ∈ v.sent, ∀ k, q.node = node → q.refused = some k → k + 16 ≤ s.b.pw.ctl → { q with refused := none, at_ := s.b.pw.ctl } ∈ t.b.noc.sent) ∧
      t.b.noc.sent.length = v.sent.length ∧
      (∀ c, nodeClu node = some c → ∀ e, e ∈ t.b.noc.fmpRetry ↔ e ∈ v.fmpRetry ∧ ¬ (e.1 / 4096 = c ∧ e.2 + 16 ≤ s.b.pw.ctl))) ∧
    (isEngine node = true →
      ((∀ q, s.b.dmaSent node txn.toNat = some q → s.b.pw.ctl < q.at_ + 25000 ∨ q.refused ≠ none) → exec (.requestAnswerTimeout t0 txn) s = .next s) ∧
      (∀ q, s.b.dmaSent node txn.toNat = some q → q.at_ + 25000 ≤ s.b.pw.ctl → q.refused = none → ∃ t, exec (.requestAnswerTimeout t0 txn) s = .next t ∧
        s.b.logged t.b 3 0x09 q.chan 0 ∧ CUnit.noc ∈ t.b.flt.refusing ∧ t.b.noc.sent = v.sent.erase q ∧ t.b.parts = s.b.parts ∧ t.b.clus = s.b.clus ∧
        s.b.sameMem t.b)) ∧
    (isEngine node = false → nodeClu node = none → ∃ t, exec (.requestAnswerTimeout t0 txn) s = .next t ∧ s.b.logged t.b 3 0x09 0 0 ∧ CUnit.noc ∈ t.b.flt.refusing ∧
      t.b.parts = s.b.parts ∧ t.b.clus = s.b.clus ∧ s.b.sameMem t.b) ∧
    (∀ c, nodeClu node = some c →
      ((s.b.clu c).fmpOf txn.toNat = none ∨ s.b.cluPart c = none → exec (.requestAnswerTimeout t0 txn) s = .next s) ∧
      (∀ e q, (s.b.clu c).fmpOf txn.toNat = some e → s.b.cluPart c = some q →
        ((s.b.reg (r1 .CTL_PRST_BUSYw (q / 32))).getLsbD (q % 32) = true → exec (.requestAnswerTimeout t0 txn) s = .next s) ∧
        ((s.b.reg (r1 .CTL_PRST_BUSYw (q / 32))).getLsbD (q % 32) = false → ∃ t, exec (.requestAnswerTimeout t0 txn) s = .next t ∧
          s.b.logged t.b 1 0x08 (c * 128 + e.1) q ∧
          (s.b.hosts q = true → (s.b.part q).state = .running → (t.b.part q).state = .stoppedFault ∧ (t.b.part q).inconsistent = true) ∧
          t.b.clus = s.b.clus ∧ s.b.sameMem t.b))))

/-- SSP_OWN_WRITE has no effect while the unit refuses new work, on a bank in handover, with a kind other than the March engine's on a FAULTY bank, and with KIND 4 from anyone but the HKC (R388, R395, Table 12.8); a new owner puts the bank into handover, whose end, when no request is held for the bank, makes it the owner and, unless KEEP was written or the kind is another, zeroes the bank and no other (R388). SSP_PWR_WRITE keeps AUTO_WAKE, and starts a change to the wanted state where the bank is neither changing nor FAULTY (R390); the change's end puts the state, a bank that goes off, or comes on from off, holds zeros, and a bank that comes on serves a write that was held for it. MARCH_START is refused in state REFUSED, or begins the run with the failure registers clear (R392, R393); MARCH_ABORT marks it; MARCH_DONE ends it with the state, the record of its first failing read, the count and events 236 and, on failures, 237; a failing read counts only as one that Table 12.5's elements make under a selected background in the range, with the bit that it expects (R391); a whole destructive run without failure leaves the last background's datum 0 in every line, a content-preserving one leaves every byte outside the words known to be uncorrectable; a bank that failed is FAULTY, without owner, off, and in no handover (R392, R393, R395; what it leaves in those is the model's choice, log entry 138). -/
def Obligations.ScratchpadBanksAndMarch : Prop :=
  (∀ (s : State) (r : Requester) (k : BitVec 6) (v : Word), s.b.reaches r (r1 .SSP_OWNb k.toNat) = true → s.b.roleOk r (r1 .SSP_OWNb k.toNat) = true →
    let key := r1 .SSP_OWNb k.toNat
    let kind := sspKindOf v
    let void := decide (CUnit.ssp ∈ s.b.flt.refusing) || s.b.sspMoving k.toNat || (s.b.sspFaulty k.toNat && decide (kind ≠ 3)) || decide (kind = 4 ∧ r ≠ .hkc)
    let w := BitVec.ofNat 32 (b2n (s.b.sspFaulty k.toNat) * 2 ^ 30) ||| (v &&& 0x7FF#32)
    (void = true → exec (.sspOwnWrite r k v) s = .next s) ∧
    (void = false → sspOwnerOf v = s.b.sspOwner k.toNat → ∃ t, exec (.sspOwnWrite r k v) s = .next t ∧ s.b.onlyRegs t.b [key] ∧ t.b.reg key = w) ∧
    (void = false → sspOwnerOf v ≠ s.b.sspOwner k.toNat → ∃ t, exec (.sspOwnWrite r k v) s = .next t ∧ t.b.sspMoving k.toNat = true ∧
      t.b.ssp.next.find k.toNat = some (w, decide (kind = 1 ∨ kind = 2) && !v.getLsbD 29) ∧ t.b.ssp.bytes = s.b.ssp.bytes ∧
      s.b.onlyRegs { t.b with ssp := s.b.ssp } [key])) ∧
  (∀ (s : State) (k : BitVec 6),
    let inBank := fun (x : Nat) => decide (k.toNat * 2 ^ 20 ≤ x ∧ x < (k.toNat + 1) * 2 ^ 20)
    (s.b.ssp.next.find k.toNat = none ∨ s.b.sspHeld k.toNat ≠ [] → exec (.sspHandoverEnd k) s = .next s) ∧
    (∀ w zero, s.b.ssp.next.find k.toNat = some (w, zero) → s.b.sspHeld k.toNat = [] → ∃ t, exec (.sspHandoverEnd k) s = .next t ∧
      t.b.reg (r1 .SSP_OWNb k.toNat) = w ∧ t.b.ssp.next.find k.toNat = none ∧ t.b.far = s.b.far ∧ t.b.clus = s.b.clus ∧ t.b.parts = s.b.parts ∧
      (s.b.tdu.snap = none → s.b.onlyRegs { t.b with ssp := s.b.ssp } [r1 .SSP_OWNb k.toNat] ∧
        ∀ x, NMap.get 0 t.b.ssp.bytes x = if zero && inBank x then 0 else NMap.get 0 s.b.ssp.bytes x)) ∧
    (s.b.ssp.target.find k.toNat = none → s.b.sspHeld k.toNat = [] → s.b.tdu.snap = none → exec (.sspPowerChangeDone k) s = .next s) ∧
    (∀ st < 3, s.b.ssp.target.find k.toNat = some st → s.b.sspHeld k.toNat = [] → ∃ t, exec (.sspPowerChangeDone k) s = .next t ∧
      (s.b.tdu.snap = none → t.b.sspState k.toNat = st) ∧ t.b.far = s.b.far ∧ t.b.clus = s.b.clus ∧
      (s.b.tdu.snap = none → ∀ x, NMap.get 0 t.b.ssp.bytes x =
        if (decide (st = 0) || NMap.get false s.b.ssp.dark k.toNat) && inBank x then 0 else NMap.get 0 s.b.ssp.bytes x)) ∧
    (∀ x, s.b.ssp.target.find k.toNat = some 2 → s.b.sspHeld k.toNat = [x] → s.b.tdu.snap = none → x.1.kind = 2 → x.1.snode.toNat < 289 →
      NMap.get false s.b.ssp.dark k.toNat = false →
      ∃ t y, exec (.sspPowerChangeDone k) s = .next t ∧ t.b.sspState k.toNat = 2 ∧ t.b.sspHeld k.toNat = [] ∧ t.b.noc.tx = s.b.noc.tx ++ [y] ∧ y.pkt.kind = 5 ∧
        y.pkt.txn = x.1.txn ∧ y.pkt.dnode = x.1.snode ∧ t.b.sspBytes k.toNat (x.1.addr.toNat % 2 ^ 20) (pktBytes x.1) = pktPayload x.1 ∧ t.b.far = s.b.far ∧
        t.b.clus = s.b.clus)) ∧
  (∀ (s : State) (r : Requester) (k : BitVec 6) (v : Word), s.b.reaches r (r1 .SSP_PWRb k.toNat) = true → s.b.roleOk r (r1 .SSP_PWRb k.toNat) = true →
    (s.b.roleOf r = .op → (s.b.ownerOf (r1 .SSP_PWRb k.toNat)).isSome = true) →
    let key := r1 .SSP_PWRb k.toNat
    let want := min 2 (v.toNat % 4)
    ∃ t, exec (.sspPwrWrite r k v) s = .next t ∧ t.b.bit key F.SSP_PWRb_AUTO_WAKE = v.getLsbD 2 ∧ s.b.onlyRegs { t.b with ssp := s.b.ssp } [key] ∧
      t.b.ssp.bytes = s.b.ssp.bytes ∧
      (s.b.sspState k.toNat = 3 ∨ s.b.sspFaulty k.toNat = true → t.b.fld key F.SSP_PWRb_POWER = s.b.fld key F.SSP_PWRb_POWER ∧ t.b.sspState k.toNat = s.b.sspState k.toNat) ∧
      (s.b.sspState k.toNat ≠ 3 → s.b.sspFaulty k.toNat = false → t.b.fld key F.SSP_PWRb_POWER = v.toNat % 4 ∧
        (s.b.sspState k.toNat = want → t.b.sspState k.toNat = want) ∧
        (s.b.sspState k.toNat ≠ want → t.b.sspState k.toNat = 3 ∧ t.b.ssp.target.find k.toNat = some want))) ∧
  (∀ (s : State) (r : Requester), s.b.reaches r (r0 .MTE_CTRL) = true → s.b.roleOk r (r0 .MTE_CTRL) = true →
    let bg := s.b.fld (r0 .MTE_CTRL) F.MTE_CTRL_BG
    let m : March := { addr := s.b.mteAddr, lines := (s.b.reg (r0 .MTE_LEN)).toNat, bg := if bg = 0 then 1 else bg, keep := s.b.bit (r0 .MTE_CTRL) F.MTE_CTRL_PRESERVE }
    (s.b.march.isSome = true → exec (.marchStart r) s = .next s) ∧
    (s.b.march = none → ∃ t, exec (.marchStart r) s = .next t ∧ t.b.march = (if s.b.marchRefused m then none else some m) ∧
      t.b.mteState = (if s.b.marchRefused m then 5 else 1) ∧ t.b.reg (r0 .MTE_FAIL_INFO) = 0 ∧ t.b.fld (r0 .MTE_STATUS) F.MTE_STATUS_FAILS = 0 ∧
      s.b.onlyRegs { t.b with march := s.b.march } [r0 .MTE_FAIL_LO, r0 .MTE_FAIL_HI, r0 .MTE_FAIL_INFO, r0 .MTE_STATUS]) ∧
    (∃ t, exec (.marchAbort r) s = .next t ∧ t.b.march = s.b.march.map (fun m => { m with abort := true }) ∧ { t.b with march := s.b.march } = s.b)) ∧
  (∀ (s : State) (found : List MarchFail),
    (s.b.march = none → exec (.marchDone found) s = .next s) ∧
    (∀ m, s.b.march = some m →
      let fails := m.failing found
      (∀ f ∈ fails, f ∈ found ∧ m.lo ≤ f.line.toNat % 2 ^ 63 ∧ f.line.toNat % 2 ^ 63 < m.lo + m.len ∧ bitAt m.bg f.bg.toNat = true ∧
        1 ≤ f.element.toNat ∧ f.element.toNat ≤ 5 ∧
        f.expected = (decide (f.element.toNat % 2 = 0) ^^ bgBit f.bg.toNat (f.line.toNat % 2 ^ 63 % (if m.far then 2 ^ 35 else 2 ^ 20) / 64) f.bit.toNat)) ∧
      ∃ t, exec (.marchDone found) s = .next t ∧ t.b.march = none ∧
      t.b.mteState = (if m.abort then 4 else if fails.isEmpty then 2 else 3) ∧ t.b.fld (r0 .MTE_STATUS) F.MTE_STATUS_FAILS = min fails.length 0xFFFFFF ∧
      (∀ f rest, fails = f :: rest → t.b.reg64 (r0 .MTE_FAIL_LO) (r0 .MTE_FAIL_HI) = f.line.toNat ∧ t.b.reg (r0 .MTE_FAIL_INFO) =
        BitVec.ofNat 32 (2 ^ 31 + f.element.toNat * 2 ^ 28 + f.bg.toNat * 2 ^ 26 + b2n f.expected * 2 ^ 25 + f.bit.toNat)) ∧
      t.b.evtPend 236 = true ∧ (fails ≠ [] → t.b.evtPend 237 = true) ∧ t.b.clus = s.b.clus ∧ t.b.parts = s.b.parts ∧
      (m.keep = true → (∀ a, (∀ e ∈ s.b.marchBad m, m.far = true → a < farKey e.1 e.2 ∨ farKey e.1 e.2 + 8 ≤ a) → NMap.get 0 t.b.far a = NMap.get 0 s.b.far a) ∧
        ∀ a, (∀ e ∈ s.b.marchBad m, m.far = false → a < e.1 * 2 ^ 20 + e.2 ∨ e.1 * 2 ^ 20 + e.2 + 8 ≤ a) →
          NMap.get 0 t.b.ssp.bytes a = NMap.get 0 s.b.ssp.bytes a) ∧
      (m.keep = false → m.abort = false → fails = [] → m.far = false → t.b.far = s.b.far ∧ ∀ i < m.lines, ∀ j < 64,
        NMap.get 0 t.b.ssp.bytes (m.lo + 64 * i + j) = bgByte m.lastBg (m.lo % 2 ^ 20 / 64 + i) j) ∧
      (∀ f ∈ fails, ∀ k ∈ m.banks, m.keep = false → k = f.line.toNat / 2 ^ 20 → t.b.sspFaulty k = true ∧ t.b.sspOwner k = ⟨0, 0⟩ ∧ t.b.sspState k = 0 ∧
        t.b.ssp.next.find k = none ∧ t.b.ssp.target.find k = none)))

/-- ARM of an owned output in IDLE or FIRED makes it ARMED from the DC in progress with no occurrence counted, and in another state changes nothing; DISARM and a write of OWN make it IDLE; FORCE is remembered in ARMED or DELAY (R410, Table 13.6). When the hits of a DC arrive, the one output of the partition that is ARMED at that DC and does not wait for pins fires when it is forced, or when its truth table selects the hit and the count and delay are done: FIRED, the fire DC, its event, and FIRED or with REARM ARMED as its state, and a running stream that it triggers enters POST, to end at the fire DC plus POST_DC (R428); with a delay left it enters DELAY; with occurrences left it counts one; hits that no output needs are forgotten; with the condition false it goes on to the next DC (R408 to R411). A write of a qualifier's register keeps its writable bits and restarts the measurement, one of CFG or OWN clears STAT (R407). A sample that reaches the one qualifier of a partition fires it as Table 13.5 says of its kind, polarity and limits, counts in FIRES, INVALID or UNMEAS, carries the measurement on, and is part of the report of its DC; without a period it is idle (R403 to R407). In DELAY an output fires at its fire DC or when forced, and with FRZ it also sets the freeze target of the partition (R410, R411). A read of TS0 latches the stamp of the last fire. -/
def Obligations.TriggerOutputsAndQualifiers : Prop :=
  (∀ (s : State) (r : Requester) (o : BitVec 5), s.b.reaches r (r1 .TRG_OUTt_CMD o.toNat) = true → s.b.roleOk r (r1 .TRG_OUTt_CMD o.toNat) = true →
    let k := r1 .TRG_OUTt_STATUS o.toNat
    let st := s.b.trgState o.toNat
    let frame := fun (t : State) => s.b.onlyRegs { t.b with outs := s.b.outs } [k] ∧ ∀ u, u ≠ o.toNat → t.b.trg u = s.b.trg u
    (s.b.trgOwner o.toNat = none ∨ (st ≠ 0 ∧ st ≠ 3) ∨ CUnit.tgu ∈ s.b.flt.refusing → exec (.arm r o) s = .next s) ∧
    (∀ p, s.b.trgOwner o.toNat = some p → st = 0 ∨ st = 3 → CUnit.tgu ∉ s.b.flt.refusing → ∃ t, exec (.arm r o) s = .next t ∧ t.b.trgState o.toNat = 1 ∧
      (t.b.trg o.toNat).occ = 0 ∧ t.b.fld k F.TRG_OUTt_STATUS_OCC = 0 ∧ (t.b.trg o.toNat).next = (s.b.part p).dc.toNat ∧ (t.b.trg o.toNat).force = false ∧ frame t) ∧
    (∃ t, exec (.disarm r o) s = .next t ∧ t.b.trgState o.toNat = 0 ∧ (t.b.trg o.toNat).force = false ∧ frame t) ∧
    (st ≠ 1 → st ≠ 2 → exec (.force r o) s = .next s) ∧
    (st = 1 ∨ st = 2 → ∃ t, exec (.force r o) s = .next t ∧ t.b.trgState o.toNat = st ∧ (t.b.trg o.toNat).force = true ∧ frame t)) ∧
  (∀ (s : State) (r : Requester) (o : BitVec 5) (v : Word), s.b.reaches r (r1 .TRG_OUTt_OWN o.toNat) = true → s.b.roleOk r (r1 .TRG_OUTt_OWN o.toNat) = true →
    ∃ t, exec (.trgOutOwnWrite r o v) s = .next t ∧ t.b.trgState o.toNat = 0 ∧ t.b.trgOwner o.toNat = (if v.getLsbD 31 then some (v.toNat % 256) else none) ∧
      s.b.onlyRegs { t.b with outs := s.b.outs } [r1 .TRG_OUTt_OWN o.toNat, r1 .TRG_OUTt_STATUS o.toNat]) ∧
  (∀ (s : State) (r : Requester) (q : BitVec 4) (j : BitVec 2) (v : Word),
    let k := [r1 .TRG_Qq_CFG q.toNat, r1 .TRG_Qq_MIN q.toNat, r1 .TRG_Qq_MAX q.toNat, r1 .TRG_Qq_OWN q.toNat].getD j.toNat (r0 .CTL_ID)
    s.b.reaches r k = true → s.b.roleOk r k = true → ∃ t, exec (.qualifierCfgWrite r q j v) s = .next t ∧ t.b.reg k = k.name.merge (s.b.reg k) v ∧
      t.b.qual q.toNat = {} ∧ (∀ u, u ≠ q.toNat → t.b.qual u = s.b.qual u) ∧ (j = 0 ∨ j = 3 → t.b.reg (r1 .TRG_Qq_STAT q.toNat) = 0) ∧
      s.b.onlyRegs { t.b with quals := s.b.quals } (if j = 0 ∨ j = 3 then [k, r1 .TRG_Qq_STAT q.toNat] else [k])) ∧
  (∀ (s : State) (r : Requester) (o : BitVec 5),
    let ts := (s.b.trg o.toNat).ts
    (s.b.mayRead r (r2 .TRG_OUTt_TSw o.toNat 0) = false → exec (.fireTimestampRead r o) s = .next { s with b := { s.b with reply := leBytes 4 0 } }) ∧
    (s.b.mayRead r (r2 .TRG_OUTt_TSw o.toNat 0) = true → ∃ t, exec (.fireTimestampRead r o) s = .next t ∧ t.b.reply = leBytes 4 (ts.toNat % 2 ^ 32) ∧
      (∀ w < 3, t.b.reg (r2 .TRG_OUTt_TSw o.toNat w) = BitVec.ofNat 32 (ts.toNat >>> (32 * w))) ∧
      s.b.onlyRegs { t.b with reply := s.b.reply } [r2 .TRG_OUTt_TSw o.toNat 0, r2 .TRG_OUTt_TSw o.toNat 1, r2 .TRG_OUTt_TSw o.toNat 2])) ∧
  (∀ (s : State) (p : PartNo) (dc : BitVec 64),
    let hits := (s.b.part p.toNat).hits
    ((∀ u < 32, s.b.trgOwner u ≠ some p.toNat) → ∃ t, exec (.hitArrival p dc .ok) s = .next t ∧
      (t.b.part p.toNat).hits = hits.filter (fun e => decide (e.dc ≠ dc.toNat) && !e.arrived) ∧ s.b.onlyPart t.b p.toNat) ∧
    (∀ o e, o < 32 → (∀ u < 32, s.b.trgOwner u = some p.toNat ↔ u = o) → hits = [e] → e.dc = dc.toNat → s.b.trgState o = 1 → (s.b.trg o).next = dc.toNat →
      let cfg := r1 .TRG_OUTt_CFG o
      let holds := bitAt (s.b.fld cfg F.TRG_OUTt_CFG_TT) (b2n e.hit)
      let last := decide ((s.b.trg o).occ = s.b.fld (r1 .TRG_OUTt_CNT o) F.TRG_OUTt_CNT_COUNT)
      let delay := s.b.fld (r1 .TRG_OUTt_CNT o) F.TRG_OUTt_CNT_DELAY
      let fires := (s.b.trg o).force || (holds && last && decide (delay = 0))
      s.b.bit cfg F.TRG_OUTt_CFG_WAITPIN = false →
      (fires = true → ∃ t, exec (.hitArrival p dc .ok) s = .next t ∧ t.b.bit (r1 .TRG_OUTt_STATUS o) F.TRG_OUTt_STATUS_FIRED = true ∧
        t.b.reg (r1 .TRG_OUTt_DC o) = BitVec.ofNat 32 dc.toNat ∧ t.b.evtPend (160 + o) = true ∧ (t.b.trg o).ts = s.b.now ∧
        t.b.trgState o = (if s.b.bit cfg F.TRG_OUTt_CFG_REARM then 1 else 3) ∧ (∀ u, u ≠ o → t.b.trg u = s.b.trg u) ∧
        (s.b.bit cfg F.TRG_OUTt_CFG_FRZ = false → ∀ x < 16, s.b.strOwner x = some p.toNat → s.b.strState x = 1 → (s.b.stream x).ending = none →
          (s.b.stream x).stopAt = none → s.b.strCfg x F.TRC_Sx_CFG_TRIG_EN = true → s.b.fld (r1 .TRC_Sx_CFG x) F.TRC_Sx_CFG_TRIG = o →
          let e := dc.toNat + s.b.fld (r1 .TRC_Sx_POSTDC x) F.TRC_Sx_POSTDC_POST_DC
          s.b.handNext p.toNat ≤ e → t.b.strState x = 2 ∧ (t.b.stream x).postEnd = e)) ∧
      (fires = true → s.b.bit cfg F.TRG_OUTt_CFG_FRZ = true → (s.b.part p.toNat).state = .running → (s.b.part p.toNat).target = none → s.b.hosts p.toNat = true →
        (s.b.marginTarget p.toNat - (s.b.part p.toNat).dc.setWidth 32).getLsbD 31 = false →
        ∃ t, exec (.hitArrival p dc .ok) s = .next t ∧ (t.b.part p.toNat).target = some (s.b.marginTarget p.toNat) ∧
          t.b.bit (r1 .PART_FRZ_STATUS p.toNat) F.PART_FRZ_STATUS_PENDING = true ∧ t.b.fld (r1 .PART_FRZ_ORIGIN p.toNat) ⟨26, 4⟩ = 1) ∧
      ((s.b.trg o).force = false → holds = true → last = true → delay ≠ 0 → ∃ t, exec (.hitArrival p dc .ok) s = .next t ∧ t.b.trgState o = 2 ∧
        (t.b.trg o).fireAt = dc.toNat + delay ∧ t.b.clus = s.b.clus ∧ s.b.sameMem t.b) ∧
      ((s.b.trg o).force = false → holds = true → last = false → ∃ t,
        exec (.hitArrival p dc .ok) s = .next t ∧ t.b.trgState o = 1 ∧ (t.b.trg o).next = dc.toNat + 1 ∧ (t.b.trg o).occ = (s.b.trg o).occ + 1 ∧
        t.b.clus = s.b.clus ∧ s.b.sameMem t.b) ∧
      ((s.b.trg o).force = false → holds = false → ∃ t, exec (.hitArrival p dc .ok) s = .next t ∧ t.b.trgState o = 1 ∧ (t.b.trg o).next = dc.toNat + 1 ∧
        (t.b.trg o).occ = (s.b.trg o).occ ∧ t.b.clus = s.b.clus ∧ s.b.sameMem t.b)) ∧
    (∀ o e, o < 32 → (∀ u < 32, s.b.trgOwner u = some p.toNat ↔ u = o) → hits = [e] → e.dc = dc.toNat → s.b.trgState o = 2 → (s.b.trg o).next = dc.toNat →
      s.b.bit (r1 .TRG_OUTt_CFG o) F.TRG_OUTt_CFG_WAITPIN = false →
      ((s.b.trg o).force = true ∨ (s.b.trg o).fireAt = dc.toNat → ∃ t, exec (.hitArrival p dc .ok) s = .next t ∧
        t.b.bit (r1 .TRG_OUTt_STATUS o) F.TRG_OUTt_STATUS_FIRED = true ∧ t.b.reg (r1 .TRG_OUTt_DC o) = BitVec.ofNat 32 dc.toNat ∧ t.b.evtPend (160 + o) = true ∧
        t.b.trgState o = (if s.b.bit (r1 .TRG_OUTt_CFG o) F.TRG_OUTt_CFG_REARM then 1 else 3)) ∧
      ((s.b.trg o).force = false → (s.b.trg o).fireAt ≠ dc.toNat → ∃ t, exec (.hitArrival p dc .ok) s = .next t ∧ t.b.trgState o = 2 ∧
        (t.b.trg o).next = dc.toNat + 1 ∧ (t.b.trg o).fireAt = (s.b.trg o).fireAt ∧ t.b.clus = s.b.clus ∧ s.b.sameMem t.b)))
   ∧
  (∀ (s : State) (f : VptFrame) (e : Expect) (q : Nat),
    let p := f.part.toNat
    let ch := s.b.qualChan q
    let fl := fun (n : Fld) => s.b.fld (r1 .TRG_Qq_CFG q) n
    let st := fun (b : Block) (n : Fld) => b.fld (r1 .TRG_Qq_STAT q) n
    let per := s.b.fld (r0 .TRG_QPER) F.TRG_QPER_PERIOD
    let lo := (s.b.reg (r1 .TRG_Qq_MIN q)).toNat
    let hi := (s.b.reg (r1 .TRG_Qq_MAX q)).toNat
    let d := frameClass f (ch - f.first.toNat)
    let tau := e.dc * per + s.b.frameEt f ch
    let x := s.b.qual q
    let w := tau - x.enter
    let one := decide (fl F.TRG_Qq_CFG_POL = 1)
    let enter := if x.prev = some d then x.enter else tau
    let pulse := decide (fl F.TRG_Qq_CFG_KIND = 1 ∧ x.prev = some (if one then 0 else 1) ∧ d ≠ (if one then 0 else 1)) &&
      (if fl F.TRG_Qq_CFG_INSIDE = 1 then decide (lo ≤ w ∧ w ≤ hi) else decide (w < lo ∨ hi < w))
    let runt := decide (fl F.TRG_Qq_CFG_KIND = 2 ∧ x.prev = some 2 ∧ d = (if one then 1 else 0) ∧ x.before = some d ∧ lo ≤ w)
    let slew := decide (fl F.TRG_Qq_CFG_KIND = 4 ∧ x.prev = some 2 ∧ d = (if one then 0 else 1) ∧ x.before = some (if one then 1 else 0) ∧ (w < lo ∨ hi < w))
    let late := decide (fl F.TRG_Qq_CFG_KIND = 3 ∧ (fl F.TRG_Qq_CFG_POL = 3 ∨ d = [1, 0, 2].getD (fl F.TRG_Qq_CFG_POL) 3) ∧
      ¬(x.prev = some d ∧ x.fired = true) ∧ hi + enter < (e.dc + 1) * per)
    let fires := decide (d ≠ 3) && (pulse || runt || slew || late)
    let bad := e.codes.filter (fun c => expectFails c.2 (frameClass f (c.1 - f.first.toNat)))
    q < 16 → s.b.vptState = 2 → f.crc = vptCrc f → f.type = 2 → s.b.chansOf p ≠ [] → chanRange (s.b.chansOf p) = (f.first.toNat, f.count.toNat) →
    (s.b.part p).expects = [e] → BitVec.ofNat 32 e.dc = f.dc → (s.b.part p).reports = [] → (∀ u < 32, s.b.trgOwner u ≠ some p) →
    (∀ j < 16, s.b.qualOwner j = some p ↔ j = q) → ch ∈ s.b.chansOf p → s.b.chanOwner ch = some p → (∀ y < 16, s.b.strOwner y ≠ some p) →
    (per = 0 → ∃ t, exec (.smpFrame f .ok) s = .next t ∧ t.b.qual q = {} ∧ t.b.reg (r1 .TRG_Qq_STAT q) = s.b.reg (r1 .TRG_Qq_STAT q)) ∧
    (per ≠ 0 → ∃ t, exec (.smpFrame f .ok) s = .next t ∧
      (t.b.part p).hits = ((s.b.part p).hits.map (fun h => if h.dc = e.dc then { h with pin := some (if fires then 2 ^ q else 0, !bad.isEmpty) } else h)).filter (fun h => !h.arrived) ∧
      st t.b F.TRG_Qq_STAT_FIRES = (if fires then min (st s.b F.TRG_Qq_STAT_FIRES + 1) 65535 else st s.b F.TRG_Qq_STAT_FIRES) ∧
      st t.b F.TRG_Qq_STAT_INVALID = (if d = 3 then min (st s.b F.TRG_Qq_STAT_INVALID + 1) 255 else st s.b F.TRG_Qq_STAT_INVALID) ∧
      st t.b F.TRG_Qq_STAT_UNMEAS = (if fl F.TRG_Qq_CFG_KIND = 4 ∧ x.prev.any (fun c => decide (c ≠ d ∧ c ≠ 2)) = true ∧ d ≠ 2 ∧ d ≠ 3 then min (st s.b F.TRG_Qq_STAT_UNMEAS + 1) 127
        else st s.b F.TRG_Qq_STAT_UNMEAS) ∧
      t.b.qual q = (if d = 3 then {} else ⟨some d, enter, if x.prev = some d then x.before else x.prev, decide (x.prev = some d ∧ x.fired = true) || late⟩) ∧
      (∀ j, j ≠ q → t.b.qual j = s.b.qual j)))

/-- START of an owned stream in IDLE or STOPPED that has no closing page makes it RUN with sequence 0, factor FIX, and LOST and the dead time cleared, its pages kept; else nothing changes (R427). STOP in RUN or POST of a stream that does not end yet lets the DC that its Equinox has closed be captured first; else the STOP record joins what waits, and once it is written and DONE has room the page being filled leaves to its address with LAST and joins DONE, and the stream is STOPPED: at once where the record fits and DONE has room, else with a page that is posted or a page that leaves DONE (R418, R427, R429). FLUSH of a stream that does not end closes the page being filled, to the host or to far memory, or keeps it to be closed when DONE has room. RETURN moves FREE pages to DONE as empty (R429). A page that obeys the rules joins FREE, or is taken at once by the records that wait for one (R422), another sets POST_REFUSED (R418). A read of DONE_LO takes the head of DONE and returns it, and a page that waited for room in DONE closes; from an empty queue it returns zero. No register of another unit changes. -/
def Obligations.TraceStreamsAndPages : Prop :=
  (∀ (s : State) (r : Requester) (n : BitVec 4), s.b.reaches r (r1 .TRC_Sx_CMD n.toNat) = true → s.b.roleOk r (r1 .TRC_Sx_CMD n.toNat) = true →
    let x := n.toNat
    let w := s.b.stream x
    let st := s.b.strState x
    let may := decide ((st = 0 ∨ st = 3) ∧ w.closeDue = none ∧ CUnit.trace ∉ s.b.flt.refusing) && !s.b.bit (r1 .TRC_Sx_STATUS x) F.TRC_Sx_STATUS_RELEASING
    let others := fun (t : State) => (∀ y, y ≠ x → t.b.stream y = s.b.stream y) ∧ t.b.parts = s.b.parts ∧ t.b.ssp = s.b.ssp
    let page := fun (f : TrcFill) (last : Bool) => let l := pageHeader x ((s.b.strOwner x).getD 0) s.b.devId.toNat w.seq f last ++ f.recs
      HostMsg.write (s.b.servingFn ((s.b.strOwner x).getD 0)) f.page.addr (l ++ List.replicate (pageBytes - l.length) 0)
    (s.b.strOwner x = none ∨ may = false → exec (.traceStart r n) s = .next s) ∧
    (∀ p, s.b.strOwner x = some p → may = true → ∃ t, exec (.traceStart r n) s = .next t ∧ t.b.strState x = 1 ∧ t.b.reg (r1 .TRC_Sx_LOST x) = 0 ∧
      t.b.reg (r1 .TRC_Sx_DEAD_DC x) = 0 ∧ (t.b.stream x).seq = 0 ∧ (t.b.stream x).cur = none ∧ (t.b.stream x).factor = s.b.trcFix x ∧
      (t.b.stream x).free = w.free ∧ (t.b.stream x).done = w.done ∧ (t.b.stream x).fill = w.fill ∧ others t ∧ s.b.sameMem t.b ∧ t.b.out = s.b.out) ∧
    ((st ≠ 1 ∧ st ≠ 2) ∨ w.ending ≠ none → exec (.traceStop r n) s = .next s) ∧
    (st = 1 ∨ st = 2 → w.ending = none →
      let p := (s.b.strOwner x).getD 0
      (s.b.handNext p < (s.b.part p).dc.toNat → ∃ t, exec (.traceStop r n) s = .next t ∧ t.b.stream x = { w with stopAt := some (s.b.handNext p) } ∧
        t.b.strState x = st ∧ others t ∧ s.b.sameMem t.b ∧ t.b.out = s.b.out) ∧
      ((s.b.part p).dc.toNat ≤ s.b.handNext p → w.lost = none →
        (w.cur = none → w.fill = none → ∃ t, exec (.traceStop r n) s = .next t ∧ t.b.strState x = 3 ∧ (t.b.stream x).cur = none ∧ (t.b.stream x).ending = none ∧
          others t ∧ s.b.sameMem t.b ∧ t.b.out = s.b.out) ∧
        (∀ f, w.fill = some f → w.cur.isSome = true → w.wait = [] → f.recs.length + 12 ≤ pageRoom →
          (w.done.length < 256 → f.page.space = false → ∃ t, exec (.traceStop r n) s = .next t ∧ t.b.strState x = 3 ∧
            t.b.out = s.b.out ++ [page { f with recs := f.recs ++ stopRecord w.last } true] ∧ (t.b.stream x).cur = none ∧ (t.b.stream x).ending = none ∧
            (t.b.stream x).done = w.done ++ [f.page] ∧ (t.b.stream x).fill = none ∧ t.b.clus = s.b.clus ∧ others t ∧ s.b.sameMem t.b) ∧
          (256 ≤ w.done.length → ∃ t, exec (.traceStop r n) s = .next t ∧ t.b.strState x = st ∧ (t.b.stream x).ending = some 3 ∧
            (t.b.stream x).fill = some { f with recs := f.recs ++ stopRecord w.last } ∧ (t.b.stream x).done = w.done ∧ others t ∧ s.b.sameMem t.b ∧ t.b.out = s.b.out)) ∧
        (w.fill = none → w.cur.isSome = true → w.wait = [] → w.free = [] → w.done = [] → ∃ t, exec (.traceStop r n) s = .next t ∧ t.b.strState x = st ∧
          (t.b.stream x).ending = some 3 ∧ (t.b.stream x).wait = [stopRecord w.last] ∧ others t ∧ s.b.sameMem t.b ∧ t.b.out = s.b.out))) ∧
    (∃ t, exec (.traceReturn r n) s = .next t ∧ (t.b.stream x).free = w.free.drop (256 - w.done.length) ∧
      (t.b.stream x).done = w.done ++ (w.free.take (256 - w.done.length)).map (fun g => { g with empty := true }) ∧ t.b.strState x = st ∧ others t ∧
      s.b.sameMem t.b ∧ t.b.out = s.b.out) ∧
    (w.fill = none ∨ w.ending ≠ none → exec (.traceFlush r n) s = .next s) ∧
    (w.ending = none →
     (∀ f, w.fill = some f → w.done.length < 256 → f.page.space = false → ∃ t, exec (.traceFlush r n) s = .next t ∧ t.b.out = s.b.out ++ [page f false] ∧
      (t.b.stream x).done = w.done ++ [f.page] ∧ (t.b.stream x).fill = none ∧ (t.b.stream x).seq = w.seq + 1 ∧ t.b.strState x = st ∧ others t ∧ s.b.sameMem t.b) ∧
    (∀ f, w.fill = some f → w.done.length < 256 → f.page.space = true → f.recs.length ≤ pageRoom → ∃ t, exec (.traceFlush r n) s = .next t ∧ t.b.out = s.b.out ∧
      (∃ l m, m = .write (s.b.servingFn ((s.b.strOwner x).getD 0)) f.page.addr l ∧ page f false = m ∧
        t.b.farBytes (f.page.addr / 2 ^ 35) (f.page.addr % 2 ^ 35) pageBytes = l) ∧
      (t.b.stream x).done = w.done ++ [f.page] ∧ (t.b.stream x).fill = none ∧ (t.b.stream x).seq = w.seq + 1 ∧ t.b.strState x = st ∧ others t) ∧
    (∀ f, w.fill = some f → 256 ≤ w.done.length → ∃ t, exec (.traceFlush r n) s = .next t ∧ t.b.stream x = { w with closeDue := some false } ∧
      others t ∧ s.b.sameMem t.b ∧ t.b.out = s.b.out))) ∧
  (∀ (s : State) (r : Requester) (n : BitVec 4) (v : Word), s.b.reaches r (r1 .TRC_Sx_POST_HI n.toNat) = true → s.b.roleOk r (r1 .TRC_Sx_POST_HI n.toNat) = true →
    let x := n.toNat
    let g := s.b.postPage x v
    let ok := decide ((s.b.stream x).free.length < 256 ∧ CUnit.trace ∉ s.b.flt.refusing) && s.b.pageOk x g
    let w := s.b.stream x
    let frame := fun (t : State) => s.b.onlyRegs { t.b with streams := s.b.streams } [r1 .TRC_Sx_POST_HI x, r1 .TRC_Sx_STATUS x, r1 .TRC_Sx_PAGES x]
    ∃ t, exec (.pagePost r n v) s = .next t ∧ t.b.reg (r1 .TRC_Sx_POST_HI x) = v ∧ (∀ y, y ≠ x → t.b.stream y = s.b.stream y) ∧
      (ok = true → w.ending = none → w.wait = [] ∨ w.cur = none → (t.b.stream x).free = w.free ++ [g] ∧
        t.b.fld (r1 .TRC_Sx_STATUS x) F.TRC_Sx_STATUS_FREE = w.free.length + 1 ∧ frame t) ∧
      (∀ e c, ok = true → w.ending = none → w.cur = some c → w.wait = [e] → w.fill = none → w.free = [] → (t.b.stream x).free = [] ∧ (t.b.stream x).wait = [] ∧
        (t.b.stream x).fill = some ⟨g, dcRecord c.1 c.2.1 c.2.2 ++ e, c.1, c.2.1, c.2.2⟩ ∧ frame t) ∧
      (∀ e c st, ok = true → w.ending = some st → st < 4 → w.cur = some c → w.wait = [e] → w.fill = none → w.free = [] → w.done.length < 256 → g.space = false →
        let h : TrcFill := ⟨g, dcRecord c.1 c.2.1 c.2.2 ++ e, c.1, c.2.1, c.2.2⟩
        let l := pageHeader x ((s.b.strOwner x).getD 0) s.b.devId.toNat w.seq h true ++ h.recs
        t.b.strState x = st ∧ (t.b.stream x).ending = none ∧ (t.b.stream x).fill = none ∧ (t.b.stream x).wait = [] ∧ (t.b.stream x).done = w.done ++ [g] ∧
          t.b.out = s.b.out ++ [.write (s.b.servingFn ((s.b.strOwner x).getD 0)) g.addr (l ++ List.replicate (pageBytes - l.length) 0)] ∧
          (st = 0 → t.b.bit (r1 .TRC_Sx_STATUS x) F.TRC_Sx_STATUS_RELEASING = false)) ∧
      (ok = false → t.b.stream x = w ∧ t.b.bit (r1 .TRC_Sx_STATUS x) F.TRC_Sx_STATUS_POST_REFUSED = true ∧ frame t)) ∧
  (∀ (s : State) (r : Requester) (n : BitVec 4),
    let x := n.toNat
    let w := s.b.stream x
    (s.b.mayRead r (r1 .TRC_Sx_DONE_LO x) = false → exec (.doneRead r n) s = .next { s with b := { s.b with reply := leBytes 4 0 } }) ∧
    (s.b.mayRead r (r1 .TRC_Sx_DONE_LO x) = true →
      (w.done = [] → ∃ t, exec (.doneRead r n) s = .next t ∧ t.b.reply = leBytes 4 0 ∧
        s.b.onlyRegs { t.b with reply := s.b.reply } [r1 .TRC_Sx_DONE_LO x, r1 .TRC_Sx_DONE_HI x]) ∧
      (∀ g rest, w.done = g :: rest → w.closeDue = none → w.wait = [] → w.ending = none → ∃ t, exec (.doneRead r n) s = .next t ∧ (t.b.stream x).done = rest ∧ (t.b.stream x).free = w.free ∧
        t.b.reply = leBytes 4 (g.addr / 65536 % 65536 * 65536 + b2n g.empty * 4 + b2n g.space * 2 + 1) ∧
        t.b.reg (r1 .TRC_Sx_DONE_HI x) = BitVec.ofNat 32 (g.addr / 2 ^ 32) ∧ t.b.out = s.b.out ∧ s.b.sameMem t.b) ∧
      (∀ g rest last f, w.done = g :: rest → w.closeDue = some last → w.fill = some f → w.wait = [] → w.ending = none → rest.length < 256 → ∃ t, exec (.doneRead r n) s = .next t ∧
        (t.b.stream x).done = rest ++ [f.page] ∧ (t.b.stream x).fill = none ∧ (t.b.stream x).closeDue = none ∧
        t.b.reply = leBytes 4 (g.addr / 65536 % 65536 * 65536 + b2n g.empty * 4 + b2n g.space * 2 + 1)) ∧
      (∀ g rest st f, w.done = g :: rest → w.closeDue = none → w.wait = [] → w.ending = some st → st < 4 → w.fill = some f → rest.length < 256 →
        ∃ t, exec (.doneRead r n) s = .next t ∧ t.b.strState x = st ∧ (t.b.stream x).done = rest ++ [f.page] ∧ (t.b.stream x).fill = none ∧
          (t.b.stream x).ending = none ∧ (t.b.stream x).cur = none)))

/-- Training starts from DOWN while enabled, 1 ms after the last attempt; it ends ACTIVE with a CONFIG frame as the first frame when every lane locked within 100 µs, and in DOWN otherwise; loss of lock leads from ACTIVE to DOWN (R433, R434). A write of VPT_CTRL keeps EN, LANES and SMP_TMO; EN = 0 sends, after what waited, one frame STATE HIZ per partition and disables; EN = 1 enables to DOWN unless the firmware keeps the port DISABLED (R446, R466, R467, Table 14.6). A channel changes owner only while the present and the named owner are in Winter state, and CONFIG goes out again; else VPT_ERR.OWN sets (R434, R435). An IDLE header changes nothing (R438); a frame with a wrong CRC counts in CRC, one of another type, range or DC in PROTO, both with FRAME and nothing else of the partition changed; a gap in SEQ sets SEQ (R440). An accepted sample leaves the kept expect codes, counts a failing sample once and each failing channel, records the first failure with event 242, and with NODRV counts as missing (R443, R444); its report waits while an earlier DC is outstanding, and otherwise reaches the hit of its DC (R407). A sample later than SMP_TMO, one of the very cycle excepted, counts as missing with LATE and event 244 (R445). A partition that sent nothing for 1 µs sends its STATE frame (R442, Table 14.5; the idle time is log entry 60). The comparison and the timeout are stated for partitions that own no qualifier and no trigger output. -/
def Obligations.VectorPortLinkChannelsAndFrames : Prop :=
  (∀ s : State,
    let may := decide (s.b.vptState = 0 ∧ 250000 ≤ s.b.pw.ctl - s.b.vpt.since) && s.b.bit (r0 .VPT_CTRL) F.VPT_CTRL_EN && s.b.vptMayRun
    let kept := fun (t : State) => t.b.parts = s.b.parts ∧ t.b.clus = s.b.clus ∧ t.b.links = s.b.links ∧ t.b.dma = s.b.dma ∧
      s.b.regsKept t.b [.VPT_STATUS, .EVT_PENDw] ∧ s.b.sameMem t.b
    (may = false → exec .vptTrainStart s = .next s) ∧
    (may = true → ∃ t, exec .vptTrainStart s = .next t ∧ t.b.vptState = 1 ∧ t.b.vpt.lanes = s.b.vptLanes ∧ t.b.vpt.since = s.b.pw.ctl ∧
      t.b.vpt.tx = s.b.vpt.tx ∧ t.b.evtPend 240 = true ∧ kept t) ∧
    (∀ locked, s.b.vptState ≠ 1 → exec (.vptTrainDone locked) s = .next s) ∧
    (∀ locked, s.b.vptState = 1 →
      let ok := locked && s.b.vptMayRun && decide (s.b.pw.ctl - s.b.vpt.since ≤ 25000)
      (ok = true → ∃ t, exec (.vptTrainDone locked) s = .next t ∧ t.b.vptState = 2 ∧ t.b.fld (r0 .VPT_STATUS) F.VPT_STATUS_LANES_UP = s.b.vpt.lanes % 64 ∧
        t.b.vpt.rxSeq = none ∧ (CUnit.vpt ∉ s.b.flt.refusing → t.b.vpt.tx = [s.b.vpt.stamped s.b.configFrame] ∧ t.b.vpt.cfgDue = false) ∧
        (CUnit.vpt ∈ s.b.flt.refusing → t.b.vpt.tx = [] ∧ t.b.vpt.cfgDue = true) ∧ t.b.evtPend 240 = true ∧ kept t) ∧
      (ok = false → ∃ t, exec (.vptTrainDone locked) s = .next t ∧ t.b.vptState = 0 ∧ t.b.fld (r0 .VPT_STATUS) F.VPT_STATUS_LANES_UP = 0 ∧
        t.b.evtPend 240 = true ∧ kept t)) ∧
    (s.b.vptState ≠ 2 → exec .vptLockLoss s = .next s) ∧
    (s.b.vptState = 2 → ∃ t, exec .vptLockLoss s = .next t ∧ t.b.vptState = 0 ∧ t.b.vpt.tx = [] ∧ t.b.evtPend 240 = true ∧ kept t)) ∧
  (∀ (s : State) (r : Requester) (v : Word), s.b.reaches r (r0 .VPT_CTRL) = true → s.b.roleOk r (r0 .VPT_CTRL) = true →
    let w := v &&& 0xFFFF0031#32
    (v.getLsbD 0 = true → ∃ t, exec (.vptCtrlWrite r v) s = .next t ∧ t.b.reg (r0 .VPT_CTRL) = w ∧
      (s.b.vptState = 3 → s.b.vptMayRun = true → t.b.vptState = 0 ∧ t.b.evtPend 240 = true) ∧
      (s.b.vptState ≠ 3 ∨ s.b.vptMayRun = false → s.b.onlyRegs t.b [r0 .VPT_CTRL]) ∧ t.b.vpt.tx = s.b.vpt.tx ∧ t.b.parts = s.b.parts ∧ s.b.sameMem t.b) ∧
    (v.getLsbD 0 = false → ∃ t, exec (.vptCtrlWrite r v) s = .next t ∧ t.b.reg (r0 .VPT_CTRL) = w ∧ t.b.vptState = 3 ∧ t.b.vpt.tx = [] ∧
      (s.b.vptUp = true → ∃ l : List VptFrame, t.b.vpt.wire = s.b.vpt.wire ++ s.b.vpt.tx ++ l ∧ l.map (·.part) = s.b.vptParts.map (BitVec.ofNat 8) ∧
        ∀ f ∈ l, f.type = 3 ∧ f.mode = 0 ∧ f.crc = vptCrc f ∧ ∀ x ∈ f.payload, x = 0) ∧
      (s.b.vptUp = false → t.b.vpt.wire = s.b.vpt.wire) ∧ t.b.parts = s.b.parts ∧ t.b.clus = s.b.clus ∧
      s.b.regsKept t.b [.VPT_CTRL, .VPT_STATUS, .EVT_PENDw] ∧ s.b.sameMem t.b)) ∧
  (∀ (s : State) (r : Requester) (ch : BitVec 12) (v : Word), s.b.reaches r (r1 .VPT_CHc_OWN ch.toNat) = true →
    s.b.roleOk r (r1 .VPT_CHc_OWN ch.toNat) = true →
    let k := r1 .VPT_CHc_OWN ch.toNat
    let w := v &&& 0xC00000FF#32
    ((∀ p, s.b.chanOwner ch.toNat = some p ∨ ownerField w = some p → (s.b.part p).state = .winter) → ∃ t, exec (.vptOwnWrite r ch v) s = .next t ∧
      t.b.reg k = w ∧ (s.b.vptUp = true ∧ s.b.vpt.tx.length < 16 → t.b.vpt.tx = s.b.vpt.tx ++ [s.b.vpt.stamped t.b.configFrame] ∧ t.b.vpt.cfgDue = false) ∧
      (s.b.vptUp = false ∨ 16 ≤ s.b.vpt.tx.length → t.b.vpt = { s.b.vpt with cfgDue := true }) ∧
      (∀ p, t.b.part p = s.b.part p) ∧ s.b.onlyRegs { t.b with vpt := s.b.vpt, parts := s.b.parts } [k, r0 .VPT_STATUS]) ∧
    (∀ p, s.b.chanOwner ch.toNat = some p ∨ ownerField w = some p → (s.b.part p).state ≠ .winter → ∃ t, exec (.vptOwnWrite r ch v) s = .next t ∧
      t.b.reg k = s.b.reg k ∧ t.b.bit (r0 .VPT_ERR) F.VPT_ERR_OWN = true ∧ (s.b.reg (r0 .VPT_ERR) = 0 → t.b.evtPend 241 = true) ∧
      t.b.vpt.tx = s.b.vpt.tx ∧ t.b.parts = s.b.parts ∧ s.b.regsKept t.b [.VPT_ERR, .VPT_STATUS, .EVT_PENDw] ∧ s.b.sameMem t.b)) ∧
  (∀ (s : State) (f : VptFrame),
    let p := f.part.toNat
    let l := s.b.chansOf p
    let cnt := r1 .VPT_Pp_CNT p
    let first := r1 .VPT_Pp_FIRST p
    let gap := s.b.vpt.rxSeq.any (fun q => decide (f.seq.toNat ≠ (q + 1) % 256))
    let cls := fun (ch : Nat) => frameClass f (ch - f.first.toNat)
    let lost := fun (t : State) => t.b.bit (r0 .VPT_ERR) F.VPT_ERR_FRAME = true ∧ (s.b.reg (r0 .VPT_ERR) = 0 → t.b.evtPend 241 = true) ∧
      (s.b.vpt.discarded = false → t.b.evtPend 246 = true) ∧ t.b.vpt.tx = s.b.vpt.tx ∧ t.b.parts = s.b.parts ∧ t.b.clus = s.b.clus ∧ t.b.outs = s.b.outs ∧
      s.b.regsKept t.b [.VPT_STATUS, .VPT_CNT, .VPT_ERR, .EVT_PENDw] ∧ s.b.sameMem t.b
    (s.b.vptState ≠ 2 ∨ f.type = 0 → exec (.smpFrame f .ok) s = .next s) ∧
    (s.b.vptState = 2 → f.type ≠ 0 → f.crc ≠ vptCrc f → ∃ t, exec (.smpFrame f .ok) s = .next t ∧
      t.b.fld (r0 .VPT_CNT) F.VPT_CNT_CRC = min 4095 (s.b.fld (r0 .VPT_CNT) F.VPT_CNT_CRC + 1) ∧ t.b.vpt.rxSeq = s.b.vpt.rxSeq ∧ lost t) ∧
    (s.b.vptState = 2 → f.type ≠ 0 → f.crc = vptCrc f →
      f.type ≠ 2 ∨ l = [] ∨ chanRange l ≠ (f.first.toNat, f.count.toNat) ∨ (∀ e ∈ (s.b.part p).expects, BitVec.ofNat 32 e.dc ≠ f.dc) →
      ∃ t, exec (.smpFrame f .ok) s = .next t ∧ t.b.fld (r0 .VPT_CNT) F.VPT_CNT_PROTO = min 1023 (s.b.fld (r0 .VPT_CNT) F.VPT_CNT_PROTO + 1) ∧
        t.b.vpt.rxSeq = some f.seq.toNat ∧ (gap = true → t.b.bit (r0 .VPT_ERR) F.VPT_ERR_SEQ = true) ∧ lost t) ∧
    (∀ e : Expect, s.b.vptState = 2 → f.crc = vptCrc f → f.type = 2 → l ≠ [] → chanRange l = (f.first.toNat, f.count.toNat) →
      (s.b.part p).expects.find? (fun x => decide (BitVec.ofNat 32 x.dc = f.dc)) = some e →
      (∀ u < 32, s.b.trgOwner u ≠ some p) → (∀ q < 16, s.b.qualOwner q ≠ some p) →
      let bad := e.codes.filter (fun c => expectFails c.2 (cls c.1))
      ∃ t, exec (.smpFrame f .ok) s = .next t ∧ (t.b.part p).expects = (s.b.part p).expects.filter (fun x => decide (x.dc ≠ e.dc)) ∧
        ((s.b.part p).reports = [] →
          ((s.b.part p).expects.any (fun x => decide (x.dc < e.dc)) = true →
            (t.b.part p).hits = (s.b.part p).hits ∧ ∃ r : PinReport, (t.b.part p).reports = [r] ∧ r.dc = e.dc ∧ r.cmpf = !bad.isEmpty) ∧
          ((s.b.part p).expects.any (fun x => decide (x.dc < e.dc)) = false → (t.b.part p).reports = [] ∧
            (t.b.part p).hits = ((s.b.part p).hits.map (fun h => if h.dc = e.dc then { h with pin := some (0, !bad.isEmpty) } else h)).filter (fun h => !h.arrived))) ∧
        (∀ q, q ≠ p → t.b.part q = s.b.part q) ∧ t.b.vpt.rxSeq = some f.seq.toNat ∧ (gap = true → t.b.bit (r0 .VPT_ERR) F.VPT_ERR_SEQ = true) ∧
        (gap = false → t.b.reg (r0 .VPT_ERR) = s.b.reg (r0 .VPT_ERR)) ∧
        (bad = [] → t.b.fld cnt F.VPT_Pp_CNT_FAILS = s.b.fld cnt F.VPT_Pp_CNT_FAILS ∧ t.b.reg first = s.b.reg first) ∧
        (∀ c rest, bad = c :: rest → t.b.fld cnt F.VPT_Pp_CNT_FAILS = min 65535 (s.b.fld cnt F.VPT_Pp_CNT_FAILS + 1) ∧
          t.b.bit first F.VPT_Pp_FIRST_VALID = true ∧ (s.b.bit first F.VPT_Pp_FIRST_VALID = true → t.b.reg first = s.b.reg first) ∧
          (s.b.bit first F.VPT_Pp_FIRST_VALID = false → t.b.fld first F.VPT_Pp_FIRST_CH = c.1 % 4096 ∧ t.b.fld first F.VPT_Pp_FIRST_EXP = c.2 % 4 ∧
            t.b.fld first F.VPT_Pp_FIRST_CLASS = cls c.1 % 4 ∧ t.b.reg (r1 .VPT_Pp_FIRST_DC p) = BitVec.ofNat 32 e.dc ∧ t.b.evtPend 242 = true)) ∧
        t.b.fld cnt F.VPT_Pp_CNT_MISSING =
          (if f.nodrv then min 65535 (s.b.fld cnt F.VPT_Pp_CNT_MISSING + 1) else s.b.fld cnt F.VPT_Pp_CNT_MISSING) ∧
        (∀ ch, t.b.fld (r1 .VPT_CHc_STAT ch) F.VPT_CHc_STAT_FAILS = min (2 ^ F.VPT_CHc_STAT_FAILS.len - 1)
          (s.b.fld (r1 .VPT_CHc_STAT ch) F.VPT_CHc_STAT_FAILS + (bad.filter (fun c => decide (c.1 = ch))).length)) ∧
        t.b.clus = s.b.clus ∧ s.b.sameMem t.b ∧
        s.b.regsKept t.b [.VPT_STATUS, .VPT_ERR, .VPT_Pp_CNT, .VPT_Pp_FIRST, .VPT_Pp_FIRST_DC, .VPT_CHc_STAT, .EVT_PENDw])) ∧
  (∀ (s : State) (p : PartNo) (dc : BitVec 32),
    let x := s.b.part p.toNat
    let cnt := r1 .VPT_Pp_CNT p.toNat
    (∀ o : Option Expect, x.expects.find? (fun e => decide (BitVec.ofNat 32 e.dc = dc)) = o →
      o.all (fun e => decide (s.b.pw.ctl - e.at_ ≤ s.b.smpTmo)) = true → exec (.sampleTimeout p dc) s = .next s) ∧
    (∀ e : Expect, x.expects.find? (fun e => decide (BitVec.ofNat 32 e.dc = dc)) = some e → s.b.smpTmo < s.b.pw.ctl - e.at_ →
      (∀ u < 32, s.b.trgOwner u ≠ some p.toNat) → (∀ q < 16, s.b.qualOwner q ≠ some p.toNat) → ∃ t, exec (.sampleTimeout p dc) s = .next t ∧
        (t.b.part p.toNat).expects = x.expects.filter (fun y => decide (y.dc ≠ e.dc)) ∧ (∀ q, q ≠ p.toNat → t.b.part q = s.b.part q) ∧
        t.b.fld cnt F.VPT_Pp_CNT_MISSING = min 65535 (s.b.fld cnt F.VPT_Pp_CNT_MISSING + 1) ∧ t.b.fld cnt F.VPT_Pp_CNT_FAILS = s.b.fld cnt F.VPT_Pp_CNT_FAILS ∧
        t.b.bit (r0 .VPT_ERR) F.VPT_ERR_LATE = true ∧ (s.b.bit (r0 .VPT_ERR) F.VPT_ERR_LATE = false → t.b.evtPend 244 = true) ∧
        t.b.vpt.tx = s.b.vpt.tx ∧ t.b.clus = s.b.clus ∧ s.b.sameMem t.b ∧ s.b.regsKept t.b [.VPT_STATUS, .VPT_ERR, .VPT_Pp_CNT, .EVT_PENDw]) ∧
    (∀ due : Bool, due = (decide (250 ≤ x.vptIdle ∧ s.b.vpt.tx.length < 16) && !(s.b.chansOf p.toNat).isEmpty && s.b.vptUp) →
      (due = false → exec (.vptStateFrame p) s = .next s) ∧
      (due = true → ∃ t f, exec (.vptStateFrame p) s = .next t ∧ t.b.vpt.tx = s.b.vpt.tx ++ [s.b.vpt.stamped f] ∧ f.type = 3 ∧ f.part = p ∧
        f.mode = (if x.state = .winter ∨ (x.state = .frost ∧ x.preFrost = .winter) then 0 else if x.drive = [] then 1 else 2) ∧ t.b.part p.toNat = { x with vptIdle := 0 } ∧
        (∀ q, q ≠ p.toNat → t.b.part q = s.b.part q) ∧ s.b.onlyRegs { t.b with vpt := s.b.vpt, parts := s.b.parts } [r0 .VPT_STATUS])))

/-- GO sets BUSY, or REFUSED while BUSY is 1 with nothing else changed; a request whose CMD no table defines is answered UNKNOWN (R458, Table 15.4). A datagram to port 47,360 of the management port, and to no other, is taken up as a request of at most 4,096 bytes unless one runs (R461). A mailbox command acts only on the function in whose buffer its CMD stands submitted, when its turn in the round robin has come, which begins after the function answered last (R459); there it answers NOT_READY before the firmware is ready and to a VF in safe mode, UNKNOWN to a command that safe mode does not serve, ROLE without the role of Tables 15.5, 16.2 and 16.6, BAD_LEN with a wrong LEN, and then changes nothing but the function's mailbox. Unmasking a vector, once the firmware is ready, sends its pending message (R456). That a message is dropped while a request runs, and the lengths that no table states, are log entries 10 and 61. -/
def Obligations.MailboxCommandsAreChecked : Prop :=
  (∀ (s : State) (r : Requester), s.b.reaches r (r0 .MBX_DOORBELL) = true →
    let x := s.b.func (fnOf r)
    let only := fun (t : State) => t.b = { s.b with funcs := t.b.funcs } ∧ ∀ f, f ≠ fnOf r → t.b.func f = s.b.func f
    (x.busy = true → ∃ t, exec (.go r) s = .next t ∧ t.b.func (fnOf r) = { x with mbxStatus := x.mbxStatus ||| 4 } ∧ only t) ∧
    (x.busy = false → mbxDefined x.cmd = true → ∃ t, exec (.go r) s = .next t ∧ t.b.func (fnOf r) = { x with mbxStatus := x.mbxStatus ||| 1 } ∧ only t) ∧
    (x.busy = false → mbxDefined x.cmd = false → ∃ t, exec (.go r) s = .next t ∧ only ⟨t.pending, { t.b with out := s.b.out, fw := s.b.fw }⟩ ∧ t.b.fw = { s.b.fw with mbxLast := fnOf r } ∧
      s.b.answered t.b r (if s.b.pw.phase ≠ .ready ∨ (s.b.safeMode = true ∧ isVf r = true) then 7 else 1) [])) ∧
  (∀ (s : State) (r : Requester), s.b.reaches r (r0 .MBX_DOORBELL) = false → exec (.go r) s = .next s) ∧
  (∀ (s : State) (port : BitVec 16) (bytes : List Byte),
    let x := s.b.func 257
    let y := { x with req := putBytes [] 0 (bytes.take 4096) }
    (s.b.pw.phase = .por ∨ s.b.pw.phase = .lock ∨ port ≠ 47360 → exec (.mgmtMailboxDatagram port bytes) s = .next s) ∧
    (s.b.pw.phase = .boot ∨ s.b.pw.phase = .ready → port = 47360 →
      (x.busy = true → ∃ t, exec (.mgmtMailboxDatagram port bytes) s = .next t ∧ t.b.func 257 = { x with mbxStatus := x.mbxStatus ||| 4 } ∧
        t.b = { s.b with funcs := t.b.funcs }) ∧
      (x.busy = false → mbxDefined y.cmd = true → ∃ t, exec (.mgmtMailboxDatagram port bytes) s = .next t ∧
        t.b.func 257 = { y with mbxStatus := y.mbxStatus ||| 1 } ∧ t.b = { s.b with funcs := t.b.funcs }) ∧
      (x.busy = false → mbxDefined y.cmd = false → ∃ t, exec (.mgmtMailboxDatagram port bytes) s = .next t ∧
        t.b.out = s.b.out ++ [.datagram (y.responseBytes (if s.b.pw.phase = .ready then 1 else 7) [])] ∧
        t.b = { s.b with fw := { s.b.fw with mbxLast := 257 }, funcs := t.b.funcs, out := t.b.out }))) ∧
  (∀ (s : State) (i : Instr) (r : Requester) (cmd : Nat) (need : Need) (lenOk : Nat → Bool), Instr.mailbox i = some (r, cmd, need, lenOk) →
    let x := s.b.func (fnOf r)
    let here := (decide (r = .mgmt) || s.b.fnExists r) && x.busy && decide (x.cmd = cmd) &&
      s.b.funcs.all (fun e => !e.2.busy || decide ((fnOf r + 257 - s.b.fw.mbxLast) % 258 ≤ (e.1 + 257 - s.b.fw.mbxLast) % 258))
    let ready := decide (s.b.pw.phase = .ready ∨ cmd = 1)
    let vfSafe := s.b.safeMode && isVf r
    let safe := s.b.safeMode && !mbxSafe cmd
    let role := need.none_ || roleIn (s.b.roleOf r) need.roles
    let answers := fun (st : Nat) => ∃ t, exec i s = .next t ∧ s.b.answered t.b r st [] ∧ t.b = { s.b with fw := { s.b.fw with mbxLast := fnOf r }, funcs := t.b.funcs, out := t.b.out } ∧
      (t.b.func (fnOf r)).session = x.session ∧ ∀ f, f ≠ fnOf r → t.b.func f = s.b.func f
    (here = false → exec i s = .next s) ∧
    (here = true → ready = false ∨ vfSafe = true → answers 7) ∧
    (here = true → ready = true → vfSafe = false → safe = true → answers 1) ∧
    (here = true → ready = true → vfSafe = false → safe = false → role = false → answers 3) ∧
    (here = true → ready = true → vfSafe = false → safe = false → role = true → lenOk x.reqLen = false ∨ 4080 < x.reqLen → answers 2)) ∧
  (∀ (s : State) (r : Requester) (vec : BitVec 11),
    let x := s.b.func (fnOf r)
    let ok := s.b.fnExists r && decide (s.b.pw.phase = .ready ∧ vec.toNat < vectorsOf (fnOf r))
    (ok = false → exec (.msixUnmask r vec) s = .next s) ∧
    (ok = true → ∃ t, exec (.msixUnmask r vec) s = .next t ∧ vec.toNat ∈ (t.b.func (fnOf r)).unmasked ∧ vec.toNat ∉ (t.b.func (fnOf r)).msixPend ∧
      (∀ v, v ≠ vec.toNat → ((v ∈ (t.b.func (fnOf r)).unmasked ↔ v ∈ x.unmasked) ∧ (v ∈ (t.b.func (fnOf r)).msixPend ↔ v ∈ x.msixPend))) ∧
      t.b.out = s.b.out ++ (if vec.toNat ∈ x.msixPend then [.msix (fnOf r) vec.toNat none] else []) ∧ (∀ f, f ≠ fnOf r → t.b.func f = s.b.func f) ∧
      t.b = { s.b with funcs := t.b.funcs, out := t.b.out }))

/-- GET_INFO answers FW_STATUS, the versions and the states of slots and copies; GET_IDENTITY the identity (Tables 15.5, 16.6). A challenge for a role and slot that the function may ask for ends the session in force, discards the outstanding challenge and answers its nonce; any other, and any in a lockout, is answered ROLE with a type 0x02 entry (R476 to R478). A response within 10 s whose signature over the nonce, the function's ID, the role and the slot verifies under a present key opens the session (the byte order of that message is log entry 122), with event 6 for another role than O; any other response counts as a failure with event 5 and a type 0x02 entry of the challenged role and slot, the eighth in a row locks the function out for 60 s, after which LOCKOUT_END ends the lockout (R478; its status code is a free value). SESSION_LOGOUT ends the session. AUDIT_READ answers up to 31 entries from a SEQ on, AUDIT_HEAD the latest SEQ and hash, signed with the identity key, AUDIT_ACK acknowledges; the mirror takes the oldest entry not yet mirrored, loses its oldest 512 entries when full, with OVERWRITE, event 8 and a type 0x70 entry when one of them was not acknowledged, and a failed flash write sets MIRROR_ERR; the chip keeps its latest 4,096 entries, and more while they are not mirrored (R485, R486). A use of the keys at which their check fails raises event 15 and a level X fault, and goes on with unusable keys (R498, Table 17.1). -/
def Obligations.SessionsAndTheAuditLog : Prop :=
  (∀ (s : State) (r : Requester), s.b.served r 0x0001 needNone (· = 0) → ∃ t, exec (.getInfo r) s = .next t ∧ s.b.answered t.b r 0
    (leBytes 4 (s.b.reg (r0 .FW_STATUS)).toNat ++ leBytes 4 (s.b.reg (r0 .FW_VER_ROM)).toNat ++ leBytes 4 (s.b.reg (r0 .FW_VER_HK)).toNat ++
      leBytes 4 (s.b.reg (r0 .FW_VER_LINK)).toNat ++ leBytes 1 s.b.fw.slotA ++ leBytes 1 s.b.fw.slotB ++ leBytes 1 (b2n s.b.fw.linkA) ++
      leBytes 1 (b2n s.b.fw.linkB) ++ leBytes 2 s.b.fw.setFmt.toNat) ∧ t.b = { s.b with fw := { s.b.fw with mbxLast := fnOf r }, funcs := t.b.funcs, out := t.b.out }) ∧
  (∀ (s : State) (r : Requester), s.b.served r 0x0058 needNone (· = 0) → ∃ t, exec (.getIdentity r) s = .next t ∧
    s.b.answered t.b r 0 (publicKey s.b.sec.idKey ++ leBytes 8 Config.serial.toNat ++ Config.certificate) ∧ t.b = { s.b with fw := { s.b.fw with mbxLast := fnOf r }, funcs := t.b.funcs, out := t.b.out }) ∧
  (∀ (s : State) (r : Requester) (nonce : BitVec 384), s.b.served r 0x0010 needNone (· = 4) →
    let x := s.b.func (fnOf r)
    let role := roleOfByte (leAt x.payload 0 1)
    let slot := leAt x.payload 1 1
    let may := !x.lockout && s.b.challengeOk r role slot
    (may = false → ∃ t, exec (.sessionChallenge r nonce) s = .next t ∧ s.b.answered t.b r 3 [] ∧ s.b.audited t.b 0x02 role slot (idOf r) 3 [] ∧
      (t.b.func (fnOf r)).session = x.session ∧ (t.b.func (fnOf r)).challenge = x.challenge) ∧
    (may = true → ∃ t, exec (.sessionChallenge r nonce) s = .next t ∧ s.b.answered t.b r 0 (leBytes 48 nonce.toNat) ∧
      (t.b.func (fnOf r)).challenge = some ⟨role, slot, nonce, s.b.pw.ctl + 2500000000⟩ ∧ (t.b.func (fnOf r)).session = none ∧
      (x.session = none → t.b.sec = s.b.sec) ∧ (x.session ≠ none → s.b.audited t.b 0x03 (s.b.roleOf r) (s.b.slotOf r) (idOf r) 0 []))) ∧
  (∀ (s : State) (r : Requester) (key : Bool), s.b.served r 0x0011 needNone (· = 96) → key = false ∨ s.b.sec.keyFault = true →
    let x := s.b.func (fnOf r)
    let ok := fun (c : Challenge) => decide (s.b.pw.ctl ≤ c.until_) && (s.b.roleKey c.role c.slot).any (fun k => sigVerifies k x.payload
      (leBytes 48 c.nonce.toNat ++ leBytes 2 (idOf r) ++ leBytes 1 (roleByte c.role) ++ leBytes 1 c.slot))
    (∀ c, x.challenge = some c → ok c = true → ∃ t, exec (.sessionRespond r key) s = .next t ∧
      s.b.answered t.b r 0 (leBytes 1 (match c.role with | .op => 1 | .inst => 2 | _ => 3) ++ leBytes 1 c.slot ++ [0, 0]) ∧
      (t.b.func (fnOf r)).session = some ⟨c.role, c.slot⟩ ∧ (t.b.func (fnOf r)).challenge = none ∧ (t.b.func (fnOf r)).fails = 0 ∧
      s.b.audited t.b 0x01 c.role c.slot (idOf r) 0 [] ∧ (c.role ≠ .op → t.b.evtPend 6 = true)) ∧
    (x.challenge.all (fun c => !ok c) = true → ∃ t, exec (.sessionRespond r key) s = .next t ∧
      s.b.answered t.b r Config.respondRefused.toNat [] ∧ (t.b.func (fnOf r)).session = x.session ∧ (t.b.func (fnOf r)).challenge = none ∧
      (t.b.func (fnOf r)).fails = x.fails + 1 ∧ (t.b.func (fnOf r)).lockout = (x.lockout || decide (8 ≤ x.fails + 1)) ∧
      (x.lockout = false → 8 ≤ x.fails + 1 → (t.b.func (fnOf r)).lockUntil = s.b.pw.ctl + 15000000000) ∧
      (∀ c, x.challenge = some c → s.b.audited t.b 0x02 c.role c.slot (idOf r) Config.respondRefused.toNat []) ∧
      (x.challenge = none → s.b.audited t.b 0x02 (s.b.roleOf r) (s.b.slotOf r) (idOf r) Config.respondRefused.toNat []) ∧ t.b.evtPend 5 = true)) ∧
  (∀ (s : State) (r : Requester), s.b.served r 0x0011 needNone (· = 96) → s.b.sec.keyFault = false →
    let u := s.b.keyUse true
    u.sec = { s.b.sec with keyFault := true, audit := u.sec.audit, nextSeq := u.sec.nextSeq, lastHash := u.sec.lastHash, unmirrored := u.sec.unmirrored } ∧
    u.bit (r0 .SEC_STATUS) F.SEC_STATUS_KEYSTORE_OK = false ∧ u.evtPend 15 = true ∧ u.evtPend 254 = true ∧ u.pw.faultN = true ∧
    u.bit (r0 .FLT_STATUS) F.FLT_STATUS_X_HELD = true ∧ exec (.sessionRespond r true) s = exec (.sessionRespond r false) { s with b := u }) ∧
  (∀ (s : State) (r : Requester), s.b.served r 0x0012 needNone (· = 0) →
    let x := s.b.func (fnOf r)
    ∃ t, exec (.sessionLogout r) s = .next t ∧ s.b.answered t.b r 0 [] ∧ (t.b.func (fnOf r)).session = none ∧ (x.session = none → t.b.sec = s.b.sec) ∧
      (x.session ≠ none → s.b.audited t.b 0x03 (s.b.roleOf r) (s.b.slotOf r) (idOf r) 0 [])) ∧
  (∀ (s : State) (r : Requester),
    let x := s.b.func (fnOf r)
    ∃ t, exec (.lockoutEnd r) s = .next t ∧ t.b.func (fnOf r) = (if x.lockout ∧ x.lockUntil ≤ s.b.pw.ctl then { x with lockout := false, fails := 0 } else x) ∧
      (∀ f, f ≠ fnOf r → t.b.func f = s.b.func f) ∧ t.b = { s.b with funcs := t.b.funcs }) ∧
  (∀ (s : State) (r : Requester), s.b.served r 0x0050 needOI (· = 8) →
    let lo := leAt (s.b.func (fnOf r)).payload 0 8
    let all := s.b.sec.mirror ++ s.b.sec.audit.filter (fun e => !s.b.sec.mirror.any (fun m => decide (m.seq = e.seq)))
    ∃ t, exec (.auditRead r) s = .next t ∧ s.b.answered t.b r 0 ((((all.filter (fun e => decide (lo ≤ e.seq))).take 31).map AuditEntry.bytes).flatten) ∧
      t.b = { s.b with fw := { s.b.fw with mbxLast := fnOf r }, funcs := t.b.funcs, out := t.b.out }) ∧
  (∀ (s : State) (r : Requester) (k : BitVec 384), s.b.served r 0x0051 needOI (· = 0) →
    let head := leBytes 8 (s.b.sec.nextSeq - 1) ++ leBytes 48 s.b.sec.lastHash.toNat
    ∃ t, exec (.auditHead r k) s = .next t ∧
    s.b.answered t.b r 0 (head ++ ecdsaSign s.b.sec.idKey k.toNat (leBytes 2 s.b.devId.toNat ++ head)) ∧
    t.b = { s.b with fw := { s.b.fw with mbxLast := fnOf r }, funcs := t.b.funcs, out := t.b.out }) ∧
  (∀ (s : State) (r : Requester), s.b.served r 0x0052 needI (· = 8) → ∃ t, exec (.auditAck r) s = .next t ∧ s.b.answered t.b r 0 [] ∧
    t.b.sec = { s.b.sec with acked := max s.b.sec.acked (min (leAt (s.b.func (fnOf r)).payload 0 8 + 1) s.b.sec.nextSeq) } ∧
    t.b.fld (r0 .SEC_AUDIT_STATUS) F.SEC_AUDIT_STATUS_UNACKED =
      (s.b.sec.mirror.filter (fun e => decide (t.b.sec.acked ≤ e.seq))).length % 2 ^ 18 ∧ s.b.regsKept t.b [.SEC_AUDIT_STATUS]) ∧
  (∀ (s : State) (flashOk : Bool),
    let x := s.b.sec
    let next := (x.audit.drop (x.audit.length - x.unmirrored)).head?
    let st := r0 .SEC_AUDIT_STATUS
    let kept := x.audit.drop (x.audit.length - max 4096 (x.unmirrored - 1))
    (next = none → exec (.auditMirrorWrite flashOk) s = .next s) ∧
    (∀ e, next = some e → flashOk = false → ∃ t, exec (.auditMirrorWrite flashOk) s = .next t ∧ t.b.bit st F.SEC_AUDIT_STATUS_MIRROR_ERR = true ∧
      s.b.onlyRegs t.b [st]) ∧
    (∀ e, next = some e → flashOk = true → x.mirror.length < 131072 → ∃ t, exec (.auditMirrorWrite flashOk) s = .next t ∧
      t.b.sec = { x with mirror := x.mirror ++ [e], unmirrored := x.unmirrored - 1, audit := kept } ∧ (x.unmirrored = 1 → t.b.bit st F.SEC_AUDIT_STATUS_MIRROR_ERR = false) ∧
      s.b.onlyRegs { t.b with sec := x } [st]) ∧
    (∀ e a z, next = some e → flashOk = true → 131072 ≤ x.mirror.length → x.mirror.head? = some a → (x.mirror.take 512).getLast? = some z →
      ((x.mirror.take 512).any (fun l => decide (x.acked ≤ l.seq)) = true → ∃ t, exec (.auditMirrorWrite flashOk) s = .next t ∧
        t.b.sec.mirror = x.mirror.drop 512 ++ [e] ∧ t.b.bit st F.SEC_AUDIT_STATUS_OVERWRITE = true ∧ t.b.evtPend 8 = true ∧
        s.b.audited t.b 0x70 .hk 0xFF 0x3FF 0 (leBytes 8 a.seq ++ leBytes 8 z.seq)) ∧
      ((x.mirror.take 512).any (fun l => decide (x.acked ≤ l.seq)) = false → ∃ t, exec (.auditMirrorWrite flashOk) s = .next t ∧
        t.b.sec = { x with mirror := x.mirror.drop 512 ++ [e], unmirrored := x.unmirrored - 1, audit := kept } ∧ s.b.onlyRegs { t.b with sec := x } [st])))

/-- FW_WRITE puts its data into the flash and FW_COMMIT takes the image up (slot TRIAL and next, or copy valid and next; INVALID with VERIFY when a check fails), and both answer BAD_STATE for the running slot, the link copy in use, and a target or range that does not exist; a failed flash write answers FLASH (R462). FW_CONFIRM confirms a running TRIAL slot, FW_SELECT makes a CONFIRMED slot or a valid copy the next to boot, and both answer BAD_STATE otherwise (R464). Commit, confirm and selection enter type 0x60 in the audit log. SETTINGS_SAVE writes the settings in force, and the calibration blocks as they were signed, over the copy with the lower sequence, with a higher one and a CRC-32; SETTINGS_DEFAULT makes both copies invalid (R465, Table 15.5). Nothing else of the firmware's state changes. The sequence that a first save writes and which registers are settings are log entries 9 and 62. -/
def Obligations.FirmwareSlotsAndSettings : Prop :=
  (∀ (s : State) (r : Requester) (flashOk : Bool), s.b.served r 0x0020 needI (8 ≤ ·) →
    let pl := (s.b.func (fnOf r)).payload
    let t0 := leAt pl 0 1
    let off := leAt pl 4 4
    let bad := decide (3 < t0 ∨ (if t0 < 2 then 16777216 else 4194304) < off + (pl.length - 8)) || s.b.targetInUse t0
    (bad = true → ∃ t, exec (.fwWrite r flashOk) s = .next t ∧ s.b.answered t.b r 4 [] ∧ t.b.fw = { s.b.fw with mbxLast := fnOf r }) ∧
    (bad = false → flashOk = false → ∃ t, exec (.fwWrite r flashOk) s = .next t ∧ s.b.answered t.b r 5 [] ∧ t.b.fw = { s.b.fw with mbxLast := fnOf r }) ∧
    (bad = false → flashOk = true → ∃ t, exec (.fwWrite r flashOk) s = .next t ∧ s.b.answered t.b r 0 [] ∧ t.b.fw = { s.b.fw with flash := t.b.fw.flash, mbxLast := fnOf r } ∧
      (∀ i, i < pl.length - 8 → NMap.get 0 t.b.fw.flash (t0 * 16777216 + off + i) = pl[8 + i]?.getD 0) ∧
      (∀ a, a < t0 * 16777216 + off ∨ t0 * 16777216 + off + (pl.length - 8) ≤ a → NMap.get 0 t.b.fw.flash a = NMap.get 0 s.b.fw.flash a))) ∧
  (∀ (s : State) (r : Requester), s.b.served r 0x0021 needI (1 ≤ ·) →
    let t0 := leAt (s.b.func (fnOf r)).payload 0 1
    let w := s.b.fw
    let bad := decide (3 < t0) || s.b.targetInUse t0
    let chk := s.b.checkImage t0
    let ok := decide (chk.1 = 0 ∧ leAt chk.2 4 2 ≤ Config.romIf)
    (bad = true → ∃ t, exec (.fwCommit r) s = .next t ∧ s.b.answered t.b r 4 [] ∧ t.b.fw = { w with mbxLast := fnOf r }) ∧
    (bad = false → ok = true → ∃ t, exec (.fwCommit r) s = .next t ∧ s.b.answered t.b r 0 [] ∧
      s.b.audited t.b 0x60 (s.b.roleOf r) (s.b.slotOf r) (idOf r) 0 (leBytes 1 t0) ∧
      (t0 = 0 → t.b.fw = { w with slotA := 1, trialA := false, nextSlot := false, mbxLast := fnOf r } ∧ t.b.fld (r0 .FW_STATUS) F.FW_STATUS_SLOT_A = 1) ∧
      (t0 = 1 → t.b.fw = { w with slotB := 1, trialB := false, nextSlot := true, mbxLast := fnOf r } ∧ t.b.fld (r0 .FW_STATUS) F.FW_STATUS_SLOT_B = 1) ∧
      (t0 = 2 → t.b.fw = { w with linkA := true, nextCopy := false, mbxLast := fnOf r }) ∧ (t0 = 3 → t.b.fw = { w with linkB := true, nextCopy := true, mbxLast := fnOf r })) ∧
    (bad = false → ok = false → ∃ t, exec (.fwCommit r) s = .next t ∧
      s.b.answered t.b r 6 (leBytes 2 (if chk.1 = 0 then Config.romIfStatus.toNat else chk.1)) ∧
      s.b.audited t.b 0x60 (s.b.roleOf r) (s.b.slotOf r) (idOf r) 6 (leBytes 1 t0) ∧
      (t0 = 0 → t.b.fw = { w with slotA := 4, trialA := false, mbxLast := fnOf r }) ∧ (t0 = 1 → t.b.fw = { w with slotB := 4, trialB := false, mbxLast := fnOf r }) ∧
      (t0 = 2 → t.b.fw = { w with linkA := false, mbxLast := fnOf r }) ∧ (t0 = 3 → t.b.fw = { w with linkB := false, mbxLast := fnOf r }))) ∧
  (∀ (s : State) (r : Requester), s.b.served r 0x0022 needI (· = 0) →
    let w := s.b.fw
    let trial := if s.b.actSlot then decide (w.slotB = 1) else decide (w.slotA = 1)
    (trial = false → ∃ t, exec (.fwConfirm r) s = .next t ∧ s.b.answered t.b r 4 [] ∧ t.b.fw = { w with mbxLast := fnOf r }) ∧
    (trial = true → ∃ t, exec (.fwConfirm r) s = .next t ∧ s.b.answered t.b r 0 [] ∧
      t.b.fw = (if s.b.actSlot then { w with slotB := 2, mbxLast := fnOf r } else { w with slotA := 2, mbxLast := fnOf r }) ∧
      s.b.audited t.b 0x60 (s.b.roleOf r) (s.b.slotOf r) (idOf r) 0 [])) ∧
  (∀ (s : State) (r : Requester), s.b.served r 0x0023 needI (1 ≤ ·) →
    let t0 := leAt (s.b.func (fnOf r)).payload 0 1
    let w := s.b.fw
    let log := fun (t : State) => s.b.audited t.b 0x60 (s.b.roleOf r) (s.b.slotOf r) (idOf r) 0 (leBytes 1 t0)
    let ok := decide ((t0 = 0 ∧ w.slotA = 2) ∨ (t0 = 1 ∧ w.slotB = 2) ∨ (t0 = 2 ∧ w.linkA = true) ∨ (t0 = 3 ∧ w.linkB = true))
    (ok = false → ∃ t, exec (.fwSelect r) s = .next t ∧ s.b.answered t.b r 4 [] ∧ t.b.fw = { w with mbxLast := fnOf r }) ∧
    (ok = true → ∃ t, exec (.fwSelect r) s = .next t ∧ s.b.answered t.b r 0 [] ∧ log t ∧
      t.b.fw = (if t0 < 2 then { w with nextSlot := decide (t0 = 1), mbxLast := fnOf r } else { w with nextCopy := decide (t0 = 3), mbxLast := fnOf r }))) ∧
  (∀ (s : State) (r : Requester) (flashOk : Bool), s.b.served r 0x0030 needI (· = 0) →
    let w := s.b.fw
    let rank := fun (c : SetCopy) => if c.valid then c.seq.toNat + 1 else 0
    let hi := max (rank w.set0) (rank w.set1)
    let c : SetCopy := ⟨0, w.setFmt, BitVec.ofNat 16 hi, w.autoConfirm, w.march, s.b.regs.filter (fun e => isSetting e.1), s.b.sec.calBlocks⟩
    let copy := { c with crc := crc32 c.bytes }
    (flashOk = false → ∃ t, exec (.settingsSave r flashOk) s = .next t ∧ s.b.answered t.b r 5 [] ∧ t.b.fw = { w with mbxLast := fnOf r }) ∧
    (flashOk = true → ∃ t, exec (.settingsSave r flashOk) s = .next t ∧ s.b.answered t.b r 0 [] ∧
      t.b.fw = (if rank w.set0 ≤ rank w.set1 then { w with set0 := copy, mbxLast := fnOf r } else { w with set1 := copy, mbxLast := fnOf r }) ∧
      t.b.fld (r0 .FW_STATUS) F.FW_STATUS_SET_SEQ = hi % 65536 ∧ s.b.regsKept t.b [.FW_STATUS])) ∧
  (∀ (s : State) (r : Requester), s.b.served r 0x0031 needI (· = 0) → ∃ t, exec (.settingsDefault r) s = .next t ∧ s.b.answered t.b r 0 [] ∧
    t.b.fw.set0.valid = false ∧ t.b.fw.set1.valid = false ∧ t.b.fw = { s.b.fw with
      set0 := { s.b.fw.set0 with crc := t.b.fw.set0.crc }, set1 := { s.b.fw.set1 with crc := t.b.fw.set1.crc }, mbxLast := fnOf r } ∧
    t.b = { s.b with fw := t.b.fw, funcs := t.b.funcs, out := t.b.out })

/-- INSTALLER_ENROLL stores the installer key of 96 bytes while none is there, or for an installer; for a maker it erases installer, operator and image keys with an audit entry for each, and ends every session but a maker's; for an operator, or without a session once claimed, it is answered ROLE (R478). KEY_PROVISION fills an operator or image key slot, or answers VERIFY code 0x08 for a payload that does not unwrap, with nothing stored; KEY_REVOKE empties a slot and ends the sessions opened under it (R477, R480, R481). CAL_APPLY answers BAD_LEN for a wrong length and refuses as a whole, with nothing changed, a block whose signature, serial number, signer, SEQ, rights or ranges fail (its status code is a free value); it else replaces the named values, an installer's also those that operators have put over them, and raises event 10, an asymmetry taking factory plus user clamped to 100 ns with CLAMPED and event 11 (R491, R492). CAL_CLEAR returns the caller's values to 0 (R493). FUSE_WRITE programs an unprogrammed row, with event 12 (Table 16.6). DEBUG_UNLOCK by an installer needs every partition in Winter state; by a maker it erases the keys, resets the partitions and unlocks internal debug (R488, R489). A use of the keys at which their check fails acts as the fault of SessionsAndTheAuditLog and goes on with unusable keys. The payload layouts are log entry 10. -/
def Obligations.KeysCalibrationFusesAndUnlock : Prop :=
  (∀ (s : State) (r : Requester), s.b.served r 0x005F needNone (fun _ => true) →
    let pl := (s.b.func (fnOf r)).payload
    let claims := decide (s.b.roleOf r = .inst ∨ (s.b.roleOf r = .none ∧ s.b.sec.instKey = none))
    (claims = true ∧ pl.length ≠ 96 ∨ s.b.roleOf r = .maker ∧ pl ≠ [] → ∃ t, exec (.installerEnroll r) s = .next t ∧ s.b.answered t.b r 2 [] ∧
      t.b.sec = s.b.sec) ∧
    (claims = true → pl.length = 96 → ∃ t, exec (.installerEnroll r) s = .next t ∧ s.b.answered t.b r 0 [] ∧ t.b.sec.instKey = some pl ∧
      t.b.sec.operKeys = s.b.sec.operKeys ∧ t.b.sec.imgKeys = s.b.sec.imgKeys ∧ t.b.bit (r0 .SEC_STATUS) F.SEC_STATUS_ENROLLED = true ∧
      t.b.evtPend 9 = true ∧ s.b.audited t.b 0x20 (s.b.roleOf r) (s.b.slotOf r) (idOf r) 0 []) ∧
    (s.b.roleOf r = .maker → pl = [] → ∃ t, exec (.installerEnroll r) s = .next t ∧ s.b.answered t.b r 0 [] ∧ t.b.sec.instKey = none ∧ t.b.sec.operKeys = [] ∧
      t.b.sec.imgKeys = [] ∧ t.b.bit (r0 .SEC_STATUS) F.SEC_STATUS_ENROLLED = false ∧ t.b.evtPend 9 = true ∧
      t.b.sec.nextSeq = s.b.sec.nextSeq + ((List.range 258).filter (fun f => (s.b.func f).session.any (fun x => decide (x.role ≠ .maker)))).length +
        ((if s.b.sec.instKey.isSome then 1 else 0) + s.b.sec.operKeys.length + s.b.sec.imgKeys.length) ∧
      ∀ f ≤ 257, (t.b.func f).session = (s.b.func f).session.filter (fun x => decide (x.role = .maker))) ∧
    (claims = false → s.b.roleOf r ≠ .maker → ∃ t, exec (.installerEnroll r) s = .next t ∧ s.b.answered t.b r 3 [] ∧ t.b.sec = s.b.sec)) ∧
  (∀ (s : State) (r : Requester) (bad : Bool), s.b.served r 0x0060 needI (fun n => decide (n = 132 ∨ n = 196)) → bad = false ∨ s.b.sec.keyFault = true ∨ (s.b.func (fnOf r)).payload.length = 132 →
    let pl := (s.b.func (fnOf r)).payload
    let slot := leAt pl 1 1
    let key := if s.b.sec.keyFault then none else s.b.sec.unwrap (sliceBytes pl 40 156)
    (pl.length ≠ (if leAt pl 0 1 = 0 then 132 else 196) → ∃ t, exec (.keyProvision r bad) s = .next t ∧ s.b.answered t.b r 2 [] ∧ t.b.sec = s.b.sec) ∧
    (leAt pl 0 1 = 0 → pl.length = 132 → ∃ t, exec (.keyProvision r bad) s = .next t ∧ s.b.answered t.b r 0 [] ∧ t.b.evtPend 9 = true ∧
      t.b.sec.operKeys.find slot = some ⟨sliceBytes pl 4 96, BitVec.ofNat 256 (leAt pl 100 32)⟩ ∧
      (∀ k, k ≠ slot → t.b.sec.operKeys.find k = s.b.sec.operKeys.find k) ∧ t.b.sec.imgKeys = s.b.sec.imgKeys ∧ t.b.sec.instKey = s.b.sec.instKey ∧
      s.b.audited t.b 0x20 (s.b.roleOf r) (s.b.slotOf r) (idOf r) 0 (leBytes 2 slot)) ∧
    (leAt pl 0 1 ≠ 0 → pl.length = 196 → key = none → ∃ t, exec (.keyProvision r bad) s = .next t ∧ s.b.answered t.b r 6 (leBytes 2 8) ∧ t.b.sec = s.b.sec) ∧
    (∀ x, leAt pl 0 1 ≠ 0 → pl.length = 196 → key = some x → 64 ≤ slot → ∃ t, exec (.keyProvision r bad) s = .next t ∧ s.b.answered t.b r 4 [] ∧ t.b.sec = s.b.sec) ∧
    (∀ x, leAt pl 0 1 ≠ 0 → pl.length = 196 → key = some x → slot < 64 → ∃ t, exec (.keyProvision r bad) s = .next t ∧ s.b.answered t.b r 0 [] ∧ t.b.evtPend 9 = true ∧
      t.b.sec.imgKeys.find slot = some ⟨BitVec.ofNat 32 (leAt pl 4 4), BitVec.ofNat 256 (leAt pl 8 32), x⟩ ∧
      (∀ k, k ≠ slot → t.b.sec.imgKeys.find k = s.b.sec.imgKeys.find k) ∧ t.b.sec.operKeys = s.b.sec.operKeys ∧ t.b.sec.instKey = s.b.sec.instKey ∧
      s.b.audited t.b 0x20 (s.b.roleOf r) (s.b.slotOf r) (idOf r) 0 (leBytes 2 (256 + slot)))) ∧
  (∀ (s : State) (r : Requester), s.b.sec.keyFault = false →
    (s.b.served r 0x0060 needI (fun n => decide (n = 132 ∨ n = 196)) → (s.b.func (fnOf r)).payload.length = 196 →
      exec (.keyProvision r true) s = exec (.keyProvision r false) { s with b := s.b.keyUse true }) ∧
    (s.b.served r 0x0070 needOI (120 ≤ ·) → exec (.calApply r true) s = exec (.calApply r false) { s with b := s.b.keyUse true })) ∧
  (∀ (s : State) (r : Requester), s.b.served r 0x0061 needI (2 ≤ ·) →
    let pl := (s.b.func (fnOf r)).payload
    let slot := leAt pl 1 1
    (leAt pl 0 1 = 0 → ∃ t, exec (.keyRevoke r) s = .next t ∧ s.b.answered t.b r 0 [] ∧ t.b.evtPend 9 = true ∧ t.b.sec.operKeys.find slot = none ∧
      (∀ k, k ≠ slot → t.b.sec.operKeys.find k = s.b.sec.operKeys.find k) ∧ t.b.sec.imgKeys = s.b.sec.imgKeys ∧
      ∀ f ≤ 257, (t.b.func f).session = (s.b.func f).session.filter (fun x => !decide (x.role = .op ∧ x.slot = slot))) ∧
    (leAt pl 0 1 ≠ 0 → ∃ t, exec (.keyRevoke r) s = .next t ∧ s.b.answered t.b r 0 [] ∧ t.b.evtPend 9 = true ∧ t.b.sec.imgKeys.find slot = none ∧
      (∀ k, k ≠ slot → t.b.sec.imgKeys.find k = s.b.sec.imgKeys.find k) ∧ t.b.sec.operKeys = s.b.sec.operKeys)) ∧
  (∀ (s : State) (r : Requester) (bad : Bool), s.b.served r 0x0070 needOI (120 ≤ ·) → bad = false ∨ s.b.sec.keyFault = true →
    let pl := (s.b.func (fnOf r)).payload
    let inst := decide (s.b.roleOf r = .inst)
    let n := leAt pl 20 2
    let es := calEntries pl n
    let key := if inst then 0 else 1 + s.b.slotOf r
    let signed := (s.b.roleKey (s.b.roleOf r) (s.b.slotOf r)).any (fun k => sigVerifies k (pl.drop (pl.length - 96)) (pl.take (pl.length - 96)))
    let ok := signed && decide (leAt pl 0 4 = 0x4143594C ∧ leAt pl 4 2 = 0x0100 ∧ leAt pl 22 2 = 0 ∧ leAt pl 8 8 = Config.serial.toNat ∧
        leAt pl 6 1 = (if inst then 1 else 2)) && (inst || decide (leAt pl 7 1 = s.b.slotOf r)) &&
      (s.b.sec.calSeq.find key).all (fun q => decide (q < leAt pl 16 4)) && es.all (fun e => calInRange e && s.b.calRight r e.1)
    (pl.length ≠ 120 + 8 * n → ∃ t, exec (.calApply r bad) s = .next t ∧ s.b.answered t.b r 2 [] ∧ t.b.sec = s.b.sec) ∧
    (pl.length = 120 + 8 * n → ok = false → ∃ t, exec (.calApply r bad) s = .next t ∧ s.b.answered t.b r Config.calRefused.toNat [] ∧
      t.b = { s.b with fw := { s.b.fw with mbxLast := fnOf r }, funcs := t.b.funcs, out := t.b.out }) ∧
    (pl.length = 120 + 8 * n → ok = true → ∃ t, exec (.calApply r bad) s = .next t ∧ s.b.answered t.b r 0 [] ∧ t.b.evtPend 10 = true ∧
      t.b.sec.calSeq.find key = some (leAt pl 16 4) ∧
      (inst = true → t.b.sec.calInst = es.foldl (fun m e => NMap.put m e.1 e.2) s.b.sec.calInst ∧ t.b.sec.calBlocks = s.b.sec.calBlocks ++ [pl] ∧
        t.b.sec.calOper = es.foldl (fun m e => NMap.erase m e.1) s.b.sec.calOper) ∧
      (inst = false → t.b.sec.calOper = es.foldl (fun m e => NMap.put m e.1 e.2) s.b.sec.calOper ∧ t.b.sec.calInst = s.b.sec.calInst) ∧
      (∀ e i, i ≤ 16 → es = [e] → e.1 = 65536 + i →
        let sum := sInt 32 (s.b.reg (r1 .SEC_ASYM_Fn i)).toNat + sInt 32 e.2.toNat
        let eff := max (-6553600) (min 6553600 sum)
        t.b.reg (r1 .SEC_ASYM_Un i) = e.2 ∧ t.b.reg (r1 .SEC_ASYM_En i) = BitVec.ofInt 32 eff ∧
          t.b.bit (r1 .SEC_ASYM_STn i) F.SEC_ASYM_STn_CLAMPED = decide (eff ≠ sum) ∧ (eff ≠ sum → t.b.evtPend 11 = true)))) ∧
  (∀ (s : State) (r : Requester), s.b.served r 0x0071 needOI (fun n => n % 4 = 0 && decide (n ≤ 1984)) →
    let pl := (s.b.func (fnOf r)).payload
    ∃ t, exec (.calRead r) s = .next t ∧ s.b.answered t.b r 0 (((List.range (pl.length / 4)).map (fun i =>
      let key := leAt pl (4 * i) 2 * 65536 + leAt pl (4 * i + 2) 2
      Config.calRecord (s.b.calFactoryOf key) (BitVec.ofInt 32 (s.b.sec.user key)) (s.b.calEffective key))).flatten) ∧
      t.b = { s.b with fw := { s.b.fw with mbxLast := fnOf r }, funcs := t.b.funcs, out := t.b.out }) ∧
  (∀ (s : State) (r : Requester), s.b.served r 0x0072 needOI (· = 0) → ∃ t, exec (.calClear r) s = .next t ∧ s.b.answered t.b r 0 [] ∧
    (s.b.roleOf r = .inst → t.b.sec.calInst = [] ∧ t.b.sec.calBlocks = [] ∧ t.b.sec.calOper = s.b.sec.calOper) ∧
    (s.b.roleOf r ≠ .inst → t.b.sec.calInst = s.b.sec.calInst ∧ ∀ k, t.b.sec.calOper.find k =
      if (s.b.sec.calOper.find k).isSome && s.b.calRight r k then some 0 else s.b.sec.calOper.find k) ∧
    s.b.audited t.b 0x31 (s.b.roleOf r) (s.b.slotOf r) (idOf r) 0 []) ∧
  (∀ (s : State) (r : Requester), s.b.served r 0x0080 needM (4 ≤ ·) →
    let pl := (s.b.func (fnOf r)).payload
    let row := leAt pl 0 4
    (s.b.sec.fuses.find row ≠ none → ∃ t, exec (.fuseWrite r) s = .next t ∧ s.b.answered t.b r 4 [] ∧ t.b.sec = s.b.sec) ∧
    (s.b.sec.fuses.find row = none → ∃ t, exec (.fuseWrite r) s = .next t ∧ s.b.answered t.b r 0 [] ∧ t.b.sec.fuses.find row = some (pl.drop 4) ∧
      (∀ k, k ≠ row → t.b.sec.fuses.find k = s.b.sec.fuses.find k) ∧ t.b.evtPend 12 = true ∧
      s.b.audited t.b 0x40 (s.b.roleOf r) (s.b.slotOf r) (idOf r) 0 (leBytes 4 row))) ∧
  (∀ (s : State) (r : Requester), s.b.served r 0x0090 needIM (fun _ => true) →
    let k := r0 .SEC_STATUS
    (s.b.roleOf r ≠ .maker → s.b.allWinter = false → ∃ t, exec (.debugUnlock r) s = .next t ∧ s.b.answered t.b r 4 [] ∧
      t.b = { s.b with fw := { s.b.fw with mbxLast := fnOf r }, funcs := t.b.funcs, out := t.b.out }) ∧
    (s.b.roleOf r ≠ .maker → s.b.allWinter = true → ∃ t, exec (.debugUnlock r) s = .next t ∧ s.b.answered t.b r 0 [] ∧
      t.b.fld k F.SEC_STATUS_UNLOCK = 1 ∧ t.b.evtPend 13 = true ∧ s.b.audited t.b 0x50 (s.b.roleOf r) (s.b.slotOf r) (idOf r) 0 [] ∧
      t.b.parts = s.b.parts ∧ t.b.clus = s.b.clus ∧ s.b.sameMem t.b) ∧
    (s.b.roleOf r = .maker → ∃ t, exec (.debugUnlock r) s = .next t ∧ s.b.answered t.b r 0 [] ∧ t.b.fld k F.SEC_STATUS_UNLOCK = 2 ∧
      t.b.sec.instKey = none ∧ t.b.sec.operKeys = [] ∧ t.b.sec.imgKeys = [] ∧ t.b.evtPend 9 = true ∧ t.b.evtPend 13 = true))

/-- For a requester that the semaphore serves and whose role and page reach its registers: a write of SEM_RELn.REL by the holder frees the semaphore, BROKEN as it stood, and by any other requester changes nothing; a requester that the semaphore does not serve changes nothing either. FORCE frees a held semaphore with BROKEN set and leaves a free one. A read of SEM_ACQn of a free semaphore makes the reader its holder, returns GRANTED with BROKEN as it stood and the reader's ID, and clears BROKEN; of a held one it returns GRANTED 0 and changes nothing; any other read returns zero. Only SEM_PEEKn changes. -/
def Obligations.SemaphoresAreAcquiredAndFreed : Prop :=
  ∀ (s : State) (r : Requester) (n : BitVec 6),
    let k := r1 .SEM_PEEKn n.toNat
    let held := s.b.bit k F.SEM_PEEKn_GRANTED
    let broken := s.b.bit k F.SEM_PEEKn_BROKEN
    let holder := s.b.fld k F.SEM_PEEKn_HOLDER
    let may := s.b.reaches r (r1 .SEM_ACQn n.toNat) && s.b.semServes r n.toNat && decide (CUnit.sem ∉ s.b.flt.refusing)
    let word := fun (g : Bool) (h : Nat) => leBytes 4 (b2n g * 2 ^ 31 + b2n broken * 2 ^ 30 + h)
    (may = false → exec (.semAcq r n) s = .next { s with b := { s.b with reply := leBytes 4 0 } }) ∧
    (may = true → held = true → exec (.semAcq r n) s = .next { s with b := { s.b with reply := word false holder } }) ∧
    (may = true → held = false → ∃ t, exec (.semAcq r n) s = .next t ∧ t.b.bit k F.SEM_PEEKn_GRANTED = true ∧ t.b.bit k F.SEM_PEEKn_BROKEN = false ∧
      t.b.fld k F.SEM_PEEKn_HOLDER = idOf r ∧ t.b.reply = word true (idOf r) ∧ s.b.onlyRegs { t.b with reply := s.b.reply } [k]) ∧
    (s.b.semServes r n.toNat = false → exec (.semRel r n) s = .next s) ∧
    (s.b.semServes r n.toNat = true → s.b.reaches r (r1 .SEM_RELn n.toNat) = true → s.b.roleOk r (r1 .SEM_RELn n.toNat) = true →
      (held = true ∧ holder = idOf r → ∃ t, exec (.semRel r n) s = .next t ∧ t.b.bit k F.SEM_PEEKn_GRANTED = false ∧
        t.b.bit k F.SEM_PEEKn_BROKEN = broken ∧ s.b.onlyRegs t.b [k]) ∧
      (held = false ∨ holder ≠ idOf r → exec (.semRel r n) s = .next s)) ∧
    (s.b.reaches r (r1 .SEM_CFGn n.toNat) = true → s.b.roleOk r (r1 .SEM_CFGn n.toNat) = true →
      (held = true → ∃ t, exec (.semForce r n) s = .next t ∧ t.b.bit k F.SEM_PEEKn_GRANTED = false ∧ t.b.bit k F.SEM_PEEKn_BROKEN = true ∧
        s.b.onlyRegs t.b [k]) ∧
      (held = false → exec (.semForce r n) s = .next s))

/-- A check that finds no imbalance changes nothing, and one that falls within an allowed moment of Table 17.4 neither (R506), nor one at level P of a partition whose reset is in progress (R523). Outside them a TDU, DMA slot, semaphore or scratchpad imbalance is logged at level U with class 0x0C, the unit refuses new work, and every hosted partition that holds an object of it stops STOPPED_FAULT and INCONSISTENT; a channel, stream or FMP imbalance is logged at level P for its partition, which stops; a link imbalance retrains the link (R499, R505, Table 17.4). A use of the TDU, the DMA engine, the trigger unit or the Vector Port at which the checks of the unit find an uncorrectable error is a class 0x0B fault at level U with no effect of its own; a corrected one counts in FLT_CORR and has its effect (R498, R499, Table 17.1). A mismatch of the time counters is class 0x0D at level U (R498; that no partition holds an object of the time unit is log entry 41). A restart of the HKC is logged at level H with event 253, breaks its semaphores and clears every mailbox (R471, R473, R499). RELEASE raises FAULT_N when no entry of level P, U or H is outstanding and no level X fault, CLEAR_OVF and CLEAR_CORR clear their bits (R507 to R509). -/
def Obligations.FaultLevelsAndConservedQuantities : Prop :=
  (∀ (s : State) (code : BitVec 4) (unit : BitVec 15),
    let u := unit.toNat
    let stops := fun (t : State) (q : Nat → Bool) => ∀ p, ((s.b.hosts p && q p) = true → (s.b.part p).state = .running →
        (t.b.part p).state = .stoppedFault ∧ (t.b.part p).inconsistent = true) ∧ ((s.b.hosts p && q p) = false → t.b.part p = s.b.part p)
    let levelU := fun (k : CUnit) (q : Nat → Bool) => ∃ t, exec (.conservationCheck code unit true) s = .next t ∧
      s.b.logged t.b 3 0x0C code.toNat 0 ∧ k ∈ t.b.flt.refusing ∧ t.b.pw.faultN = true ∧ stops t q ∧ t.b.clus = s.b.clus ∧ s.b.sameMem t.b
    let levelP := fun (n : Nat) (p : Nat) => ∃ t, exec (.conservationCheck code unit true) s = .next t ∧
      s.b.logged t.b 1 0x0C n p ∧ t.b.flt.refusing = s.b.flt.refusing ∧ t.b.pw.faultN = true ∧ stops t (fun q => decide (q = p)) ∧
      t.b.clus = s.b.clus ∧ s.b.sameMem t.b
    let none := exec (.conservationCheck code unit true) s = .next s
    let busy := fun (p : Nat) => (s.b.reg (r1 .CTL_PRST_BUSYw (p / 32))).getLsbD (p % 32)
    let owner := s.b.fld (r1 .TDU_CHn_CFG (u % 1024)) F.TDU_CHn_CFG_PART
    (exec (.conservationCheck code unit false) s = .next s) ∧
    (code = 0 ∨ 9 ≤ code.toNat → none) ∧
    (code = 1 → s.b.lnkState (u % 16) ≠ 5 → none) ∧
    (code = 1 → s.b.lnkState (u % 16) = 5 → ∃ t, exec (.conservationCheck code unit true) s = .next t ∧ t.b.lnkState (u % 16) = 6 ∧
      t.b.evtPend (32 + 2 * (u % 16)) = true ∧ t.b.clus = s.b.clus ∧ s.b.sameMem t.b) ∧
    (code = 2 → s.b.fld (r0 .TDU_OCC) F.TDU_OCC_MOVING ≠ 0 → none) ∧
    (code = 2 → s.b.fld (r0 .TDU_OCC) F.TDU_OCC_MOVING = 0 → levelU .tdu (s.b.holdsObject .tdu)) ∧
    (code = 3 → s.b.bit (r1 .TDU_CHn_STATUS (u % 1024)) F.TDU_CHn_STATUS_RELEASING = true ∨ busy owner = true → none) ∧
    (code = 3 → s.b.bit (r1 .TDU_CHn_STATUS (u % 1024)) F.TDU_CHn_STATUS_RELEASING = false → busy owner = false → levelP 3 owner) ∧
    (code = 4 → s.b.slotNext ≠ [] → none) ∧ (code = 4 → s.b.slotNext = [] → levelU .dma (s.b.holdsObject .dma)) ∧
    (code = 5 → s.b.strOwner (u % 16) = Option.none ∨ s.b.bit (r1 .TRC_Sx_STATUS (u % 16)) F.TRC_Sx_STATUS_RELEASING = true → none) ∧
    (∀ p, code = 5 → s.b.strOwner (u % 16) = some p → s.b.bit (r1 .TRC_Sx_STATUS (u % 16)) F.TRC_Sx_STATUS_RELEASING = false →
      busy p = false → ∃ t, exec (.conservationCheck code unit true) s = .next t ∧ s.b.logged t.b 1 0x0C 5 p ∧
        stops t (fun q => decide (q = p)) ∧ (s.b.strState (u % 16) = 1 ∨ s.b.strState (u % 16) = 2 → t.b.strState (u % 16) = 3)) ∧
    (code = 6 → levelU .sem (s.b.holdsObject .sem) ∧ ∃ t, exec (.conservationCheck code unit true) s = .next t ∧ ∀ n < 64,
      t.b.bit (r1 .SEM_PEEKn n) F.SEM_PEEKn_GRANTED = false ∧ t.b.bit (r1 .SEM_PEEKn n) F.SEM_PEEKn_BROKEN = true) ∧
    (code = 7 → s.b.ssp.next ≠ [] → none) ∧
    (code = 7 → s.b.ssp.next = [] → levelU .ssp (fun p => decide (s.b.sspOwner (u % 64) = ⟨1, p⟩))) ∧
    (code = 8 → (s.b.cluPart (u / 128 % 256)).all busy = true → none) ∧
    (∀ p, code = 8 → s.b.cluPart (u / 128 % 256) = some p → busy p = false → levelP 8 p)) ∧
  (∀ s : State, ∃ t, exec .timeCounterMismatch s = .next t ∧ s.b.logged t.b 3 0x0D 0 0 ∧ CUnit.tu ∈ t.b.flt.refusing ∧ t.b.pw.faultN = true ∧
    t.b.evtPend 253 = true ∧ t.b.parts = s.b.parts ∧ t.b.clus = s.b.clus ∧ s.b.sameMem t.b) ∧
  (∀ s : State, ∃ t, exec .hkcRestart s = .next t ∧ s.b.logged t.b 4 0x0E 0 0 ∧ t.b.pw.faultN = true ∧ t.b.evtPend 253 = true ∧
    (∀ n < 64, t.b.reg (r1 .SEM_PEEKn n) =
      (if s.b.semHeld n = true ∧ s.b.semHolder n = 0x3FF then 0x40000000#32 else s.b.reg (r1 .SEM_PEEKn n))) ∧
    (∀ f, (t.b.func f).mbxStatus = 0 ∧ (t.b.func f).session = (s.b.func f).session) ∧ s.b.audited t.b 0x60 .hk 0xFF 0x3FF 0 [0x0E, 0, 0] ∧
    t.b.parts = s.b.parts ∧ t.b.clus = s.b.clus ∧ s.b.sameMem t.b) ∧
  (∀ (s : State) (r : Requester), s.b.reaches r (r0 .FLT_CLR) = true → s.b.roleOk r (r0 .FLT_CLR) = true →
    let st := r0 .FLT_STATUS
    let held := s.b.bit st F.FLT_STATUS_X_HELD || s.b.fltOpen.any (fun i => decide (s.b.fltLevel i = 1 ∨ s.b.fltLevel i = 3 ∨ s.b.fltLevel i = 4))
    (held = true → exec (.release r) s = .next s) ∧
    (held = false → ∃ t, exec (.release r) s = .next t ∧ t.b.pw.faultN = false ∧ t.b.bit st F.FLT_STATUS_FAULT_N_ACT = false ∧
      s.b.onlyRegs { t.b with pw := s.b.pw } [st]) ∧
    (∃ t, exec (.clearOvf r) s = .next t ∧ t.b.bit st F.FLT_STATUS_OVF = false ∧ s.b.onlyRegs t.b [st]) ∧
    (∃ t, exec (.clearCorr r) s = .next t ∧ t.b.bit st F.FLT_STATUS_CORR_HIGH = false ∧ s.b.onlyRegs t.b [st])) ∧
  (∀ (s : State) (i : Ecc → Instr) (k : CUnit) (u : Nat),
    let uses := (∃ f : Nat × Frag, s.b.nextFrag = some f ∧ i = .fragmentApply ∧ k = .tdu ∧ u = f.2.chan) ∨
      (∃ e : Entry, ([7, 6, 5, 4, 3, 2, 1, 0].filterMap (fun p => (s.b.dispatchable p).head?)).head? = some e ∧ i = .dispatch ∧ k = .tdu ∧ u = e.chan) ∨
      (∃ n : BitVec 6, i = .dmaTriggerStart n ∧ k = .dma ∧ u = n.toNat ∧ s.b.dmaState u = 1 ∧ (s.b.dmaCh u).ending = none ∧ CUnit.dma ∉ s.b.flt.refusing ∧
        s.b.signalled u (s.b.trigClass u) (s.b.trigNum u) false = true) ∨
      (∃ n : BitVec 6, i = .dmaWaitComplete n ∧ k = .dma ∧ u = n.toNat ∧ s.b.dmaState u = 3 ∧ (s.b.dmaCh u).ending = none ∧
        s.b.signalled u (s.b.waitObj u).1 (s.b.waitObj u).2 (s.b.dmaCh u).waitPol = true) ∨
      (∃ p dc, i = .hitArrival p dc ∧ k = .tgu ∧ u = 0) ∨ (∃ f, i = .smpFrame f ∧ k = .vpt ∧ u = 0)
    uses → (∃ t, exec (i .due) s = .next t ∧ s.b.logged t.b 3 0x0B u 0 ∧ k ∈ t.b.flt.refusing ∧ t.b.pw.faultN = true ∧ t.b.evtPend 253 = true ∧
        (∀ p, ((s.b.hosts p && s.b.holdsObject k p) = true → (s.b.part p).state = .running →
            (t.b.part p).state = .stoppedFault ∧ (t.b.part p).inconsistent = true) ∧ ((s.b.hosts p && s.b.holdsObject k p) = false → t.b.part p = s.b.part p)) ∧
        t.b.clus = s.b.clus ∧ s.b.sameMem t.b) ∧
      (s.b.corrOver = false → s.b.flt.corrDue = false →
        exec (i .corr) s = exec (i .ok) { s with b := s.b.setReg (r0 .FLT_CORR) (s.b.reg (r0 .FLT_CORR) + 1) }))

/-- A cold reset returns every register to its reset value and every unit to its state at reset; far memory, keys, fuses and the contents of the boot flash stay (R516, R521, R524). POR_N's release starts the root PLL, and its lock releases the dividers with the time counter at zero (R518). An attempt to boot goes to safe mode when asked or when no slot is TRIAL or CONFIRMED (R463, R467); a slot whose image the engine does not load becomes INVALID, one reset during its trial UNCONFIRMED, one whose firmware is not ready or whose settings cannot be taken up becomes UNCONFIRMED with the other next and a warm reset of cause 4, and a ready firmware ends the boot with FAULT_N released unless a level X fault of the boot or of the key store holds it (R507), CFG_DONE by the link copy that loads, PAIR by the two compatibility records and FW_VER_HK (R463 to R466, R518). A key store at fault raises event 15 and is unusable (Table 17.1). A warm reset leaves every hosted partition in Winter state, ends every session and an installer's unlock (a maker's stands, log entry 149), records its cause and starts the boot again; in Frost a Thaw comes first (R520, R521); mailbox RESET answers, then resets (Table 15.5). Configuration requests get Request Retry Status until the firmware is ready; then one finds the capabilities of Table 15.1 and no other, sets VF Enable and NumVFs or the sizes up to those supported (log entry 165), or clears the report of a poisoned write (R450); a function that is no longer there loses its session and its state (R453, R519). The images are the flash's, checked by the engine; what the firmware does, and whether the key store is at fault, is an operand (log entry 1). -/
def Obligations.ResetsAndTheBootSequence : Prop :=
  (∀ s : State, ∃ t, exec .coldReset s = .next t ∧ (∀ k, t.b.reg k = k.name.info.reset) ∧ t.b.pw = {} ∧ t.b.parts = [] ∧ t.b.clus = [] ∧ t.b.links = [] ∧
    t.b.funcs = [] ∧ t.b.ssp.bytes = [] ∧ t.b.dma = [] ∧ t.b.streams = [] ∧ t.b.flt = {} ∧ t.b.time = 0 ∧ t.b.sec.audit = [] ∧ t.b.fw.safeReq = false ∧ t.b.sec.calOper = [] ∧
    t.b.far = s.b.far ∧ t.b.sec.instKey = s.b.sec.instKey ∧ t.b.sec.operKeys = s.b.sec.operKeys ∧ t.b.sec.imgKeys = s.b.sec.imgKeys ∧
    t.b.sec.mirror = s.b.sec.mirror ∧ t.b.sec.nextSeq = s.b.sec.nextSeq ∧ t.b.sec.lastHash = s.b.sec.lastHash ∧ t.b.sec.fuses = s.b.sec.fuses ∧
    t.b.fw.slotA = s.b.fw.slotA ∧ t.b.fw.slotB = s.b.fw.slotB ∧ t.b.fw.flash = s.b.fw.flash ∧ t.b.fw.set0 = s.b.fw.set0 ∧ t.b.fw.set1 = s.b.fw.set1) ∧
  (∀ s : State,
    let clk := r0 .CLK_STATUS
    let locks := fun (t : State) => t.b.bit clk F.CLK_STATUS_ROOT_LOCK = true ∧ t.b.bit clk F.CLK_STATUS_REF_OK = true ∧
      t.b.bit clk F.CLK_STATUS_HOLDOVER = false
    (s.b.pw.phase ≠ .por → exec .porRelease s = .next s) ∧
    (s.b.pw.phase = .por → ∃ t, exec .porRelease s = .next t ∧ t.b = { s.b with pw := { s.b.pw with phase := .lock } }) ∧
    (s.b.pw.phase = .lock → ∃ t, exec .rootPllLock s = .next t ∧ locks t ∧ t.b.time = 0 ∧ t.b.pw = { s.b.pw with phase := .boot, ctl := 0 } ∧
      s.b.onlyRegs { t.b with time := s.b.time, pw := s.b.pw } [clk]) ∧
    (s.b.pw.phase ≠ .lock → s.b.bit clk F.CLK_STATUS_HOLDOVER = true → ∃ t, exec .rootPllLock s = .next t ∧ locks t ∧ s.b.onlyRegs t.b [clk]) ∧
    (s.b.pw.phase ≠ .lock → s.b.bit clk F.CLK_STATUS_HOLDOVER = false → exec .rootPllLock s = .next s)) ∧
  (∀ (s : State) (r : BootReport),
    let w := s.b.fw
    let n := w.nextSlot
    let isSafe := fun (t : State) => t.b.pw.phase = .ready ∧ t.b.safeMode = true ∧ t.b.vptState = 3 ∧ (∀ l < 16, t.b.lnkState l = 7) ∧
      t.b.pw.cfgDone = s.b.pw.cfgDone ∧ t.b.fw.linksOff = true
    (s.b.pw.phase ≠ .boot → exec (.firmwareReady r) s = .next s) ∧
    (s.b.pw.phase = .boot → w.safeReq = true → ∃ t, exec (.firmwareReady r) s = .next t ∧ isSafe t) ∧
    (s.b.pw.phase = .boot → w.safeReq = false → (∀ x, w.slot x ≠ 1 ∧ w.slot x ≠ 2) → ∃ t, exec (.firmwareReady r) s = .next t ∧ isSafe t) ∧
    (s.b.pw.phase = .boot → w.safeReq = false → w.slot n = 1 → w.trial n = true → ∃ t, exec (.firmwareReady r) s = .next t ∧ t.b.fw.slot n = 3) ∧
    (s.b.pw.phase = .boot → w.safeReq = false → w.slot n = 2 ∨ (w.slot n = 1 ∧ w.trial n = false) →
      let x := Block.flashLoad { s.b with sec := { s.b.sec with keyFault := r.keyFault } } (b2n n)
      let y := Block.loadLink { x with fw := if x.fw.slot n = 1 then x.fw.setTrial n else x.fw }
      let hk := x.cfg.firmware
      let up := (y.1.clrFld (r0 .CFG_SRC) F.CFG_SRC_SRC).takeSettings (leAt hk 8 2) (leAt hk 0xA 2) r.migrates
      (x.loadStatus (b2n n) ≠ 0 → ∃ t, exec (.firmwareReady r) s = .next t ∧ t.b.fw.slot n = 4 ∧
        (w.slot (!n) ≠ 1 → w.slot (!n) ≠ 2 → t.b.pw.phase = .ready ∧ t.b.safeMode = true)) ∧
      (x.loadStatus (b2n n) = 0 → r.ready = false ∨ up = none → ∃ t, exec (.firmwareReady r) s = .next t ∧ t.b.fw.slot n = 3 ∧
        t.b.fw.nextSlot = (!n) ∧ t.b.pw.phase = .boot ∧ t.b.fld (r0 .CTL_RST_CAUSE) F.CTL_RST_CAUSE_CAUSE = 4) ∧
      (x.loadStatus (b2n n) = 0 → r.ready = true → up ≠ none → ∃ t, exec (.firmwareReady r) s = .next t ∧ t.b.pw.phase = .ready ∧
        t.b.pw.faultN = (t.b.bit (r0 .FLT_STATUS) F.FLT_STATUS_FAULT_N_ACT || t.b.bit (r0 .FLT_STATUS) F.FLT_STATUS_X_HELD) ∧ (r.keyFault = true → t.b.pw.faultN = true) ∧ t.b.pw.cfgDone = y.2.isSome ∧ t.b.bit (r0 .FW_STATUS) F.FW_STATUS_ACT_SLOT = n ∧
        t.b.fld (r0 .FW_STATUS) F.FW_STATUS_PAIR = (match y.2 with | some e => pairOf hk e.2 | none => 3) ∧
        t.b.reg (r0 .FW_VER_HK) = BitVec.ofNat 32 (verAt hk 0) ∧ t.b.bit (r0 .SEC_STATUS) F.SEC_STATUS_KEYSTORE_OK = (!r.keyFault) ∧
        (r.keyFault = true → t.b.evtPend 15 = true)))) ∧
  (∀ (s : State) (c : BitVec 4),
    let ok := decide (2 ≤ c.toNat ∧ c.toNat ≤ 5 ∧ s.b.pw.phase ≠ .por ∧ s.b.pw.phase ≠ .lock)
    let st := s.b.fld (r0 .PWR_STATUS) F.PWR_STATUS_STATE
    (ok = false → exec (.warmReset c) s = .next s) ∧
    (ok = true → st = 0 → ∃ t, exec (.warmReset c) s = .next t ∧ t.b.pw.phase = .boot ∧ t.b.pw.cfgDone = false ∧ t.b.pw.cfgErr = false ∧
      t.b.pw.faultN = true ∧ t.b.fld (r0 .CTL_RST_CAUSE) F.CTL_RST_CAUSE_CAUSE = c.toNat ∧ t.b.fw.safeReq = decide (c = 5) ∧ t.b.safeMode = false ∧
      t.b.fld (r0 .SEC_STATUS) F.SEC_STATUS_UNLOCK = (if s.b.fld (r0 .SEC_STATUS) F.SEC_STATUS_UNLOCK = 1 then 0 else s.b.fld (r0 .SEC_STATUS) F.SEC_STATUS_UNLOCK) ∧
      t.b.reg (r0 .FW_VER_HK) = 0 ∧ t.b.sec.calOper = [] ∧ (∀ p, s.b.hosts p = true → (t.b.part p).state = .winter) ∧
      ∀ f, (t.b.func f).session = none ∧ (t.b.func f).mbxStatus = 0) ∧
    (ok = true → st = 2 → ∃ t, exec (.warmReset c) s = .next t ∧ t.b.fld (r0 .PWR_STATUS) F.PWR_STATUS_STATE = 3 ∧ t.b.pw = { s.b.pw with warmReq := some c.toNat } ∧
      s.b.onlyRegs { t.b with pw := s.b.pw } [r0 .PWR_STATUS]) ∧
    (ok = true → st = 1 → ∃ t, exec (.warmReset c) s = .next t ∧ t.b = { s.b with pw := { s.b.pw with warmReq := some c.toNat, thawReq := true } }) ∧
    (ok = true → st = 3 → ∃ t, exec (.warmReset c) s = .next t ∧ t.b = { s.b with pw := { s.b.pw with warmReq := some c.toNat } })) ∧
  (∀ (s : State) (r : Requester), s.b.served r 0x0040 needI (1 ≤ ·) →
    let n := leAt (s.b.func (fnOf r)).payload 0 1
    (1 < n → ∃ t, exec (.mbxReset r) s = .next t ∧ s.b.answered t.b r 4 [] ∧ t.b = { s.b with fw := { s.b.fw with mbxLast := fnOf r }, funcs := t.b.funcs, out := t.b.out }) ∧
    (n ≤ 1 → s.b.fld (r0 .PWR_STATUS) F.PWR_STATUS_STATE = 0 → ∃ t, exec (.mbxReset r) s = .next t ∧ t.b.pw.phase = .boot ∧
      t.b.fld (r0 .CTL_RST_CAUSE) F.CTL_RST_CAUSE_CAUSE = (if n = 1 then 5 else 3) ∧ t.b.fw.safeReq = decide (n = 1) ∧
      (t.b.func (fnOf r)).resp = putBytes [] 0 ((s.b.func (fnOf r)).responseBytes 0 [])) ∧
    (n ≤ 1 → s.b.fld (r0 .PWR_STATUS) F.PWR_STATUS_STATE = 2 → ∃ t, exec (.mbxReset r) s = .next t ∧ s.b.answered t.b r 0 [] ∧
      t.b.pw.warmReq = some (if n = 1 then 5 else 3) ∧ t.b.fld (r0 .PWR_STATUS) F.PWR_STATUS_STATE = 3)) ∧
  (∀ (s : State) (q : PcieReq),
    (s.b.pw.phase = .por ∨ s.b.pw.phase = .lock ∨ (s.b.pw.phase = .boot ∧ q.fn ≠ .pf0) ∨ (s.b.pw.phase = .ready ∧ s.b.fnExists q.fn = false) →
      exec (.pcieConfigRequest q) s = .next s) ∧
    (s.b.pw.phase = .boot → q.fn = .pf0 → ∃ t, exec (.pcieConfigRequest q) s = .next t ∧ t.b = { s.b with out := s.b.out ++ [.configDone true none] }) ∧
    (∀ c, s.b.pw.phase = .ready → q = .read c → ∃ t, exec (.pcieConfigRequest q) s = .next t ∧
      t.b = { s.b with out := s.b.out ++ [.configDone false (some (decide (c ∈ [PcieCap.ari, .sriov, .msix, .aer, .flr, .tags10])))] }) ∧
    (∀ g mps mrrs, s.b.pw.phase = .ready → s.b.fnExists g = true → q = .sizes g mps mrrs → ∃ t, exec (.pcieConfigRequest q) s = .next t ∧
      t.b.func (fnOf g) = (if mps.toNat ≤ 2 ∧ mrrs.toNat ≤ 5 then { s.b.func (fnOf g) with mps := mps, mrrs := mrrs } else s.b.func (fnOf g)) ∧
      (∀ x, x ≠ fnOf g → t.b.func x = s.b.func x) ∧ t.b = { s.b with funcs := t.b.funcs, out := s.b.out ++ [.configDone false none] }) ∧
    (∀ g, s.b.pw.phase = .ready → s.b.fnExists g = true → q = .aerClear g → ∃ t, exec (.pcieConfigRequest q) s = .next t ∧
      t.b.func (fnOf g) = { s.b.func (fnOf g) with aerPoison := false } ∧ (∀ x, x ≠ fnOf g → t.b.func x = s.b.func x) ∧
      t.b = { s.b with funcs := t.b.funcs, out := s.b.out ++ [.configDone false none] }) ∧
    (∀ en n, s.b.pw.phase = .ready → q = .sriov en n → ∃ t, exec (.pcieConfigRequest q) s = .next t ∧ t.b.vfEnable = en ∧
      t.b.numVfs = min 256 n.toNat ∧ t.b.out.getLast? = some (.configDone false none) ∧ (t.b.func 0).session = (s.b.func 0).session ∧
      t.b.func 257 = s.b.func 257 ∧
      (∀ v < 256, (t.b.func (1 + v)).session = (if en && decide (v < min 256 n.toNat) then (s.b.func (1 + v)).session else none)) ∧
      (∀ v < 256, (en && decide (v < min 256 n.toNat)) = false → t.b.func (1 + v) = {}) ∧
      ((∀ v < 256, (s.b.func (1 + v)).session ≠ none → en = true ∧ v < min 256 n.toNat) →
        t.b = { s.b with vfEnable := en, numVfs := min 256 n.toNat, out := t.b.out, funcs := t.b.funcs })))

/-- A write of CTL_PRSTw resets the partitions that it names and, for an operator session, that its key scope covers: each is in Winter state, BUSY, not loaded, and its clusters' stores read zero, while every other partition and cluster keeps its state, and the semaphores of the partition and of its DMA channels break (R471, R522, R523). A load that is LOADED is IDLE once every partition that it names has been reset (Table 7.11, log entry 123). At its end BUSY clears; a stream of the partition is IDLE and no longer RELEASING, but one whose STOP record or page still waits, which ends in IDLE later (R429). FLR takes no effect before the firmware is ready (R519); of PF0 it ends its session and command, breaks its semaphores and disables the VFs, whose sessions and state are gone; FLR of VF v also resets partition v (R455, R471). With no link up, a clock fault after power-up records FAIL with event 248 and a reference loss enters holdover; both are logged at level X with class 0x0F, a rail fault after power-up with event 249 and class 0x11 with THERM_N low: every running partition on the module stops STOPPED_FAULT and INCONSISTENT, every enabled link is DOWN and FAULT_N is low (R499, R514, R515, R533, R534). A TAP instruction other than BYPASS and IDCODE is refused and counted while locked, the first with event 14 (R487; the codes are log entry 47). -/
def Obligations.PartitionResetsFlrAndLevelXFaults : Prop :=
  (∀ (s : State) (r : Requester) (w : BitVec 3) (v : Word), s.b.reaches r (r1 .CTL_PRSTw w.toNat) = true → s.b.roleOk r (r1 .CTL_PRSTw w.toNat) = true →
    let sel := fun (p : Nat) => decide (p / 32 = w.toNat) && v.getLsbD (p % 32) && (decide (s.b.roleOf r ≠ .op) || s.b.operCovers r p)
    ((∀ p, sel p = false) → exec (.partitionReset r w v) s = .next s) ∧
    ∃ t, exec (.partitionReset r w v) s = .next t ∧
      (∀ p < 256, sel p = true → (t.b.part p).state = .winter ∧ (t.b.part p).clusters = [] ∧
        (t.b.reg (r1 .CTL_PRST_BUSYw (p / 32))).getLsbD (p % 32) = true ∧ (t.b.reg (r1 .CFG_PART_LOADEDn (p / 32))).getLsbD (p % 32) = false ∧
        (t.b.part p).met = (s.b.part p).met ∧
        (∀ j < 64, s.b.semHeld j = true → (s.b.semHolder j = 0x100 + p ∨ ∃ n < 64, s.b.dmaModule n = false ∧ s.b.dmaPart n = p ∧ s.b.semHolder j = 0x200 + n) →
          t.b.semHeld j = false ∧ t.b.bit (r1 .SEM_PEEKn j) F.SEM_PEEKn_BROKEN = true)) ∧
      (s.b.cfgState = 5 → (∃ p < 256, sel p = true) → (∀ e ∈ s.b.cfg.mans, sel e.1 = true ∨ e.1 ∈ s.b.cfg.resets) → t.b.cfgState = 0) ∧
      (∀ p, sel p = false → (t.b.part p).state = (s.b.part p).state ∧ (t.b.part p).dc = (s.b.part p).dc ∧ (t.b.part p).clusters = (s.b.part p).clusters) ∧
      (∀ p, (∀ q, sel q = true ↔ q = p) → ∀ c < 256, (c ∈ s.b.cluOf p → t.b.clu c = (s.b.clu c).resetStores) ∧ (c ∉ s.b.cluOf p → t.b.clu c = s.b.clu c))) ∧
  (∀ (s : State) (p : PartNo),
    let busy := (s.b.reg (r1 .CTL_PRST_BUSYw (p.toNat / 32))).getLsbD (p.toNat % 32)
    (busy = false → exec (.partitionResetDone p) s = .next s) ∧
    (busy = true → ∃ t, exec (.partitionResetDone p) s = .next t ∧ (t.b.reg (r1 .CTL_PRST_BUSYw (p.toNat / 32))).getLsbD (p.toNat % 32) = false ∧
      (∀ x < 16, s.b.strOwner x = some p.toNat →
        let w := s.b.stream x
        let live := decide (s.b.strState x = 1 ∨ s.b.strState x = 2)
        let idle := t.b.strState x = 0 ∧ t.b.bit (r1 .TRC_Sx_STATUS x) F.TRC_Sx_STATUS_RELEASING = false
        let waits := t.b.strState x = s.b.strState x ∧ t.b.bit (r1 .TRC_Sx_STATUS x) F.TRC_Sx_STATUS_RELEASING = s.b.bit (r1 .TRC_Sx_STATUS x) F.TRC_Sx_STATUS_RELEASING ∧
          (t.b.stream x).ending = some 0
        (w.ending ≠ none → waits) ∧ (w.ending = none → live = false → idle) ∧
        (w.ending = none → live = true → w.lost = none → (w.cur = none → w.fill = none → idle) ∧
          ∀ f, w.cur.isSome = true → w.wait = [] → w.fill = some f → f.recs.length + 12 ≤ pageRoom → (w.done.length < 256 → idle) ∧ (256 ≤ w.done.length → waits))) ∧
      t.b.parts = s.b.parts ∧ t.b.ssp = s.b.ssp)) ∧
  (∀ (s : State) (r : Requester), s.b.pw.phase ≠ .ready → exec (.flr r) s = .next s) ∧
  (∀ s : State, s.b.pw.phase = .ready → ∃ t, exec (.flr .pf0) s = .next t ∧ t.b.vfEnable = false ∧ t.b.numVfs = 0 ∧ (t.b.func 0).session = none ∧ (t.b.func 0).mbxStatus = 0 ∧
    (∀ n < 64, t.b.reg (r1 .SEM_PEEKn n) = (if s.b.semHeld n = true ∧ s.b.semHolder n = 0 then 0x40000000#32 else s.b.reg (r1 .SEM_PEEKn n))) ∧
    (t.b.func 257).session = (s.b.func 257).session ∧ (t.b.func 257).mbxStatus = (s.b.func 257).mbxStatus ∧ (∀ f, f ≠ 0 → f ≠ 257 → t.b.func f = {}) ∧ t.b.parts = s.b.parts ∧ t.b.clus = s.b.clus ∧ s.b.sameMem t.b) ∧
  (∀ (s : State) (v : BitVec 8),
    (s.b.vfExists v.toNat = false → exec (.flr (.vf v)) s = .next s) ∧
    (s.b.pw.phase = .ready → s.b.vfExists v.toNat = true → ∃ t, exec (.flr (.vf v)) s = .next t ∧ (t.b.part v.toNat).state = .winter ∧ (t.b.func (1 + v.toNat)).session = none ∧
      (t.b.func (1 + v.toNat)).mbxStatus = 0 ∧ (∀ n < 64, s.b.semHeld n = true → s.b.semHolder n = 0x100 + v.toNat → t.b.reg (r1 .SEM_PEEKn n) = 0x40000000#32) ∧
      ∀ p, p ≠ v.toNat → (t.b.part p).state = (s.b.part p).state)) ∧
  (∀ (s : State) (r : Requester), r ≠ .pf0 → isVf r = false → exec (.flr r) s = .next s) ∧
  (∀ s : State, (∀ n < 16, s.b.lnkState n ≠ 5 ∧ s.b.lnkState n ≠ 6) →
    let clk := r0 .CLK_STATUS
    let levelX := fun (t : State) (cls : Nat) => s.b.logged t.b 5 cls 0 0 ∧ t.b.bit (r0 .FLT_STATUS) F.FLT_STATUS_X_HELD = true ∧ t.b.pw.faultN = true ∧
      t.b.evtPend 254 = true ∧ (∀ p, s.b.hosts p = true → (s.b.part p).state = .running → (t.b.part p).state = .stoppedFault ∧ (t.b.part p).inconsistent = true) ∧
      (∀ n < 16, t.b.lnkState n = (if s.b.lnkState n = 7 then 7 else 0)) ∧ t.b.clus = s.b.clus ∧ s.b.sameMem t.b
    (exec (.clockFault 0) s = .next s) ∧ (s.b.pw.phase = .por → ∀ fail, exec (.clockFault fail) s = .next s) ∧
    (∀ fail, fail ≠ 0 → s.b.pw.phase ≠ .por → ∃ t, exec (.clockFault fail) s = .next t ∧ t.b.fld clk F.CLK_STATUS_FAIL = (s.b.fld clk F.CLK_STATUS_FAIL ||| fail.toNat) ∧
      t.b.bit (r0 .PWR_EVT) F.PWR_EVT_CLOCK = true ∧ t.b.evtPend 248 = true ∧ levelX t 0x0F) ∧
    (s.b.bit clk F.CLK_STATUS_ROOT_LOCK = false → exec .referenceLoss s = .next s) ∧
    (s.b.bit clk F.CLK_STATUS_ROOT_LOCK = true → ∃ t, exec .referenceLoss s = .next t ∧ t.b.bit clk F.CLK_STATUS_REF_OK = false ∧
      t.b.bit clk F.CLK_STATUS_ROOT_LOCK = false ∧ t.b.bit clk F.CLK_STATUS_HOLDOVER = true ∧ t.b.evtPend 248 = true ∧ levelX t 0x0F) ∧
    (s.b.pw.phase = .por → exec .railFault s = .next s) ∧
    (s.b.pw.phase ≠ .por → ∃ t, exec .railFault s = .next t ∧ t.b.evtPend 249 = true ∧ t.b.bit (r0 .PWR_EVT) F.PWR_EVT_SUPPLY = true ∧ t.b.pw.thermN = true ∧ t.b.pw.trip = true ∧
      levelX t 0x11)) ∧
  (∀ (s : State) (ir : BitVec 8),
    let k := r0 .SEC_STATUS
    let refused := decide (s.b.fld k F.SEC_STATUS_UNLOCK = 0 ∧ ir ≠ Config.tapBypass ∧ ir ≠ Config.tapIdcode)
    (refused = false → exec (.tapInstruction ir) s = .next s) ∧
    (refused = true → ∃ t, exec (.tapInstruction ir) s = .next t ∧ t.b.fld k F.SEC_STATUS_TAP_REFUSED = min 65535 (s.b.fld k F.SEC_STATUS_TAP_REFUSED + 1) ∧
      (s.b.fld k F.SEC_STATUS_TAP_REFUSED = 0 → t.b.evtPend 14 = true) ∧ (s.b.fld k F.SEC_STATUS_TAP_REFUSED ≠ 0 → s.b.onlyRegs t.b [k])))

/-- ENTER starts Frost entry, or sets REFUSED with the first of the six causes of R526 in WHY; at its end every hosted partition reads FROST, every FMP of its clusters is drained and the module is in FROST, or thaws when a Thaw was asked for (R526 to R528). EXIT starts Thaw in FROST and is remembered during entry. At the end of Thaw the partitions take back the state they held, one stopped at a target whose frames are all in applies them (R178), FROSTS counts, and the held packets go on; a warm reset that waited follows (R521, R528). A reading of the nine sites shows both sensors, keeps the highest site reading and the highest power, drives THERM_N by the warning threshold with 3 degrees of hysteresis with event 250 on its assertion, and starts the throttle at a site that crosses its threshold (R530, R531, R534, Tables 18.11, 18.12); a site that reaches its trip temperature, or stands there while no trip has been taken, or a pair that disagrees for ten readings, is logged at level X with class 0x11; while POR_N is low nothing is read (R517). Each update, from the latest readings and the threshold in force at them (R492), moves DUTY by at most one within MAXDUTY, with event 251 when it leaves or reaches 0 (R531). The I3C/SMBus target serves the words of R536 and what GET_INFO answers at its dynamic address, or at 0x5A before it has one (log entry 179), and takes its dynamic address (R461). -/
def Obligations.FrostThawSensorsAndThrottle : Prop :=
  (∀ (s : State) (r : Requester), s.b.reaches r (r0 .PWR_FROST) = true → s.b.roleOk r (r0 .PWR_FROST) = true →
    let k := r0 .PWR_STATUS
    let running := s.b.parts.any (fun e => decide (e.2.state = .running) && e.2.man.framePaths)
    let why := if running then 1 else if (List.range 64).any (fun n => decide (s.b.dmaState n = 2)) then 2
      else if 1 ≤ s.b.cfgState ∧ s.b.cfgState ≤ 5 then 3 else if s.b.march.isSome then 4 else if s.b.pw.phase ≠ .ready then 5
      else if s.b.fld k F.PWR_STATUS_STATE ≠ 0 then 6 else 0
    (why ≠ 0 → ∃ t, exec (.frostEnter r) s = .next t ∧ t.b.bit k F.PWR_STATUS_REFUSED = true ∧ t.b.fld k F.PWR_STATUS_WHY = why ∧
      t.b.fld k F.PWR_STATUS_STATE = s.b.fld k F.PWR_STATUS_STATE ∧ s.b.onlyRegs t.b [k]) ∧
    (why = 0 → ∃ t, exec (.frostEnter r) s = .next t ∧ t.b.fld k F.PWR_STATUS_STATE = 1 ∧ t.b.pw = { s.b.pw with thawReq := false, byPacket := false } ∧
      s.b.onlyRegs { t.b with pw := s.b.pw } [k]) ∧
    (s.b.fld k F.PWR_STATUS_STATE = 2 → ∃ t, exec (.frostExit r) s = .next t ∧ t.b.fld k F.PWR_STATUS_STATE = 3 ∧ s.b.onlyRegs t.b [k]) ∧
    (s.b.fld k F.PWR_STATUS_STATE = 1 → ∃ t, exec (.frostExit r) s = .next t ∧ t.b = { s.b with pw := { s.b.pw with thawReq := true } }) ∧
    (s.b.fld k F.PWR_STATUS_STATE = 0 ∨ s.b.fld k F.PWR_STATUS_STATE = 3 → exec (.frostExit r) s = .next s)) ∧
  (∀ s : State,
    let k := r0 .PWR_STATUS
    let st := s.b.fld k F.PWR_STATUS_STATE
    (st ≠ 1 → exec .frostEntryComplete s = .next s) ∧
    (st = 1 → ∃ t, exec .frostEntryComplete s = .next t ∧ t.b.fld k F.PWR_STATUS_STATE = (if s.b.pw.thawReq then 3 else 2) ∧
      t.b.pw.thawReq = false ∧ ∀ p, s.b.hosts p = true → (t.b.part p).state = .frost ∧
        ∀ c ∈ (s.b.part p).clusters, ∀ n < 4, ∀ e ∈ (t.b.clu c).fmpQ n, e.present = true) ∧
    (st ≠ 3 → exec .thawComplete s = .next s) ∧
    (st = 3 → s.b.pw.warmReq = none → ∃ t, exec .thawComplete s = .next t ∧ t.b.fld k F.PWR_STATUS_STATE = 0 ∧
      t.b.fld k F.PWR_STATUS_FROSTS = min 65535 (s.b.fld k F.PWR_STATUS_FROSTS + 1) ∧ t.b.noc.wake = [] ∧
      t.b.noc.tx = s.b.noc.tx ++ s.b.noc.wake.flatMap (·.2) ∧
      t.b.fld (r0 .NOC_WAKE) F.NOC_WAKE_WAKES = (if s.b.pw.byPacket then min 65535 (s.b.fld (r0 .NOC_WAKE) F.NOC_WAKE_WAKES + 1)
        else s.b.fld (r0 .NOC_WAKE) F.NOC_WAKE_WAKES) ∧
      (∀ p, s.b.hosts p = true →
        let x := s.b.part p
        let y := if x.state = .frost then { x with state := x.preFrost, cyc := 8 * s.b.pw.ctl } else x
        (y.state ≠ .frozen ∨ x.needsFrame = false ∨ x.missing ≠ [] → t.b.part p = y) ∧
        (y.state = .frozen → x.needsFrame = false → t.b.bit (r1 .PART_FRZ_STATUS p) F.PART_FRZ_STATUS_DRAINED = true) ∧
        (y.state = .frozen → x.needsFrame = true → x.missing = [] → s.b.bit (r1 .PART_FRZ_STATUS p) F.PART_FRZ_STATUS_DRAINED = false →
          t.b.bit (r1 .PART_FRZ_STATUS p) F.PART_FRZ_STATUS_DRAINED = true ∧ (t.b.part p).base = x.base + 1 ∧ (t.b.part p).state = .frozen)) ∧
      ((∀ p, s.b.hosts p = true → (s.b.part p).base_ ≠ .frozen ∨ (s.b.part p).needsFrame = false ∨ (s.b.part p).missing ≠ []) → t.b.clus = s.b.clus)) ∧
    (∀ c, st = 3 → s.b.pw.warmReq = some c → ∃ t, exec .thawComplete s = .next t ∧ t.b.pw.phase = .boot ∧ t.b.pw.warmReq = none ∧
      t.b.fld (r0 .CTL_RST_CAUSE) F.CTL_RST_CAUSE_CAUSE = c % 16)) ∧
  (∀ (s : State) (sites : List (BitVec 8 × BitVec 8)) (power : BitVec 16), s.b.pw.phase ≠ .por → sites.length = 9 →
    let site := fun (k : Nat) => sites.getD k (0, 0)
    let temp := fun (k : Nat) => max (site k).1.toInt (site k).2.toInt
    let trips := (List.range 9).any (fun k => decide ((if 4 ≤ k ∧ k ≤ 7 then 100 else 110) ≤ temp k ∧
        (s.b.lastTemp k < (if 4 ≤ k ∧ k ≤ 7 then 100 else 110) ∨ s.b.pw.trip = false)) ||
      decide (5 < ((site k).1.toInt - (site k).2.toInt).natAbs ∧ (s.b.pw.mism[k]?.getD 0) + 1 = 10))
    let warn := (List.range 9).any (fun k => decide (s.b.warnTemp ≤ temp k))
    let calm := (List.range 9).all (fun k => decide (temp k ≤ s.b.warnTemp - 3))
    let crosses := (List.range 9).any (fun k => decide (s.b.throtTemp ≤ temp k) && !(s.b.pw.hot[k]?.getD false))
    let duty := s.b.fld (r0 .PWR_THROT) F.PWR_THROT_DUTY
    (trips = false → ∃ t, exec (.sensorRead sites power) s = .next t ∧ t.b.pw.throt = some s.b.throtTemp ∧
      (∀ k < 9, t.b.reg (r1 .PWR_TEMPk k) = BitVec.ofNat 32 (uNat 8 (max (sInt 8 (s.b.fld (r1 .PWR_TEMPk k) ⟨24, 8⟩)) (temp k)) * 2 ^ 24 +
        (site k).2.toNat * 256 + (site k).1.toNat)) ∧
      t.b.fld (r0 .PWR_POWER) F.PWR_POWER_NOW = power.toNat ∧
      t.b.fld (r0 .PWR_POWER) F.PWR_POWER_PEAK = max power.toNat (s.b.fld (r0 .PWR_POWER) F.PWR_POWER_PEAK) ∧
      t.b.pw.warned = (warn || (s.b.pw.warned && !calm)) ∧ t.b.pw.thermN = (s.b.pw.trip || t.b.pw.warned) ∧ (warn = true → s.b.pw.thermN = false → t.b.evtPend 250 = true) ∧
      t.b.fld (r0 .PWR_THROT) F.PWR_THROT_DUTY = (if crosses then max 1 duty else duty) ∧ (crosses = true → duty = 0 → t.b.evtPend 251 = true) ∧
      t.b.parts = s.b.parts ∧ t.b.clus = s.b.clus ∧ t.b.links = s.b.links ∧ t.b.flt = s.b.flt ∧ s.b.sameMem t.b) ∧
    (trips = true → (∀ n < 16, s.b.lnkState n ≠ 5 ∧ s.b.lnkState n ≠ 6) → ∃ t, exec (.sensorRead sites power) s = .next t ∧
      t.b.pw.trip = true ∧ t.b.pw.thermN = true ∧ t.b.pw.faultN = true ∧ s.b.logged t.b 5 0x11 0 0)) ∧
  (∀ (s : State) sites power, s.b.pw.phase = .por → exec (.sensorRead sites power) s = .next s) ∧
  (∀ s : State,
    let k := r0 .PWR_THROT
    let duty := s.b.fld k F.PWR_THROT_DUTY
    let top := min 12 (max 1 (s.b.fld k F.PWR_THROT_MAXDUTY))
    let limit := min 750 (max 100 (s.b.fld k F.PWR_THROT_PLIMIT))
    let now := s.b.fld (r0 .PWR_POWER) F.PWR_POWER_NOW
    let at_ := s.b.pw.throt.getD s.b.throtTemp
    let hot := (List.range 9).any (fun n => decide (at_ ≤ s.b.lastTemp n)) || decide (limit < now)
    let cool := (List.range 9).all (fun n => decide (s.b.lastTemp n < at_ - 3)) && decide (now + 20 ≤ limit)
    ∃ t, exec .throttleUpdate s = .next t ∧
      t.b.fld k F.PWR_THROT_DUTY = min top (if hot then duty + 1 else if cool then duty - 1 else duty) ∧
      (decide (t.b.fld k F.PWR_THROT_DUTY = 0) ≠ decide (duty = 0) → t.b.evtPend 251 = true ∧ t.b.bit (r0 .PWR_EVT) F.PWR_EVT_THROTTLE = true) ∧
      s.b.regsKept t.b [.PWR_THROT, .PWR_EVT, .EVT_PENDw] ∧ t.b.parts = s.b.parts ∧ t.b.clus = s.b.clus ∧ s.b.sameMem t.b) ∧
  (∀ (s : State) (idx : BitVec 8) (addr a2 : BitVec 7),
    let i := idx.toNat
    let word := if i ≤ 8 then s.b.reg (r1 .PWR_TEMPk i) else if i = 0x10 then s.b.reg (r0 .PWR_POWER) else if i = 0x11 then s.b.reg (r0 .PWR_STATUS)
      else if i = 0x12 then s.b.reg (r0 .CLK_STATUS) else if i = 0x13 then s.b.reg (r0 .FW_STATUS) else 0
    let up := decide (s.b.pw.phase = .boot ∨ s.b.pw.phase = .ready)
    (∀ q, up = false ∨ addr ≠ s.b.pw.i3c.getD 0x5A → exec (.i3cPrivateRead addr q) s = .next s) ∧
    (up = true → addr = s.b.pw.i3c.getD 0x5A →
      exec (.i3cPrivateRead addr (.word idx)) s = .next { s with b := { s.b with reply := leBytes 4 word.toNat } } ∧
      exec (.i3cPrivateRead addr .getInfo) s = .next { s with b := { s.b with reply := s.b.infoBytes } }) ∧
    (up = false → exec (.i3cEntdaa a2) s = .next s) ∧
    (up = true → exec (.i3cEntdaa a2) s = .next { s with b := { s.b with pw := { s.b.pw with i3c := some a2 } } }))

/-- For every command that is a write of one register: a requester whose page does not reach the register changes nothing; one that reaches it and lacks its role changes nothing but the audit log, which takes a type 0x04 entry with the offset and the word (and its SEQ registers, and event 7 at its threshold). The same for REGISTER_WRITE at the offset of a register that has no command of its own; there a write with the role puts the writable bits and clears the W1C bits named, but for an RWL register whose partition has left Winter state, which keeps its word. A write outside every register and window, and of the response buffer, changes nothing; a write of the request buffer is taken unless BUSY is 1 (R458). A register takes an aligned access of 4 bytes alone (R452). A write of BAR2 sets a word of a table entry of the function, whose control word masks or unmasks the vector (R451; its layout is log entry 164); a poisoned write is reported in the AER status of its function and changes nothing else (Table 15.1). The reads that are commands return zero and change nothing where the reader may not read the register. -/
def Obligations.RegisterWritesObeyRolesAndScopes : Prop :=
  (∀ (s : State) (i : Instr) (r : Requester) (k : RegKey) (v : Word), Instr.regWrite s.b i = some (r, k, v) →
    (s.b.reaches r k = false → exec i s = .next s) ∧
    (s.b.reaches r k = true → s.b.roleOk r k = false → ∃ t, exec i s = .next t ∧
      s.b.audited t.b 0x04 (s.b.roleOf r) (s.b.slotOf r) (idOf r) 0 (leBytes 4 k.addr ++ leBytes 4 v.toNat) ∧
      s.b.regsKept t.b [.SEC_AUDIT_SEQ_LO, .SEC_AUDIT_SEQ_HI, .EVT_PENDw] ∧
      (s.b.sec.nextSeq + 1 - s.b.sec.acked ≠ 98305 → t.b = { s.b with regs := t.b.regs, sec := t.b.sec }))) ∧
  (∀ (s : State) (r : Requester) (off : BitVec 26) (v : Word),
    (off.toNat % 4 = 0 → placeOf off.toNat = .nothing → exec (.registerWrite r false off (leBytes 4 v.toNat) false) s = .next s) ∧
    (∀ n, placeOf off.toNat = .response n → exec (.registerWrite r false off (leBytes 4 v.toNat) false) s = .next s) ∧
    (∀ n, placeOf off.toNat = .request n →
      let f := s.b.viaFn r
      let may := s.b.reaches r (r0 .MBX_CTRL) && !(s.b.func (fnOf f)).busy
      (may = false → exec (.registerWrite r false off (leBytes 4 v.toNat) false) s = .next s) ∧
      (may = true → ∃ t, exec (.registerWrite r false off (leBytes 4 v.toNat) false) s = .next t ∧
        t.b.func (fnOf f) = { s.b.func (fnOf f) with req := putBytes (s.b.func (fnOf f)).req (4 * n) (leBytes 4 v.toNat) } ∧
        (∀ g, g ≠ fnOf f → t.b.func g = s.b.func g) ∧ t.b = { s.b with funcs := t.b.funcs })) ∧
    (∀ k : RegKey, placeOf off.toNat = .reg k → k.name ∈ plainRegisters →
      (s.b.reaches r k = false → exec (.registerWrite r false off (leBytes 4 v.toNat) false) s = .next s) ∧
      (s.b.reaches r k = true → s.b.roleOk r k = false → ∃ t, exec (.registerWrite r false off (leBytes 4 v.toNat) false) s = .next t ∧
        s.b.audited t.b 0x04 (s.b.roleOf r) (s.b.slotOf r) (idOf r) 0 (leBytes 4 k.addr ++ leBytes 4 v.toNat) ∧
        s.b.regsKept t.b [.SEC_AUDIT_SEQ_LO, .SEC_AUDIT_SEQ_HI, .EVT_PENDw]) ∧
      (s.b.reaches r k = true → s.b.roleOk r k = true → s.b.unlocked k = true → ∃ t, exec (.registerWrite r false off (leBytes 4 v.toNat) false) s = .next t ∧
        t.b.reg k = k.name.merge (s.b.reg k) v ∧ s.b.onlyRegs t.b [k]) ∧
      (s.b.reaches r k = true → s.b.roleOk r k = true → s.b.unlocked k = false → exec (.registerWrite r false off (leBytes 4 v.toNat) false) s = .next s))) ∧
  (∀ (s : State) (r : Requester) (off : BitVec 26) (l : List Byte),
    let fn := fnOf r
    let v := off.toNat / 16
    let served := s.b.fnExists r && decide (s.b.pw.phase = .ready)
    let ok := served && decide (off.toNat % 4 = 0 ∧ l.length = 4 ∧ v < vectorsOf fn)
    (off.toNat % 4 ≠ 0 → off.toNat < 0x108000 ∨ 0x110000 ≤ off.toNat → exec (.registerWrite r false off l false) s = .next s) ∧
    (∀ k, placeOf off.toNat = .reg k → l.length ≠ 4 → exec (.registerWrite r false off l false) s = .next s) ∧
    (ok = false → exec (.registerWrite r true off l false) s = .next s) ∧
    (ok = true → off.toNat % 16 ≠ 12 → ∃ t, exec (.registerWrite r true off l false) s = .next t ∧
      NMap.get 0 (t.b.func fn).msixTab (off.toNat / 4) = BitVec.ofNat 32 (leNat l) ∧
      (∀ w, w ≠ off.toNat / 4 → NMap.get 0 (t.b.func fn).msixTab w = NMap.get 0 (s.b.func fn).msixTab w) ∧
      (∀ g, g ≠ fn → t.b.func g = s.b.func g) ∧ t.b = { s.b with funcs := t.b.funcs }) ∧
    (ok = true → off.toNat % 16 = 12 → (l.headD 0).getLsbD 0 = true → ∃ t, exec (.registerWrite r true off l false) s = .next t ∧
      t.b.func fn = { s.b.func fn with unmasked := (s.b.func fn).unmasked.filter (fun x => decide (x ≠ v)) } ∧
      (∀ g, g ≠ fn → t.b.func g = s.b.func g) ∧ t.b = { s.b with funcs := t.b.funcs }) ∧
    (ok = true → off.toNat % 16 = 12 → (l.headD 0).getLsbD 0 = false → exec (.registerWrite r true off l false) s = exec (.msixUnmask r (BitVec.ofNat 11 v)) s) ∧
    (∀ bar2, r = .pf0 ∨ isVf r = true → (served = false → exec (.registerWrite r bar2 off l true) s = .next s) ∧
      (served = true → ∃ t, exec (.registerWrite r bar2 off l true) s = .next t ∧ t.b.func fn = { s.b.func fn with aerPoison := true } ∧
        (∀ g, g ≠ fn → t.b.func g = s.b.func g) ∧ t.b = { s.b with funcs := t.b.funcs }))) ∧
  (∀ (s : State) (i : Instr) (r : Requester) (k : RegKey), Instr.regRead i = some (r, k) → s.b.mayRead r k = false →
    exec i s = .next { s with b := { s.b with reply := leBytes 4 0 } })
end

