-- ==== Sys2Proof/Laws/Map.lean ====
section
/-!
SUPPORT. Laws of the sparse stores: what a read finds after a write, and that the operations keep the canonical form.
-/
namespace Sys2Proof.Machine

variable {α β : Type}

/-! ## Reads after writes -/

@[simp] theorem NMap.find_nil (k : Nat) : NMap.find ([] : NMap α) k = none := rfl

@[simp] theorem NMap.find_cons (k j : Nat) (v : α) (m : NMap α) :
    NMap.find ((k, v) :: m) j = if k = j then some v else NMap.find m j := rfl

@[simp] theorem NMap.find_erase (m : NMap α) (k j : Nat) : NMap.find (m.erase k) j = if j = k then none else m.find j := by
  induction m with
  | nil => simp [NMap.erase]
  | cons e r ih =>
    obtain ⟨i, v⟩ := e
    unfold NMap.erase at ih ⊢
    by_cases h : i = k
    · subst h
      by_cases hj : j = i
      · simp_all [List.filter]
      · have : i ≠ j := fun h => hj h.symm
        simp_all [List.filter]
    · by_cases hj : j = k
      · subst hj; simp_all [List.filter]
      · simp_all [List.filter]

@[simp] theorem NMap.find_insert (m : NMap α) (k j : Nat) (v : α) (h : m.find k = none) :
    NMap.find (NMap.insert k v m) j = if j = k then some v else m.find j := by
  induction m with
  | nil =>
    by_cases hj : j = k
    · simp [NMap.insert, hj]
    · have : k ≠ j := fun h => hj h.symm
      simp [NMap.insert, hj, this]
  | cons e r ih =>
    obtain ⟨i, w⟩ := e
    simp only [NMap.find_cons] at h
    have hi : i ≠ k := by intro e; simp [e] at h
    simp only [hi, if_false] at h
    unfold NMap.insert
    by_cases hl : k < i
    · simp only [hl, if_true, NMap.find_cons]
      by_cases hj : j = k
      · simp [hj]
      · have : k ≠ j := fun h => hj h.symm
        simp [hj, this]
    · simp only [hl, if_false, NMap.find_cons, ih h]
      by_cases hj : j = k
      · subst hj; simp [hi]
      · simp [hj]

@[simp] theorem NMap.find_put (m : NMap α) (k j : Nat) (v : α) :
    NMap.find (m.put k v) j = if j = k then some v else m.find j := by
  unfold NMap.put
  rw [NMap.find_insert _ _ _ _ (by simp)]
  by_cases h : j = k <;> simp [h]

@[simp] theorem NMap.get_put (d : α) (m : NMap α) (k j : Nat) (v : α) :
    NMap.get d (m.put k v) j = if j = k then v else NMap.get d m j := by
  unfold NMap.get
  by_cases h : j = k <;> simp [h]

@[simp] theorem NMap.get_erase (d : α) (m : NMap α) (k j : Nat) :
    NMap.get d (m.erase k) j = if j = k then d else NMap.get d m j := by
  unfold NMap.get
  by_cases h : j = k <;> simp [h]

@[simp] theorem NMap.get_set [DecidableEq α] (d : α) (m : NMap α) (k j : Nat) (v : α) :
    NMap.get d (NMap.set d m k v) j = if j = k then v else NMap.get d m j := by
  unfold NMap.set
  by_cases hv : v = d
  · by_cases h : j = k <;> simp [hv, h]
  · simp [hv]

@[simp] theorem NMap.get_nil (d : α) (k : Nat) : NMap.get d [] k = d := rfl

/-- A read of a store with a range removed. -/
theorem NMap.get_clearRange (d : α) (m : NMap α) (lo len j : Nat) :
    NMap.get d (m.clearRange lo len) j = if lo ≤ j ∧ j < lo + len then d else NMap.get d m j := by
  unfold NMap.get
  induction m with
  | nil => simp [NMap.clearRange]
  | cons e r ih =>
    obtain ⟨i, v⟩ := e
    unfold NMap.clearRange at ih ⊢
    by_cases hi : i < lo ∨ lo + len ≤ i
    · rw [List.filter_cons_of_pos (by simpa using hi), NMap.find_cons, NMap.find_cons]
      by_cases hj : i = j
      · subst hj
        have : ¬(lo ≤ i ∧ i < lo + len) := by omega
        simp [this]
      · simp only [hj, if_false]; exact ih
    · rw [List.filter_cons_of_neg (by simpa using hi), NMap.find_cons, ih]
      by_cases hj : lo ≤ j ∧ j < lo + len
      · simp [hj]
      · have : i ≠ j := by omega
        simp [hj, this]

/-! ## The canonical form -/

/-- Every key of a store is above a bound, and no value is the unlisted one. -/
def NMap.above (d : α) (n : Nat) (m : NMap α) : Prop := ∀ e ∈ m, n < e.1 ∧ e.2 ≠ d

/-- The canonical form of a store with a first entry. -/
theorem NMap.wf_cons [DecidableEq α] (d : α) (k : Nat) (v : α) (m : NMap α) :
    NMap.wf d ((k, v) :: m) = true ↔ v ≠ d ∧ NMap.above d k m ∧ NMap.wf d m = true := by
  induction m generalizing k v with
  | nil => simp [NMap.wf, NMap.above]
  | cons e r ih =>
    obtain ⟨i, w⟩ := e
    have h : NMap.wf d ((k, v) :: (i, w) :: r) = (decide (v ≠ d) && decide (k < i) && NMap.wf d ((i, w) :: r)) := rfl
    rw [h]
    simp only [Bool.and_eq_true, decide_eq_true_eq, ih]
    constructor
    · rintro ⟨⟨hv, hk⟩, hw, ha, hr⟩
      refine ⟨hv, ?_, hw, ha, hr⟩
      intro e he
      rcases List.mem_cons.mp he with rfl | he
      · exact ⟨hk, hw⟩
      · exact ⟨Nat.lt_trans hk (ha e he).1, (ha e he).2⟩
    · rintro ⟨hv, ha, hw, ha', hr⟩
      exact ⟨⟨hv, (ha (i, w) (by simp)).1⟩, hw, ha', hr⟩

theorem NMap.wf_filter [DecidableEq α] (d : α) (p : Nat × α → Bool) (m : NMap α) (h : NMap.wf d m = true) :
    NMap.wf d (m.filter p) = true := by
  induction m with
  | nil => rfl
  | cons e r ih =>
    obtain ⟨k, v⟩ := e
    obtain ⟨hv, ha, hr⟩ := (NMap.wf_cons d k v r).mp h
    by_cases hp : p (k, v) = true
    · rw [List.filter_cons_of_pos hp, NMap.wf_cons]
      exact ⟨hv, fun e he => ha e (List.mem_filter.mp he).1, ih hr⟩
    · rw [List.filter_cons_of_neg hp]; exact ih hr

theorem NMap.wf_erase [DecidableEq α] (d : α) (m : NMap α) (k : Nat) (h : NMap.wf d m = true) : NMap.wf d (m.erase k) = true :=
  NMap.wf_filter d _ m h

theorem NMap.wf_clearRange [DecidableEq α] (d : α) (m : NMap α) (lo len : Nat) (h : NMap.wf d m = true) :
    NMap.wf d (m.clearRange lo len) = true := NMap.wf_filter d _ m h

theorem NMap.mem_insert (k : Nat) (v : α) (m : NMap α) (e : Nat × α) (h : e ∈ NMap.insert k v m) : e = (k, v) ∨ e ∈ m := by
  induction m with
  | nil => simpa [NMap.insert] using h
  | cons x r ih =>
    obtain ⟨i, w⟩ := x
    unfold NMap.insert at h
    split at h
    · simpa using h
    · rcases List.mem_cons.mp h with rfl | h
      · simp
      · rcases ih h with rfl | h
        · simp
        · simp [h]

theorem NMap.wf_insert [DecidableEq α] (d : α) (m : NMap α) (k : Nat) (v : α) (hv : v ≠ d) (hk : m.find k = none)
    (h : NMap.wf d m = true) : NMap.wf d (NMap.insert k v m) = true := by
  induction m with
  | nil => simpa [NMap.insert, NMap.wf] using hv
  | cons e r ih =>
    obtain ⟨i, w⟩ := e
    obtain ⟨hw, ha, hr⟩ := (NMap.wf_cons d i w r).mp h
    simp only [NMap.find_cons] at hk
    have hi : i ≠ k := by intro e; simp [e] at hk
    simp only [hi, if_false] at hk
    unfold NMap.insert
    split
    · rename_i hl
      rw [NMap.wf_cons]
      refine ⟨hv, ?_, h⟩
      intro e he
      rcases List.mem_cons.mp he with rfl | he
      · exact ⟨hl, hw⟩
      · exact ⟨Nat.lt_trans hl (ha e he).1, (ha e he).2⟩
    · rename_i hl
      rw [NMap.wf_cons]
      refine ⟨hw, ?_, ih hk hr⟩
      intro e he
      rcases NMap.mem_insert k v r e he with rfl | he
      · exact ⟨by omega, hv⟩
      · exact ha e he

theorem NMap.wf_put [DecidableEq α] (d : α) (m : NMap α) (k : Nat) (v : α) (hv : v ≠ d) (h : NMap.wf d m = true) :
    NMap.wf d (m.put k v) = true :=
  NMap.wf_insert d _ k v hv (by simp) (NMap.wf_erase d m k h)

/-- A write keeps the canonical form. -/
theorem NMap.wf_set [DecidableEq α] (d : α) (m : NMap α) (k : Nat) (v : α) (h : NMap.wf d m = true) :
    NMap.wf d (NMap.set d m k v) = true := by
  unfold NMap.set
  split
  · exact NMap.wf_erase d m k h
  · rename_i hv; exact NMap.wf_put d m k v hv h

/-! ## Loops -/

/-- What every turn of a loop keeps, the loop keeps. -/
theorem forEach_keeps {P : β → Prop} (l : List α) (b : β) (f : α → β → β) (hb : P b) (hf : ∀ a x, P x → P (f a x)) :
    P (forEach l b f) := by
  unfold forEach
  induction l generalizing b with
  | nil => exact hb
  | cons a r ih => exact ih (f a b) (hf a b hb)

@[simp] theorem forEach_nil (b : β) (f : α → β → β) : forEach [] b f = b := rfl

@[simp] theorem forEach_cons (a : α) (r : List α) (b : β) (f : α → β → β) : forEach (a :: r) b f = forEach r (f a b) f := rfl

end Sys2Proof.Machine
end

