-- ==== Sys2Proof/Laws/PerInstr.lean ====
section
/-!
SUPPORT. What holds of every command as syntax: no well-formed command is an access by a fan-out link, which carries streams and no accesses (R235).
-/
namespace Sys2Proof.Laws.Requests

/-- The requester of a well-formed command is never a fan-out link. -/
def Statement (i : Instr) : Prop := i.wf = true → i.requester ≠ some .fanout

/-- A requester that accesses BAR0 is no fan-out link. -/
theorem isBar_ne {r : Requester} (h : isBar r = true) : some r ≠ some Requester.fanout := by
  rintro ⟨⟩
  simp [isBar] at h

/-- A requester with a mailbox is no fan-out link. -/
theorem isMbxUser_ne {r : Requester} (h : isMbxUser r = true) : some r ≠ some Requester.fanout := by
  rintro ⟨⟩
  simp [isMbxUser] at h

/-- A PCIe function is no fan-out link. -/
theorem isPcie_ne {r : Requester} (h : isPcie r = true) : some r ≠ some Requester.fanout := by
  rintro ⟨⟩
  simp [isPcie] at h

theorem scheduleStep (p : PartNo) (found : List Finding) : Statement (.scheduleStep p found) := fun _ h => by cases h
theorem slipStep (p : PartNo) : Statement (.slipStep p) := fun _ h => by cases h
theorem nop (c : ClusterId) (b : BpNo) (w : BpArgs) : Statement (.nop c b w) := fun _ h => by cases h
theorem eval (c : ClusterId) (b : BpNo) (w : BpArgs) : Statement (.eval c b w) := fun _ h => by cases h
theorem evalq (c : ClusterId) (b : BpNo) (w : BpArgs) : Statement (.evalq c b w) := fun _ h => by cases h
theorem send (c : ClusterId) (b : BpNo) (w : BpArgs) : Statement (.send c b w) := fun _ h => by cases h
theorem evals (c : ClusterId) (b : BpNo) (w : BpArgs) : Statement (.evals c b w) := fun _ h => by cases h
theorem wait (c : ClusterId) (b : BpNo) (w : BpArgs) : Statement (.wait c b w) := fun _ h => by cases h
theorem trig (c : ClusterId) (b : BpNo) (w : BpArgs) : Statement (.trig c b w) := fun _ h => by cases h
theorem bpEnd (c : ClusterId) (b : BpNo) (w : BpArgs) : Statement (.bpEnd c b w) := fun _ h => by cases h
theorem equinox (p : PartNo) : Statement (.equinox p) := fun _ h => by cases h
theorem statePortTransfer (c : ClusterId) : Statement (.statePortTransfer c) := fun _ h => by cases h
theorem dcStart (p : PartNo) : Statement (.dcStart p) := fun _ h => by cases h
theorem routeLatch (p : PartNo) : Statement (.routeLatch p) := fun _ h => by cases h
theorem segmentReceive (n : LinkNo) (seg : Segment) : Statement (.segmentReceive n seg) := fun _ h => by cases h
theorem eqxWaitTimeout (p : PartNo) : Statement (.eqxWaitTimeout p) := fun _ h => by cases h
theorem freeze (r : Requester) (p : PartNo) : Statement (.freeze r p) := fun h => isBar_ne h
theorem freezeAt (r : Requester) (p : PartNo) : Statement (.freezeAt r p) := fun h => isBar_ne h
theorem resume (r : Requester) (p : PartNo) : Statement (.resume r p) := fun h => isBar_ne h
theorem freezeSymbolReceive (n : LinkNo) (y : FreezeSym) : Statement (.freezeSymbolReceive n y) := fun _ h => by cases h
theorem partMarginWrite (r : Requester) (p : PartNo) (v : Word) : Statement (.partMarginWrite r p v) := fun h => isBar_ne h
theorem cluSentCtrlWrite (r : Requester) (c : ClusterId) (v : Word) : Statement (.cluSentCtrlWrite r c v) := fun h => isBar_ne h
theorem faultRecordClear (r : Requester) (c : ClusterId) (v : Word) : Statement (.faultRecordClear r c v) := fun h => isBar_ne h
theorem weFaultClear (r : Requester) (c : ClusterId) (k : WeNo) (v : Word) : Statement (.weFaultClear r c k v) := fun h => isBar_ne h
theorem memFaultClear (r : Requester) (c : ClusterId) (v : Word) : Statement (.memFaultClear r c v) := fun h => isBar_ne h
theorem cluSpCtrlWrite (r : Requester) (c : ClusterId) (v : Word) : Statement (.cluSpCtrlWrite r c v) := fun h => isBar_ne h
theorem spCtrlTakeEffect (c : ClusterId) : Statement (.spCtrlTakeEffect c) := fun _ h => by cases h
theorem selectListWrite (r : Requester) (c : ClusterId) (j : BitVec 12) (v : Word) : Statement (.selectListWrite r c j v) := fun h => isBar_ne h
theorem loadBufferWrite (r : Requester) (c : ClusterId) (buf : Bool) (w : BitVec 8) (v : Word) : Statement (.loadBufferWrite r c buf w v) := fun h => isBar_ne ((Bool.and_eq_true _ _).mp h).1
theorem freeUnload (r : Requester) (c : ClusterId) (buf : Bool) : Statement (.freeUnload r c buf) := fun h => isBar_ne h
theorem fullLoad (r : Requester) (c : ClusterId) (buf : Bool) : Statement (.fullLoad r c buf) := fun h => isBar_ne h
theorem weNop (c : ClusterId) (k : WeNo) (w : WeArgs) : Statement (.weNop c k w) := fun _ h => by cases h
theorem add (c : ClusterId) (k : WeNo) (w : WeArgs) : Statement (.add c k w) := fun _ h => by cases h
theorem sub (c : ClusterId) (k : WeNo) (w : WeArgs) : Statement (.sub c k w) := fun _ h => by cases h
theorem and (c : ClusterId) (k : WeNo) (w : WeArgs) : Statement (.and c k w) := fun _ h => by cases h
theorem or (c : ClusterId) (k : WeNo) (w : WeArgs) : Statement (.or c k w) := fun _ h => by cases h
theorem xor (c : ClusterId) (k : WeNo) (w : WeArgs) : Statement (.xor c k w) := fun _ h => by cases h
theorem andn (c : ClusterId) (k : WeNo) (w : WeArgs) : Statement (.andn c k w) := fun _ h => by cases h
theorem shl (c : ClusterId) (k : WeNo) (w : WeArgs) : Statement (.shl c k w) := fun _ h => by cases h
theorem shr (c : ClusterId) (k : WeNo) (w : WeArgs) : Statement (.shr c k w) := fun _ h => by cases h
theorem sar (c : ClusterId) (k : WeNo) (w : WeArgs) : Statement (.sar c k w) := fun _ h => by cases h
theorem ror (c : ClusterId) (k : WeNo) (w : WeArgs) : Statement (.ror c k w) := fun _ h => by cases h
theorem bfxu (c : ClusterId) (k : WeNo) (w : WeArgs) : Statement (.bfxu c k w) := fun _ h => by cases h
theorem bfxs (c : ClusterId) (k : WeNo) (w : WeArgs) : Statement (.bfxs c k w) := fun _ h => by cases h
theorem bfi (c : ClusterId) (k : WeNo) (w : WeArgs) : Statement (.bfi c k w) := fun _ h => by cases h
theorem cmpeq (c : ClusterId) (k : WeNo) (w : WeArgs) : Statement (.cmpeq c k w) := fun _ h => by cases h
theorem cmplt (c : ClusterId) (k : WeNo) (w : WeArgs) : Statement (.cmplt c k w) := fun _ h => by cases h
theorem cmpltu (c : ClusterId) (k : WeNo) (w : WeArgs) : Statement (.cmpltu c k w) := fun _ h => by cases h
theorem min (c : ClusterId) (k : WeNo) (w : WeArgs) : Statement (.min c k w) := fun _ h => by cases h
theorem max (c : ClusterId) (k : WeNo) (w : WeArgs) : Statement (.max c k w) := fun _ h => by cases h
theorem abs (c : ClusterId) (k : WeNo) (w : WeArgs) : Statement (.abs c k w) := fun _ h => by cases h
theorem movi (c : ClusterId) (k : WeNo) (w : WeArgs) : Statement (.movi c k w) := fun _ h => by cases h
theorem movhi (c : ClusterId) (k : WeNo) (w : WeArgs) : Statement (.movhi c k w) := fun _ h => by cases h
theorem norm (c : ClusterId) (k : WeNo) (w : WeArgs) : Statement (.norm c k w) := fun _ h => by cases h
theorem expx (c : ClusterId) (k : WeNo) (w : WeArgs) : Statement (.expx c k w) := fun _ h => by cases h
theorem rnd (c : ClusterId) (k : WeNo) (w : WeArgs) : Statement (.rnd c k w) := fun _ h => by cases h
theorem pack (c : ClusterId) (k : WeNo) (w : WeArgs) : Statement (.pack c k w) := fun _ h => by cases h
theorem unpk (c : ClusterId) (k : WeNo) (w : WeArgs) : Statement (.unpk c k w) := fun _ h => by cases h
theorem movb (c : ClusterId) (k : WeNo) (w : WeArgs) : Statement (.movb c k w) := fun _ h => by cases h
theorem muls (c : ClusterId) (k : WeNo) (w : WeArgs) : Statement (.muls c k w) := fun _ h => by cases h
theorem mulu (c : ClusterId) (k : WeNo) (w : WeArgs) : Statement (.mulu c k w) := fun _ h => by cases h
theorem macs (c : ClusterId) (k : WeNo) (w : WeArgs) : Statement (.macs c k w) := fun _ h => by cases h
theorem macu (c : ClusterId) (k : WeNo) (w : WeArgs) : Statement (.macu c k w) := fun _ h => by cases h
theorem msus (c : ClusterId) (k : WeNo) (w : WeArgs) : Statement (.msus c k w) := fun _ h => by cases h
theorem mpya (c : ClusterId) (k : WeNo) (w : WeArgs) : Statement (.mpya c k w) := fun _ h => by cases h
theorem clra (c : ClusterId) (k : WeNo) (w : WeArgs) : Statement (.clra c k w) := fun _ h => by cases h
theorem lda (c : ClusterId) (k : WeNo) (w : WeArgs) : Statement (.lda c k w) := fun _ h => by cases h
theorem rnda (c : ClusterId) (k : WeNo) (w : WeArgs) : Statement (.rnda c k w) := fun _ h => by cases h
theorem moval (c : ClusterId) (k : WeNo) (w : WeArgs) : Statement (.moval c k w) := fun _ h => by cases h
theorem movah (c : ClusterId) (k : WeNo) (w : WeArgs) : Statement (.movah c k w) := fun _ h => by cases h
theorem norma (c : ClusterId) (k : WeNo) (w : WeArgs) : Statement (.norma c k w) := fun _ h => by cases h
theorem rep (c : ClusterId) (k : WeNo) (w : WeArgs) : Statement (.rep c k w) := fun _ h => by cases h
theorem weResultLand (c : ClusterId) (k : WeNo) (checkFails : Bool) : Statement (.weResultLand c k checkFails) := fun _ h => by cases h
theorem weRegisterWrite (r : Requester) (c : ClusterId) (k : WeNo) (w : BitVec 8) (v : Word) : Statement (.weRegisterWrite r c k w v) := fun h => isBar_ne ((Bool.and_eq_true _ _).mp h).1
theorem weLoopStateWrite (r : Requester) (c : ClusterId) (k : WeNo) (w : BitVec 4) (v : Word) : Statement (.weLoopStateWrite r c k w v) := fun h => isBar_ne ((Bool.and_eq_true _ _).mp h).1
theorem dmbRd (c : ClusterId) (j : BitVec 3) (o : OpArgs) (e : Ecc) : Statement (.dmbRd c j o e) := fun _ h => by cases h
theorem dmbWr (c : ClusterId) (j : BitVec 3) (o : OpArgs) (e : Ecc) : Statement (.dmbWr c j o e) := fun _ h => by cases h
theorem fmpRd (c : ClusterId) (j : BitVec 3) (o : OpArgs) : Statement (.fmpRd c j o) := fun _ h => by cases h
theorem fmpWr (c : ClusterId) (j : BitVec 3) (o : OpArgs) : Statement (.fmpWr c j o) := fun _ h => by cases h
theorem fmpMsg (c : ClusterId) (j : BitVec 3) (o : OpArgs) : Statement (.fmpMsg c j o) := fun _ h => by cases h
theorem deferredPortOp (c : ClusterId) : Statement (.deferredPortOp c) := fun _ h => by cases h
theorem dmbReadReturn (c : ClusterId) : Statement (.dmbReadReturn c) := fun _ h => by cases h
theorem fmpResponseArrival (c : ClusterId) (n : FmpNo) (cls : Bool) (found : List (BitVec 3 × Ecc)) : Statement (.fmpResponseArrival c n cls found) := fun _ h => by cases h
theorem waitComplete (c : ClusterId) (b : BpNo) (q : BitVec 4) : Statement (.waitComplete c b q) := fun _ h => by cases h
theorem dramRefresh (s : BitVec 2) : Statement (.dramRefresh s) := fun _ h => by cases h
theorem flush (r : Requester) (c : ClusterId) : Statement (.flush r c) := fun h => isBar_ne h
theorem flushComplete (c : ClusterId) : Statement (.flushComplete c) := fun _ h => by cases h
theorem freeSlotAccess (c : ClusterId) (st : StoreSel) (odd : Bool) : Statement (.freeSlotAccess c st odd) := fun _ h => by cases h
theorem hzClear (r : Requester) (c : ClusterId) : Statement (.hzClear r c) := fun h => isBar_ne h
theorem hzBudgetWrite (r : Requester) (c : ClusterId) (v : Word) : Statement (.hzBudgetWrite r c v) := fun h => isBar_ne h
theorem cfgStart (r : Requester) : Statement (.cfgStart r) := fun h => isBar_ne h
theorem endStream (r : Requester) : Statement (.endStream r) := fun h => isBar_ne h
theorem commit (r : Requester) : Statement (.commit r) := fun h => isBar_ne h
theorem clrErr (r : Requester) : Statement (.clrErr r) := fun h => isBar_ne h
theorem streamWrite (r : Requester) (off : BitVec 15) (bytes : List Byte) : Statement (.streamWrite r off bytes) := fun h => isBar_ne ((Bool.and_eq_true _ _).mp h).1
theorem imageHeader (key : Bool) : Statement (.imageHeader key) := fun _ h => by cases h
theorem manifest : Statement (.manifest) := fun _ h => by cases h
theorem store : Statement (.store) := fun _ h => by cases h
theorem fill : Statement (.fill) := fun _ h => by cases h
theorem regs : Statement (.regs) := fun _ h => by cases h
theorem queue : Statement (.queue) := fun _ h => by cases h
theorem firmware : Statement (.firmware) := fun _ h => by cases h
theorem endFrame : Statement (.endFrame) := fun _ h => by cases h
theorem loadTimeout : Statement (.loadTimeout) := fun _ h => by cases h
theorem endMark (n : LinkNo) : Statement (.endMark n) := fun _ h => by cases h
theorem fanoutReport (n : LinkNo) (ok : BitVec 11) (fail : BitVec 11) (dev : DeviceId) (code : BitVec 8) : Statement (.fanoutReport n ok fail dev code) := fun _ h => by cases h
theorem fanoutReportTimeout (n : LinkNo) : Statement (.fanoutReportTimeout n) := fun _ h => by cases h
theorem scrubRead (c : ClusterId) (st : StoreSel) (f : ScrubFinding) : Statement (.scrubRead c st f) := fun _ h => by cases h
theorem scrubWriteBack (c : ClusterId) (st : StoreSel) : Statement (.scrubWriteBack c st) := fun _ h => by cases h
theorem cfgScrubCtrlWrite (r : Requester) (v : Word) : Statement (.cfgScrubCtrlWrite r v) := fun h => isBar_ne h
theorem bulkRead (r : Requester) (off : BitVec 25) (len : BitVec 7) : Statement (.bulkRead r off len) := fun h => isBar_ne ((Bool.and_eq_true _ _).mp h).1
theorem bulkWrite (r : Requester) (off : BitVec 25) (bytes : List Byte) : Statement (.bulkWrite r off bytes) := fun h => isBar_ne ((Bool.and_eq_true _ _).mp h).1
theorem downTimeout (n : LinkNo) : Statement (.downTimeout n) := fun _ h => by cases h
theorem detectionPatternSeen (n : LinkNo) : Statement (.detectionPatternSeen n) := fun _ h => by cases h
theorem detectTimeout (n : LinkNo) : Statement (.detectTimeout n) := fun _ h => by cases h
theorem trainComplete (n : LinkNo) : Statement (.trainComplete n) := fun _ h => by cases h
theorem alignComplete (n : LinkNo) : Statement (.alignComplete n) := fun _ h => by cases h
theorem configExchange (n : LinkNo) (x : ConfigInfo) : Statement (.configExchange n x) := fun _ h => by cases h
theorem trainingAttemptTimeout (n : LinkNo) : Statement (.trainingAttemptTimeout n) := fun _ h => by cases h
theorem retrain (r : Requester) (n : LinkNo) : Statement (.retrain r n) := fun h => isBar_ne h
theorem lnkCtrlEnWrite (r : Requester) (n : LinkNo) (v : Word) : Statement (.lnkCtrlEnWrite r n v) := fun h => isBar_ne h
theorem lnkDevidWrite (r : Requester) (v : Word) : Statement (.lnkDevidWrite r v) := fun h => isBar_ne h
theorem flitTransmit (n : LinkNo) : Statement (.flitTransmit n) := fun _ h => by cases h
theorem flitReceive (n : LinkNo) (f : BitVec 512) (corrected : BitVec 4) (uncorrectable : Bool) (stamp answer : Stamp) : Statement (.flitReceive n f corrected uncorrectable stamp answer) := fun _ h => by cases h
theorem nakReceive (n : LinkNo) (ack : BitVec 12) : Statement (.nakReceive n ack) := fun _ h => by cases h
theorem nakResendTimeout (n : LinkNo) : Statement (.nakResendTimeout n) := fun _ h => by cases h
theorem alignmentLoss (n : LinkNo) : Statement (.alignmentLoss n) := fun _ h => by cases h
theorem lossOfSignal (n : LinkNo) : Statement (.lossOfSignal n) := fun _ h => by cases h
theorem pathHoldEnd (n : LinkNo) : Statement (.pathHoldEnd n) := fun _ h => by cases h
theorem pathHold (n : LinkNo) (y : PathSym) : Statement (.pathHold n y) := fun _ h => by cases h
theorem pathDown (n : LinkNo) (y : PathSym) : Statement (.pathDown n y) := fun _ h => by cases h
theorem linkReset (n : LinkNo) : Statement (.linkReset n) := fun _ h => by cases h
theorem fecWindow (n : LinkNo) : Statement (.fecWindow n) := fun _ h => by cases h
theorem timerExpire (k : BitVec 3) : Statement (.timerExpire k) := fun _ h => by cases h
theorem timerArm (r : Requester) (k : BitVec 3) (v : Word) : Statement (.timerArm r k v) := fun h => isBar_ne h
theorem timerDisarm (r : Requester) (k : BitVec 3) : Statement (.timerDisarm r k) := fun h => isBar_ne h
theorem timSet (r : Requester) : Statement (.timSet r) := fun h => isBar_ne h
theorem relock (r : Requester) : Statement (.relock r) := fun h => isBar_ne h
theorem timCtrlWrite (r : Requester) (v : Word) : Statement (.timCtrlWrite r v) := fun h => isBar_ne h
theorem sync (n : LinkNo) (b : SyncBody) (stamp : Stamp) : Statement (.sync n b stamp) := fun _ h => by cases h
theorem fupHi (n : LinkNo) (dom : Bool) (seq : BitVec 16) (void : Bool) (sec : BitVec 48) : Statement (.fupHi n dom seq void sec) := fun _ h => by cases h
theorem fupLo (n : LinkNo) (dom : Bool) (seq : BitVec 16) (nsf : BitVec 48) : Statement (.fupLo n dom seq nsf) := fun _ h => by cases h
theorem pdlyReq (n : LinkNo) (dom : Bool) (seq : BitVec 16) (t2 t3 : Stamp) : Statement (.pdlyReq n dom seq t2 t3) := fun _ h => by cases h
theorem pdlyResp (n : LinkNo) (dom : Bool) (seq : BitVec 16) (t4 : Stamp) : Statement (.pdlyResp n dom seq t4) := fun _ h => by cases h
theorem pdlyFup (n : LinkNo) (dom : Bool) (seq : BitVec 16) (void : Bool) (turn : BitVec 64) : Statement (.pdlyFup n dom seq void turn) := fun _ h => by cases h
theorem announce (n : LinkNo) (b : AnnounceBody) : Statement (.announce n b) := fun _ h => by cases h
theorem syncInterval (n : LinkNo) (dom : Bool) (egress : Stamp) : Statement (.syncInterval n dom egress) := fun _ h => by cases h
theorem pdelayInterval (n : LinkNo) (dom : Bool) (egress : Stamp) : Statement (.pdelayInterval n dom egress) := fun _ h => by cases h
theorem announceInterval (n : LinkNo) (dom : Bool) : Statement (.announceInterval n dom) := fun _ h => by cases h
theorem syncPairTimeout (n : LinkNo) (dom : Bool) : Statement (.syncPairTimeout n dom) := fun _ h => by cases h
theorem masterLoss : Statement (.masterLoss) := fun _ h => by cases h
theorem mgmtSync (annexC : Bool) (domNum : BitVec 8) (seq : BitVec 16) (stamp : Stamp) : Statement (.mgmtSync annexC domNum seq stamp) := fun _ h => by cases h
theorem mgmtFollowUp (annexC : Bool) (domNum : BitVec 8) (seq : BitVec 16) (t1 : Stamp) (t3 : Stamp) : Statement (.mgmtFollowUp annexC domNum seq t1 t3) := fun _ h => by cases h
theorem mgmtDelayResp (annexC : Bool) (domNum : BitVec 8) (seq : BitVec 16) (t4 : Stamp) : Statement (.mgmtDelayResp annexC domNum seq t4) := fun _ h => by cases h
theorem mgmtAnnounce (annexC : Bool) (domNum : BitVec 8) (steps : BitVec 16) (gmClass : BitVec 8) (gm : BitVec 64) (traceable : Bool) : Statement (.mgmtAnnounce annexC domNum steps gmClass gm traceable) := fun _ h => by cases h
theorem ppsInEdge (stamp : Stamp) : Statement (.ppsInEdge stamp) := fun _ h => by cases h
theorem referenceInputLoss (ref10m : Bool) : Statement (.referenceInputLoss ref10m) := fun _ h => by cases h
theorem ppsOutEdge : Statement (.ppsOutEdge) := fun _ h => by cases h
theorem ppsOutFall : Statement (.ppsOutFall) := fun _ h => by cases h
theorem eventInputEdge (n : BitVec 3) (rising : Bool) (stamp : Stamp) : Statement (.eventInputEdge n rising stamp) := fun _ h => by cases h
theorem eviQueuePop (r : Requester) (n : BitVec 3) : Statement (.eviQueuePop r n) := fun h => isBar_ne h
theorem timeReadLatch (r : Requester) : Statement (.timeReadLatch r) := fun h => isBar_ne h
theorem fragmentApply (unit : Ecc) : Statement (.fragmentApply unit) := fun _ h => by cases h
theorem post (r : Requester) (n : BitVec 10) (v : Word) : Statement (.post r n v) := fun h => isBar_ne h
theorem retireNotify (r : Requester) (n : BitVec 10) (v : Word) : Statement (.retireNotify r n v) := fun h => isBar_ne h
theorem dispatch (unit : Ecc) : Statement (.dispatch unit) := fun _ h => by cases h
theorem entryExpire (chan : BitVec 10) (tag : BitVec 16) : Statement (.entryExpire chan tag) := fun _ h => by cases h
theorem spill : Statement (.spill) := fun _ h => by cases h
theorem refill (found : List (BitVec 6 × Ecc)) : Statement (.refill found) := fun _ h => by cases h
theorem spillSweep (found : List (BitVec 6 × Ecc)) : Statement (.spillSweep found) := fun _ h => by cases h
theorem stallQuiescent : Statement (.stallQuiescent) := fun _ h => by cases h
theorem nheadRead (r : Requester) (n : BitVec 10) : Statement (.nheadRead r n) := fun h => isBar_ne h
theorem releasePassComplete (n : BitVec 10) : Statement (.releasePassComplete n) := fun _ h => by cases h
theorem dmaStart (r : Requester) (n : BitVec 6) (slot : BitVec 10) : Statement (.dmaStart r n slot) := fun h => isBar_ne h
theorem dmaArm (r : Requester) (n : BitVec 6) : Statement (.dmaArm r n) := fun h => isBar_ne h
theorem dmaAbort (r : Requester) (n : BitVec 6) : Statement (.dmaAbort r n) := fun h => isBar_ne h
theorem dmaClear (r : Requester) (n : BitVec 6) : Statement (.dmaClear r n) := fun h => isBar_ne h
theorem abortComplete (n : BitVec 6) : Statement (.abortComplete n) := fun _ h => by cases h
theorem dmaTriggerStart (n : BitVec 6) (unit : Ecc) : Statement (.dmaTriggerStart n unit) := fun _ h => by cases h
theorem move (n : BitVec 6) (fetch : Ecc) (data : Found) : Statement (.move n fetch data) := fun _ h => by cases h
theorem loop (n : BitVec 6) (fetch : Ecc) : Statement (.loop n fetch) := fun _ h => by cases h
theorem dmaWait (n : BitVec 6) (fetch : Ecc) : Statement (.dmaWait n fetch) := fun _ h => by cases h
theorem signal (n : BitVec 6) (fetch : Ecc) (data : Found) : Statement (.signal n fetch data) := fun _ h => by cases h
theorem dmaEnd (n : BitVec 6) (fetch : Ecc) (data : Found) : Statement (.dmaEnd n fetch data) := fun _ h => by cases h
theorem dmaWaitComplete (n : BitVec 6) (unit : Ecc) : Statement (.dmaWaitComplete n unit) := fun _ h => by cases h
theorem dmaWaitTimeout (n : BitVec 6) : Statement (.dmaWaitTimeout n) := fun _ h => by cases h
theorem dmaWriteAck (n : BitVec 6) : Statement (.dmaWriteAck n) := fun _ h => by cases h
theorem dmaSlotOwnWrite (r : Requester) (s : BitVec 10) (v : Word) : Statement (.dmaSlotOwnWrite r s v) := fun h => isBar_ne h
theorem slotHandoverEnd (s : BitVec 10) : Statement (.slotHandoverEnd s) := fun _ h => by cases h
theorem programStoreWrite (r : Requester) (w : BitVec 16) (words : List Word) : Statement (.programStoreWrite r w words) := fun h => isBar_ne ((Bool.and_eq_true _ _).mp h).1
theorem dmaCfgWrite (r : Requester) (n : BitVec 6) (v : Word) : Statement (.dmaCfgWrite r n v) := fun h => isBar_ne h
theorem packetEject (net : BitVec 2) (pkt : Packet) (header : Ecc) (words : Found) (unit : Ecc) : Statement (.packetEject net pkt header words unit) := fun _ h => by cases h
theorem retry (t : Terminal) (txn : BitVec 12) : Statement (.retry t txn) := fun _ h => by cases h
theorem requestReissue (t : Terminal) : Statement (.requestReissue t) := fun _ h => by cases h
theorem requestAnswerTimeout (t : Terminal) (txn : BitVec 12) : Statement (.requestAnswerTimeout t txn) := fun _ h => by cases h
theorem wakePacket (d : FrostDomain) (net : BitVec 2) (pkt : Packet) : Statement (.wakePacket d net pkt) := fun _ h => by cases h
theorem sspOwnWrite (r : Requester) (b : BitVec 6) (v : Word) : Statement (.sspOwnWrite r b v) := fun h => isBar_ne h
theorem sspHandoverEnd (b : BitVec 6) : Statement (.sspHandoverEnd b) := fun _ h => by cases h
theorem sspPwrWrite (r : Requester) (b : BitVec 6) (v : Word) : Statement (.sspPwrWrite r b v) := fun h => isBar_ne h
theorem sspPowerChangeDone (b : BitVec 6) : Statement (.sspPowerChangeDone b) := fun _ h => by cases h
theorem marchStart (r : Requester) : Statement (.marchStart r) := fun h => isBar_ne h
theorem marchAbort (r : Requester) : Statement (.marchAbort r) := fun h => isBar_ne h
theorem marchDone (fails : List MarchFail) : Statement (.marchDone fails) := fun _ h => by cases h
theorem hitArrival (p : PartNo) (dc : BitVec 64) (unit : Ecc) : Statement (.hitArrival p dc unit) := fun _ h => by cases h
theorem arm (r : Requester) (t : BitVec 5) : Statement (.arm r t) := fun h => isBar_ne h
theorem disarm (r : Requester) (t : BitVec 5) : Statement (.disarm r t) := fun h => isBar_ne h
theorem force (r : Requester) (t : BitVec 5) : Statement (.force r t) := fun h => isBar_ne h
theorem trgOutOwnWrite (r : Requester) (t : BitVec 5) (v : Word) : Statement (.trgOutOwnWrite r t v) := fun h => isBar_ne h
theorem qualifierCfgWrite (r : Requester) (q : BitVec 4) (reg : BitVec 2) (v : Word) : Statement (.qualifierCfgWrite r q reg v) := fun h => isBar_ne h
theorem stepBreakArm (r : Requester) (p : PartNo) (v : Word) : Statement (.stepBreakArm r p v) := fun h => isBar_ne h
theorem traceStart (r : Requester) (x : BitVec 4) : Statement (.traceStart r x) := fun h => isBar_ne h
theorem traceStop (r : Requester) (x : BitVec 4) : Statement (.traceStop r x) := fun h => isBar_ne h
theorem traceReturn (r : Requester) (x : BitVec 4) : Statement (.traceReturn r x) := fun h => isBar_ne h
theorem traceFlush (r : Requester) (x : BitVec 4) : Statement (.traceFlush r x) := fun h => isBar_ne h
theorem pagePost (r : Requester) (x : BitVec 4) (v : Word) : Statement (.pagePost r x v) := fun h => isBar_ne h
theorem doneRead (r : Requester) (x : BitVec 4) : Statement (.doneRead r x) := fun h => isBar_ne h
theorem vptTrainStart : Statement (.vptTrainStart) := fun _ h => by cases h
theorem vptTrainDone (locked : Bool) : Statement (.vptTrainDone locked) := fun _ h => by cases h
theorem vptLockLoss : Statement (.vptLockLoss) := fun _ h => by cases h
theorem vptOwnWrite (r : Requester) (ch : BitVec 12) (v : Word) : Statement (.vptOwnWrite r ch v) := fun h => isBar_ne h
theorem vptCtrlWrite (r : Requester) (v : Word) : Statement (.vptCtrlWrite r v) := fun h => isBar_ne h
theorem smpFrame (f : VptFrame) (unit : Ecc) : Statement (.smpFrame f unit) := fun _ h => by cases h
theorem sampleTimeout (p : PartNo) (dc : BitVec 32) : Statement (.sampleTimeout p dc) := fun _ h => by cases h
theorem vptStateFrame (p : PartNo) : Statement (.vptStateFrame p) := fun _ h => by cases h
theorem flr (r : Requester) : Statement (.flr r) := fun h => isPcie_ne h
theorem msixUnmask (r : Requester) (vec : BitVec 11) : Statement (.msixUnmask r vec) := fun h => isPcie_ne ((Bool.and_eq_true _ _).mp h).1
theorem go (r : Requester) : Statement (.go r) := fun h => isMbxUser_ne h
theorem mgmtMailboxDatagram (port : BitVec 16) (bytes : List Byte) : Statement (.mgmtMailboxDatagram port bytes) := fun _ h => by cases h
theorem getInfo (r : Requester) : Statement (.getInfo r) := fun h => isMbxUser_ne h
theorem sessionChallenge (r : Requester) (nonce : BitVec 384) : Statement (.sessionChallenge r nonce) := fun h => isMbxUser_ne h
theorem sessionRespond (r : Requester) (key : Bool) : Statement (.sessionRespond r key) := fun h => isMbxUser_ne h
theorem sessionLogout (r : Requester) : Statement (.sessionLogout r) := fun h => isMbxUser_ne h
theorem lockoutEnd (r : Requester) : Statement (.lockoutEnd r) := fun h => isMbxUser_ne h
theorem fwWrite (r : Requester) (flashOk : Bool) : Statement (.fwWrite r flashOk) := fun h => isMbxUser_ne h
theorem fwCommit (r : Requester) : Statement (.fwCommit r) := fun h => isMbxUser_ne h
theorem fwConfirm (r : Requester) : Statement (.fwConfirm r) := fun h => isMbxUser_ne h
theorem fwSelect (r : Requester) : Statement (.fwSelect r) := fun h => isMbxUser_ne h
theorem settingsSave (r : Requester) (flashOk : Bool) : Statement (.settingsSave r flashOk) := fun h => isMbxUser_ne h
theorem settingsDefault (r : Requester) : Statement (.settingsDefault r) := fun h => isMbxUser_ne h
theorem mbxReset (r : Requester) : Statement (.mbxReset r) := fun h => isMbxUser_ne h
theorem auditRead (r : Requester) : Statement (.auditRead r) := fun h => isMbxUser_ne h
theorem auditHead (r : Requester) (k : BitVec 384) : Statement (.auditHead r k) := fun h => isMbxUser_ne h
theorem auditAck (r : Requester) : Statement (.auditAck r) := fun h => isMbxUser_ne h
theorem getIdentity (r : Requester) : Statement (.getIdentity r) := fun h => isMbxUser_ne h
theorem installerEnroll (r : Requester) : Statement (.installerEnroll r) := fun h => isMbxUser_ne h
theorem keyProvision (r : Requester) (key : Bool) : Statement (.keyProvision r key) := fun h => isMbxUser_ne h
theorem keyRevoke (r : Requester) : Statement (.keyRevoke r) := fun h => isMbxUser_ne h
theorem calApply (r : Requester) (key : Bool) : Statement (.calApply r key) := fun h => isMbxUser_ne h
theorem calRead (r : Requester) : Statement (.calRead r) := fun h => isMbxUser_ne h
theorem calClear (r : Requester) : Statement (.calClear r) := fun h => isMbxUser_ne h
theorem fuseWrite (r : Requester) : Statement (.fuseWrite r) := fun h => isMbxUser_ne h
theorem debugUnlock (r : Requester) : Statement (.debugUnlock r) := fun h => isMbxUser_ne h
theorem auditMirrorWrite (flashOk : Bool) : Statement (.auditMirrorWrite flashOk) := fun _ h => by cases h
theorem semAcq (r : Requester) (n : BitVec 6) : Statement (.semAcq r n) := fun h => isBar_ne h
theorem semRel (r : Requester) (n : BitVec 6) : Statement (.semRel r n) := fun h => isBar_ne h
theorem semForce (r : Requester) (n : BitVec 6) : Statement (.semForce r n) := fun h => isBar_ne h
theorem conservationCheck (code : BitVec 4) (unit : BitVec 15) (imbalance : Bool) : Statement (.conservationCheck code unit imbalance) := fun _ h => by cases h
theorem hkcRestart : Statement (.hkcRestart) := fun _ h => by cases h
theorem release (r : Requester) : Statement (.release r) := fun h => isBar_ne h
theorem clearOvf (r : Requester) : Statement (.clearOvf r) := fun h => isBar_ne h
theorem clearCorr (r : Requester) : Statement (.clearCorr r) := fun h => isBar_ne h
theorem coldReset : Statement (.coldReset) := fun _ h => by cases h
theorem porRelease : Statement (.porRelease) := fun _ h => by cases h
theorem rootPllLock : Statement (.rootPllLock) := fun _ h => by cases h
theorem firmwareReady (b : BootReport) : Statement (.firmwareReady b) := fun _ h => by cases h
theorem warmReset (cause : BitVec 4) : Statement (.warmReset cause) := fun _ h => by cases h
theorem clockFault (fail : BitVec 7) : Statement (.clockFault fail) := fun _ h => by cases h
theorem referenceLoss : Statement (.referenceLoss) := fun _ h => by cases h
theorem railFault : Statement (.railFault) := fun _ h => by cases h
theorem partitionReset (r : Requester) (w : BitVec 3) (v : Word) : Statement (.partitionReset r w v) := fun h => isBar_ne h
theorem partitionResetDone (p : PartNo) : Statement (.partitionResetDone p) := fun _ h => by cases h
theorem frostEnter (r : Requester) : Statement (.frostEnter r) := fun h => isBar_ne h
theorem frostEntryComplete : Statement (.frostEntryComplete) := fun _ h => by cases h
theorem frostExit (r : Requester) : Statement (.frostExit r) := fun h => isBar_ne h
theorem thawComplete : Statement (.thawComplete) := fun _ h => by cases h
theorem sensorRead (sites : List (BitVec 8 × BitVec 8)) (power : BitVec 16) : Statement (.sensorRead sites power) := fun _ h => by cases h
theorem throttleUpdate : Statement (.throttleUpdate) := fun _ h => by cases h
theorem i3cPrivateRead (addr : BitVec 7) (q : I3cReq) : Statement (.i3cPrivateRead addr q) := fun _ h => by cases h
theorem registerWrite (r : Requester) (bar2 : Bool) (off : BitVec 26) (bytes : List Byte) (poisoned : Bool) : Statement (.registerWrite r bar2 off bytes poisoned) := fun h => isBar_ne ((Bool.and_eq_true _ _).mp ((Bool.and_eq_true _ _).mp h).1).1
theorem tapInstruction (ir : BitVec 8) : Statement (.tapInstruction ir) := fun _ h => by cases h
theorem timeCounterMismatch : Statement (.timeCounterMismatch) := fun _ h => by cases h
theorem eventOutputPulseEnd (n : BitVec 3) : Statement (.eventOutputPulseEnd n) := fun _ h => by cases h
theorem fireTimestampRead (r : Requester) (t : BitVec 5) : Statement (.fireTimestampRead r t) := fun h => isBar_ne h
theorem ref10mCountWindow (count : BitVec 32) : Statement (.ref10mCountWindow count) := fun _ h => by cases h
theorem i3cEntdaa (addr : BitVec 7) : Statement (.i3cEntdaa addr) := fun _ h => by cases h
theorem pcieCompletion (n : BitVec 6) (ok : Bool) (data : List Byte) : Statement (.pcieCompletion n ok data) := fun _ h => by cases h
theorem pcieConfigRequest (q : PcieReq) : Statement (.pcieConfigRequest q) := fun _ h => by cases h

end Sys2Proof.Laws.Requests
end

