-- ==== Sys2Proof/Laws/Regs.lean ====
section
/-!
SUPPORT. Laws of the register file and of the fields of a register.
-/
namespace Sys2Proof.Machine

/-! ## The order of the registers -/

theorem RegName.ctorIdx_inj {a b : RegName} (h : a.ctorIdx = b.ctorIdx) : a = b := by
  have ha := RegName.ofNat_ctorIdx a
  have hb := RegName.ofNat_ctorIdx b
  rw [← ha, ← hb, h]

theorem RegKey.before_irrefl (a : RegKey) : a.before a = false := by simp [RegKey.before]

theorem RegKey.before_trans {a b c : RegKey} (h : a.before b = true) (g : b.before c = true) : a.before c = true := by
  unfold RegKey.before at *
  split_ifs at * <;> simp_all <;> omega

/-- Two registers are in order one way or the other, or the same. -/
theorem RegKey.before_total {a b : RegKey} (h : a.before b = false) (n : a ≠ b) : b.before a = true := by
  obtain ⟨an, ai, aj, ak⟩ := a
  obtain ⟨bn, bi, bj, bk⟩ := b
  unfold RegKey.before at *
  have e : an.ctorIdx = bn.ctorIdx → an = bn := RegName.ctorIdx_inj
  simp only at *
  by_cases h1 : an.ctorIdx = bn.ctorIdx
  · by_cases h2 : ai = bi
    · by_cases h3 : aj = bj
      · have h4 : ak ≠ bk := fun h4 => n (by rw [e h1, h2, h3, h4])
        simp only [h1, h2, h3, ne_eq, not_true_eq_false, if_false, decide_eq_false_iff_not, decide_eq_true_eq] at h ⊢
        omega
      · have h3' : bj ≠ aj := fun x => h3 x.symm
        simp only [h1, h2, h3, h3', ne_eq, not_true_eq_false, not_false_eq_true, if_false, if_true, decide_eq_false_iff_not, decide_eq_true_eq] at h ⊢
        omega
    · have h2' : bi ≠ ai := fun x => h2 x.symm
      simp only [h1, h2, h2', ne_eq, not_true_eq_false, not_false_eq_true, if_false, if_true, decide_eq_false_iff_not, decide_eq_true_eq] at h ⊢
      omega
  · have h1' : bn.ctorIdx ≠ an.ctorIdx := fun x => h1 x.symm
    simp only [h1, h1', ne_eq, not_false_eq_true, if_true, decide_eq_false_iff_not, decide_eq_true_eq] at h ⊢
    omega

/-! ## Reads after writes -/

theorem RegFile.find_erase (f : RegFile) (k j : RegKey) : RegFile.find (f.erase k) j = if j = k then none else f.find j := by
  induction f with
  | nil => simp [RegFile.erase, RegFile.find]
  | cons e r ih =>
    obtain ⟨i, v⟩ := e
    unfold RegFile.erase at ih ⊢
    by_cases h : i = k
    · subst h
      rw [List.filter_cons_of_neg (by simp), ih]
      by_cases hj : j = i
      · simp [hj]
      · have : i ≠ j := fun h => hj h.symm
        simp [hj, RegFile.find, this]
    · rw [List.filter_cons_of_pos (by simpa using h)]
      by_cases hj : j = k
      · subst hj
        simp only [if_true] at ih
        simp only [RegFile.find, h, if_false, ih, if_true]
      · simp only [hj, if_false] at ih
        simp only [RegFile.find, ih, hj, if_false]

theorem RegFile.find_insert (f : RegFile) (k j : RegKey) (v : BitVec 32) (h : f.find k = none) :
    RegFile.find (RegFile.insert k v f) j = if j = k then some v else f.find j := by
  induction f with
  | nil =>
    by_cases hj : j = k
    · simp [RegFile.insert, RegFile.find, hj]
    · have : k ≠ j := fun h => hj h.symm
      simp [RegFile.insert, RegFile.find, hj, this]
  | cons e r ih =>
    obtain ⟨i, w⟩ := e
    have hi : i ≠ k := by intro e; simp [RegFile.find, e] at h
    simp only [RegFile.find, hi, if_false] at h
    unfold RegFile.insert
    by_cases hl : k.before i = true
    · simp only [hl, if_true]
      by_cases hj : j = k
      · simp [RegFile.find, hj]
      · have : k ≠ j := fun h => hj h.symm
        simp [RegFile.find, hj, this]
    · have hl' : k.before i = false := by simpa using hl
      by_cases hj : j = k
      · subst hj; simp [hl', RegFile.find, hi, ih h]
      · simp [hl', RegFile.find, ih h, hj]

/-- A register after a write. -/
@[simp] theorem Block.reg_setReg (b : Block) (k j : RegKey) (v : Word) :
    (b.setReg k v).reg j = if j = k then v else b.reg j := by
  unfold Block.reg Block.setReg RegFile.set
  by_cases hv : v = k.name.info.reset
  · simp only [hv, if_true, RegFile.find_erase]
    by_cases h : j = k
    · simp [h]
    · simp [h]
  · simp only [hv, if_false]
    rw [RegFile.find_insert _ _ _ _ (by simp [RegFile.find_erase]), RegFile.find_erase]
    by_cases h : j = k <;> simp [h]

/-- A register after a write of one of its fields or of another register's. -/
@[simp] theorem Block.reg_setFld (b : Block) (k j : RegKey) (f : Fld) (n : Nat) :
    (b.setFld k f n).reg j = if j = k then f.set (b.reg k) n else b.reg j := by simp [Block.setFld]

/-- A register not listed holds its reset value. -/
theorem Block.reg_of_regs_nil (b : Block) (h : b.regs = []) (k : RegKey) : b.reg k = k.name.info.reset := by
  simp [Block.reg, h, RegFile.find]

/-- Registers depend on the register file alone. -/
theorem Block.reg_congr {a b : Block} (h : a.regs = b.regs) (k : RegKey) : a.reg k = b.reg k := by unfold Block.reg; rw [h]

/-! ## The canonical form -/

/-- Every register of a file comes after a register, and none is at its reset value. -/
def RegFile.above (k : RegKey) (f : RegFile) : Prop := ∀ e ∈ f, k.before e.1 = true ∧ e.2 ≠ e.1.name.info.reset

theorem RegFile.wf_cons (k : RegKey) (v : BitVec 32) (f : RegFile) :
    RegFile.wf ((k, v) :: f) = true ↔ v ≠ k.name.info.reset ∧ RegFile.above k f ∧ RegFile.wf f = true := by
  induction f generalizing k v with
  | nil => simp [RegFile.wf, RegFile.above]
  | cons e r ih =>
    obtain ⟨i, w⟩ := e
    have h : RegFile.wf ((k, v) :: (i, w) :: r) = (decide (v ≠ k.name.info.reset) && k.before i && RegFile.wf ((i, w) :: r)) := rfl
    rw [h]
    simp only [Bool.and_eq_true, decide_eq_true_eq, ih]
    constructor
    · rintro ⟨⟨hv, hk⟩, hw, ha, hr⟩
      refine ⟨hv, ?_, hw, ha, hr⟩
      intro e he
      rcases List.mem_cons.mp he with rfl | he
      · exact ⟨hk, hw⟩
      · exact ⟨RegKey.before_trans hk (ha e he).1, (ha e he).2⟩
    · rintro ⟨hv, ha, hw, ha', hr⟩
      exact ⟨⟨hv, (ha (i, w) (by simp)).1⟩, hw, ha', hr⟩

theorem RegFile.wf_filter (p : RegKey × BitVec 32 → Bool) (f : RegFile) (h : RegFile.wf f = true) : RegFile.wf (f.filter p) = true := by
  induction f with
  | nil => rfl
  | cons e r ih =>
    obtain ⟨k, v⟩ := e
    obtain ⟨hv, ha, hr⟩ := (RegFile.wf_cons k v r).mp h
    by_cases hp : p (k, v) = true
    · rw [List.filter_cons_of_pos hp, RegFile.wf_cons]
      exact ⟨hv, fun e he => ha e (List.mem_filter.mp he).1, ih hr⟩
    · rw [List.filter_cons_of_neg hp]; exact ih hr

theorem RegFile.mem_insert (k : RegKey) (v : BitVec 32) (f : RegFile) (e : RegKey × BitVec 32) (h : e ∈ RegFile.insert k v f) :
    e = (k, v) ∨ e ∈ f := by
  induction f with
  | nil => simpa [RegFile.insert] using h
  | cons x r ih =>
    obtain ⟨i, w⟩ := x
    unfold RegFile.insert at h
    split at h
    · simpa using h
    · rcases List.mem_cons.mp h with rfl | h
      · simp
      · rcases ih h with rfl | h
        · simp
        · simp [h]

theorem RegFile.wf_insert (f : RegFile) (k : RegKey) (v : BitVec 32) (hv : v ≠ k.name.info.reset) (hk : f.find k = none)
    (h : RegFile.wf f = true) : RegFile.wf (RegFile.insert k v f) = true := by
  induction f with
  | nil => simpa [RegFile.insert, RegFile.wf] using hv
  | cons e r ih =>
    obtain ⟨i, w⟩ := e
    obtain ⟨hw, ha, hr⟩ := (RegFile.wf_cons i w r).mp h
    have hi : i ≠ k := by intro e; simp [RegFile.find, e] at hk
    simp only [RegFile.find, hi, if_false] at hk
    unfold RegFile.insert
    split
    · rename_i hl
      rw [RegFile.wf_cons]
      refine ⟨hv, ?_, h⟩
      intro e he
      rcases List.mem_cons.mp he with rfl | he
      · exact ⟨hl, hw⟩
      · exact ⟨RegKey.before_trans hl (ha e he).1, (ha e he).2⟩
    · rename_i hl
      rw [RegFile.wf_cons]
      refine ⟨hw, ?_, ih hk hr⟩
      intro e he
      rcases RegFile.mem_insert k v r e he with rfl | he
      · exact ⟨RegKey.before_total (by simpa using hl) (fun x => hi x.symm), hv⟩
      · exact ha e he

/-- A write keeps the canonical form. -/
theorem RegFile.wf_set (f : RegFile) (k : RegKey) (v : BitVec 32) (h : RegFile.wf f = true) : RegFile.wf (RegFile.set f k v) = true := by
  unfold RegFile.set
  split
  · exact RegFile.wf_filter _ f h
  · rename_i hv
    exact RegFile.wf_insert _ k v hv (by simp [RegFile.find_erase]) (RegFile.wf_filter _ f h)

/-! ## Fields -/

/-- A bit of a field. -/
theorem Fld.testBit_get (f : Fld) (w : BitVec 32) (i : Nat) :
    (f.get w).testBit i = (decide (i < f.len) && w.getLsbD (f.lo + i)) := by
  simp [Fld.get, bitsOf, Nat.testBit_mod_two_pow, BitVec.getLsbD]

/-- A bit of a word with a field replaced. -/
theorem Fld.getLsbD_set (f : Fld) (w : BitVec 32) (v i : Nat) (hi : i < 32) :
    (f.set w v).getLsbD i = if f.lo ≤ i ∧ i < f.lo + f.len then v.testBit (i - f.lo) else w.getLsbD i := by
  simp only [Fld.set, Fld.mask, BitVec.getLsbD_or, BitVec.getLsbD_and, BitVec.getLsbD_not, BitVec.getLsbD_ofNat, hi, decide_true,
    Bool.true_and, Nat.testBit_shiftLeft, Nat.testBit_mod_two_pow, Nat.testBit_two_pow_sub_one]
  by_cases h1 : f.lo ≤ i
  · by_cases h2 : i < f.lo + f.len
    · have : i - f.lo < f.len := by omega
      simp [h1, h2, this]
    · have : ¬ i - f.lo < f.len := by omega
      simp [h1, h2, this]
  · simp [h1]

/-- A field after a write of it. -/
theorem Fld.get_set (f : Fld) (w : BitVec 32) (v : Nat) (h : f.lo + f.len ≤ 32) : f.get (f.set w v) = v % 2 ^ f.len := by
  apply Nat.eq_of_testBit_eq
  intro i
  rw [Fld.testBit_get, Nat.testBit_mod_two_pow]
  by_cases hi : i < f.len
  · rw [Fld.getLsbD_set _ _ _ _ (by omega)]
    simp [hi]
  · simp [hi]

/-- A field after a write of another field of the register. -/
theorem Fld.get_set_other (f g : Fld) (w : BitVec 32) (v : Nat) (hg : g.lo + g.len ≤ 32) (h : g.lo + g.len ≤ f.lo ∨ f.lo + f.len ≤ g.lo) :
    g.get (f.set w v) = g.get w := by
  apply Nat.eq_of_testBit_eq
  intro i
  rw [Fld.testBit_get, Fld.testBit_get]
  by_cases hi : i < g.len
  · rw [Fld.getLsbD_set _ _ _ _ (by omega)]
    have : ¬ (f.lo ≤ g.lo + i ∧ g.lo + i < f.lo + f.len) := by omega
    simp [this]
  · simp [hi]

/-- A field of a register after a write of a field. -/
theorem Block.fld_setFld (b : Block) (k : RegKey) (f : Fld) (n : Nat) (h : f.lo + f.len ≤ 32) :
    (b.setFld k f n).fld k f = n % 2 ^ f.len := by simp [Block.fld, Fld.get_set _ _ _ h]

/-- Another field of the register after a write of a field. -/
theorem Block.fld_setFld_other (b : Block) (k : RegKey) (f g : Fld) (n : Nat) (hg : g.lo + g.len ≤ 32)
    (h : g.lo + g.len ≤ f.lo ∨ f.lo + f.len ≤ g.lo) : (b.setFld k f n).fld k g = b.fld k g := by
  simp [Block.fld, Fld.get_set_other _ _ _ _ hg h]

/-- A field of another register after a write of a field. -/
theorem Block.fld_setFld_ne (b : Block) (k j : RegKey) (f g : Fld) (n : Nat) (h : j ≠ k) : (b.setFld k f n).fld j g = b.fld j g := by
  simp [Block.fld, h]

end Sys2Proof.Machine
end

