-- ==== Sys2Proof/Laws/State.lean ====
section
/-!
SUPPORT. What each update of the block leaves of each field, and what the accessors find after it.
-/
namespace Sys2Proof.Machine

variable (b : Block)

/-! ## setReg -/

@[simp] theorem Block.setReg_pw (k : RegKey) (v : Word) : (b.setReg k v).pw = b.pw := rfl
@[simp] theorem Block.setReg_flt (k : RegKey) (v : Word) : (b.setReg k v).flt = b.flt := rfl
@[simp] theorem Block.setReg_sec (k : RegKey) (v : Word) : (b.setReg k v).sec = b.sec := rfl
@[simp] theorem Block.setReg_fw (k : RegKey) (v : Word) : (b.setReg k v).fw = b.fw := rfl
@[simp] theorem Block.setReg_funcs (k : RegKey) (v : Word) : (b.setReg k v).funcs = b.funcs := rfl
@[simp] theorem Block.setReg_vfEnable (k : RegKey) (v : Word) : (b.setReg k v).vfEnable = b.vfEnable := rfl
@[simp] theorem Block.setReg_numVfs (k : RegKey) (v : Word) : (b.setReg k v).numVfs = b.numVfs := rfl
@[simp] theorem Block.setReg_tdu (k : RegKey) (v : Word) : (b.setReg k v).tdu = b.tdu := rfl
@[simp] theorem Block.setReg_dma (k : RegKey) (v : Word) : (b.setReg k v).dma = b.dma := rfl
@[simp] theorem Block.setReg_prog (k : RegKey) (v : Word) : (b.setReg k v).prog = b.prog := rfl
@[simp] theorem Block.setReg_slotNext (k : RegKey) (v : Word) : (b.setReg k v).slotNext = b.slotNext := rfl
@[simp] theorem Block.setReg_tu (k : RegKey) (v : Word) : (b.setReg k v).tu = b.tu := rfl
@[simp] theorem Block.setReg_quals (k : RegKey) (v : Word) : (b.setReg k v).quals = b.quals := rfl
@[simp] theorem Block.setReg_outs (k : RegKey) (v : Word) : (b.setReg k v).outs = b.outs := rfl
@[simp] theorem Block.setReg_streams (k : RegKey) (v : Word) : (b.setReg k v).streams = b.streams := rfl
@[simp] theorem Block.setReg_vpt (k : RegKey) (v : Word) : (b.setReg k v).vpt = b.vpt := rfl
@[simp] theorem Block.setReg_cfg (k : RegKey) (v : Word) : (b.setReg k v).cfg = b.cfg := rfl
@[simp] theorem Block.setReg_noc (k : RegKey) (v : Word) : (b.setReg k v).noc = b.noc := rfl
@[simp] theorem Block.setReg_ssp (k : RegKey) (v : Word) : (b.setReg k v).ssp = b.ssp := rfl
@[simp] theorem Block.setReg_march (k : RegKey) (v : Word) : (b.setReg k v).march = b.march := rfl
@[simp] theorem Block.setReg_links (k : RegKey) (v : Word) : (b.setReg k v).links = b.links := rfl
@[simp] theorem Block.setReg_parts (k : RegKey) (v : Word) : (b.setReg k v).parts = b.parts := rfl
@[simp] theorem Block.setReg_clus (k : RegKey) (v : Word) : (b.setReg k v).clus = b.clus := rfl
@[simp] theorem Block.setReg_far (k : RegKey) (v : Word) : (b.setReg k v).far = b.far := rfl
@[simp] theorem Block.setReg_farBad (k : RegKey) (v : Word) : (b.setReg k v).farBad = b.farBad := rfl
@[simp] theorem Block.setReg_out (k : RegKey) (v : Word) : (b.setReg k v).out = b.out := rfl
@[simp] theorem Block.setReg_evtClr (k : RegKey) (v : Word) : (b.setReg k v).evtClr = b.evtClr := rfl
@[simp] theorem Block.setReg_reply (k : RegKey) (v : Word) : (b.setReg k v).reply = b.reply := rfl
@[simp] theorem Block.setReg_drawn (k : RegKey) (v : Word) : (b.setReg k v).drawn = b.drawn := rfl
@[simp] theorem Block.setReg_time (k : RegKey) (v : Word) : (b.setReg k v).time = b.time := rfl
@[simp] theorem Block.setReg_frzSeq (k : RegKey) (v : Word) : (b.setReg k v).frzSeq = b.frzSeq := rfl
@[simp] theorem Block.setReg_frzSeen (k : RegKey) (v : Word) : (b.setReg k v).frzSeen = b.frzSeen := rfl
@[simp] theorem Block.setReg_pathSeq (k : RegKey) (v : Word) : (b.setReg k v).pathSeq = b.pathSeq := rfl
@[simp] theorem Block.setReg_pathSeen (k : RegKey) (v : Word) : (b.setReg k v).pathSeen = b.pathSeen := rfl
@[simp] theorem Block.setReg_part (k : RegKey) (v : Word) (q : Nat) : (b.setReg k v).part q = b.part q := rfl
@[simp] theorem Block.setReg_clu (k : RegKey) (v : Word) (d : Nat) : (b.setReg k v).clu d = b.clu d := rfl
@[simp] theorem Block.setReg_link (k : RegKey) (v : Word) (m : Nat) : (b.setReg k v).link m = b.link m := rfl
@[simp] theorem Block.setReg_dmaCh (k : RegKey) (v : Word) (m : Nat) : (b.setReg k v).dmaCh m = b.dmaCh m := rfl
@[simp] theorem Block.setReg_func (k : RegKey) (v : Word) (m : Nat) : (b.setReg k v).func m = b.func m := rfl

/-! ## setFld -/

@[simp] theorem Block.setFld_pw (k : RegKey) (f : Fld) (n : Nat) : (b.setFld k f n).pw = b.pw := rfl
@[simp] theorem Block.setFld_flt (k : RegKey) (f : Fld) (n : Nat) : (b.setFld k f n).flt = b.flt := rfl
@[simp] theorem Block.setFld_sec (k : RegKey) (f : Fld) (n : Nat) : (b.setFld k f n).sec = b.sec := rfl
@[simp] theorem Block.setFld_fw (k : RegKey) (f : Fld) (n : Nat) : (b.setFld k f n).fw = b.fw := rfl
@[simp] theorem Block.setFld_funcs (k : RegKey) (f : Fld) (n : Nat) : (b.setFld k f n).funcs = b.funcs := rfl
@[simp] theorem Block.setFld_vfEnable (k : RegKey) (f : Fld) (n : Nat) : (b.setFld k f n).vfEnable = b.vfEnable := rfl
@[simp] theorem Block.setFld_numVfs (k : RegKey) (f : Fld) (n : Nat) : (b.setFld k f n).numVfs = b.numVfs := rfl
@[simp] theorem Block.setFld_tdu (k : RegKey) (f : Fld) (n : Nat) : (b.setFld k f n).tdu = b.tdu := rfl
@[simp] theorem Block.setFld_dma (k : RegKey) (f : Fld) (n : Nat) : (b.setFld k f n).dma = b.dma := rfl
@[simp] theorem Block.setFld_prog (k : RegKey) (f : Fld) (n : Nat) : (b.setFld k f n).prog = b.prog := rfl
@[simp] theorem Block.setFld_slotNext (k : RegKey) (f : Fld) (n : Nat) : (b.setFld k f n).slotNext = b.slotNext := rfl
@[simp] theorem Block.setFld_tu (k : RegKey) (f : Fld) (n : Nat) : (b.setFld k f n).tu = b.tu := rfl
@[simp] theorem Block.setFld_quals (k : RegKey) (f : Fld) (n : Nat) : (b.setFld k f n).quals = b.quals := rfl
@[simp] theorem Block.setFld_outs (k : RegKey) (f : Fld) (n : Nat) : (b.setFld k f n).outs = b.outs := rfl
@[simp] theorem Block.setFld_streams (k : RegKey) (f : Fld) (n : Nat) : (b.setFld k f n).streams = b.streams := rfl
@[simp] theorem Block.setFld_vpt (k : RegKey) (f : Fld) (n : Nat) : (b.setFld k f n).vpt = b.vpt := rfl
@[simp] theorem Block.setFld_cfg (k : RegKey) (f : Fld) (n : Nat) : (b.setFld k f n).cfg = b.cfg := rfl
@[simp] theorem Block.setFld_noc (k : RegKey) (f : Fld) (n : Nat) : (b.setFld k f n).noc = b.noc := rfl
@[simp] theorem Block.setFld_ssp (k : RegKey) (f : Fld) (n : Nat) : (b.setFld k f n).ssp = b.ssp := rfl
@[simp] theorem Block.setFld_march (k : RegKey) (f : Fld) (n : Nat) : (b.setFld k f n).march = b.march := rfl
@[simp] theorem Block.setFld_links (k : RegKey) (f : Fld) (n : Nat) : (b.setFld k f n).links = b.links := rfl
@[simp] theorem Block.setFld_parts (k : RegKey) (f : Fld) (n : Nat) : (b.setFld k f n).parts = b.parts := rfl
@[simp] theorem Block.setFld_clus (k : RegKey) (f : Fld) (n : Nat) : (b.setFld k f n).clus = b.clus := rfl
@[simp] theorem Block.setFld_far (k : RegKey) (f : Fld) (n : Nat) : (b.setFld k f n).far = b.far := rfl
@[simp] theorem Block.setFld_farBad (k : RegKey) (f : Fld) (n : Nat) : (b.setFld k f n).farBad = b.farBad := rfl
@[simp] theorem Block.setFld_out (k : RegKey) (f : Fld) (n : Nat) : (b.setFld k f n).out = b.out := rfl
@[simp] theorem Block.setFld_evtClr (k : RegKey) (f : Fld) (n : Nat) : (b.setFld k f n).evtClr = b.evtClr := rfl
@[simp] theorem Block.setFld_reply (k : RegKey) (f : Fld) (n : Nat) : (b.setFld k f n).reply = b.reply := rfl
@[simp] theorem Block.setFld_drawn (k : RegKey) (f : Fld) (n : Nat) : (b.setFld k f n).drawn = b.drawn := rfl
@[simp] theorem Block.setFld_time (k : RegKey) (f : Fld) (n : Nat) : (b.setFld k f n).time = b.time := rfl
@[simp] theorem Block.setFld_frzSeq (k : RegKey) (f : Fld) (n : Nat) : (b.setFld k f n).frzSeq = b.frzSeq := rfl
@[simp] theorem Block.setFld_frzSeen (k : RegKey) (f : Fld) (n : Nat) : (b.setFld k f n).frzSeen = b.frzSeen := rfl
@[simp] theorem Block.setFld_pathSeq (k : RegKey) (f : Fld) (n : Nat) : (b.setFld k f n).pathSeq = b.pathSeq := rfl
@[simp] theorem Block.setFld_pathSeen (k : RegKey) (f : Fld) (n : Nat) : (b.setFld k f n).pathSeen = b.pathSeen := rfl
@[simp] theorem Block.setFld_part (k : RegKey) (f : Fld) (n : Nat) (q : Nat) : (b.setFld k f n).part q = b.part q := rfl
@[simp] theorem Block.setFld_clu (k : RegKey) (f : Fld) (n : Nat) (d : Nat) : (b.setFld k f n).clu d = b.clu d := rfl
@[simp] theorem Block.setFld_link (k : RegKey) (f : Fld) (n : Nat) (m : Nat) : (b.setFld k f n).link m = b.link m := rfl
@[simp] theorem Block.setFld_dmaCh (k : RegKey) (f : Fld) (n : Nat) (m : Nat) : (b.setFld k f n).dmaCh m = b.dmaCh m := rfl
@[simp] theorem Block.setFld_func (k : RegKey) (f : Fld) (n : Nat) (m : Nat) : (b.setFld k f n).func m = b.func m := rfl

/-! ## clrRegs -/

@[simp] theorem Block.clrRegs_pw (p : RegKey → Bool) : (b.clrRegs p).pw = b.pw := rfl
@[simp] theorem Block.clrRegs_flt (p : RegKey → Bool) : (b.clrRegs p).flt = b.flt := rfl
@[simp] theorem Block.clrRegs_sec (p : RegKey → Bool) : (b.clrRegs p).sec = b.sec := rfl
@[simp] theorem Block.clrRegs_fw (p : RegKey → Bool) : (b.clrRegs p).fw = b.fw := rfl
@[simp] theorem Block.clrRegs_funcs (p : RegKey → Bool) : (b.clrRegs p).funcs = b.funcs := rfl
@[simp] theorem Block.clrRegs_vfEnable (p : RegKey → Bool) : (b.clrRegs p).vfEnable = b.vfEnable := rfl
@[simp] theorem Block.clrRegs_numVfs (p : RegKey → Bool) : (b.clrRegs p).numVfs = b.numVfs := rfl
@[simp] theorem Block.clrRegs_tdu (p : RegKey → Bool) : (b.clrRegs p).tdu = b.tdu := rfl
@[simp] theorem Block.clrRegs_dma (p : RegKey → Bool) : (b.clrRegs p).dma = b.dma := rfl
@[simp] theorem Block.clrRegs_prog (p : RegKey → Bool) : (b.clrRegs p).prog = b.prog := rfl
@[simp] theorem Block.clrRegs_slotNext (p : RegKey → Bool) : (b.clrRegs p).slotNext = b.slotNext := rfl
@[simp] theorem Block.clrRegs_tu (p : RegKey → Bool) : (b.clrRegs p).tu = b.tu := rfl
@[simp] theorem Block.clrRegs_quals (p : RegKey → Bool) : (b.clrRegs p).quals = b.quals := rfl
@[simp] theorem Block.clrRegs_outs (p : RegKey → Bool) : (b.clrRegs p).outs = b.outs := rfl
@[simp] theorem Block.clrRegs_streams (p : RegKey → Bool) : (b.clrRegs p).streams = b.streams := rfl
@[simp] theorem Block.clrRegs_vpt (p : RegKey → Bool) : (b.clrRegs p).vpt = b.vpt := rfl
@[simp] theorem Block.clrRegs_cfg (p : RegKey → Bool) : (b.clrRegs p).cfg = b.cfg := rfl
@[simp] theorem Block.clrRegs_noc (p : RegKey → Bool) : (b.clrRegs p).noc = b.noc := rfl
@[simp] theorem Block.clrRegs_ssp (p : RegKey → Bool) : (b.clrRegs p).ssp = b.ssp := rfl
@[simp] theorem Block.clrRegs_march (p : RegKey → Bool) : (b.clrRegs p).march = b.march := rfl
@[simp] theorem Block.clrRegs_links (p : RegKey → Bool) : (b.clrRegs p).links = b.links := rfl
@[simp] theorem Block.clrRegs_parts (p : RegKey → Bool) : (b.clrRegs p).parts = b.parts := rfl
@[simp] theorem Block.clrRegs_clus (p : RegKey → Bool) : (b.clrRegs p).clus = b.clus := rfl
@[simp] theorem Block.clrRegs_far (p : RegKey → Bool) : (b.clrRegs p).far = b.far := rfl
@[simp] theorem Block.clrRegs_farBad (p : RegKey → Bool) : (b.clrRegs p).farBad = b.farBad := rfl
@[simp] theorem Block.clrRegs_out (p : RegKey → Bool) : (b.clrRegs p).out = b.out := rfl
@[simp] theorem Block.clrRegs_evtClr (p : RegKey → Bool) : (b.clrRegs p).evtClr = b.evtClr := rfl
@[simp] theorem Block.clrRegs_reply (p : RegKey → Bool) : (b.clrRegs p).reply = b.reply := rfl
@[simp] theorem Block.clrRegs_drawn (p : RegKey → Bool) : (b.clrRegs p).drawn = b.drawn := rfl
@[simp] theorem Block.clrRegs_time (p : RegKey → Bool) : (b.clrRegs p).time = b.time := rfl
@[simp] theorem Block.clrRegs_frzSeq (p : RegKey → Bool) : (b.clrRegs p).frzSeq = b.frzSeq := rfl
@[simp] theorem Block.clrRegs_frzSeen (p : RegKey → Bool) : (b.clrRegs p).frzSeen = b.frzSeen := rfl
@[simp] theorem Block.clrRegs_pathSeq (p : RegKey → Bool) : (b.clrRegs p).pathSeq = b.pathSeq := rfl
@[simp] theorem Block.clrRegs_pathSeen (p : RegKey → Bool) : (b.clrRegs p).pathSeen = b.pathSeen := rfl
@[simp] theorem Block.clrRegs_part (p : RegKey → Bool) (q : Nat) : (b.clrRegs p).part q = b.part q := rfl
@[simp] theorem Block.clrRegs_clu (p : RegKey → Bool) (d : Nat) : (b.clrRegs p).clu d = b.clu d := rfl
@[simp] theorem Block.clrRegs_link (p : RegKey → Bool) (m : Nat) : (b.clrRegs p).link m = b.link m := rfl
@[simp] theorem Block.clrRegs_dmaCh (p : RegKey → Bool) (m : Nat) : (b.clrRegs p).dmaCh m = b.dmaCh m := rfl
@[simp] theorem Block.clrRegs_func (p : RegKey → Bool) (m : Nat) : (b.clrRegs p).func m = b.func m := rfl

/-! ## setPart -/

@[simp] theorem Block.setPart_regs (p : Nat) (x : Part) : (b.setPart p x).regs = b.regs := rfl
@[simp] theorem Block.setPart_pw (p : Nat) (x : Part) : (b.setPart p x).pw = b.pw := rfl
@[simp] theorem Block.setPart_flt (p : Nat) (x : Part) : (b.setPart p x).flt = b.flt := rfl
@[simp] theorem Block.setPart_sec (p : Nat) (x : Part) : (b.setPart p x).sec = b.sec := rfl
@[simp] theorem Block.setPart_fw (p : Nat) (x : Part) : (b.setPart p x).fw = b.fw := rfl
@[simp] theorem Block.setPart_funcs (p : Nat) (x : Part) : (b.setPart p x).funcs = b.funcs := rfl
@[simp] theorem Block.setPart_vfEnable (p : Nat) (x : Part) : (b.setPart p x).vfEnable = b.vfEnable := rfl
@[simp] theorem Block.setPart_numVfs (p : Nat) (x : Part) : (b.setPart p x).numVfs = b.numVfs := rfl
@[simp] theorem Block.setPart_tdu (p : Nat) (x : Part) : (b.setPart p x).tdu = b.tdu := rfl
@[simp] theorem Block.setPart_dma (p : Nat) (x : Part) : (b.setPart p x).dma = b.dma := rfl
@[simp] theorem Block.setPart_prog (p : Nat) (x : Part) : (b.setPart p x).prog = b.prog := rfl
@[simp] theorem Block.setPart_slotNext (p : Nat) (x : Part) : (b.setPart p x).slotNext = b.slotNext := rfl
@[simp] theorem Block.setPart_tu (p : Nat) (x : Part) : (b.setPart p x).tu = b.tu := rfl
@[simp] theorem Block.setPart_quals (p : Nat) (x : Part) : (b.setPart p x).quals = b.quals := rfl
@[simp] theorem Block.setPart_outs (p : Nat) (x : Part) : (b.setPart p x).outs = b.outs := rfl
@[simp] theorem Block.setPart_streams (p : Nat) (x : Part) : (b.setPart p x).streams = b.streams := rfl
@[simp] theorem Block.setPart_vpt (p : Nat) (x : Part) : (b.setPart p x).vpt = b.vpt := rfl
@[simp] theorem Block.setPart_cfg (p : Nat) (x : Part) : (b.setPart p x).cfg = b.cfg := rfl
@[simp] theorem Block.setPart_noc (p : Nat) (x : Part) : (b.setPart p x).noc = b.noc := rfl
@[simp] theorem Block.setPart_ssp (p : Nat) (x : Part) : (b.setPart p x).ssp = b.ssp := rfl
@[simp] theorem Block.setPart_march (p : Nat) (x : Part) : (b.setPart p x).march = b.march := rfl
@[simp] theorem Block.setPart_links (p : Nat) (x : Part) : (b.setPart p x).links = b.links := rfl
@[simp] theorem Block.setPart_clus (p : Nat) (x : Part) : (b.setPart p x).clus = b.clus := rfl
@[simp] theorem Block.setPart_far (p : Nat) (x : Part) : (b.setPart p x).far = b.far := rfl
@[simp] theorem Block.setPart_farBad (p : Nat) (x : Part) : (b.setPart p x).farBad = b.farBad := rfl
@[simp] theorem Block.setPart_out (p : Nat) (x : Part) : (b.setPart p x).out = b.out := rfl
@[simp] theorem Block.setPart_evtClr (p : Nat) (x : Part) : (b.setPart p x).evtClr = b.evtClr := rfl
@[simp] theorem Block.setPart_reply (p : Nat) (x : Part) : (b.setPart p x).reply = b.reply := rfl
@[simp] theorem Block.setPart_drawn (p : Nat) (x : Part) : (b.setPart p x).drawn = b.drawn := rfl
@[simp] theorem Block.setPart_time (p : Nat) (x : Part) : (b.setPart p x).time = b.time := rfl
@[simp] theorem Block.setPart_frzSeq (p : Nat) (x : Part) : (b.setPart p x).frzSeq = b.frzSeq := rfl
@[simp] theorem Block.setPart_frzSeen (p : Nat) (x : Part) : (b.setPart p x).frzSeen = b.frzSeen := rfl
@[simp] theorem Block.setPart_pathSeq (p : Nat) (x : Part) : (b.setPart p x).pathSeq = b.pathSeq := rfl
@[simp] theorem Block.setPart_pathSeen (p : Nat) (x : Part) : (b.setPart p x).pathSeen = b.pathSeen := rfl
@[simp] theorem Block.setPart_reg (p : Nat) (x : Part) (j : RegKey) : (b.setPart p x).reg j = b.reg j := rfl
@[simp] theorem Block.setPart_clu (p : Nat) (x : Part) (d : Nat) : (b.setPart p x).clu d = b.clu d := rfl
@[simp] theorem Block.setPart_link (p : Nat) (x : Part) (m : Nat) : (b.setPart p x).link m = b.link m := rfl
@[simp] theorem Block.setPart_dmaCh (p : Nat) (x : Part) (m : Nat) : (b.setPart p x).dmaCh m = b.dmaCh m := rfl
@[simp] theorem Block.setPart_func (p : Nat) (x : Part) (m : Nat) : (b.setPart p x).func m = b.func m := rfl

/-! ## modPart -/

@[simp] theorem Block.modPart_regs (p : Nat) (f : Part → Part) : (b.modPart p f).regs = b.regs := rfl
@[simp] theorem Block.modPart_pw (p : Nat) (f : Part → Part) : (b.modPart p f).pw = b.pw := rfl
@[simp] theorem Block.modPart_flt (p : Nat) (f : Part → Part) : (b.modPart p f).flt = b.flt := rfl
@[simp] theorem Block.modPart_sec (p : Nat) (f : Part → Part) : (b.modPart p f).sec = b.sec := rfl
@[simp] theorem Block.modPart_fw (p : Nat) (f : Part → Part) : (b.modPart p f).fw = b.fw := rfl
@[simp] theorem Block.modPart_funcs (p : Nat) (f : Part → Part) : (b.modPart p f).funcs = b.funcs := rfl
@[simp] theorem Block.modPart_vfEnable (p : Nat) (f : Part → Part) : (b.modPart p f).vfEnable = b.vfEnable := rfl
@[simp] theorem Block.modPart_numVfs (p : Nat) (f : Part → Part) : (b.modPart p f).numVfs = b.numVfs := rfl
@[simp] theorem Block.modPart_tdu (p : Nat) (f : Part → Part) : (b.modPart p f).tdu = b.tdu := rfl
@[simp] theorem Block.modPart_dma (p : Nat) (f : Part → Part) : (b.modPart p f).dma = b.dma := rfl
@[simp] theorem Block.modPart_prog (p : Nat) (f : Part → Part) : (b.modPart p f).prog = b.prog := rfl
@[simp] theorem Block.modPart_slotNext (p : Nat) (f : Part → Part) : (b.modPart p f).slotNext = b.slotNext := rfl
@[simp] theorem Block.modPart_tu (p : Nat) (f : Part → Part) : (b.modPart p f).tu = b.tu := rfl
@[simp] theorem Block.modPart_quals (p : Nat) (f : Part → Part) : (b.modPart p f).quals = b.quals := rfl
@[simp] theorem Block.modPart_outs (p : Nat) (f : Part → Part) : (b.modPart p f).outs = b.outs := rfl
@[simp] theorem Block.modPart_streams (p : Nat) (f : Part → Part) : (b.modPart p f).streams = b.streams := rfl
@[simp] theorem Block.modPart_vpt (p : Nat) (f : Part → Part) : (b.modPart p f).vpt = b.vpt := rfl
@[simp] theorem Block.modPart_cfg (p : Nat) (f : Part → Part) : (b.modPart p f).cfg = b.cfg := rfl
@[simp] theorem Block.modPart_noc (p : Nat) (f : Part → Part) : (b.modPart p f).noc = b.noc := rfl
@[simp] theorem Block.modPart_ssp (p : Nat) (f : Part → Part) : (b.modPart p f).ssp = b.ssp := rfl
@[simp] theorem Block.modPart_march (p : Nat) (f : Part → Part) : (b.modPart p f).march = b.march := rfl
@[simp] theorem Block.modPart_links (p : Nat) (f : Part → Part) : (b.modPart p f).links = b.links := rfl
@[simp] theorem Block.modPart_clus (p : Nat) (f : Part → Part) : (b.modPart p f).clus = b.clus := rfl
@[simp] theorem Block.modPart_far (p : Nat) (f : Part → Part) : (b.modPart p f).far = b.far := rfl
@[simp] theorem Block.modPart_farBad (p : Nat) (f : Part → Part) : (b.modPart p f).farBad = b.farBad := rfl
@[simp] theorem Block.modPart_out (p : Nat) (f : Part → Part) : (b.modPart p f).out = b.out := rfl
@[simp] theorem Block.modPart_evtClr (p : Nat) (f : Part → Part) : (b.modPart p f).evtClr = b.evtClr := rfl
@[simp] theorem Block.modPart_reply (p : Nat) (f : Part → Part) : (b.modPart p f).reply = b.reply := rfl
@[simp] theorem Block.modPart_drawn (p : Nat) (f : Part → Part) : (b.modPart p f).drawn = b.drawn := rfl
@[simp] theorem Block.modPart_time (p : Nat) (f : Part → Part) : (b.modPart p f).time = b.time := rfl
@[simp] theorem Block.modPart_frzSeq (p : Nat) (f : Part → Part) : (b.modPart p f).frzSeq = b.frzSeq := rfl
@[simp] theorem Block.modPart_frzSeen (p : Nat) (f : Part → Part) : (b.modPart p f).frzSeen = b.frzSeen := rfl
@[simp] theorem Block.modPart_pathSeq (p : Nat) (f : Part → Part) : (b.modPart p f).pathSeq = b.pathSeq := rfl
@[simp] theorem Block.modPart_pathSeen (p : Nat) (f : Part → Part) : (b.modPart p f).pathSeen = b.pathSeen := rfl
@[simp] theorem Block.modPart_reg (p : Nat) (f : Part → Part) (j : RegKey) : (b.modPart p f).reg j = b.reg j := rfl
@[simp] theorem Block.modPart_clu (p : Nat) (f : Part → Part) (d : Nat) : (b.modPart p f).clu d = b.clu d := rfl
@[simp] theorem Block.modPart_link (p : Nat) (f : Part → Part) (m : Nat) : (b.modPart p f).link m = b.link m := rfl
@[simp] theorem Block.modPart_dmaCh (p : Nat) (f : Part → Part) (m : Nat) : (b.modPart p f).dmaCh m = b.dmaCh m := rfl
@[simp] theorem Block.modPart_func (p : Nat) (f : Part → Part) (m : Nat) : (b.modPart p f).func m = b.func m := rfl

/-! ## setClu -/

@[simp] theorem Block.setClu_regs (c : Nat) (x : Cluster) : (b.setClu c x).regs = b.regs := rfl
@[simp] theorem Block.setClu_pw (c : Nat) (x : Cluster) : (b.setClu c x).pw = b.pw := rfl
@[simp] theorem Block.setClu_flt (c : Nat) (x : Cluster) : (b.setClu c x).flt = b.flt := rfl
@[simp] theorem Block.setClu_sec (c : Nat) (x : Cluster) : (b.setClu c x).sec = b.sec := rfl
@[simp] theorem Block.setClu_fw (c : Nat) (x : Cluster) : (b.setClu c x).fw = b.fw := rfl
@[simp] theorem Block.setClu_funcs (c : Nat) (x : Cluster) : (b.setClu c x).funcs = b.funcs := rfl
@[simp] theorem Block.setClu_vfEnable (c : Nat) (x : Cluster) : (b.setClu c x).vfEnable = b.vfEnable := rfl
@[simp] theorem Block.setClu_numVfs (c : Nat) (x : Cluster) : (b.setClu c x).numVfs = b.numVfs := rfl
@[simp] theorem Block.setClu_tdu (c : Nat) (x : Cluster) : (b.setClu c x).tdu = b.tdu := rfl
@[simp] theorem Block.setClu_dma (c : Nat) (x : Cluster) : (b.setClu c x).dma = b.dma := rfl
@[simp] theorem Block.setClu_prog (c : Nat) (x : Cluster) : (b.setClu c x).prog = b.prog := rfl
@[simp] theorem Block.setClu_slotNext (c : Nat) (x : Cluster) : (b.setClu c x).slotNext = b.slotNext := rfl
@[simp] theorem Block.setClu_tu (c : Nat) (x : Cluster) : (b.setClu c x).tu = b.tu := rfl
@[simp] theorem Block.setClu_quals (c : Nat) (x : Cluster) : (b.setClu c x).quals = b.quals := rfl
@[simp] theorem Block.setClu_outs (c : Nat) (x : Cluster) : (b.setClu c x).outs = b.outs := rfl
@[simp] theorem Block.setClu_streams (c : Nat) (x : Cluster) : (b.setClu c x).streams = b.streams := rfl
@[simp] theorem Block.setClu_vpt (c : Nat) (x : Cluster) : (b.setClu c x).vpt = b.vpt := rfl
@[simp] theorem Block.setClu_cfg (c : Nat) (x : Cluster) : (b.setClu c x).cfg = b.cfg := rfl
@[simp] theorem Block.setClu_noc (c : Nat) (x : Cluster) : (b.setClu c x).noc = b.noc := rfl
@[simp] theorem Block.setClu_ssp (c : Nat) (x : Cluster) : (b.setClu c x).ssp = b.ssp := rfl
@[simp] theorem Block.setClu_march (c : Nat) (x : Cluster) : (b.setClu c x).march = b.march := rfl
@[simp] theorem Block.setClu_links (c : Nat) (x : Cluster) : (b.setClu c x).links = b.links := rfl
@[simp] theorem Block.setClu_parts (c : Nat) (x : Cluster) : (b.setClu c x).parts = b.parts := rfl
@[simp] theorem Block.setClu_far (c : Nat) (x : Cluster) : (b.setClu c x).far = b.far := rfl
@[simp] theorem Block.setClu_farBad (c : Nat) (x : Cluster) : (b.setClu c x).farBad = b.farBad := rfl
@[simp] theorem Block.setClu_out (c : Nat) (x : Cluster) : (b.setClu c x).out = b.out := rfl
@[simp] theorem Block.setClu_evtClr (c : Nat) (x : Cluster) : (b.setClu c x).evtClr = b.evtClr := rfl
@[simp] theorem Block.setClu_reply (c : Nat) (x : Cluster) : (b.setClu c x).reply = b.reply := rfl
@[simp] theorem Block.setClu_drawn (c : Nat) (x : Cluster) : (b.setClu c x).drawn = b.drawn := rfl
@[simp] theorem Block.setClu_time (c : Nat) (x : Cluster) : (b.setClu c x).time = b.time := rfl
@[simp] theorem Block.setClu_frzSeq (c : Nat) (x : Cluster) : (b.setClu c x).frzSeq = b.frzSeq := rfl
@[simp] theorem Block.setClu_frzSeen (c : Nat) (x : Cluster) : (b.setClu c x).frzSeen = b.frzSeen := rfl
@[simp] theorem Block.setClu_pathSeq (c : Nat) (x : Cluster) : (b.setClu c x).pathSeq = b.pathSeq := rfl
@[simp] theorem Block.setClu_pathSeen (c : Nat) (x : Cluster) : (b.setClu c x).pathSeen = b.pathSeen := rfl
@[simp] theorem Block.setClu_reg (c : Nat) (x : Cluster) (j : RegKey) : (b.setClu c x).reg j = b.reg j := rfl
@[simp] theorem Block.setClu_part (c : Nat) (x : Cluster) (q : Nat) : (b.setClu c x).part q = b.part q := rfl
@[simp] theorem Block.setClu_link (c : Nat) (x : Cluster) (m : Nat) : (b.setClu c x).link m = b.link m := rfl
@[simp] theorem Block.setClu_dmaCh (c : Nat) (x : Cluster) (m : Nat) : (b.setClu c x).dmaCh m = b.dmaCh m := rfl
@[simp] theorem Block.setClu_func (c : Nat) (x : Cluster) (m : Nat) : (b.setClu c x).func m = b.func m := rfl

/-! ## modClu -/

@[simp] theorem Block.modClu_regs (c : Nat) (f : Cluster → Cluster) : (b.modClu c f).regs = b.regs := rfl
@[simp] theorem Block.modClu_pw (c : Nat) (f : Cluster → Cluster) : (b.modClu c f).pw = b.pw := rfl
@[simp] theorem Block.modClu_flt (c : Nat) (f : Cluster → Cluster) : (b.modClu c f).flt = b.flt := rfl
@[simp] theorem Block.modClu_sec (c : Nat) (f : Cluster → Cluster) : (b.modClu c f).sec = b.sec := rfl
@[simp] theorem Block.modClu_fw (c : Nat) (f : Cluster → Cluster) : (b.modClu c f).fw = b.fw := rfl
@[simp] theorem Block.modClu_funcs (c : Nat) (f : Cluster → Cluster) : (b.modClu c f).funcs = b.funcs := rfl
@[simp] theorem Block.modClu_vfEnable (c : Nat) (f : Cluster → Cluster) : (b.modClu c f).vfEnable = b.vfEnable := rfl
@[simp] theorem Block.modClu_numVfs (c : Nat) (f : Cluster → Cluster) : (b.modClu c f).numVfs = b.numVfs := rfl
@[simp] theorem Block.modClu_tdu (c : Nat) (f : Cluster → Cluster) : (b.modClu c f).tdu = b.tdu := rfl
@[simp] theorem Block.modClu_dma (c : Nat) (f : Cluster → Cluster) : (b.modClu c f).dma = b.dma := rfl
@[simp] theorem Block.modClu_prog (c : Nat) (f : Cluster → Cluster) : (b.modClu c f).prog = b.prog := rfl
@[simp] theorem Block.modClu_slotNext (c : Nat) (f : Cluster → Cluster) : (b.modClu c f).slotNext = b.slotNext := rfl
@[simp] theorem Block.modClu_tu (c : Nat) (f : Cluster → Cluster) : (b.modClu c f).tu = b.tu := rfl
@[simp] theorem Block.modClu_quals (c : Nat) (f : Cluster → Cluster) : (b.modClu c f).quals = b.quals := rfl
@[simp] theorem Block.modClu_outs (c : Nat) (f : Cluster → Cluster) : (b.modClu c f).outs = b.outs := rfl
@[simp] theorem Block.modClu_streams (c : Nat) (f : Cluster → Cluster) : (b.modClu c f).streams = b.streams := rfl
@[simp] theorem Block.modClu_vpt (c : Nat) (f : Cluster → Cluster) : (b.modClu c f).vpt = b.vpt := rfl
@[simp] theorem Block.modClu_cfg (c : Nat) (f : Cluster → Cluster) : (b.modClu c f).cfg = b.cfg := rfl
@[simp] theorem Block.modClu_noc (c : Nat) (f : Cluster → Cluster) : (b.modClu c f).noc = b.noc := rfl
@[simp] theorem Block.modClu_ssp (c : Nat) (f : Cluster → Cluster) : (b.modClu c f).ssp = b.ssp := rfl
@[simp] theorem Block.modClu_march (c : Nat) (f : Cluster → Cluster) : (b.modClu c f).march = b.march := rfl
@[simp] theorem Block.modClu_links (c : Nat) (f : Cluster → Cluster) : (b.modClu c f).links = b.links := rfl
@[simp] theorem Block.modClu_parts (c : Nat) (f : Cluster → Cluster) : (b.modClu c f).parts = b.parts := rfl
@[simp] theorem Block.modClu_far (c : Nat) (f : Cluster → Cluster) : (b.modClu c f).far = b.far := rfl
@[simp] theorem Block.modClu_farBad (c : Nat) (f : Cluster → Cluster) : (b.modClu c f).farBad = b.farBad := rfl
@[simp] theorem Block.modClu_out (c : Nat) (f : Cluster → Cluster) : (b.modClu c f).out = b.out := rfl
@[simp] theorem Block.modClu_evtClr (c : Nat) (f : Cluster → Cluster) : (b.modClu c f).evtClr = b.evtClr := rfl
@[simp] theorem Block.modClu_reply (c : Nat) (f : Cluster → Cluster) : (b.modClu c f).reply = b.reply := rfl
@[simp] theorem Block.modClu_drawn (c : Nat) (f : Cluster → Cluster) : (b.modClu c f).drawn = b.drawn := rfl
@[simp] theorem Block.modClu_time (c : Nat) (f : Cluster → Cluster) : (b.modClu c f).time = b.time := rfl
@[simp] theorem Block.modClu_frzSeq (c : Nat) (f : Cluster → Cluster) : (b.modClu c f).frzSeq = b.frzSeq := rfl
@[simp] theorem Block.modClu_frzSeen (c : Nat) (f : Cluster → Cluster) : (b.modClu c f).frzSeen = b.frzSeen := rfl
@[simp] theorem Block.modClu_pathSeq (c : Nat) (f : Cluster → Cluster) : (b.modClu c f).pathSeq = b.pathSeq := rfl
@[simp] theorem Block.modClu_pathSeen (c : Nat) (f : Cluster → Cluster) : (b.modClu c f).pathSeen = b.pathSeen := rfl
@[simp] theorem Block.modClu_reg (c : Nat) (f : Cluster → Cluster) (j : RegKey) : (b.modClu c f).reg j = b.reg j := rfl
@[simp] theorem Block.modClu_part (c : Nat) (f : Cluster → Cluster) (q : Nat) : (b.modClu c f).part q = b.part q := rfl
@[simp] theorem Block.modClu_link (c : Nat) (f : Cluster → Cluster) (m : Nat) : (b.modClu c f).link m = b.link m := rfl
@[simp] theorem Block.modClu_dmaCh (c : Nat) (f : Cluster → Cluster) (m : Nat) : (b.modClu c f).dmaCh m = b.dmaCh m := rfl
@[simp] theorem Block.modClu_func (c : Nat) (f : Cluster → Cluster) (m : Nat) : (b.modClu c f).func m = b.func m := rfl

/-! ## setLink -/

@[simp] theorem Block.setLink_regs (n : Nat) (x : Link) : (b.setLink n x).regs = b.regs := rfl
@[simp] theorem Block.setLink_pw (n : Nat) (x : Link) : (b.setLink n x).pw = b.pw := rfl
@[simp] theorem Block.setLink_flt (n : Nat) (x : Link) : (b.setLink n x).flt = b.flt := rfl
@[simp] theorem Block.setLink_sec (n : Nat) (x : Link) : (b.setLink n x).sec = b.sec := rfl
@[simp] theorem Block.setLink_fw (n : Nat) (x : Link) : (b.setLink n x).fw = b.fw := rfl
@[simp] theorem Block.setLink_funcs (n : Nat) (x : Link) : (b.setLink n x).funcs = b.funcs := rfl
@[simp] theorem Block.setLink_vfEnable (n : Nat) (x : Link) : (b.setLink n x).vfEnable = b.vfEnable := rfl
@[simp] theorem Block.setLink_numVfs (n : Nat) (x : Link) : (b.setLink n x).numVfs = b.numVfs := rfl
@[simp] theorem Block.setLink_tdu (n : Nat) (x : Link) : (b.setLink n x).tdu = b.tdu := rfl
@[simp] theorem Block.setLink_dma (n : Nat) (x : Link) : (b.setLink n x).dma = b.dma := rfl
@[simp] theorem Block.setLink_prog (n : Nat) (x : Link) : (b.setLink n x).prog = b.prog := rfl
@[simp] theorem Block.setLink_slotNext (n : Nat) (x : Link) : (b.setLink n x).slotNext = b.slotNext := rfl
@[simp] theorem Block.setLink_tu (n : Nat) (x : Link) : (b.setLink n x).tu = b.tu := rfl
@[simp] theorem Block.setLink_quals (n : Nat) (x : Link) : (b.setLink n x).quals = b.quals := rfl
@[simp] theorem Block.setLink_outs (n : Nat) (x : Link) : (b.setLink n x).outs = b.outs := rfl
@[simp] theorem Block.setLink_streams (n : Nat) (x : Link) : (b.setLink n x).streams = b.streams := rfl
@[simp] theorem Block.setLink_vpt (n : Nat) (x : Link) : (b.setLink n x).vpt = b.vpt := rfl
@[simp] theorem Block.setLink_cfg (n : Nat) (x : Link) : (b.setLink n x).cfg = b.cfg := rfl
@[simp] theorem Block.setLink_noc (n : Nat) (x : Link) : (b.setLink n x).noc = b.noc := rfl
@[simp] theorem Block.setLink_ssp (n : Nat) (x : Link) : (b.setLink n x).ssp = b.ssp := rfl
@[simp] theorem Block.setLink_march (n : Nat) (x : Link) : (b.setLink n x).march = b.march := rfl
@[simp] theorem Block.setLink_parts (n : Nat) (x : Link) : (b.setLink n x).parts = b.parts := rfl
@[simp] theorem Block.setLink_clus (n : Nat) (x : Link) : (b.setLink n x).clus = b.clus := rfl
@[simp] theorem Block.setLink_far (n : Nat) (x : Link) : (b.setLink n x).far = b.far := rfl
@[simp] theorem Block.setLink_farBad (n : Nat) (x : Link) : (b.setLink n x).farBad = b.farBad := rfl
@[simp] theorem Block.setLink_out (n : Nat) (x : Link) : (b.setLink n x).out = b.out := rfl
@[simp] theorem Block.setLink_evtClr (n : Nat) (x : Link) : (b.setLink n x).evtClr = b.evtClr := rfl
@[simp] theorem Block.setLink_reply (n : Nat) (x : Link) : (b.setLink n x).reply = b.reply := rfl
@[simp] theorem Block.setLink_drawn (n : Nat) (x : Link) : (b.setLink n x).drawn = b.drawn := rfl
@[simp] theorem Block.setLink_time (n : Nat) (x : Link) : (b.setLink n x).time = b.time := rfl
@[simp] theorem Block.setLink_frzSeq (n : Nat) (x : Link) : (b.setLink n x).frzSeq = b.frzSeq := rfl
@[simp] theorem Block.setLink_frzSeen (n : Nat) (x : Link) : (b.setLink n x).frzSeen = b.frzSeen := rfl
@[simp] theorem Block.setLink_pathSeq (n : Nat) (x : Link) : (b.setLink n x).pathSeq = b.pathSeq := rfl
@[simp] theorem Block.setLink_pathSeen (n : Nat) (x : Link) : (b.setLink n x).pathSeen = b.pathSeen := rfl
@[simp] theorem Block.setLink_reg (n : Nat) (x : Link) (j : RegKey) : (b.setLink n x).reg j = b.reg j := rfl
@[simp] theorem Block.setLink_part (n : Nat) (x : Link) (q : Nat) : (b.setLink n x).part q = b.part q := rfl
@[simp] theorem Block.setLink_clu (n : Nat) (x : Link) (d : Nat) : (b.setLink n x).clu d = b.clu d := rfl
@[simp] theorem Block.setLink_dmaCh (n : Nat) (x : Link) (m : Nat) : (b.setLink n x).dmaCh m = b.dmaCh m := rfl
@[simp] theorem Block.setLink_func (n : Nat) (x : Link) (m : Nat) : (b.setLink n x).func m = b.func m := rfl

/-! ## modLink -/

@[simp] theorem Block.modLink_regs (n : Nat) (f : Link → Link) : (b.modLink n f).regs = b.regs := rfl
@[simp] theorem Block.modLink_pw (n : Nat) (f : Link → Link) : (b.modLink n f).pw = b.pw := rfl
@[simp] theorem Block.modLink_flt (n : Nat) (f : Link → Link) : (b.modLink n f).flt = b.flt := rfl
@[simp] theorem Block.modLink_sec (n : Nat) (f : Link → Link) : (b.modLink n f).sec = b.sec := rfl
@[simp] theorem Block.modLink_fw (n : Nat) (f : Link → Link) : (b.modLink n f).fw = b.fw := rfl
@[simp] theorem Block.modLink_funcs (n : Nat) (f : Link → Link) : (b.modLink n f).funcs = b.funcs := rfl
@[simp] theorem Block.modLink_vfEnable (n : Nat) (f : Link → Link) : (b.modLink n f).vfEnable = b.vfEnable := rfl
@[simp] theorem Block.modLink_numVfs (n : Nat) (f : Link → Link) : (b.modLink n f).numVfs = b.numVfs := rfl
@[simp] theorem Block.modLink_tdu (n : Nat) (f : Link → Link) : (b.modLink n f).tdu = b.tdu := rfl
@[simp] theorem Block.modLink_dma (n : Nat) (f : Link → Link) : (b.modLink n f).dma = b.dma := rfl
@[simp] theorem Block.modLink_prog (n : Nat) (f : Link → Link) : (b.modLink n f).prog = b.prog := rfl
@[simp] theorem Block.modLink_slotNext (n : Nat) (f : Link → Link) : (b.modLink n f).slotNext = b.slotNext := rfl
@[simp] theorem Block.modLink_tu (n : Nat) (f : Link → Link) : (b.modLink n f).tu = b.tu := rfl
@[simp] theorem Block.modLink_quals (n : Nat) (f : Link → Link) : (b.modLink n f).quals = b.quals := rfl
@[simp] theorem Block.modLink_outs (n : Nat) (f : Link → Link) : (b.modLink n f).outs = b.outs := rfl
@[simp] theorem Block.modLink_streams (n : Nat) (f : Link → Link) : (b.modLink n f).streams = b.streams := rfl
@[simp] theorem Block.modLink_vpt (n : Nat) (f : Link → Link) : (b.modLink n f).vpt = b.vpt := rfl
@[simp] theorem Block.modLink_cfg (n : Nat) (f : Link → Link) : (b.modLink n f).cfg = b.cfg := rfl
@[simp] theorem Block.modLink_noc (n : Nat) (f : Link → Link) : (b.modLink n f).noc = b.noc := rfl
@[simp] theorem Block.modLink_ssp (n : Nat) (f : Link → Link) : (b.modLink n f).ssp = b.ssp := rfl
@[simp] theorem Block.modLink_march (n : Nat) (f : Link → Link) : (b.modLink n f).march = b.march := rfl
@[simp] theorem Block.modLink_parts (n : Nat) (f : Link → Link) : (b.modLink n f).parts = b.parts := rfl
@[simp] theorem Block.modLink_clus (n : Nat) (f : Link → Link) : (b.modLink n f).clus = b.clus := rfl
@[simp] theorem Block.modLink_far (n : Nat) (f : Link → Link) : (b.modLink n f).far = b.far := rfl
@[simp] theorem Block.modLink_farBad (n : Nat) (f : Link → Link) : (b.modLink n f).farBad = b.farBad := rfl
@[simp] theorem Block.modLink_out (n : Nat) (f : Link → Link) : (b.modLink n f).out = b.out := rfl
@[simp] theorem Block.modLink_evtClr (n : Nat) (f : Link → Link) : (b.modLink n f).evtClr = b.evtClr := rfl
@[simp] theorem Block.modLink_reply (n : Nat) (f : Link → Link) : (b.modLink n f).reply = b.reply := rfl
@[simp] theorem Block.modLink_drawn (n : Nat) (f : Link → Link) : (b.modLink n f).drawn = b.drawn := rfl
@[simp] theorem Block.modLink_time (n : Nat) (f : Link → Link) : (b.modLink n f).time = b.time := rfl
@[simp] theorem Block.modLink_frzSeq (n : Nat) (f : Link → Link) : (b.modLink n f).frzSeq = b.frzSeq := rfl
@[simp] theorem Block.modLink_frzSeen (n : Nat) (f : Link → Link) : (b.modLink n f).frzSeen = b.frzSeen := rfl
@[simp] theorem Block.modLink_pathSeq (n : Nat) (f : Link → Link) : (b.modLink n f).pathSeq = b.pathSeq := rfl
@[simp] theorem Block.modLink_pathSeen (n : Nat) (f : Link → Link) : (b.modLink n f).pathSeen = b.pathSeen := rfl
@[simp] theorem Block.modLink_reg (n : Nat) (f : Link → Link) (j : RegKey) : (b.modLink n f).reg j = b.reg j := rfl
@[simp] theorem Block.modLink_part (n : Nat) (f : Link → Link) (q : Nat) : (b.modLink n f).part q = b.part q := rfl
@[simp] theorem Block.modLink_clu (n : Nat) (f : Link → Link) (d : Nat) : (b.modLink n f).clu d = b.clu d := rfl
@[simp] theorem Block.modLink_dmaCh (n : Nat) (f : Link → Link) (m : Nat) : (b.modLink n f).dmaCh m = b.dmaCh m := rfl
@[simp] theorem Block.modLink_func (n : Nat) (f : Link → Link) (m : Nat) : (b.modLink n f).func m = b.func m := rfl

/-! ## modDma -/

@[simp] theorem Block.modDma_regs (n : Nat) (f : Dma → Dma) : (b.modDma n f).regs = b.regs := rfl
@[simp] theorem Block.modDma_pw (n : Nat) (f : Dma → Dma) : (b.modDma n f).pw = b.pw := rfl
@[simp] theorem Block.modDma_flt (n : Nat) (f : Dma → Dma) : (b.modDma n f).flt = b.flt := rfl
@[simp] theorem Block.modDma_sec (n : Nat) (f : Dma → Dma) : (b.modDma n f).sec = b.sec := rfl
@[simp] theorem Block.modDma_fw (n : Nat) (f : Dma → Dma) : (b.modDma n f).fw = b.fw := rfl
@[simp] theorem Block.modDma_funcs (n : Nat) (f : Dma → Dma) : (b.modDma n f).funcs = b.funcs := rfl
@[simp] theorem Block.modDma_vfEnable (n : Nat) (f : Dma → Dma) : (b.modDma n f).vfEnable = b.vfEnable := rfl
@[simp] theorem Block.modDma_numVfs (n : Nat) (f : Dma → Dma) : (b.modDma n f).numVfs = b.numVfs := rfl
@[simp] theorem Block.modDma_tdu (n : Nat) (f : Dma → Dma) : (b.modDma n f).tdu = b.tdu := rfl
@[simp] theorem Block.modDma_prog (n : Nat) (f : Dma → Dma) : (b.modDma n f).prog = b.prog := rfl
@[simp] theorem Block.modDma_slotNext (n : Nat) (f : Dma → Dma) : (b.modDma n f).slotNext = b.slotNext := rfl
@[simp] theorem Block.modDma_tu (n : Nat) (f : Dma → Dma) : (b.modDma n f).tu = b.tu := rfl
@[simp] theorem Block.modDma_quals (n : Nat) (f : Dma → Dma) : (b.modDma n f).quals = b.quals := rfl
@[simp] theorem Block.modDma_outs (n : Nat) (f : Dma → Dma) : (b.modDma n f).outs = b.outs := rfl
@[simp] theorem Block.modDma_streams (n : Nat) (f : Dma → Dma) : (b.modDma n f).streams = b.streams := rfl
@[simp] theorem Block.modDma_vpt (n : Nat) (f : Dma → Dma) : (b.modDma n f).vpt = b.vpt := rfl
@[simp] theorem Block.modDma_cfg (n : Nat) (f : Dma → Dma) : (b.modDma n f).cfg = b.cfg := rfl
@[simp] theorem Block.modDma_noc (n : Nat) (f : Dma → Dma) : (b.modDma n f).noc = b.noc := rfl
@[simp] theorem Block.modDma_ssp (n : Nat) (f : Dma → Dma) : (b.modDma n f).ssp = b.ssp := rfl
@[simp] theorem Block.modDma_march (n : Nat) (f : Dma → Dma) : (b.modDma n f).march = b.march := rfl
@[simp] theorem Block.modDma_links (n : Nat) (f : Dma → Dma) : (b.modDma n f).links = b.links := rfl
@[simp] theorem Block.modDma_parts (n : Nat) (f : Dma → Dma) : (b.modDma n f).parts = b.parts := rfl
@[simp] theorem Block.modDma_clus (n : Nat) (f : Dma → Dma) : (b.modDma n f).clus = b.clus := rfl
@[simp] theorem Block.modDma_far (n : Nat) (f : Dma → Dma) : (b.modDma n f).far = b.far := rfl
@[simp] theorem Block.modDma_farBad (n : Nat) (f : Dma → Dma) : (b.modDma n f).farBad = b.farBad := rfl
@[simp] theorem Block.modDma_out (n : Nat) (f : Dma → Dma) : (b.modDma n f).out = b.out := rfl
@[simp] theorem Block.modDma_evtClr (n : Nat) (f : Dma → Dma) : (b.modDma n f).evtClr = b.evtClr := rfl
@[simp] theorem Block.modDma_reply (n : Nat) (f : Dma → Dma) : (b.modDma n f).reply = b.reply := rfl
@[simp] theorem Block.modDma_drawn (n : Nat) (f : Dma → Dma) : (b.modDma n f).drawn = b.drawn := rfl
@[simp] theorem Block.modDma_time (n : Nat) (f : Dma → Dma) : (b.modDma n f).time = b.time := rfl
@[simp] theorem Block.modDma_frzSeq (n : Nat) (f : Dma → Dma) : (b.modDma n f).frzSeq = b.frzSeq := rfl
@[simp] theorem Block.modDma_frzSeen (n : Nat) (f : Dma → Dma) : (b.modDma n f).frzSeen = b.frzSeen := rfl
@[simp] theorem Block.modDma_pathSeq (n : Nat) (f : Dma → Dma) : (b.modDma n f).pathSeq = b.pathSeq := rfl
@[simp] theorem Block.modDma_pathSeen (n : Nat) (f : Dma → Dma) : (b.modDma n f).pathSeen = b.pathSeen := rfl
@[simp] theorem Block.modDma_reg (n : Nat) (f : Dma → Dma) (j : RegKey) : (b.modDma n f).reg j = b.reg j := rfl
@[simp] theorem Block.modDma_part (n : Nat) (f : Dma → Dma) (q : Nat) : (b.modDma n f).part q = b.part q := rfl
@[simp] theorem Block.modDma_clu (n : Nat) (f : Dma → Dma) (d : Nat) : (b.modDma n f).clu d = b.clu d := rfl
@[simp] theorem Block.modDma_link (n : Nat) (f : Dma → Dma) (m : Nat) : (b.modDma n f).link m = b.link m := rfl
@[simp] theorem Block.modDma_func (n : Nat) (f : Dma → Dma) (m : Nat) : (b.modDma n f).func m = b.func m := rfl

/-! ## modFunc -/

@[simp] theorem Block.modFunc_regs (n : Nat) (f : Func → Func) : (b.modFunc n f).regs = b.regs := rfl
@[simp] theorem Block.modFunc_pw (n : Nat) (f : Func → Func) : (b.modFunc n f).pw = b.pw := rfl
@[simp] theorem Block.modFunc_flt (n : Nat) (f : Func → Func) : (b.modFunc n f).flt = b.flt := rfl
@[simp] theorem Block.modFunc_sec (n : Nat) (f : Func → Func) : (b.modFunc n f).sec = b.sec := rfl
@[simp] theorem Block.modFunc_fw (n : Nat) (f : Func → Func) : (b.modFunc n f).fw = b.fw := rfl
@[simp] theorem Block.modFunc_vfEnable (n : Nat) (f : Func → Func) : (b.modFunc n f).vfEnable = b.vfEnable := rfl
@[simp] theorem Block.modFunc_numVfs (n : Nat) (f : Func → Func) : (b.modFunc n f).numVfs = b.numVfs := rfl
@[simp] theorem Block.modFunc_tdu (n : Nat) (f : Func → Func) : (b.modFunc n f).tdu = b.tdu := rfl
@[simp] theorem Block.modFunc_dma (n : Nat) (f : Func → Func) : (b.modFunc n f).dma = b.dma := rfl
@[simp] theorem Block.modFunc_prog (n : Nat) (f : Func → Func) : (b.modFunc n f).prog = b.prog := rfl
@[simp] theorem Block.modFunc_slotNext (n : Nat) (f : Func → Func) : (b.modFunc n f).slotNext = b.slotNext := rfl
@[simp] theorem Block.modFunc_tu (n : Nat) (f : Func → Func) : (b.modFunc n f).tu = b.tu := rfl
@[simp] theorem Block.modFunc_quals (n : Nat) (f : Func → Func) : (b.modFunc n f).quals = b.quals := rfl
@[simp] theorem Block.modFunc_outs (n : Nat) (f : Func → Func) : (b.modFunc n f).outs = b.outs := rfl
@[simp] theorem Block.modFunc_streams (n : Nat) (f : Func → Func) : (b.modFunc n f).streams = b.streams := rfl
@[simp] theorem Block.modFunc_vpt (n : Nat) (f : Func → Func) : (b.modFunc n f).vpt = b.vpt := rfl
@[simp] theorem Block.modFunc_cfg (n : Nat) (f : Func → Func) : (b.modFunc n f).cfg = b.cfg := rfl
@[simp] theorem Block.modFunc_noc (n : Nat) (f : Func → Func) : (b.modFunc n f).noc = b.noc := rfl
@[simp] theorem Block.modFunc_ssp (n : Nat) (f : Func → Func) : (b.modFunc n f).ssp = b.ssp := rfl
@[simp] theorem Block.modFunc_march (n : Nat) (f : Func → Func) : (b.modFunc n f).march = b.march := rfl
@[simp] theorem Block.modFunc_links (n : Nat) (f : Func → Func) : (b.modFunc n f).links = b.links := rfl
@[simp] theorem Block.modFunc_parts (n : Nat) (f : Func → Func) : (b.modFunc n f).parts = b.parts := rfl
@[simp] theorem Block.modFunc_clus (n : Nat) (f : Func → Func) : (b.modFunc n f).clus = b.clus := rfl
@[simp] theorem Block.modFunc_far (n : Nat) (f : Func → Func) : (b.modFunc n f).far = b.far := rfl
@[simp] theorem Block.modFunc_farBad (n : Nat) (f : Func → Func) : (b.modFunc n f).farBad = b.farBad := rfl
@[simp] theorem Block.modFunc_out (n : Nat) (f : Func → Func) : (b.modFunc n f).out = b.out := rfl
@[simp] theorem Block.modFunc_evtClr (n : Nat) (f : Func → Func) : (b.modFunc n f).evtClr = b.evtClr := rfl
@[simp] theorem Block.modFunc_reply (n : Nat) (f : Func → Func) : (b.modFunc n f).reply = b.reply := rfl
@[simp] theorem Block.modFunc_drawn (n : Nat) (f : Func → Func) : (b.modFunc n f).drawn = b.drawn := rfl
@[simp] theorem Block.modFunc_time (n : Nat) (f : Func → Func) : (b.modFunc n f).time = b.time := rfl
@[simp] theorem Block.modFunc_frzSeq (n : Nat) (f : Func → Func) : (b.modFunc n f).frzSeq = b.frzSeq := rfl
@[simp] theorem Block.modFunc_frzSeen (n : Nat) (f : Func → Func) : (b.modFunc n f).frzSeen = b.frzSeen := rfl
@[simp] theorem Block.modFunc_pathSeq (n : Nat) (f : Func → Func) : (b.modFunc n f).pathSeq = b.pathSeq := rfl
@[simp] theorem Block.modFunc_pathSeen (n : Nat) (f : Func → Func) : (b.modFunc n f).pathSeen = b.pathSeen := rfl
@[simp] theorem Block.modFunc_reg (n : Nat) (f : Func → Func) (j : RegKey) : (b.modFunc n f).reg j = b.reg j := rfl
@[simp] theorem Block.modFunc_part (n : Nat) (f : Func → Func) (q : Nat) : (b.modFunc n f).part q = b.part q := rfl
@[simp] theorem Block.modFunc_clu (n : Nat) (f : Func → Func) (d : Nat) : (b.modFunc n f).clu d = b.clu d := rfl
@[simp] theorem Block.modFunc_link (n : Nat) (f : Func → Func) (m : Nat) : (b.modFunc n f).link m = b.link m := rfl
@[simp] theorem Block.modFunc_dmaCh (n : Nat) (f : Func → Func) (m : Nat) : (b.modFunc n f).dmaCh m = b.dmaCh m := rfl

/-! ## draw -/

@[simp] theorem Block.draw_regs : (b.draw).regs = b.regs := rfl
@[simp] theorem Block.draw_pw : (b.draw).pw = b.pw := rfl
@[simp] theorem Block.draw_flt : (b.draw).flt = b.flt := rfl
@[simp] theorem Block.draw_sec : (b.draw).sec = b.sec := rfl
@[simp] theorem Block.draw_fw : (b.draw).fw = b.fw := rfl
@[simp] theorem Block.draw_funcs : (b.draw).funcs = b.funcs := rfl
@[simp] theorem Block.draw_vfEnable : (b.draw).vfEnable = b.vfEnable := rfl
@[simp] theorem Block.draw_numVfs : (b.draw).numVfs = b.numVfs := rfl
@[simp] theorem Block.draw_tdu : (b.draw).tdu = b.tdu := rfl
@[simp] theorem Block.draw_dma : (b.draw).dma = b.dma := rfl
@[simp] theorem Block.draw_prog : (b.draw).prog = b.prog := rfl
@[simp] theorem Block.draw_slotNext : (b.draw).slotNext = b.slotNext := rfl
@[simp] theorem Block.draw_tu : (b.draw).tu = b.tu := rfl
@[simp] theorem Block.draw_quals : (b.draw).quals = b.quals := rfl
@[simp] theorem Block.draw_outs : (b.draw).outs = b.outs := rfl
@[simp] theorem Block.draw_streams : (b.draw).streams = b.streams := rfl
@[simp] theorem Block.draw_vpt : (b.draw).vpt = b.vpt := rfl
@[simp] theorem Block.draw_cfg : (b.draw).cfg = b.cfg := rfl
@[simp] theorem Block.draw_noc : (b.draw).noc = b.noc := rfl
@[simp] theorem Block.draw_ssp : (b.draw).ssp = b.ssp := rfl
@[simp] theorem Block.draw_march : (b.draw).march = b.march := rfl
@[simp] theorem Block.draw_links : (b.draw).links = b.links := rfl
@[simp] theorem Block.draw_parts : (b.draw).parts = b.parts := rfl
@[simp] theorem Block.draw_clus : (b.draw).clus = b.clus := rfl
@[simp] theorem Block.draw_far : (b.draw).far = b.far := rfl
@[simp] theorem Block.draw_farBad : (b.draw).farBad = b.farBad := rfl
@[simp] theorem Block.draw_out : (b.draw).out = b.out := rfl
@[simp] theorem Block.draw_evtClr : (b.draw).evtClr = b.evtClr := rfl
@[simp] theorem Block.draw_reply : (b.draw).reply = b.reply := rfl
@[simp] theorem Block.draw_time : (b.draw).time = b.time := rfl
@[simp] theorem Block.draw_frzSeq : (b.draw).frzSeq = b.frzSeq := rfl
@[simp] theorem Block.draw_frzSeen : (b.draw).frzSeen = b.frzSeen := rfl
@[simp] theorem Block.draw_pathSeq : (b.draw).pathSeq = b.pathSeq := rfl
@[simp] theorem Block.draw_pathSeen : (b.draw).pathSeen = b.pathSeen := rfl
@[simp] theorem Block.draw_reg (j : RegKey) : (b.draw).reg j = b.reg j := rfl
@[simp] theorem Block.draw_part (q : Nat) : (b.draw).part q = b.part q := rfl
@[simp] theorem Block.draw_clu (d : Nat) : (b.draw).clu d = b.clu d := rfl
@[simp] theorem Block.draw_link (m : Nat) : (b.draw).link m = b.link m := rfl
@[simp] theorem Block.draw_dmaCh (m : Nat) : (b.draw).dmaCh m = b.dmaCh m := rfl
@[simp] theorem Block.draw_func (m : Nat) : (b.draw).func m = b.func m := rfl

/-! ## send -/

@[simp] theorem Block.send_regs (m : HostMsg) : (b.send m).regs = b.regs := rfl
@[simp] theorem Block.send_pw (m : HostMsg) : (b.send m).pw = b.pw := rfl
@[simp] theorem Block.send_flt (m : HostMsg) : (b.send m).flt = b.flt := rfl
@[simp] theorem Block.send_sec (m : HostMsg) : (b.send m).sec = b.sec := rfl
@[simp] theorem Block.send_fw (m : HostMsg) : (b.send m).fw = b.fw := rfl
@[simp] theorem Block.send_funcs (m : HostMsg) : (b.send m).funcs = b.funcs := rfl
@[simp] theorem Block.send_vfEnable (m : HostMsg) : (b.send m).vfEnable = b.vfEnable := rfl
@[simp] theorem Block.send_numVfs (m : HostMsg) : (b.send m).numVfs = b.numVfs := rfl
@[simp] theorem Block.send_tdu (m : HostMsg) : (b.send m).tdu = b.tdu := rfl
@[simp] theorem Block.send_dma (m : HostMsg) : (b.send m).dma = b.dma := rfl
@[simp] theorem Block.send_prog (m : HostMsg) : (b.send m).prog = b.prog := rfl
@[simp] theorem Block.send_slotNext (m : HostMsg) : (b.send m).slotNext = b.slotNext := rfl
@[simp] theorem Block.send_tu (m : HostMsg) : (b.send m).tu = b.tu := rfl
@[simp] theorem Block.send_quals (m : HostMsg) : (b.send m).quals = b.quals := rfl
@[simp] theorem Block.send_outs (m : HostMsg) : (b.send m).outs = b.outs := rfl
@[simp] theorem Block.send_streams (m : HostMsg) : (b.send m).streams = b.streams := rfl
@[simp] theorem Block.send_vpt (m : HostMsg) : (b.send m).vpt = b.vpt := rfl
@[simp] theorem Block.send_cfg (m : HostMsg) : (b.send m).cfg = b.cfg := rfl
@[simp] theorem Block.send_noc (m : HostMsg) : (b.send m).noc = b.noc := rfl
@[simp] theorem Block.send_ssp (m : HostMsg) : (b.send m).ssp = b.ssp := rfl
@[simp] theorem Block.send_march (m : HostMsg) : (b.send m).march = b.march := rfl
@[simp] theorem Block.send_links (m : HostMsg) : (b.send m).links = b.links := rfl
@[simp] theorem Block.send_parts (m : HostMsg) : (b.send m).parts = b.parts := rfl
@[simp] theorem Block.send_clus (m : HostMsg) : (b.send m).clus = b.clus := rfl
@[simp] theorem Block.send_far (m : HostMsg) : (b.send m).far = b.far := rfl
@[simp] theorem Block.send_farBad (m : HostMsg) : (b.send m).farBad = b.farBad := rfl
@[simp] theorem Block.send_evtClr (m : HostMsg) : (b.send m).evtClr = b.evtClr := rfl
@[simp] theorem Block.send_reply (m : HostMsg) : (b.send m).reply = b.reply := rfl
@[simp] theorem Block.send_drawn (m : HostMsg) : (b.send m).drawn = b.drawn := rfl
@[simp] theorem Block.send_time (m : HostMsg) : (b.send m).time = b.time := rfl
@[simp] theorem Block.send_frzSeq (m : HostMsg) : (b.send m).frzSeq = b.frzSeq := rfl
@[simp] theorem Block.send_frzSeen (m : HostMsg) : (b.send m).frzSeen = b.frzSeen := rfl
@[simp] theorem Block.send_pathSeq (m : HostMsg) : (b.send m).pathSeq = b.pathSeq := rfl
@[simp] theorem Block.send_pathSeen (m : HostMsg) : (b.send m).pathSeen = b.pathSeen := rfl
@[simp] theorem Block.send_reg (m : HostMsg) (j : RegKey) : (b.send m).reg j = b.reg j := rfl
@[simp] theorem Block.send_part (m : HostMsg) (q : Nat) : (b.send m).part q = b.part q := rfl
@[simp] theorem Block.send_clu (m : HostMsg) (d : Nat) : (b.send m).clu d = b.clu d := rfl
@[simp] theorem Block.send_link (m : HostMsg) (n : Nat) : (b.send m).link n = b.link n := rfl
@[simp] theorem Block.send_dmaCh (m : HostMsg) (n : Nat) : (b.send m).dmaCh n = b.dmaCh n := rfl
@[simp] theorem Block.send_func (m : HostMsg) (n : Nat) : (b.send m).func n = b.func n := rfl

/-! ## modTu -/

@[simp] theorem Block.modTu_regs (f : Tu → Tu) : (b.modTu f).regs = b.regs := rfl
@[simp] theorem Block.modTu_pw (f : Tu → Tu) : (b.modTu f).pw = b.pw := rfl
@[simp] theorem Block.modTu_flt (f : Tu → Tu) : (b.modTu f).flt = b.flt := rfl
@[simp] theorem Block.modTu_sec (f : Tu → Tu) : (b.modTu f).sec = b.sec := rfl
@[simp] theorem Block.modTu_fw (f : Tu → Tu) : (b.modTu f).fw = b.fw := rfl
@[simp] theorem Block.modTu_funcs (f : Tu → Tu) : (b.modTu f).funcs = b.funcs := rfl
@[simp] theorem Block.modTu_vfEnable (f : Tu → Tu) : (b.modTu f).vfEnable = b.vfEnable := rfl
@[simp] theorem Block.modTu_numVfs (f : Tu → Tu) : (b.modTu f).numVfs = b.numVfs := rfl
@[simp] theorem Block.modTu_tdu (f : Tu → Tu) : (b.modTu f).tdu = b.tdu := rfl
@[simp] theorem Block.modTu_dma (f : Tu → Tu) : (b.modTu f).dma = b.dma := rfl
@[simp] theorem Block.modTu_prog (f : Tu → Tu) : (b.modTu f).prog = b.prog := rfl
@[simp] theorem Block.modTu_slotNext (f : Tu → Tu) : (b.modTu f).slotNext = b.slotNext := rfl
@[simp] theorem Block.modTu_quals (f : Tu → Tu) : (b.modTu f).quals = b.quals := rfl
@[simp] theorem Block.modTu_outs (f : Tu → Tu) : (b.modTu f).outs = b.outs := rfl
@[simp] theorem Block.modTu_streams (f : Tu → Tu) : (b.modTu f).streams = b.streams := rfl
@[simp] theorem Block.modTu_vpt (f : Tu → Tu) : (b.modTu f).vpt = b.vpt := rfl
@[simp] theorem Block.modTu_cfg (f : Tu → Tu) : (b.modTu f).cfg = b.cfg := rfl
@[simp] theorem Block.modTu_noc (f : Tu → Tu) : (b.modTu f).noc = b.noc := rfl
@[simp] theorem Block.modTu_ssp (f : Tu → Tu) : (b.modTu f).ssp = b.ssp := rfl
@[simp] theorem Block.modTu_march (f : Tu → Tu) : (b.modTu f).march = b.march := rfl
@[simp] theorem Block.modTu_links (f : Tu → Tu) : (b.modTu f).links = b.links := rfl
@[simp] theorem Block.modTu_parts (f : Tu → Tu) : (b.modTu f).parts = b.parts := rfl
@[simp] theorem Block.modTu_clus (f : Tu → Tu) : (b.modTu f).clus = b.clus := rfl
@[simp] theorem Block.modTu_far (f : Tu → Tu) : (b.modTu f).far = b.far := rfl
@[simp] theorem Block.modTu_farBad (f : Tu → Tu) : (b.modTu f).farBad = b.farBad := rfl
@[simp] theorem Block.modTu_out (f : Tu → Tu) : (b.modTu f).out = b.out := rfl
@[simp] theorem Block.modTu_evtClr (f : Tu → Tu) : (b.modTu f).evtClr = b.evtClr := rfl
@[simp] theorem Block.modTu_reply (f : Tu → Tu) : (b.modTu f).reply = b.reply := rfl
@[simp] theorem Block.modTu_drawn (f : Tu → Tu) : (b.modTu f).drawn = b.drawn := rfl
@[simp] theorem Block.modTu_time (f : Tu → Tu) : (b.modTu f).time = b.time := rfl
@[simp] theorem Block.modTu_frzSeq (f : Tu → Tu) : (b.modTu f).frzSeq = b.frzSeq := rfl
@[simp] theorem Block.modTu_frzSeen (f : Tu → Tu) : (b.modTu f).frzSeen = b.frzSeen := rfl
@[simp] theorem Block.modTu_pathSeq (f : Tu → Tu) : (b.modTu f).pathSeq = b.pathSeq := rfl
@[simp] theorem Block.modTu_pathSeen (f : Tu → Tu) : (b.modTu f).pathSeen = b.pathSeen := rfl
@[simp] theorem Block.modTu_reg (f : Tu → Tu) (j : RegKey) : (b.modTu f).reg j = b.reg j := rfl
@[simp] theorem Block.modTu_part (f : Tu → Tu) (q : Nat) : (b.modTu f).part q = b.part q := rfl
@[simp] theorem Block.modTu_clu (f : Tu → Tu) (d : Nat) : (b.modTu f).clu d = b.clu d := rfl
@[simp] theorem Block.modTu_link (f : Tu → Tu) (m : Nat) : (b.modTu f).link m = b.link m := rfl
@[simp] theorem Block.modTu_dmaCh (f : Tu → Tu) (m : Nat) : (b.modTu f).dmaCh m = b.dmaCh m := rfl
@[simp] theorem Block.modTu_func (f : Tu → Tu) (m : Nat) : (b.modTu f).func m = b.func m := rfl

/-! ## modCfg -/

@[simp] theorem Block.modCfg_regs (f : Cfg → Cfg) : (b.modCfg f).regs = b.regs := rfl
@[simp] theorem Block.modCfg_pw (f : Cfg → Cfg) : (b.modCfg f).pw = b.pw := rfl
@[simp] theorem Block.modCfg_flt (f : Cfg → Cfg) : (b.modCfg f).flt = b.flt := rfl
@[simp] theorem Block.modCfg_sec (f : Cfg → Cfg) : (b.modCfg f).sec = b.sec := rfl
@[simp] theorem Block.modCfg_fw (f : Cfg → Cfg) : (b.modCfg f).fw = b.fw := rfl
@[simp] theorem Block.modCfg_funcs (f : Cfg → Cfg) : (b.modCfg f).funcs = b.funcs := rfl
@[simp] theorem Block.modCfg_vfEnable (f : Cfg → Cfg) : (b.modCfg f).vfEnable = b.vfEnable := rfl
@[simp] theorem Block.modCfg_numVfs (f : Cfg → Cfg) : (b.modCfg f).numVfs = b.numVfs := rfl
@[simp] theorem Block.modCfg_tdu (f : Cfg → Cfg) : (b.modCfg f).tdu = b.tdu := rfl
@[simp] theorem Block.modCfg_dma (f : Cfg → Cfg) : (b.modCfg f).dma = b.dma := rfl
@[simp] theorem Block.modCfg_prog (f : Cfg → Cfg) : (b.modCfg f).prog = b.prog := rfl
@[simp] theorem Block.modCfg_slotNext (f : Cfg → Cfg) : (b.modCfg f).slotNext = b.slotNext := rfl
@[simp] theorem Block.modCfg_tu (f : Cfg → Cfg) : (b.modCfg f).tu = b.tu := rfl
@[simp] theorem Block.modCfg_quals (f : Cfg → Cfg) : (b.modCfg f).quals = b.quals := rfl
@[simp] theorem Block.modCfg_outs (f : Cfg → Cfg) : (b.modCfg f).outs = b.outs := rfl
@[simp] theorem Block.modCfg_streams (f : Cfg → Cfg) : (b.modCfg f).streams = b.streams := rfl
@[simp] theorem Block.modCfg_vpt (f : Cfg → Cfg) : (b.modCfg f).vpt = b.vpt := rfl
@[simp] theorem Block.modCfg_noc (f : Cfg → Cfg) : (b.modCfg f).noc = b.noc := rfl
@[simp] theorem Block.modCfg_ssp (f : Cfg → Cfg) : (b.modCfg f).ssp = b.ssp := rfl
@[simp] theorem Block.modCfg_march (f : Cfg → Cfg) : (b.modCfg f).march = b.march := rfl
@[simp] theorem Block.modCfg_links (f : Cfg → Cfg) : (b.modCfg f).links = b.links := rfl
@[simp] theorem Block.modCfg_parts (f : Cfg → Cfg) : (b.modCfg f).parts = b.parts := rfl
@[simp] theorem Block.modCfg_clus (f : Cfg → Cfg) : (b.modCfg f).clus = b.clus := rfl
@[simp] theorem Block.modCfg_far (f : Cfg → Cfg) : (b.modCfg f).far = b.far := rfl
@[simp] theorem Block.modCfg_farBad (f : Cfg → Cfg) : (b.modCfg f).farBad = b.farBad := rfl
@[simp] theorem Block.modCfg_out (f : Cfg → Cfg) : (b.modCfg f).out = b.out := rfl
@[simp] theorem Block.modCfg_evtClr (f : Cfg → Cfg) : (b.modCfg f).evtClr = b.evtClr := rfl
@[simp] theorem Block.modCfg_reply (f : Cfg → Cfg) : (b.modCfg f).reply = b.reply := rfl
@[simp] theorem Block.modCfg_drawn (f : Cfg → Cfg) : (b.modCfg f).drawn = b.drawn := rfl
@[simp] theorem Block.modCfg_time (f : Cfg → Cfg) : (b.modCfg f).time = b.time := rfl
@[simp] theorem Block.modCfg_frzSeq (f : Cfg → Cfg) : (b.modCfg f).frzSeq = b.frzSeq := rfl
@[simp] theorem Block.modCfg_frzSeen (f : Cfg → Cfg) : (b.modCfg f).frzSeen = b.frzSeen := rfl
@[simp] theorem Block.modCfg_pathSeq (f : Cfg → Cfg) : (b.modCfg f).pathSeq = b.pathSeq := rfl
@[simp] theorem Block.modCfg_pathSeen (f : Cfg → Cfg) : (b.modCfg f).pathSeen = b.pathSeen := rfl
@[simp] theorem Block.modCfg_reg (f : Cfg → Cfg) (j : RegKey) : (b.modCfg f).reg j = b.reg j := rfl
@[simp] theorem Block.modCfg_part (f : Cfg → Cfg) (q : Nat) : (b.modCfg f).part q = b.part q := rfl
@[simp] theorem Block.modCfg_clu (f : Cfg → Cfg) (d : Nat) : (b.modCfg f).clu d = b.clu d := rfl
@[simp] theorem Block.modCfg_link (f : Cfg → Cfg) (m : Nat) : (b.modCfg f).link m = b.link m := rfl
@[simp] theorem Block.modCfg_dmaCh (f : Cfg → Cfg) (m : Nat) : (b.modCfg f).dmaCh m = b.dmaCh m := rfl
@[simp] theorem Block.modCfg_func (f : Cfg → Cfg) (m : Nat) : (b.modCfg f).func m = b.func m := rfl

/-! ## modSsp -/

@[simp] theorem Block.modSsp_regs (f : Ssp → Ssp) : (b.modSsp f).regs = b.regs := rfl
@[simp] theorem Block.modSsp_pw (f : Ssp → Ssp) : (b.modSsp f).pw = b.pw := rfl
@[simp] theorem Block.modSsp_flt (f : Ssp → Ssp) : (b.modSsp f).flt = b.flt := rfl
@[simp] theorem Block.modSsp_sec (f : Ssp → Ssp) : (b.modSsp f).sec = b.sec := rfl
@[simp] theorem Block.modSsp_fw (f : Ssp → Ssp) : (b.modSsp f).fw = b.fw := rfl
@[simp] theorem Block.modSsp_funcs (f : Ssp → Ssp) : (b.modSsp f).funcs = b.funcs := rfl
@[simp] theorem Block.modSsp_vfEnable (f : Ssp → Ssp) : (b.modSsp f).vfEnable = b.vfEnable := rfl
@[simp] theorem Block.modSsp_numVfs (f : Ssp → Ssp) : (b.modSsp f).numVfs = b.numVfs := rfl
@[simp] theorem Block.modSsp_tdu (f : Ssp → Ssp) : (b.modSsp f).tdu = b.tdu := rfl
@[simp] theorem Block.modSsp_dma (f : Ssp → Ssp) : (b.modSsp f).dma = b.dma := rfl
@[simp] theorem Block.modSsp_prog (f : Ssp → Ssp) : (b.modSsp f).prog = b.prog := rfl
@[simp] theorem Block.modSsp_slotNext (f : Ssp → Ssp) : (b.modSsp f).slotNext = b.slotNext := rfl
@[simp] theorem Block.modSsp_tu (f : Ssp → Ssp) : (b.modSsp f).tu = b.tu := rfl
@[simp] theorem Block.modSsp_quals (f : Ssp → Ssp) : (b.modSsp f).quals = b.quals := rfl
@[simp] theorem Block.modSsp_outs (f : Ssp → Ssp) : (b.modSsp f).outs = b.outs := rfl
@[simp] theorem Block.modSsp_streams (f : Ssp → Ssp) : (b.modSsp f).streams = b.streams := rfl
@[simp] theorem Block.modSsp_vpt (f : Ssp → Ssp) : (b.modSsp f).vpt = b.vpt := rfl
@[simp] theorem Block.modSsp_cfg (f : Ssp → Ssp) : (b.modSsp f).cfg = b.cfg := rfl
@[simp] theorem Block.modSsp_noc (f : Ssp → Ssp) : (b.modSsp f).noc = b.noc := rfl
@[simp] theorem Block.modSsp_march (f : Ssp → Ssp) : (b.modSsp f).march = b.march := rfl
@[simp] theorem Block.modSsp_links (f : Ssp → Ssp) : (b.modSsp f).links = b.links := rfl
@[simp] theorem Block.modSsp_parts (f : Ssp → Ssp) : (b.modSsp f).parts = b.parts := rfl
@[simp] theorem Block.modSsp_clus (f : Ssp → Ssp) : (b.modSsp f).clus = b.clus := rfl
@[simp] theorem Block.modSsp_far (f : Ssp → Ssp) : (b.modSsp f).far = b.far := rfl
@[simp] theorem Block.modSsp_farBad (f : Ssp → Ssp) : (b.modSsp f).farBad = b.farBad := rfl
@[simp] theorem Block.modSsp_out (f : Ssp → Ssp) : (b.modSsp f).out = b.out := rfl
@[simp] theorem Block.modSsp_evtClr (f : Ssp → Ssp) : (b.modSsp f).evtClr = b.evtClr := rfl
@[simp] theorem Block.modSsp_reply (f : Ssp → Ssp) : (b.modSsp f).reply = b.reply := rfl
@[simp] theorem Block.modSsp_drawn (f : Ssp → Ssp) : (b.modSsp f).drawn = b.drawn := rfl
@[simp] theorem Block.modSsp_time (f : Ssp → Ssp) : (b.modSsp f).time = b.time := rfl
@[simp] theorem Block.modSsp_frzSeq (f : Ssp → Ssp) : (b.modSsp f).frzSeq = b.frzSeq := rfl
@[simp] theorem Block.modSsp_frzSeen (f : Ssp → Ssp) : (b.modSsp f).frzSeen = b.frzSeen := rfl
@[simp] theorem Block.modSsp_pathSeq (f : Ssp → Ssp) : (b.modSsp f).pathSeq = b.pathSeq := rfl
@[simp] theorem Block.modSsp_pathSeen (f : Ssp → Ssp) : (b.modSsp f).pathSeen = b.pathSeen := rfl
@[simp] theorem Block.modSsp_reg (f : Ssp → Ssp) (j : RegKey) : (b.modSsp f).reg j = b.reg j := rfl
@[simp] theorem Block.modSsp_part (f : Ssp → Ssp) (q : Nat) : (b.modSsp f).part q = b.part q := rfl
@[simp] theorem Block.modSsp_clu (f : Ssp → Ssp) (d : Nat) : (b.modSsp f).clu d = b.clu d := rfl
@[simp] theorem Block.modSsp_link (f : Ssp → Ssp) (m : Nat) : (b.modSsp f).link m = b.link m := rfl
@[simp] theorem Block.modSsp_dmaCh (f : Ssp → Ssp) (m : Nat) : (b.modSsp f).dmaCh m = b.dmaCh m := rfl
@[simp] theorem Block.modSsp_func (f : Ssp → Ssp) (m : Nat) : (b.modSsp f).func m = b.func m := rfl

/-! ## pushFrag -/

@[simp] theorem Block.pushFrag_regs (f : Frag) : (b.pushFrag f).regs = b.regs := rfl
@[simp] theorem Block.pushFrag_pw (f : Frag) : (b.pushFrag f).pw = b.pw := rfl
@[simp] theorem Block.pushFrag_flt (f : Frag) : (b.pushFrag f).flt = b.flt := rfl
@[simp] theorem Block.pushFrag_sec (f : Frag) : (b.pushFrag f).sec = b.sec := rfl
@[simp] theorem Block.pushFrag_fw (f : Frag) : (b.pushFrag f).fw = b.fw := rfl
@[simp] theorem Block.pushFrag_funcs (f : Frag) : (b.pushFrag f).funcs = b.funcs := rfl
@[simp] theorem Block.pushFrag_vfEnable (f : Frag) : (b.pushFrag f).vfEnable = b.vfEnable := rfl
@[simp] theorem Block.pushFrag_numVfs (f : Frag) : (b.pushFrag f).numVfs = b.numVfs := rfl
@[simp] theorem Block.pushFrag_dma (f : Frag) : (b.pushFrag f).dma = b.dma := rfl
@[simp] theorem Block.pushFrag_prog (f : Frag) : (b.pushFrag f).prog = b.prog := rfl
@[simp] theorem Block.pushFrag_slotNext (f : Frag) : (b.pushFrag f).slotNext = b.slotNext := rfl
@[simp] theorem Block.pushFrag_tu (f : Frag) : (b.pushFrag f).tu = b.tu := rfl
@[simp] theorem Block.pushFrag_quals (f : Frag) : (b.pushFrag f).quals = b.quals := rfl
@[simp] theorem Block.pushFrag_outs (f : Frag) : (b.pushFrag f).outs = b.outs := rfl
@[simp] theorem Block.pushFrag_streams (f : Frag) : (b.pushFrag f).streams = b.streams := rfl
@[simp] theorem Block.pushFrag_vpt (f : Frag) : (b.pushFrag f).vpt = b.vpt := rfl
@[simp] theorem Block.pushFrag_cfg (f : Frag) : (b.pushFrag f).cfg = b.cfg := rfl
@[simp] theorem Block.pushFrag_noc (f : Frag) : (b.pushFrag f).noc = b.noc := rfl
@[simp] theorem Block.pushFrag_ssp (f : Frag) : (b.pushFrag f).ssp = b.ssp := rfl
@[simp] theorem Block.pushFrag_march (f : Frag) : (b.pushFrag f).march = b.march := rfl
@[simp] theorem Block.pushFrag_links (f : Frag) : (b.pushFrag f).links = b.links := rfl
@[simp] theorem Block.pushFrag_parts (f : Frag) : (b.pushFrag f).parts = b.parts := rfl
@[simp] theorem Block.pushFrag_clus (f : Frag) : (b.pushFrag f).clus = b.clus := rfl
@[simp] theorem Block.pushFrag_far (f : Frag) : (b.pushFrag f).far = b.far := rfl
@[simp] theorem Block.pushFrag_farBad (f : Frag) : (b.pushFrag f).farBad = b.farBad := rfl
@[simp] theorem Block.pushFrag_out (f : Frag) : (b.pushFrag f).out = b.out := rfl
@[simp] theorem Block.pushFrag_evtClr (f : Frag) : (b.pushFrag f).evtClr = b.evtClr := rfl
@[simp] theorem Block.pushFrag_reply (f : Frag) : (b.pushFrag f).reply = b.reply := rfl
@[simp] theorem Block.pushFrag_drawn (f : Frag) : (b.pushFrag f).drawn = b.drawn := rfl
@[simp] theorem Block.pushFrag_time (f : Frag) : (b.pushFrag f).time = b.time := rfl
@[simp] theorem Block.pushFrag_frzSeq (f : Frag) : (b.pushFrag f).frzSeq = b.frzSeq := rfl
@[simp] theorem Block.pushFrag_frzSeen (f : Frag) : (b.pushFrag f).frzSeen = b.frzSeen := rfl
@[simp] theorem Block.pushFrag_pathSeq (f : Frag) : (b.pushFrag f).pathSeq = b.pathSeq := rfl
@[simp] theorem Block.pushFrag_pathSeen (f : Frag) : (b.pushFrag f).pathSeen = b.pathSeen := rfl
@[simp] theorem Block.pushFrag_reg (f : Frag) (j : RegKey) : (b.pushFrag f).reg j = b.reg j := rfl
@[simp] theorem Block.pushFrag_part (f : Frag) (q : Nat) : (b.pushFrag f).part q = b.part q := rfl
@[simp] theorem Block.pushFrag_clu (f : Frag) (d : Nat) : (b.pushFrag f).clu d = b.clu d := rfl
@[simp] theorem Block.pushFrag_link (f : Frag) (m : Nat) : (b.pushFrag f).link m = b.link m := rfl
@[simp] theorem Block.pushFrag_dmaCh (f : Frag) (m : Nat) : (b.pushFrag f).dmaCh m = b.dmaCh m := rfl
@[simp] theorem Block.pushFrag_func (f : Frag) (m : Nat) : (b.pushFrag f).func m = b.func m := rfl

/-! ## Reads of what was written -/

@[simp] theorem Block.part_setPart (p q : Nat) (x : Part) : (b.setPart p x).part q = if q = p then x else b.part q := by
  simp [Block.part, Block.setPart]

@[simp] theorem Block.part_modPart (p q : Nat) (f : Part → Part) : (b.modPart p f).part q = if q = p then f (b.part p) else b.part q := by
  simp [Block.modPart]

@[simp] theorem Block.clu_setClu (c d : Nat) (x : Cluster) : (b.setClu c x).clu d = if d = c then x else b.clu d := by
  simp [Block.clu, Block.setClu]

@[simp] theorem Block.clu_modClu (c d : Nat) (f : Cluster → Cluster) : (b.modClu c f).clu d = if d = c then f (b.clu c) else b.clu d := by
  simp [Block.modClu]

@[simp] theorem Block.link_setLink (n m : Nat) (x : Link) : (b.setLink n x).link m = if m = n then x else b.link m := by
  simp [Block.link, Block.setLink]

@[simp] theorem Block.link_modLink (n m : Nat) (f : Link → Link) : (b.modLink n f).link m = if m = n then f (b.link n) else b.link m := by
  simp [Block.modLink]

@[simp] theorem Block.dmaCh_modDma (n m : Nat) (f : Dma → Dma) : (b.modDma n f).dmaCh m = if m = n then f (b.dmaCh n) else b.dmaCh m := by
  simp [Block.dmaCh, Block.modDma]

@[simp] theorem Block.func_modFunc (n m : Nat) (f : Func → Func) : (b.modFunc n f).func m = if m = n then f (b.func n) else b.func m := by
  simp [Block.func, Block.modFunc]

/-! ## The state -/

@[simp] theorem State.run_eq (s : State) (f : Block → Block) : s.run f = .next ⟨s.pending, f s.b⟩ := rfl

@[simp] theorem State.reset_pending : State.reset.pending = [] := rfl

@[simp] theorem State.reset_b : State.reset.b = {} := rfl

end Sys2Proof.Machine
end

