-- ==== Sys2Proof/Laws/Sound.lean ====
section
/-!
SUPPORT. The base of the invariant Block.Sound: what the updates of the block need to keep it.
-/
namespace Sys2Proof.Machine

/-! ## Steps of a proof -/

theorem Block.Sound.cut {p : Prop} (x : Block) (h : x.Sound) (g : x.Sound → p) : p := g h
theorem Block.Sound.cutP {p : Prop} {α : Type} (x : Block × α) (h : x.1.Sound) (g : x.1.Sound → p) : p := g h
theorem Block.Sound.cutO {p : Prop} (x : Option Block) (h : ∀ y, x = some y → y.Sound) (g : (∀ y, x = some y → y.Sound) → p) : p := g h

/-- The part of the invariant that speaks of the registers. -/
def RegFile.Ok (f : RegFile) : Prop := RegFile.wf f = true ∧ (RegFile.find f (r0 .CTL_ID)).getD RegName.CTL_ID.info.reset = RegName.CTL_ID.info.reset

theorem Block.Sound.rf {b : Block} (h : b.Sound) : RegFile.Ok b.regs := ⟨h.regs, h.id⟩

/-- No settings copy holds CTL_ID. -/
def SetCopy.Ok (c : SetCopy) : Prop := ∀ e ∈ c.values, e.1.name ≠ .CTL_ID

theorem Block.Sound.s0 {b : Block} (h : b.Sound) : SetCopy.Ok b.fw.set0 := h.set0
theorem Block.Sound.s1 {b : Block} (h : b.Sound) : SetCopy.Ok b.fw.set1 := h.set1

/-- The invariant by the block's fields. -/
theorem Block.sound_mk (regs pw flt sec fw funcs ve nv tdu dma prog slotNext tu quals outs streams vpt cfg noc ssp march links parts clus
    far farBad out evtClr evtSet reply drawn time frzSeq frzSeen pathSeq pathSeen) :
    Block.Sound ⟨regs, pw, flt, sec, fw, funcs, ve, nv, tdu, dma, prog, slotNext, tu, quals, outs, streams, vpt, cfg, noc, ssp, march, links, parts,
      clus, far, farBad, out, evtClr, evtSet, reply, drawn, time, frzSeq, frzSeen, pathSeq, pathSeen⟩ ↔
    RegFile.Ok regs ∧ Memory.wf far = true ∧ Memory.wf (Ssp.bytes ssp) = true ∧ Flt.unacked flt ≤ 32 ∧ (Sec.audit sec).length ≤ max 4096 (Sec.unmirrored sec)
      ∧ (Vpt.tx vpt).length ≤ 16 ∧ Tdu.sub tdu < 250 ∧ SetCopy.Ok (Fw.set0 fw) ∧ SetCopy.Ok (Fw.set1 fw) :=
  ⟨fun h => ⟨h.rf, h.far, h.ssp, h.log, h.audit, h.vpt, h.sub, h.set0, h.set1⟩,
   fun ⟨a, b, c, d, e, f, g, i, j⟩ => ⟨a.1, b, c, a.2, d, e, f, g, i, j⟩⟩

/-- A register of another name than CTL_ID. -/
theorem RegName.ne_ctlId {a : RegName} (h : Nat.beq a.ctorIdx 0 = false) : a ≠ .CTL_ID := by
  rintro rfl
  cases h

theorem r0_ne {a : RegName} (h : Nat.beq a.ctorIdx 0 = false) : (r0 a).name ≠ .CTL_ID := RegName.ne_ctlId h
theorem r1_ne {a : RegName} {i : Nat} (h : Nat.beq a.ctorIdx 0 = false) : (r1 a i).name ≠ .CTL_ID := RegName.ne_ctlId h
theorem r2_ne {a : RegName} {i j : Nat} (h : Nat.beq a.ctorIdx 0 = false) : (r2 a i j).name ≠ .CTL_ID := RegName.ne_ctlId h
theorem r3_ne {a : RegName} {i j k : Nat} (h : Nat.beq a.ctorIdx 0 = false) : (r3 a i j k).name ≠ .CTL_ID := RegName.ne_ctlId h

/-! ## Registers -/

theorem Block.setReg_sound {b : Block} (h : b.Sound) (k : RegKey) (v : Word) (hk : k.name ≠ .CTL_ID) : (b.setReg k v).Sound := by
  refine ⟨RegFile.wf_set _ _ _ h.regs, h.far, h.ssp, ?_, h.log, h.audit, h.vpt, h.sub, h.set0, h.set1⟩
  rw [Block.reg_setReg, if_neg (fun e => hk (by rw [← e]; rfl))]
  exact h.id

theorem Block.setFld_sound {b : Block} (h : b.Sound) (k : RegKey) (f : Fld) (n : Nat) (hk : k.name ≠ .CTL_ID) : (b.setFld k f n).Sound :=
  Block.setReg_sound h k _ hk

theorem Block.setBit_sound {b : Block} (h : b.Sound) (k : RegKey) (f : Fld) (hk : k.name ≠ .CTL_ID) : (b.setBit k f).Sound :=
  Block.setReg_sound h k _ hk

theorem Block.clrFld_sound {b : Block} (h : b.Sound) (k : RegKey) (f : Fld) (hk : k.name ≠ .CTL_ID) : (b.clrFld k f).Sound :=
  Block.setReg_sound h k _ hk

theorem Block.satFld_sound {b : Block} (h : b.Sound) (k : RegKey) (f : Fld) (n : Nat) (hk : k.name ≠ .CTL_ID) : (b.satFld k f n).Sound :=
  Block.setReg_sound h k _ hk

theorem Block.wrapFld_sound {b : Block} (h : b.Sound) (k : RegKey) (f : Fld) (n : Nat) (hk : k.name ≠ .CTL_ID) : (b.wrapFld k f n).Sound :=
  Block.setReg_sound h k _ hk

theorem Block.setReg64_sound {b : Block} (h : b.Sound) (lo hi : RegKey) (v : Nat) (hl : lo.name ≠ .CTL_ID) (hh : hi.name ≠ .CTL_ID) :
    (b.setReg64 lo hi v).Sound := Block.setReg_sound (Block.setReg_sound h lo _ hl) hi _ hh

/-- A register of another name than CTL_ID, or a word that leaves CTL_ID at its reset value. -/
theorem Block.setReg_sound_id {b : Block} (h : b.Sound) (k : RegKey) (v : Word) (hk : k = r0 .CTL_ID → v = RegName.CTL_ID.info.reset) :
    (b.setReg k v).Sound := by
  refine ⟨RegFile.wf_set _ _ _ h.regs, h.far, h.ssp, ?_, h.log, h.audit, h.vpt, h.sub, h.set0, h.set1⟩
  rw [Block.reg_setReg]
  split
  · rename_i e; exact hk e.symm
  · exact h.id

theorem Block.clrReg_sound {b : Block} (h : b.Sound) (k : RegKey) : (b.clrReg k).Sound :=
  Block.setReg_sound_id h k _ (fun e => by rw [e]; rfl)

theorem Block.clrReg_foldl_sound {b : Block} (h : b.Sound) (l : List RegKey) : (l.foldl Block.clrReg b).Sound := by
  induction l generalizing b with
  | nil => exact h
  | cons a r ih => exact ih (Block.clrReg_sound h a)

/-- CTL_ID is read-only: a write by the access codes leaves every register CTL_ID whose word it keeps. -/
theorem RegName.merge_ctlId (old v : Word) : RegName.CTL_ID.merge old v = old := by
  have h1 : RegName.CTL_ID.info.rwMask = 0 := by decide
  have h2 : RegName.CTL_ID.info.w1cMask = 0 := by decide
  unfold RegName.merge
  rw [h1, h2]
  have e : ~~~(0 : BitVec 32) = BitVec.allOnes 32 := by decide
  have f : v &&& 0 = 0 := BitVec.and_zero
  rw [f, e, BitVec.and_allOnes, BitVec.and_allOnes]
  show old ||| 0#32 = old
  exact BitVec.or_zero

theorem Block.writeCodes_sound {b : Block} (h : b.Sound) (k : RegKey) (v : Word) : (b.writeCodes k v).Sound := by
  refine Block.setReg_sound_id h k _ (fun e => ?_)
  subst e
  show RegName.CTL_ID.merge _ _ = _
  rw [RegName.merge_ctlId]
  exact h.id

theorem Block.clrRegs_sound {b : Block} (h : b.Sound) (p : RegKey → Bool) : (b.clrRegs p).Sound := by
  refine ⟨RegFile.wf_filter _ _ h.regs, h.far, h.ssp, ?_, h.log, h.audit, h.vpt, h.sub, h.set0, h.set1⟩
  have e : ∀ (f : RegFile) (k : RegKey), (RegFile.find (f.filter (fun e => !p e.1)) k).getD k.name.info.reset
      = if p k then k.name.info.reset else (RegFile.find f k).getD k.name.info.reset := by
    intro f k
    induction f with
    | nil => simp [RegFile.find]
    | cons a r ih =>
      obtain ⟨j, w⟩ := a
      by_cases hp : p j = true
      · rw [List.filter_cons_of_neg (by simp [hp]), ih]
        by_cases hj : j = k
        · subst hj; simp [hp]
        · simp [RegFile.find, hj]
      · rw [List.filter_cons_of_pos (by simp [hp])]
        by_cases hj : j = k
        · subst hj; simp [RegFile.find, hp]
        · simp only [RegFile.find, hj, if_false]; exact ih
  have g := e b.regs (r0 .CTL_ID)
  show (RegFile.find (b.regs.filter (fun e => !p e.1)) (r0 .CTL_ID)).getD (r0 .CTL_ID).name.info.reset = _
  rw [g]
  split
  · rfl
  · exact h.id

/-! ## Memories -/

theorem Memory.wf_clearRange (m : NMap Byte) (lo len : Nat) (h : Memory.wf m = true) : Memory.wf (m.clearRange lo len) = true :=
  NMap.wf_clearRange 0 m lo len h

theorem Memory.wf_writes {α : Type} (m : NMap Byte) (l : List α) (k : α → Nat) (v : α → Byte) (h : Memory.wf m = true) :
    Memory.wf (forEach l m (fun e x => NMap.set 0 x (k e) (v e))) = true :=
  forEach_keeps (P := fun x : NMap Byte => Memory.wf x = true) l m _ h (fun _ x hx => NMap.wf_set 0 x _ _ hx)

/-! ## Loops -/

theorem Block.forEach_sound {α : Type} {b : Block} (h : b.Sound) (l : List α) (f : α → Block → Block) (hf : ∀ a x, x.Sound → (f a x).Sound) :
    (forEach l b f).Sound := forEach_keeps l b f h hf

theorem Block.ite_sound {c : Prop} [Decidable c] {a b : Block} (ha : a.Sound) (hb : b.Sound) : (if c then a else b).Sound := by
  split
  · exact ha
  · exact hb

theorem Block.opt_sound {α : Type} {o : Option α} {b : Block} {f : α → Block} (hb : b.Sound) (hf : ∀ a, (f a).Sound) :
    Block.Sound (match o with | some a => f a | none => b) := by
  cases o
  · exact hb
  · exact hf _

/-- What every turn of a fold keeps, the fold keeps. -/
theorem foldl_keeps {α β : Type} {P : β → Prop} (l : List α) (z : β) (f : β → α → β) (hz : P z) (hf : ∀ y a, P y → P (f y a)) :
    P (l.foldl f z) := by
  induction l generalizing z with
  | nil => exact hz
  | cons a r ih => exact ih (f z a) (hf z a hz)

theorem Block.foldl1_sound {α γ : Type} {l : List α} {z : Block × γ} {f : Block × γ → α → Block × γ} (hz : z.1.Sound)
    (hf : ∀ (y : Block × γ) (a : α), y.1.Sound → (f y a).1.Sound) : (l.foldl f z).1.Sound :=
  foldl_keeps (P := fun y : Block × γ => y.1.Sound) l z f hz hf

/-- A block that is there is sound. -/
def OptSound (o : Option Block) : Prop := ∀ y, o = some y → y.Sound

theorem OptSound.none : OptSound none := fun _ h => nomatch h
theorem OptSound.some {b : Block} (h : b.Sound) : OptSound (some b) := fun _ e => by cases e; exact h
theorem OptSound.map {o : Option Block} {f : Block → Block} (h : OptSound o) (hf : ∀ x, x.Sound → (f x).Sound) : OptSound (o.map f) := by
  cases o with
  | none => exact OptSound.none
  | some y => exact OptSound.some (hf y (h y rfl))
theorem OptSound.bind {o : Option Block} {f : Block → Option Block} (h : OptSound o) (hf : ∀ x, x.Sound → OptSound (f x)) : OptSound (o.bind f) := by
  cases o with
  | none => exact OptSound.none
  | some y => exact hf y (h y rfl)
theorem OptSound.get {o : Option Block} {y : Block} (e : o = .some y) (h : OptSound o) : y.Sound := h y e
theorem OptSound.getD {o : Option Block} {b : Block} (h : OptSound o) (hb : b.Sound) : (o.getD b).Sound := by
  cases o with
  | none => exact hb
  | some y => exact h y rfl
theorem OptSound.foldl {α : Type} {l : List α} {o : Option Block} {f : Option Block → α → Option Block} (h : OptSound o)
    (hf : ∀ (z : Option Block) (a : α), OptSound z → OptSound (f z a)) : OptSound (l.foldl f o) := foldl_keeps l o f h hf

theorem Block.pair_sound {α : Type} {z : Block × α} {y : Block} {a : α} (e : z = (y, a)) (h : z.1.Sound) : y.Sound := by
  rw [e] at h; exact h

/-- The module under reset is sound. -/
theorem Block.Sound.empty : ({} : Block).Sound where
  regs := rfl
  far := rfl
  ssp := rfl
  id := rfl
  log := by decide
  audit := by decide
  vpt := by decide
  sub := by decide
  set0 := fun _ h => nomatch h
  set1 := fun _ h => nomatch h

end Sys2Proof.Machine
end

