-- ==== Sys2Proof/Laws/Sound/Ops.lean ====
section
/-!
SUPPORT. The operations of Machine/Ops.lean keep Block.Sound.
-/
namespace Sys2Proof.Machine

theorem logCount_le {n : Nat} (h : n ≤ 32) : (if decide (n = 32) = true then 32 else n + 1) ≤ 32 := by
  split
  · exact Nat.le_refl _
  · rename_i g
    have : n ≠ 32 := fun e => g (by simp [e])
    omega

theorem Block.setPart_sound {b : Block} (p : Nat) (x : Part) (hS : b.Sound) : (Block.setPart b p x).Sound := by
  unfold Block.setPart
  repeat' first
    | (simp only [Block.sound_mk]; refine ⟨?_, ?_, ?_, ?_, ?_, ?_, ?_, ?_, ?_⟩)
    | with_reducible exact Block.Sound.rf (by assumption)
    | with_reducible exact Block.Sound.far (by assumption)
    | with_reducible exact Block.Sound.ssp (by assumption)
    | with_reducible exact Block.Sound.log (by assumption)
    | with_reducible exact Block.Sound.audit (by assumption)
    | with_reducible exact Block.Sound.vpt (by assumption)
    | with_reducible exact Block.Sound.sub (by assumption)
    | with_reducible exact Block.Sound.s0 (by assumption)
    | with_reducible exact Block.Sound.s1 (by assumption)

theorem Block.modPart_sound {b : Block} (p : Nat) (f : Part → Part) (hS : b.Sound) : (Block.modPart b p f).Sound := by
  unfold Block.modPart
  repeat' first
    | with_reducible assumption
    | with_reducible apply Block.setPart_sound

theorem Block.setClu_sound {b : Block} (c : Nat) (x : Cluster) (hS : b.Sound) : (Block.setClu b c x).Sound := by
  unfold Block.setClu
  repeat' first
    | (simp only [Block.sound_mk]; refine ⟨?_, ?_, ?_, ?_, ?_, ?_, ?_, ?_, ?_⟩)
    | with_reducible exact Block.Sound.rf (by assumption)
    | with_reducible exact Block.Sound.far (by assumption)
    | with_reducible exact Block.Sound.ssp (by assumption)
    | with_reducible exact Block.Sound.log (by assumption)
    | with_reducible exact Block.Sound.audit (by assumption)
    | with_reducible exact Block.Sound.vpt (by assumption)
    | with_reducible exact Block.Sound.sub (by assumption)
    | with_reducible exact Block.Sound.s0 (by assumption)
    | with_reducible exact Block.Sound.s1 (by assumption)

theorem Block.modClu_sound {b : Block} (c : Nat) (f : Cluster → Cluster) (hS : b.Sound) : (Block.modClu b c f).Sound := by
  unfold Block.modClu
  repeat' first
    | with_reducible assumption
    | with_reducible apply Block.setClu_sound

theorem Block.setLink_sound {b : Block} (n : Nat) (x : Link) (hS : b.Sound) : (Block.setLink b n x).Sound := by
  unfold Block.setLink
  repeat' first
    | (simp only [Block.sound_mk]; refine ⟨?_, ?_, ?_, ?_, ?_, ?_, ?_, ?_, ?_⟩)
    | with_reducible exact Block.Sound.rf (by assumption)
    | with_reducible exact Block.Sound.far (by assumption)
    | with_reducible exact Block.Sound.ssp (by assumption)
    | with_reducible exact Block.Sound.log (by assumption)
    | with_reducible exact Block.Sound.audit (by assumption)
    | with_reducible exact Block.Sound.vpt (by assumption)
    | with_reducible exact Block.Sound.sub (by assumption)
    | with_reducible exact Block.Sound.s0 (by assumption)
    | with_reducible exact Block.Sound.s1 (by assumption)

theorem Block.modLink_sound {b : Block} (n : Nat) (f : Link → Link) (hS : b.Sound) : (Block.modLink b n f).Sound := by
  unfold Block.modLink
  repeat' first
    | with_reducible assumption
    | with_reducible apply Block.setLink_sound

theorem Block.modDma_sound {b : Block} (n : Nat) (f : Dma → Dma) (hS : b.Sound) : (Block.modDma b n f).Sound := by
  unfold Block.modDma
  repeat' first
    | (simp only [Block.sound_mk]; refine ⟨?_, ?_, ?_, ?_, ?_, ?_, ?_, ?_, ?_⟩)
    | with_reducible exact Block.Sound.rf (by assumption)
    | with_reducible exact Block.Sound.far (by assumption)
    | with_reducible exact Block.Sound.ssp (by assumption)
    | with_reducible exact Block.Sound.log (by assumption)
    | with_reducible exact Block.Sound.audit (by assumption)
    | with_reducible exact Block.Sound.vpt (by assumption)
    | with_reducible exact Block.Sound.sub (by assumption)
    | with_reducible exact Block.Sound.s0 (by assumption)
    | with_reducible exact Block.Sound.s1 (by assumption)

theorem Block.modFunc_sound {b : Block} (n : Nat) (f : Func → Func) (hS : b.Sound) : (Block.modFunc b n f).Sound := by
  unfold Block.modFunc
  repeat' first
    | (simp only [Block.sound_mk]; refine ⟨?_, ?_, ?_, ?_, ?_, ?_, ?_, ?_, ?_⟩)
    | with_reducible exact Block.Sound.rf (by assumption)
    | with_reducible exact Block.Sound.far (by assumption)
    | with_reducible exact Block.Sound.ssp (by assumption)
    | with_reducible exact Block.Sound.log (by assumption)
    | with_reducible exact Block.Sound.audit (by assumption)
    | with_reducible exact Block.Sound.vpt (by assumption)
    | with_reducible exact Block.Sound.sub (by assumption)
    | with_reducible exact Block.Sound.s0 (by assumption)
    | with_reducible exact Block.Sound.s1 (by assumption)

theorem Block.draw_sound {b : Block} (hS : b.Sound) : (Block.draw b).Sound := by
  unfold Block.draw
  repeat' first
    | (simp only [Block.sound_mk]; refine ⟨?_, ?_, ?_, ?_, ?_, ?_, ?_, ?_, ?_⟩)
    | with_reducible exact Block.Sound.rf (by assumption)
    | with_reducible exact Block.Sound.far (by assumption)
    | with_reducible exact Block.Sound.ssp (by assumption)
    | with_reducible exact Block.Sound.log (by assumption)
    | with_reducible exact Block.Sound.audit (by assumption)
    | with_reducible exact Block.Sound.vpt (by assumption)
    | with_reducible exact Block.Sound.sub (by assumption)
    | with_reducible exact Block.Sound.s0 (by assumption)
    | with_reducible exact Block.Sound.s1 (by assumption)

theorem Block.send_sound {b : Block} (m : HostMsg) (hS : b.Sound) : (Block.send b m).Sound := by
  unfold Block.send
  repeat' first
    | (simp only [Block.sound_mk]; refine ⟨?_, ?_, ?_, ?_, ?_, ?_, ?_, ?_, ?_⟩)
    | with_reducible exact Block.Sound.rf (by assumption)
    | with_reducible exact Block.Sound.far (by assumption)
    | with_reducible exact Block.Sound.ssp (by assumption)
    | with_reducible exact Block.Sound.log (by assumption)
    | with_reducible exact Block.Sound.audit (by assumption)
    | with_reducible exact Block.Sound.vpt (by assumption)
    | with_reducible exact Block.Sound.sub (by assumption)
    | with_reducible exact Block.Sound.s0 (by assumption)
    | with_reducible exact Block.Sound.s1 (by assumption)

theorem Block.msix_sound {b : Block} (fn : Nat) (vec : Nat) (evt : Option (Nat × Nat)) (hS : b.Sound) : (Block.msix b fn vec evt).Sound := by
  unfold Block.msix
  repeat' first
    | with_reducible assumption
    | with_reducible apply Block.ite_sound
    | with_reducible apply Block.modFunc_sound
    | (simp only [Block.sound_mk]; refine ⟨?_, ?_, ?_, ?_, ?_, ?_, ?_, ?_, ?_⟩)
    | with_reducible exact Block.Sound.rf (by assumption)
    | with_reducible exact Block.Sound.far (by assumption)
    | with_reducible exact Block.Sound.ssp (by assumption)
    | with_reducible exact Block.Sound.log (by assumption)
    | with_reducible exact Block.Sound.audit (by assumption)
    | with_reducible exact Block.Sound.vpt (by assumption)
    | with_reducible exact Block.Sound.sub (by assumption)
    | with_reducible exact Block.Sound.s0 (by assumption)
    | with_reducible exact Block.Sound.s1 (by assumption)

theorem Block.pushFrag_sound {b : Block} (f : Frag) (hS : b.Sound) : (Block.pushFrag b f).Sound := by
  unfold Block.pushFrag
  repeat' first
    | (extract_lets +onlyGivenNames z; subst z)
    | (simp only [Block.sound_mk]; refine ⟨?_, ?_, ?_, ?_, ?_, ?_, ?_, ?_, ?_⟩)
    | with_reducible exact Block.Sound.rf (by assumption)
    | with_reducible exact Block.Sound.far (by assumption)
    | with_reducible exact Block.Sound.ssp (by assumption)
    | with_reducible exact Block.Sound.log (by assumption)
    | with_reducible exact Block.Sound.audit (by assumption)
    | with_reducible exact Block.Sound.vpt (by assumption)
    | with_reducible exact Block.Sound.sub (by assumption)
    | with_reducible exact Block.Sound.s0 (by assumption)
    | with_reducible exact Block.Sound.s1 (by assumption)

theorem Block.setPend_sound {b : Block} (e : Nat) (hS : b.Sound) : (Block.setPend b e).Sound := by
  unfold Block.setPend
  repeat' first
    | with_reducible assumption
    | with_reducible apply Block.setReg_sound
    | ((with_reducible refine r1_ne ?_); rfl)

theorem Block.clrPend_sound {b : Block} (e : Nat) (hS : b.Sound) : (Block.clrPend b e).Sound := by
  unfold Block.clrPend
  repeat' first
    | with_reducible assumption
    | with_reducible apply Block.setReg_sound
    | ((with_reducible refine r1_ne ?_); rfl)

theorem Block.evtFrag_sound {b : Block} (e : Nat) (t : Stamp) (hS : b.Sound) : (Block.evtFrag b e t).Sound := by
  unfold Block.evtFrag
  repeat' first
    | with_reducible assumption
    | (extract_lets +onlyGivenNames z; subst z)
    | with_reducible apply Block.ite_sound
    | with_reducible apply Block.pushFrag_sound
    | (simp only [Block.sound_mk]; refine ⟨?_, ?_, ?_, ?_, ?_, ?_, ?_, ?_, ?_⟩)
    | with_reducible exact Block.Sound.rf (by assumption)
    | with_reducible exact Block.Sound.far (by assumption)
    | with_reducible exact Block.Sound.ssp (by assumption)
    | with_reducible exact Block.Sound.log (by assumption)
    | with_reducible exact Block.Sound.audit (by assumption)
    | with_reducible exact Block.Sound.vpt (by assumption)
    | with_reducible exact Block.Sound.sub (by assumption)
    | with_reducible exact Block.Sound.s0 (by assumption)
    | with_reducible exact Block.Sound.s1 (by assumption)

theorem Block.raiseAt_sound {b : Block} (e : Nat) (t : Stamp) (hS : b.Sound) : (Block.raiseAt b e t).Sound := by
  unfold Block.raiseAt
  repeat' first
    | with_reducible assumption
    | (extract_lets +onlyGivenNames z; refine Block.Sound.cut z ?_ (fun hz => ?_); (on_goal 2 => clear_value z); (on_goal 1 => subst z))
    | with_reducible apply Block.ite_sound
    | with_reducible apply Block.msix_sound
    | with_reducible apply Block.setPend_sound
    | with_reducible apply Block.evtFrag_sound
    | (simp only [Block.sound_mk]; refine ⟨?_, ?_, ?_, ?_, ?_, ?_, ?_, ?_, ?_⟩)
    | with_reducible exact Block.Sound.rf (by assumption)
    | with_reducible exact Block.Sound.far (by assumption)
    | with_reducible exact Block.Sound.ssp (by assumption)
    | with_reducible exact Block.Sound.log (by assumption)
    | with_reducible exact Block.Sound.audit (by assumption)
    | with_reducible exact Block.Sound.vpt (by assumption)
    | with_reducible exact Block.Sound.sub (by assumption)
    | with_reducible exact Block.Sound.s0 (by assumption)
    | with_reducible exact Block.Sound.s1 (by assumption)

theorem Block.raise_sound {b : Block} (e : Nat) (hS : b.Sound) : (Block.raise b e).Sound := by
  unfold Block.raise
  repeat' first
    | with_reducible assumption
    | with_reducible apply Block.raiseAt_sound

theorem Block.raiseIf_sound {b : Block} (x : Bool) (e : Nat) (hS : b.Sound) : (Block.raiseIf b x e).Sound := by
  unfold Block.raiseIf
  repeat' first
    | with_reducible assumption
    | with_reducible apply Block.ite_sound
    | with_reducible apply Block.raise_sound

theorem Block.raiseCluster_sound {b : Block} (c : Nat) (hS : b.Sound) : (Block.raiseCluster b c).Sound := by
  unfold Block.raiseCluster
  repeat' first
    | with_reducible assumption
    | with_reducible apply Block.raise_sound

theorem Block.raiseGroups_sound {b : Block} (p : Nat) (hS : b.Sound) : (Block.raiseGroups b p).Sound := by
  unfold Block.raiseGroups
  repeat' first
    | with_reducible assumption
    | with_reducible apply Block.raise_sound
    | with_reducible apply Block.forEach_sound
    | (intro z hz hy)

theorem Block.auditFull_sound {b : Block} (typ : Nat) (role : Role) (slot : Nat) (src : Nat) (res : Nat) (detail : List Byte) (hS : b.Sound) : (Block.auditFull b typ role slot src res detail).Sound := by
  unfold Block.auditFull
  repeat' first
    | with_reducible assumption
    | (extract_lets +onlyGivenNames z; refine Block.Sound.cut z ?_ (fun hz => ?_); (on_goal 2 => clear_value z); (on_goal 1 => subst z))
    | (extract_lets +onlyGivenNames z; subst z)
    | with_reducible apply Block.setReg64_sound
    | with_reducible apply Block.raiseIf_sound
    | (simp only [List.length_drop, List.length_append, List.length_cons, List.length_nil]; omega)
    | ((with_reducible refine r0_ne ?_); rfl)
    | (simp only [Block.sound_mk]; refine ⟨?_, ?_, ?_, ?_, ?_, ?_, ?_, ?_, ?_⟩)
    | with_reducible exact Block.Sound.rf (by assumption)
    | with_reducible exact Block.Sound.far (by assumption)
    | with_reducible exact Block.Sound.ssp (by assumption)
    | with_reducible exact Block.Sound.log (by assumption)
    | with_reducible exact Block.Sound.vpt (by assumption)
    | with_reducible exact Block.Sound.sub (by assumption)
    | with_reducible exact Block.Sound.s0 (by assumption)
    | with_reducible exact Block.Sound.s1 (by assumption)

theorem Block.audit_sound {b : Block} (r : Requester) (typ : Nat) (res : Nat) (detail : List Byte) (hS : b.Sound) : (Block.audit b r typ res detail).Sound := by
  unfold Block.audit
  repeat' first
    | with_reducible assumption
    | with_reducible apply Block.auditFull_sound

theorem Block.auditHk_sound {b : Block} (typ : Nat) (detail : List Byte) (hS : b.Sound) : (Block.auditHk b typ detail).Sound := by
  unfold Block.auditHk
  repeat' first
    | with_reducible assumption
    | with_reducible apply Block.auditFull_sound

theorem Block.sendSym_sound {b : Block} (n : Nat) (y : Sym) (hS : b.Sound) : (Block.sendSym b n y).Sound := by
  unfold Block.sendSym
  repeat' first
    | with_reducible assumption
    | with_reducible apply Block.ite_sound
    | with_reducible apply Block.modLink_sound

theorem Block.flood_sound {b : Block} (p : Nat) (except : Option Nat) (y : Sym) (hS : b.Sound) : (Block.flood b p except y).Sound := by
  unfold Block.flood
  repeat' first
    | with_reducible assumption
    | with_reducible apply Block.sendSym_sound
    | with_reducible apply Block.forEach_sound
    | (intro z hz hy)

theorem Block.recordFreeze_sound {b : Block} (p : Nat) (y : FreezeSym) (hS : b.Sound) : (Block.recordFreeze b p y).Sound := by
  unfold Block.recordFreeze
  repeat' first
    | with_reducible assumption
    | with_reducible apply Block.setReg_sound
    | ((with_reducible refine r1_ne ?_); rfl)

theorem Block.originate_sound {b : Block} (p : Nat) (kind : Bool) (target : BitVec 32) (cause : Nat) (hS : b.Sound) : (Block.originate b p kind target cause).Sound := by
  unfold Block.originate
  repeat' first
    | (extract_lets +onlyGivenNames z; subst z)
    | with_reducible apply Block.flood_sound
    | with_reducible apply Block.recordFreeze_sound
    | (simp only [Block.sound_mk]; refine ⟨?_, ?_, ?_, ?_, ?_, ?_, ?_, ?_, ?_⟩)
    | with_reducible exact Block.Sound.rf (by assumption)
    | with_reducible exact Block.Sound.far (by assumption)
    | with_reducible exact Block.Sound.ssp (by assumption)
    | with_reducible exact Block.Sound.log (by assumption)
    | with_reducible exact Block.Sound.audit (by assumption)
    | with_reducible exact Block.Sound.vpt (by assumption)
    | with_reducible exact Block.Sound.sub (by assumption)
    | with_reducible exact Block.Sound.s0 (by assumption)
    | with_reducible exact Block.Sound.s1 (by assumption)

theorem Block.originateAbort_sound {b : Block} (p : Nat) (cause : Nat) (hS : b.Sound) : (Block.originateAbort b p cause).Sound := by
  unfold Block.originateAbort
  repeat' first
    | with_reducible assumption
    | with_reducible apply Block.setBit_sound
    | with_reducible apply Block.raiseGroups_sound
    | with_reducible apply Block.originate_sound
    | ((with_reducible refine r1_ne ?_); rfl)

theorem Block.dropTarget_sound {b : Block} (p : Nat) (hS : b.Sound) : (Block.dropTarget b p).Sound := by
  unfold Block.dropTarget
  repeat' first
    | with_reducible assumption
    | with_reducible apply Block.setReg_sound
    | with_reducible apply Block.clrFld_sound
    | with_reducible apply Block.modPart_sound
    | ((with_reducible refine r1_ne ?_); rfl)

theorem Block.stopInconsistent_sound {b : Block} (p : Nat) (hS : b.Sound) : (Block.stopInconsistent b p).Sound := by
  unfold Block.stopInconsistent
  repeat' first
    | with_reducible assumption
    | with_reducible apply Block.ite_sound
    | with_reducible apply Block.modPart_sound
    | with_reducible apply Block.dropTarget_sound

theorem Block.undoFreeze_sound {b : Block} (p : Nat) (hS : b.Sound) : (Block.undoFreeze b p).Sound := by
  unfold Block.undoFreeze
  repeat' first
    | with_reducible assumption
    | (extract_lets +onlyGivenNames z; subst z)
    | with_reducible apply Block.ite_sound
    | with_reducible apply Block.clrFld_sound
    | with_reducible apply Block.modPart_sound
    | ((with_reducible refine r1_ne ?_); rfl)

theorem Block.faultStop_sound {b : Block} (p : Nat) (cause : Nat) (hS : b.Sound) : (Block.faultStop b p cause).Sound := by
  unfold Block.faultStop
  repeat' first
    | with_reducible assumption
    | with_reducible apply Block.ite_sound
    | with_reducible apply Block.originateAbort_sound
    | with_reducible apply Block.stopInconsistent_sound
    | with_reducible apply Block.undoFreeze_sound

theorem Block.fltSwap_sound {b : Block} (hS : b.Sound) (i : Nat) (j : Nat) : (b.fltSwap i j).Sound := by
  unfold Block.fltSwap fltWords
  simp only [List.zip_cons_cons, List.zip_nil_right, forEach, List.foldl_cons, List.foldl_nil]
  repeat' first
    | assumption
    | with_reducible apply Block.setReg_sound
    | ((with_reducible refine r1_ne ?_); rfl)
    | ((with_reducible refine r2_ne ?_); rfl)

/-- Moving an entry forward keeps the invariant. -/
theorem Block.fltOrder_sound {b : Block} (hS : b.Sound) (i : Nat) (n : Nat) : (b.fltOrder i n).Sound := by
  induction n generalizing b i with
  | zero => exact hS
  | succ n ih =>
    unfold Block.fltOrder
    exact Block.ite_sound (ih (Block.fltSwap_sound hS i _) _) hS

theorem Block.faultEntry_sound {b : Block} (lv : Level) (cls : Nat) (unit : Nat) (part : Nat) (hS : b.Sound) : (Block.faultEntry b lv cls unit part).Sound := by
  unfold Block.faultEntry
  repeat' first
    | with_reducible assumption
    | (extract_lets +onlyGivenNames z; refine Block.Sound.cut z ?_ (fun hz => ?_); (on_goal 2 => clear_value z); (on_goal 1 => subst z))
    | (extract_lets +onlyGivenNames z; subst z)
    | with_reducible apply Block.ite_sound
    | with_reducible apply Block.setReg_sound
    | with_reducible apply Block.setFld_sound
    | with_reducible apply Block.setBit_sound
    | with_reducible apply Block.raise_sound
    | with_reducible apply Block.auditHk_sound
    | with_reducible apply Block.forEach_sound
    | (with_reducible exact logCount_le (Block.Sound.log (by assumption)))
    | with_reducible apply Block.fltOrder_sound
    | ((with_reducible refine r1_ne ?_); rfl)
    | ((with_reducible refine r0_ne ?_); rfl)
    | ((with_reducible refine r2_ne ?_); rfl)
    | (simp only [Block.sound_mk]; refine ⟨?_, ?_, ?_, ?_, ?_, ?_, ?_, ?_, ?_⟩)
    | with_reducible exact Block.Sound.rf (by assumption)
    | with_reducible exact Block.Sound.far (by assumption)
    | with_reducible exact Block.Sound.ssp (by assumption)
    | with_reducible exact Block.Sound.log (by assumption)
    | with_reducible exact Block.Sound.audit (by assumption)
    | with_reducible exact Block.Sound.vpt (by assumption)
    | with_reducible exact Block.Sound.sub (by assumption)
    | with_reducible exact Block.Sound.s0 (by assumption)
    | with_reducible exact Block.Sound.s1 (by assumption)
    | (intro z hz hy)

theorem Block.corrected_sound {b : Block} (hS : b.Sound) : (Block.corrected b).Sound := by
  unfold Block.corrected
  repeat' first
    | with_reducible assumption
    | (extract_lets +onlyGivenNames z; refine Block.Sound.cut z ?_ (fun hz => ?_); (on_goal 2 => clear_value z); (on_goal 1 => subst z))
    | (extract_lets +onlyGivenNames z; subst z)
    | with_reducible apply Block.ite_sound
    | with_reducible apply Block.setReg_sound
    | with_reducible apply Block.setBit_sound
    | with_reducible apply Block.raise_sound
    | ((with_reducible refine r0_ne ?_); rfl)
    | (simp only [Block.sound_mk]; refine ⟨?_, ?_, ?_, ?_, ?_, ?_, ?_, ?_, ?_⟩)
    | with_reducible exact Block.Sound.rf (by assumption)
    | with_reducible exact Block.Sound.far (by assumption)
    | with_reducible exact Block.Sound.ssp (by assumption)
    | with_reducible exact Block.Sound.log (by assumption)
    | with_reducible exact Block.Sound.audit (by assumption)
    | with_reducible exact Block.Sound.vpt (by assumption)
    | with_reducible exact Block.Sound.sub (by assumption)
    | with_reducible exact Block.Sound.s0 (by assumption)
    | with_reducible exact Block.Sound.s1 (by assumption)

theorem Block.correctedBy_sound {b : Block} (n : Nat) (hS : b.Sound) : (Block.correctedBy b n).Sound := by
  induction n generalizing b with
  | zero => exact hS
  | succ n ih => exact ih (Block.corrected_sound hS)

theorem Block.corrSecond_sound {b : Block} (hS : b.Sound) : (Block.corrSecond b).Sound := by
  unfold Block.corrSecond
  repeat' first
    | (extract_lets +onlyGivenNames z; subst z)
    | (simp only [Block.sound_mk]; refine ⟨?_, ?_, ?_, ?_, ?_, ?_, ?_, ?_, ?_⟩)
    | with_reducible exact Block.Sound.rf (by assumption)
    | with_reducible exact Block.Sound.far (by assumption)
    | with_reducible exact Block.Sound.ssp (by assumption)
    | with_reducible exact Block.Sound.log (by assumption)
    | with_reducible exact Block.Sound.audit (by assumption)
    | with_reducible exact Block.Sound.vpt (by assumption)
    | with_reducible exact Block.Sound.sub (by assumption)
    | with_reducible exact Block.Sound.s0 (by assumption)
    | with_reducible exact Block.Sound.s1 (by assumption)

theorem Block.faultP_sound {b : Block} (cls : Nat) (unit : Nat) (p : Nat) (hS : b.Sound) : (Block.faultP b cls unit p).Sound := by
  unfold Block.faultP
  repeat' first
    | with_reducible assumption
    | with_reducible apply Block.ite_sound
    | with_reducible apply Block.faultStop_sound
    | with_reducible apply Block.faultEntry_sound

theorem Block.faultU_sound {b : Block} (k : CUnit) (cls : Nat) (unit : Nat) (ps : List Nat) (hS : b.Sound) : (Block.faultU b k cls unit ps).Sound := by
  unfold Block.faultU
  repeat' first
    | with_reducible assumption
    | (extract_lets +onlyGivenNames z; refine Block.Sound.cut z ?_ (fun hz => ?_); (on_goal 2 => clear_value z); (on_goal 1 => subst z))
    | (extract_lets +onlyGivenNames z; subst z)
    | with_reducible apply Block.faultStop_sound
    | with_reducible apply Block.faultEntry_sound
    | with_reducible apply Block.forEach_sound
    | (simp only [Block.sound_mk]; refine ⟨?_, ?_, ?_, ?_, ?_, ?_, ?_, ?_, ?_⟩)
    | with_reducible exact Block.Sound.rf (by assumption)
    | with_reducible exact Block.Sound.far (by assumption)
    | with_reducible exact Block.Sound.ssp (by assumption)
    | with_reducible exact Block.Sound.log (by assumption)
    | with_reducible exact Block.Sound.audit (by assumption)
    | with_reducible exact Block.Sound.vpt (by assumption)
    | with_reducible exact Block.Sound.sub (by assumption)
    | with_reducible exact Block.Sound.s0 (by assumption)
    | with_reducible exact Block.Sound.s1 (by assumption)
    | (intro z hz hy)

theorem Block.farWrite_sound {b : Block} (stack addr : Nat) (l : List Byte) (hS : b.Sound) : (Block.farWrite b stack addr l).Sound :=
  (Block.sound_mk ..).mpr ⟨hS.rf, Memory.wf_writes _ _ _ _ hS.far, hS.ssp, hS.log, hS.audit, hS.vpt, hS.sub, hS.set0, hS.set1⟩

theorem Block.farUncorr_sound {b : Block} (stack : Nat) (addr : Nat) (hS : b.Sound) : (Block.farUncorr b stack addr).Sound := by
  unfold Block.farUncorr
  repeat' first
    | with_reducible assumption
    | (extract_lets +onlyGivenNames z; refine Block.Sound.cut z ?_ (fun hz => ?_); (on_goal 2 => clear_value z); (on_goal 1 => subst z))
    | (extract_lets +onlyGivenNames z; subst z)
    | with_reducible apply Block.ite_sound
    | with_reducible apply Block.satFld_sound
    | with_reducible apply Block.raiseIf_sound
    | ((with_reducible refine r1_ne ?_); rfl)
    | (simp only [Block.sound_mk]; refine ⟨?_, ?_, ?_, ?_, ?_, ?_, ?_, ?_, ?_⟩)
    | with_reducible exact Block.Sound.rf (by assumption)
    | with_reducible exact Block.Sound.far (by assumption)
    | with_reducible exact Block.Sound.ssp (by assumption)
    | with_reducible exact Block.Sound.log (by assumption)
    | with_reducible exact Block.Sound.audit (by assumption)
    | with_reducible exact Block.Sound.vpt (by assumption)
    | with_reducible exact Block.Sound.sub (by assumption)
    | with_reducible exact Block.Sound.s0 (by assumption)
    | with_reducible exact Block.Sound.s1 (by assumption)

theorem Block.snoop_sound {b : Block} (except : Option Nat) (stack : Nat) (addr : Nat) (wr : Bool) (hS : b.Sound) : (Block.snoop b except stack addr wr).Sound := by
  unfold Block.snoop
  repeat' first
    | (simp only [Block.sound_mk]; refine ⟨?_, ?_, ?_, ?_, ?_, ?_, ?_, ?_, ?_⟩)
    | with_reducible exact Block.Sound.rf (by assumption)
    | with_reducible exact Block.Sound.far (by assumption)
    | with_reducible exact Block.Sound.ssp (by assumption)
    | with_reducible exact Block.Sound.log (by assumption)
    | with_reducible exact Block.Sound.audit (by assumption)
    | with_reducible exact Block.Sound.vpt (by assumption)
    | with_reducible exact Block.Sound.sub (by assumption)
    | with_reducible exact Block.Sound.s0 (by assumption)
    | with_reducible exact Block.Sound.s1 (by assumption)

end Sys2Proof.Machine
end

