-- ==== Sys2Proof/Laws/Sound/Access.lean ====
section
/-!
SUPPORT. The operations of Machine/Access.lean keep Block.Sound.
-/
namespace Sys2Proof.Machine

theorem Block.auditRefused_sound {b : Block} (r : Requester) (off : Nat) (v : Word) (hS : b.Sound) : (Block.auditRefused b r off v).Sound := by
  unfold Block.auditRefused
  repeat' first
    | with_reducible assumption
    | with_reducible apply Block.audit_sound

theorem Block.hostWrite_sound {b : Block} (r : Requester) (k : RegKey) (v : Word) (f : Block → Block) (hS : b.Sound) (hf_f : ∀ x, x.Sound → (f x).Sound) : (Block.hostWrite b r k v f).Sound := by
  unfold Block.hostWrite
  repeat' first
    | with_reducible assumption
    | with_reducible apply Block.ite_sound
    | with_reducible apply Block.auditRefused_sound
    | with_reducible apply hf_f

theorem Block.windowWrite_sound {b : Block} (r : Requester) (k : RegKey) (off : Nat) (v : Word) (f : Block → Block) (hS : b.Sound) (hf_f : ∀ x, x.Sound → (f x).Sound) : (Block.windowWrite b r k off v f).Sound := by
  unfold Block.windowWrite
  repeat' first
    | with_reducible assumption
    | with_reducible apply Block.ite_sound
    | with_reducible apply Block.auditRefused_sound
    | with_reducible apply hf_f

theorem Block.hostRead_sound {b : Block} (r : Requester) (k : RegKey) (f : Block → Block × Word) (hS : b.Sound) (hf_f : ∀ x, x.Sound → (f x).1.Sound) : (Block.hostRead b r k f).Sound := by
  unfold Block.hostRead
  repeat' first
    | with_reducible assumption
    | (extract_lets +onlyGivenNames z; refine Block.Sound.cut z ?_ (fun hz => ?_); (on_goal 2 => clear_value z); (on_goal 1 => subst z))
    | with_reducible apply Block.ite_sound
    | with_reducible apply hf_f
    | (simp only [Block.sound_mk]; refine ⟨?_, ?_, ?_, ?_, ?_, ?_, ?_, ?_, ?_⟩)
    | with_reducible exact Block.Sound.rf (by assumption)
    | with_reducible exact Block.Sound.far (by assumption)
    | with_reducible exact Block.Sound.ssp (by assumption)
    | with_reducible exact Block.Sound.log (by assumption)
    | with_reducible exact Block.Sound.audit (by assumption)
    | with_reducible exact Block.Sound.vpt (by assumption)
    | with_reducible exact Block.Sound.sub (by assumption)
    | with_reducible exact Block.Sound.s0 (by assumption)
    | with_reducible exact Block.Sound.s1 (by assumption)

end Sys2Proof.Machine
end

