-- ==== Sys2Proof/Laws/Sound/Operands.lean ====
section
/-!
SUPPORT. The operations of Machine/Operands.lean keep Block.Sound.
-/
namespace Sys2Proof.Machine

theorem Block.setLane_sound {b : Block} (c : Nat) (n : Nat) (v : Bool) (hS : b.Sound) : (Block.setLane b c n v).Sound := by
  unfold Block.setLane
  repeat' first
    | with_reducible assumption
    | (extract_lets +onlyGivenNames z; subst z)
    | with_reducible apply Block.setReg_sound
    | ((with_reducible refine r2_ne ?_); rfl)

end Sys2Proof.Machine
end

