-- ==== Sys2Proof/Laws/Sound/Flags.lean ====
section
/-!
SUPPORT. The operations of Machine/Flags.lean keep Block.Sound.
-/
namespace Sys2Proof.Machine

theorem Block.orReg_sound {b : Block} (k : RegKey) (n : Nat) (hS : b.Sound) (hk_k : k.name ≠ .CTL_ID) : (Block.orReg b k n).Sound := by
  unfold Block.orReg
  repeat' first
    | with_reducible assumption
    | with_reducible apply Block.setReg_sound

theorem Block.schedFault_sound {b : Block} (c : Nat) (bp : Nat) (codes : List Nat) (step : Nat) (dc : BitVec 64) (hS : b.Sound) : (Block.schedFault b c bp codes step dc).Sound := by
  unfold Block.schedFault
  repeat' first
    | with_reducible assumption
    | (extract_lets +onlyGivenNames z; refine Block.Sound.cut z ?_ (fun hz => ?_); (on_goal 2 => clear_value z); (on_goal 1 => subst z))
    | with_reducible apply Block.ite_sound
    | with_reducible apply Block.setReg_sound
    | with_reducible apply Block.orReg_sound
    | ((with_reducible refine r1_ne ?_); rfl)

theorem Block.weFault_sound {b : Block} (c : Nat) (k : Nat) (codes : List Nat) (step : Nat) (word : Nat) (hS : b.Sound) : (Block.weFault b c k codes step word).Sound := by
  unfold Block.weFault
  repeat' first
    | with_reducible assumption
    | (extract_lets +onlyGivenNames z; refine Block.Sound.cut z ?_ (fun hz => ?_); (on_goal 2 => clear_value z); (on_goal 1 => subst z))
    | with_reducible apply Block.ite_sound
    | with_reducible apply Block.setReg_sound
    | with_reducible apply Block.orReg_sound
    | ((with_reducible refine r2_ne ?_); rfl)

theorem Block.memFault_sound {b : Block} (c : Nat) (m : MemFault) (step : Nat) (hS : b.Sound) : (Block.memFault b c m step).Sound := by
  unfold Block.memFault
  repeat' first
    | with_reducible assumption
    | (extract_lets +onlyGivenNames z; refine Block.Sound.cut z ?_ (fun hz => ?_); (on_goal 2 => clear_value z); (on_goal 1 => subst z))
    | with_reducible apply Block.ite_sound
    | with_reducible apply Block.setReg_sound
    | with_reducible apply Block.orReg_sound
    | ((with_reducible refine r1_ne ?_); rfl)

theorem Block.setAov_sound {b : Block} (c : Nat) (k : Nat) (n : Nat) (hS : b.Sound) : (Block.setAov b c k n).Sound := by
  unfold Block.setAov
  repeat' first
    | with_reducible assumption
    | with_reducible apply Block.setBit_sound
    | ((with_reducible refine r2_ne ?_); rfl)

theorem Block.weSticky_sound {b : Block} (c : Nat) (k : Nat) (satov : Bool) (rndov : Bool) (hS : b.Sound) : (Block.weSticky b c k satov rndov).Sound := by
  unfold Block.weSticky
  repeat' first
    | with_reducible assumption
    | (extract_lets +onlyGivenNames z; refine Block.Sound.cut z ?_ (fun hz => ?_); (on_goal 2 => clear_value z); (on_goal 1 => subst z))
    | with_reducible apply Block.ite_sound
    | with_reducible apply Block.setBit_sound
    | ((with_reducible refine r2_ne ?_); rfl)

theorem Block.w1c_sound {b : Block} (k : RegKey) (v : Word) (hS : b.Sound) (hk_k : k.name ≠ .CTL_ID) : (Block.w1c b k v).Sound := by
  unfold Block.w1c
  repeat' first
    | with_reducible assumption
    | with_reducible apply Block.setReg_sound

theorem Block.faultClear_sound {b : Block} (k : RegKey) (causes : Nat) (records : List RegKey) (v : Word) (hS : b.Sound) (hk_k : k.name ≠ .CTL_ID) : (Block.faultClear b k causes records v).Sound := by
  unfold Block.faultClear
  repeat' first
    | with_reducible assumption
    | (extract_lets +onlyGivenNames z; refine Block.Sound.cut z ?_ (fun hz => ?_); (on_goal 2 => clear_value z); (on_goal 1 => subst z))
    | with_reducible apply Block.ite_sound
    | with_reducible apply Block.w1c_sound
    | with_reducible apply Block.clrReg_foldl_sound

end Sys2Proof.Machine
end

