-- ==== Sys2Proof/Laws/Sound/Units.lean ====
section
/-!
SUPPORT. The operations of Machine/Units.lean keep Block.Sound.
-/
namespace Sys2Proof.Machine

theorem Block.unitFault_sound {b : Block} (k : CUnit) (cls : Nat) (unit : Nat) (hS : b.Sound) : (Block.unitFault b k cls unit).Sound := by
  unfold Block.unitFault
  repeat' first
    | with_reducible assumption
    | with_reducible apply Block.faultU_sound

theorem Block.unitUse_sound {b : Block} (k : CUnit) (unit : Nat) (e : Ecc) (f : Block → Block) (hS : b.Sound) (hf_f : ∀ x, x.Sound → (f x).Sound) : (Block.unitUse b k unit e f).Sound := by
  unfold Block.unitUse
  repeat' first
    | with_reducible assumption
    | with_reducible apply Block.corrected_sound
    | with_reducible apply Block.unitFault_sound
    | with_reducible apply hf_f
    | split

end Sys2Proof.Machine
end

