-- ==== Sys2Proof/Laws/Sound/Tdu.lean ====
section
/-!
SUPPORT. The operations of Machine/Tdu.lean keep Block.Sound.
-/
namespace Sys2Proof.Machine

theorem Tdu.joinReady_sub (t : Tdu) (c : Nat) : (t.joinReady c).sub = t.sub := rfl

theorem Block.tduSetHeld_sound {b : Block} (n : Nat) (h : Nat) (hS : b.Sound) : (Block.tduSetHeld b n h).Sound := by
  unfold Block.tduSetHeld
  repeat' first
    | with_reducible assumption
    | with_reducible apply Block.setFld_sound
    | ((with_reducible refine r1_ne ?_); rfl)

theorem Block.tduFlag_sound {b : Block} (f : Fld) (e : Nat) (hS : b.Sound) : (Block.tduFlag b f e).Sound := by
  unfold Block.tduFlag
  repeat' first
    | with_reducible assumption
    | with_reducible apply Block.ite_sound
    | with_reducible apply Block.setBit_sound
    | with_reducible apply Block.raise_sound
    | ((with_reducible refine r0_ne ?_); rfl)

theorem Block.replyTo_sound {b : Block} (c : Nat) (id : Nat) (w : BitVec 72) (hS : b.Sound) : (Block.replyTo b c id w).Sound := by
  unfold Block.replyTo
  repeat' first
    | with_reducible assumption
    | with_reducible apply Block.modClu_sound

theorem Block.replyFrag_sound {b : Block} (f : Frag) (w : BitVec 72) (hS : b.Sound) : (Block.replyFrag b f w).Sound := by
  unfold Block.replyFrag
  repeat' first
    | with_reducible assumption
    | with_reducible apply Block.replyTo_sound
    | split

theorem Block.replyOwed_sound {b : Block} (e : Entry) (w : BitVec 72) (hS : b.Sound) : (Block.replyOwed b e w).Sound := by
  unfold Block.replyOwed
  repeat' first
    | with_reducible assumption
    | with_reducible apply Block.replyTo_sound
    | with_reducible apply Block.forEach_sound
    | (intro z hz hy)

theorem Block.tduSettle_sound {b : Block} (hS : b.Sound) : (Block.tduSettle b).Sound := by
  unfold Block.tduSettle
  repeat' first
    | (extract_lets +onlyGivenNames z; subst z)
    | (rw [Tdu.joinReady_sub])
    | (simp only [Block.sound_mk]; refine ⟨?_, ?_, ?_, ?_, ?_, ?_, ?_, ?_, ?_⟩)
    | with_reducible exact Block.Sound.rf (by assumption)
    | with_reducible exact Block.Sound.far (by assumption)
    | with_reducible exact Block.Sound.ssp (by assumption)
    | with_reducible exact Block.Sound.log (by assumption)
    | with_reducible exact Block.Sound.audit (by assumption)
    | with_reducible exact Block.Sound.vpt (by assumption)
    | with_reducible exact Block.Sound.sub (by assumption)
    | with_reducible exact Block.Sound.s0 (by assumption)
    | with_reducible exact Block.Sound.s1 (by assumption)

theorem Block.tduFree_sound {b : Block} (e : Entry) (hS : b.Sound) : (Block.tduFree b e).Sound := by
  unfold Block.tduFree
  repeat' first
    | (extract_lets +onlyGivenNames z; subst z)
    | with_reducible apply Block.tduSetHeld_sound
    | (simp only [Block.sound_mk]; refine ⟨?_, ?_, ?_, ?_, ?_, ?_, ?_, ?_, ?_⟩)
    | with_reducible exact Block.Sound.rf (by assumption)
    | with_reducible exact Block.Sound.far (by assumption)
    | with_reducible exact Block.Sound.ssp (by assumption)
    | with_reducible exact Block.Sound.log (by assumption)
    | with_reducible exact Block.Sound.audit (by assumption)
    | with_reducible exact Block.Sound.vpt (by assumption)
    | with_reducible exact Block.Sound.sub (by assumption)
    | with_reducible exact Block.Sound.s0 (by assumption)
    | with_reducible exact Block.Sound.s1 (by assumption)

theorem Block.tduPut_sound {b : Block} (e : Entry) (hS : b.Sound) : (Block.tduPut b e).Sound := by
  unfold Block.tduPut
  repeat' first
    | (extract_lets +onlyGivenNames z; subst z)
    | (simp only [Block.sound_mk]; refine ⟨?_, ?_, ?_, ?_, ?_, ?_, ?_, ?_, ?_⟩)
    | with_reducible exact Block.Sound.rf (by assumption)
    | with_reducible exact Block.Sound.far (by assumption)
    | with_reducible exact Block.Sound.ssp (by assumption)
    | with_reducible exact Block.Sound.log (by assumption)
    | with_reducible exact Block.Sound.audit (by assumption)
    | with_reducible exact Block.Sound.vpt (by assumption)
    | with_reducible exact Block.Sound.sub (by assumption)
    | with_reducible exact Block.Sound.s0 (by assumption)
    | with_reducible exact Block.Sound.s1 (by assumption)

theorem Block.spillWrite_sound {b : Block} (place : Nat) (l : List Byte) (hS : b.Sound) : (Block.spillWrite b place l).Sound := by
  unfold Block.spillWrite
  repeat' first
    | with_reducible assumption
    | (extract_lets +onlyGivenNames z; subst z)
    | with_reducible apply Block.farWrite_sound
    | with_reducible apply Block.snoop_sound

theorem Block.bucketRead_sound {b : Block} (k : Nat) (found : List (BitVec 6 × Ecc)) (hS : b.Sound) : (Block.bucketRead b k found).Sound := by
  unfold Block.bucketRead
  repeat' first
    | with_reducible assumption
    | (extract_lets +onlyGivenNames z; refine Block.Sound.cut z ?_ (fun hz => ?_); (on_goal 2 => clear_value z); (on_goal 1 => subst z))
    | (extract_lets +onlyGivenNames z; subst z)
    | with_reducible apply Block.corrected_sound
    | with_reducible apply Block.faultP_sound
    | with_reducible apply Block.farUncorr_sound
    | with_reducible apply Block.forEach_sound
    | (intro z hz hy)
    | split

theorem Block.spillDrop_sound {b : Block} (place : Nat) (hS : b.Sound) : (Block.spillDrop b place).Sound := by
  unfold Block.spillDrop
  repeat' first
    | with_reducible assumption
    | (extract_lets +onlyGivenNames z; refine Block.Sound.cut z ?_ (fun hz => ?_); (on_goal 2 => clear_value z); (on_goal 1 => subst z))
    | (extract_lets +onlyGivenNames z; subst z)
    | with_reducible apply Block.spillWrite_sound
    | (simp only [Block.sound_mk]; refine ⟨?_, ?_, ?_, ?_, ?_, ?_, ?_, ?_, ?_⟩)
    | with_reducible exact Block.Sound.rf (by assumption)
    | with_reducible exact Block.Sound.far (by assumption)
    | with_reducible exact Block.Sound.ssp (by assumption)
    | with_reducible exact Block.Sound.log (by assumption)
    | with_reducible exact Block.Sound.audit (by assumption)
    | with_reducible exact Block.Sound.vpt (by assumption)
    | with_reducible exact Block.Sound.sub (by assumption)
    | with_reducible exact Block.Sound.s0 (by assumption)
    | with_reducible exact Block.Sound.s1 (by assumption)

theorem Block.tduSpill_sound {b : Block} (hS : b.Sound) : (Block.tduSpill b).Sound := by
  unfold Block.tduSpill
  repeat' first
    | with_reducible assumption
    | (extract_lets +onlyGivenNames z; refine Block.Sound.cut z ?_ (fun hz => ?_); (on_goal 2 => clear_value z); (on_goal 1 => subst z))
    | (extract_lets +onlyGivenNames z; subst z)
    | with_reducible apply Block.ite_sound
    | with_reducible apply Block.raise_sound
    | with_reducible apply Block.tduFlag_sound
    | with_reducible apply Block.tduSettle_sound
    | with_reducible apply Block.spillWrite_sound
    | (simp only [Block.sound_mk]; refine ⟨?_, ?_, ?_, ?_, ?_, ?_, ?_, ?_, ?_⟩)
    | with_reducible exact Block.Sound.rf (by assumption)
    | with_reducible exact Block.Sound.far (by assumption)
    | with_reducible exact Block.Sound.ssp (by assumption)
    | with_reducible exact Block.Sound.log (by assumption)
    | with_reducible exact Block.Sound.audit (by assumption)
    | with_reducible exact Block.Sound.vpt (by assumption)
    | with_reducible exact Block.Sound.sub (by assumption)
    | with_reducible exact Block.Sound.s0 (by assumption)
    | with_reducible exact Block.Sound.s1 (by assumption)
    | split

theorem Block.tduAlloc_sound {b : Block} (chan : Nat) (tag : Nat) (hS : b.Sound) : (Block.tduAlloc b chan tag).Sound := by
  unfold Block.tduAlloc
  repeat' first
    | (extract_lets +onlyGivenNames z; subst z)
    | with_reducible apply Block.tduSetHeld_sound
    | (simp only [Block.sound_mk]; refine ⟨?_, ?_, ?_, ?_, ?_, ?_, ?_, ?_, ?_⟩)
    | with_reducible exact Block.Sound.rf (by assumption)
    | with_reducible exact Block.Sound.far (by assumption)
    | with_reducible exact Block.Sound.ssp (by assumption)
    | with_reducible exact Block.Sound.log (by assumption)
    | with_reducible exact Block.Sound.audit (by assumption)
    | with_reducible exact Block.Sound.vpt (by assumption)
    | with_reducible exact Block.Sound.sub (by assumption)
    | with_reducible exact Block.Sound.s0 (by assumption)
    | with_reducible exact Block.Sound.s1 (by assumption)

theorem Block.tduJoin_sound {b : Block} (f : Frag) (e : Entry) (hS : b.Sound) : (Block.tduJoin b f e).Sound := by
  unfold Block.tduJoin
  repeat' first
    | with_reducible assumption
    | (extract_lets +onlyGivenNames z; refine Block.Sound.cut z ?_ (fun hz => ?_); (on_goal 2 => clear_value z); (on_goal 1 => subst z))
    | (extract_lets +onlyGivenNames z; subst z)
    | with_reducible apply Block.ite_sound
    | with_reducible apply Block.setBit_sound
    | with_reducible apply Block.tduFlag_sound
    | with_reducible apply Block.replyFrag_sound
    | with_reducible apply Block.tduPut_sound
    | ((with_reducible refine r1_ne ?_); rfl)
    | (simp only [Block.sound_mk]; refine ⟨?_, ?_, ?_, ?_, ?_, ?_, ?_, ?_, ?_⟩)
    | with_reducible exact Block.Sound.rf (by assumption)
    | with_reducible exact Block.Sound.far (by assumption)
    | with_reducible exact Block.Sound.ssp (by assumption)
    | with_reducible exact Block.Sound.log (by assumption)
    | with_reducible exact Block.Sound.audit (by assumption)
    | with_reducible exact Block.Sound.vpt (by assumption)
    | with_reducible exact Block.Sound.sub (by assumption)
    | with_reducible exact Block.Sound.s0 (by assumption)
    | with_reducible exact Block.Sound.s1 (by assumption)

theorem Block.tduRefill_sound {b : Block} (x : Nat × Entry) (hS : b.Sound) : (Block.tduRefill b x).Sound := by
  unfold Block.tduRefill
  repeat' first
    | with_reducible assumption
    | (extract_lets +onlyGivenNames z; refine Block.Sound.cut z ?_ (fun hz => ?_); (on_goal 2 => clear_value z); (on_goal 1 => subst z))
    | (extract_lets +onlyGivenNames z; subst z)
    | with_reducible apply Block.spillDrop_sound
    | (simp only [Block.sound_mk]; refine ⟨?_, ?_, ?_, ?_, ?_, ?_, ?_, ?_, ?_⟩)
    | with_reducible exact Block.Sound.rf (by assumption)
    | with_reducible exact Block.Sound.far (by assumption)
    | with_reducible exact Block.Sound.ssp (by assumption)
    | with_reducible exact Block.Sound.log (by assumption)
    | with_reducible exact Block.Sound.audit (by assumption)
    | with_reducible exact Block.Sound.vpt (by assumption)
    | with_reducible exact Block.Sound.sub (by assumption)
    | with_reducible exact Block.Sound.s0 (by assumption)
    | with_reducible exact Block.Sound.s1 (by assumption)

theorem Block.tduRoom_sound {b : Block} (hS : b.Sound) : (Block.tduRoom b).Sound := by
  unfold Block.tduRoom
  repeat' first
    | with_reducible assumption
    | with_reducible apply Block.ite_sound
    | with_reducible apply Block.tduSpill_sound

theorem Block.sigNote_sound {b : Block} (f : Frag) (ok : Bool) (hS : b.Sound) : (Block.sigNote b f ok).Sound := by
  unfold Block.sigNote
  repeat' first
    | with_reducible assumption
    | with_reducible apply Block.ite_sound
    | with_reducible apply Block.modDma_sound
    | split

theorem Block.tduApply_sound {b : Block} (f : Frag) (hS : b.Sound) : (Block.tduApply b f).Sound := by
  unfold Block.tduApply
  repeat' first
    | with_reducible assumption
    | (extract_lets +onlyGivenNames z; refine Block.Sound.cut z ?_ (fun hz => ?_); (on_goal 2 => clear_value z); (on_goal 1 => subst z))
    | (extract_lets +onlyGivenNames z; subst z)
    | with_reducible apply Block.ite_sound
    | with_reducible apply Block.setBit_sound
    | with_reducible apply Block.tduFlag_sound
    | with_reducible apply Block.replyFrag_sound
    | with_reducible apply Block.tduSettle_sound
    | with_reducible apply Block.tduAlloc_sound
    | with_reducible apply Block.tduJoin_sound
    | with_reducible apply Block.tduRoom_sound
    | with_reducible apply Block.sigNote_sound
    | ((with_reducible refine r1_ne ?_); rfl)
    | (simp only [Block.sound_mk]; refine ⟨?_, ?_, ?_, ?_, ?_, ?_, ?_, ?_, ?_⟩)
    | with_reducible exact Block.Sound.rf (by assumption)
    | with_reducible exact Block.Sound.far (by assumption)
    | with_reducible exact Block.Sound.ssp (by assumption)
    | with_reducible exact Block.Sound.log (by assumption)
    | with_reducible exact Block.Sound.audit (by assumption)
    | with_reducible exact Block.Sound.vpt (by assumption)
    | with_reducible exact Block.Sound.sub (by assumption)
    | with_reducible exact Block.Sound.s0 (by assumption)
    | with_reducible exact Block.Sound.s1 (by assumption)
    | split

theorem Block.tduTake_sound {b : Block} (f : Frag) (hS : b.Sound) : (Block.tduTake b f).Sound := by
  unfold Block.tduTake
  repeat' first
    | with_reducible assumption
    | (extract_lets +onlyGivenNames z; subst z)
    | with_reducible apply Block.ite_sound
    | with_reducible apply Block.tduApply_sound
    | (simp only [Block.sound_mk]; refine ⟨?_, ?_, ?_, ?_, ?_, ?_, ?_, ?_, ?_⟩)
    | with_reducible exact Block.Sound.rf (by assumption)
    | with_reducible exact Block.Sound.far (by assumption)
    | with_reducible exact Block.Sound.ssp (by assumption)
    | with_reducible exact Block.Sound.log (by assumption)
    | with_reducible exact Block.Sound.audit (by assumption)
    | with_reducible exact Block.Sound.vpt (by assumption)
    | with_reducible exact Block.Sound.sub (by assumption)
    | with_reducible exact Block.Sound.s0 (by assumption)
    | with_reducible exact Block.Sound.s1 (by assumption)

theorem Block.popFrag_sound {b : Block} (f : Nat × Frag) (hS : b.Sound) : (Block.popFrag b f).Sound := by
  unfold Block.popFrag
  repeat' first
    | (extract_lets +onlyGivenNames z; subst z)
    | (simp only [Block.sound_mk]; refine ⟨?_, ?_, ?_, ?_, ?_, ?_, ?_, ?_, ?_⟩)
    | with_reducible exact Block.Sound.rf (by assumption)
    | with_reducible exact Block.Sound.far (by assumption)
    | with_reducible exact Block.Sound.ssp (by assumption)
    | with_reducible exact Block.Sound.log (by assumption)
    | with_reducible exact Block.Sound.audit (by assumption)
    | with_reducible exact Block.Sound.vpt (by assumption)
    | with_reducible exact Block.Sound.sub (by assumption)
    | with_reducible exact Block.Sound.s0 (by assumption)
    | with_reducible exact Block.Sound.s1 (by assumption)

theorem Block.tduNext_sound {b : Block} (hS : b.Sound) : (Block.tduNext b).Sound := by
  unfold Block.tduNext
  repeat' first
    | with_reducible assumption
    | with_reducible apply Block.ite_sound
    | with_reducible apply Block.tduFlag_sound
    | with_reducible apply Block.tduTake_sound
    | with_reducible apply Block.popFrag_sound
    | split

theorem Block.tduDrain_sound {b : Block} (hS : b.Sound) : (Block.tduDrain b).Sound := by
  unfold Block.tduDrain
  repeat' first
    | with_reducible assumption
    | with_reducible apply Block.tduNext_sound
    | with_reducible apply Block.forEach_sound
    | (intro z hz hy)

theorem Block.readEnd_sound {b : Block} (f : Frag) (hS : b.Sound) : (Block.readEnd b f).Sound := by
  unfold Block.readEnd
  repeat' first
    | with_reducible assumption
    | (extract_lets +onlyGivenNames z; refine Block.Sound.cut z ?_ (fun hz => ?_); (on_goal 2 => clear_value z); (on_goal 1 => subst z))
    | (extract_lets +onlyGivenNames z; subst z)
    | with_reducible apply Block.ite_sound
    | with_reducible apply Block.tduRefill_sound
    | with_reducible apply Block.tduRoom_sound
    | with_reducible apply Block.tduApply_sound
    | (simp only [Block.sound_mk]; refine ⟨?_, ?_, ?_, ?_, ?_, ?_, ?_, ?_, ?_⟩)
    | with_reducible exact Block.Sound.rf (by assumption)
    | with_reducible exact Block.Sound.far (by assumption)
    | with_reducible exact Block.Sound.ssp (by assumption)
    | with_reducible exact Block.Sound.log (by assumption)
    | with_reducible exact Block.Sound.audit (by assumption)
    | with_reducible exact Block.Sound.vpt (by assumption)
    | with_reducible exact Block.Sound.sub (by assumption)
    | with_reducible exact Block.Sound.s0 (by assumption)
    | with_reducible exact Block.Sound.s1 (by assumption)
    | split

theorem Block.tduPost_sound {b : Block} (r : Requester) (n : Nat) (v : Word) (hS : b.Sound) : (Block.tduPost b r n v).Sound := by
  unfold Block.tduPost
  repeat' first
    | with_reducible assumption
    | with_reducible apply Block.pushFrag_sound

theorem Block.tduRetire_sound {b : Block} (e : Entry) (result : BitVec 64) (fault : Bool) (hS : b.Sound) : (Block.tduRetire b e result fault).Sound := by
  unfold Block.tduRetire
  repeat' first
    | with_reducible assumption
    | with_reducible apply Block.replyOwed_sound
    | with_reducible apply Block.tduSettle_sound
    | with_reducible apply Block.tduFree_sound

theorem Block.tduRetireNotify_sound {b : Block} (n : Nat) (v : Word) (hS : b.Sound) : (Block.tduRetireNotify b n v).Sound := by
  unfold Block.tduRetireNotify
  repeat' first
    | with_reducible assumption
    | with_reducible apply Block.tduRetire_sound
    | split

theorem Block.nheadRead_sound {b : Block} (n : Nat) (hS : b.Sound) : (Block.nheadRead b n).1.Sound := by
  unfold Block.nheadRead
  repeat' first
    | with_reducible assumption
    | with_reducible apply Block.setReg64_sound
    | with_reducible apply Block.tduPut_sound
    | with_reducible apply Block.forEach_sound
    | ((with_reducible refine r2_ne ?_); rfl)
    | (intro z hz hy)
    | split

theorem Block.dmaBegin_sound {b : Block} (n : Nat) (slot : Nat) (task : Bool) (hS : b.Sound) : (Block.dmaBegin b n slot task).Sound := by
  unfold Block.dmaBegin
  repeat' first
    | with_reducible assumption
    | (extract_lets +onlyGivenNames z; refine Block.Sound.cut z ?_ (fun hz => ?_); (on_goal 2 => clear_value z); (on_goal 1 => subst z))
    | (extract_lets +onlyGivenNames z; subst z)
    | with_reducible apply Block.setReg_sound
    | ((with_reducible refine r1_ne ?_); rfl)
    | ((with_reducible refine r2_ne ?_); rfl)
    | (simp only [Block.sound_mk]; refine ⟨?_, ?_, ?_, ?_, ?_, ?_, ?_, ?_, ?_⟩)
    | with_reducible exact Block.Sound.rf (by assumption)
    | with_reducible exact Block.Sound.far (by assumption)
    | with_reducible exact Block.Sound.ssp (by assumption)
    | with_reducible exact Block.Sound.log (by assumption)
    | with_reducible exact Block.Sound.audit (by assumption)
    | with_reducible exact Block.Sound.vpt (by assumption)
    | with_reducible exact Block.Sound.sub (by assumption)
    | with_reducible exact Block.Sound.s0 (by assumption)
    | with_reducible exact Block.Sound.s1 (by assumption)

theorem Block.tduDispatch_sound {b : Block} (e : Entry) (hS : b.Sound) : (Block.tduDispatch b e).Sound := by
  unfold Block.tduDispatch
  repeat' first
    | with_reducible assumption
    | (extract_lets +onlyGivenNames z; refine Block.Sound.cut z ?_ (fun hz => ?_); (on_goal 2 => clear_value z); (on_goal 1 => subst z))
    | (extract_lets +onlyGivenNames z; subst z)
    | with_reducible apply Block.ite_sound
    | with_reducible apply Block.setReg64_sound
    | with_reducible apply Block.modDma_sound
    | with_reducible apply Block.msix_sound
    | with_reducible apply Block.pushFrag_sound
    | with_reducible apply Block.tduSettle_sound
    | with_reducible apply Block.tduPut_sound
    | with_reducible apply Block.tduTake_sound
    | with_reducible apply Block.tduRetire_sound
    | with_reducible apply Block.dmaBegin_sound
    | with_reducible apply Block.forEach_sound
    | ((with_reducible refine r2_ne ?_); rfl)
    | (simp only [Block.sound_mk]; refine ⟨?_, ?_, ?_, ?_, ?_, ?_, ?_, ?_, ?_⟩)
    | with_reducible exact Block.Sound.rf (by assumption)
    | with_reducible exact Block.Sound.far (by assumption)
    | with_reducible exact Block.Sound.ssp (by assumption)
    | with_reducible exact Block.Sound.log (by assumption)
    | with_reducible exact Block.Sound.audit (by assumption)
    | with_reducible exact Block.Sound.vpt (by assumption)
    | with_reducible exact Block.Sound.sub (by assumption)
    | with_reducible exact Block.Sound.s0 (by assumption)
    | with_reducible exact Block.Sound.s1 (by assumption)
    | (intro z hz hy)

theorem Block.tduExpire_sound {b : Block} (e : Entry) (hS : b.Sound) : (Block.tduExpire b e).Sound := by
  unfold Block.tduExpire
  repeat' first
    | with_reducible assumption
    | (extract_lets +onlyGivenNames z; refine Block.Sound.cut z ?_ (fun hz => ?_); (on_goal 2 => clear_value z); (on_goal 1 => subst z))
    | with_reducible apply Block.setReg_sound
    | with_reducible apply Block.setBit_sound
    | with_reducible apply Block.tduFlag_sound
    | with_reducible apply Block.replyOwed_sound
    | with_reducible apply Block.tduSettle_sound
    | with_reducible apply Block.tduFree_sound
    | ((with_reducible refine r1_ne ?_); rfl)
    | ((with_reducible refine r0_ne ?_); rfl)

theorem Block.sweepExpire_sound {b : Block} (x : Nat × Entry) (hS : b.Sound) : (Block.sweepExpire b x).Sound := by
  unfold Block.sweepExpire
  repeat' first
    | with_reducible assumption
    | (extract_lets +onlyGivenNames z; refine Block.Sound.cut z ?_ (fun hz => ?_); (on_goal 2 => clear_value z); (on_goal 1 => subst z))
    | with_reducible apply Block.ite_sound
    | with_reducible apply Block.spillDrop_sound
    | with_reducible apply Block.tduDrain_sound
    | with_reducible apply Block.readEnd_sound
    | with_reducible apply Block.tduExpire_sound
    | split

theorem Block.tduHandover_sound {b : Block} (p : Nat) (hS : b.Sound) : (Block.tduHandover b p).Sound := by
  unfold Block.tduHandover
  repeat' first
    | with_reducible assumption
    | (extract_lets +onlyGivenNames z; refine Block.Sound.cut z ?_ (fun hz => ?_); (on_goal 2 => clear_value z); (on_goal 1 => subst z))
    | (extract_lets +onlyGivenNames z; subst z)
    | with_reducible apply Block.setBit_sound
    | with_reducible apply Block.tduSettle_sound
    | with_reducible apply Block.forEach_sound
    | ((with_reducible refine r1_ne ?_); rfl)
    | (simp only [Block.sound_mk]; refine ⟨?_, ?_, ?_, ?_, ?_, ?_, ?_, ?_, ?_⟩)
    | with_reducible exact Block.Sound.rf (by assumption)
    | with_reducible exact Block.Sound.far (by assumption)
    | with_reducible exact Block.Sound.ssp (by assumption)
    | with_reducible exact Block.Sound.log (by assumption)
    | with_reducible exact Block.Sound.audit (by assumption)
    | with_reducible exact Block.Sound.vpt (by assumption)
    | with_reducible exact Block.Sound.sub (by assumption)
    | with_reducible exact Block.Sound.s0 (by assumption)
    | with_reducible exact Block.Sound.s1 (by assumption)
    | (intro z hz hy)

end Sys2Proof.Machine
end

