-- ==== Sys2Proof/Laws/Sound/Far.lean ====
section
/-!
SUPPORT. The operations of Machine/Far.lean keep Block.Sound.
-/
namespace Sys2Proof.Machine

theorem Block.cacheUse_sound {b : Block} (c : Nat) (stack : Nat) (addr : Nat) (wr : Bool) (hS : b.Sound) : (Block.cacheUse b c stack addr wr).Sound := by
  unfold Block.cacheUse
  repeat' first
    | with_reducible assumption
    | (extract_lets +onlyGivenNames z; subst z)
    | with_reducible apply Block.modClu_sound
    | with_reducible apply Block.snoop_sound

theorem Block.snoopRange_sound {b : Block} (addr : Nat) (len : Nat) (wr : Bool) (hS : b.Sound) : (Block.snoopRange b addr len wr).Sound := by
  unfold Block.snoopRange
  repeat' first
    | with_reducible assumption
    | with_reducible apply Block.snoop_sound
    | with_reducible apply Block.forEach_sound
    | (intro z hz hy)

theorem Block.wordsFound_sound {b : Block} (n : Nat) (found : Found) (due : Nat → Block → Block) (hS : b.Sound) (hf_due : ∀ a x, x.Sound → (due a x).Sound) : (Block.wordsFound b n found due).Sound := by
  unfold Block.wordsFound
  repeat' first
    | with_reducible assumption
    | with_reducible apply Block.corrected_sound
    | with_reducible apply Block.forEach_sound
    | with_reducible apply hf_due
    | (intro z hz hy)
    | split

theorem Block.farFound_sound {b : Block} (stack : Nat) (addr : Nat) (len : Nat) (found : Found) (hS : b.Sound) : (Block.farFound b stack addr len found).Sound := by
  unfold Block.farFound
  repeat' first
    | with_reducible assumption
    | with_reducible apply Block.farUncorr_sound
    | with_reducible apply Block.wordsFound_sound
    | (intro z hz hy)

theorem Block.lineFill_sound {b : Block} (c : Nat) (stack : Nat) (addr : Nat) (found : List (BitVec 3 × Ecc)) (hS : b.Sound) : (Block.lineFill b c stack addr found).Sound := by
  unfold Block.lineFill
  repeat' first
    | with_reducible assumption
    | with_reducible apply Block.satFld_sound
    | with_reducible apply Block.corrected_sound
    | with_reducible apply Block.farUncorr_sound
    | with_reducible apply Block.forEach_sound
    | ((with_reducible refine r1_ne ?_); rfl)
    | (intro z hz hy)
    | split

theorem Block.lineHit_sound {b : Block} (e : FmpEnt) (found : List (BitVec 3 × Ecc)) (hS : b.Sound) : (Block.lineHit b e found).Sound := by
  unfold Block.lineHit
  repeat' first
    | with_reducible assumption
    | (extract_lets +onlyGivenNames z; subst z)
    | with_reducible apply Block.corrected_sound
    | with_reducible apply Block.forEach_sound
    | (simp only [Block.sound_mk]; refine ⟨?_, ?_, ?_, ?_, ?_, ?_, ?_, ?_, ?_⟩)
    | with_reducible exact Block.Sound.rf (by assumption)
    | with_reducible exact Block.Sound.far (by assumption)
    | with_reducible exact Block.Sound.ssp (by assumption)
    | with_reducible exact Block.Sound.log (by assumption)
    | with_reducible exact Block.Sound.audit (by assumption)
    | with_reducible exact Block.Sound.vpt (by assumption)
    | with_reducible exact Block.Sound.sub (by assumption)
    | with_reducible exact Block.Sound.s0 (by assumption)
    | with_reducible exact Block.Sound.s1 (by assumption)
    | (intro z hz hy)
    | split

theorem Block.fmpAct_sound {b : Block} (c : Nat) (n : Nat) (e : FmpEnt) (found : List (BitVec 3 × Ecc)) (hS : b.Sound) : (Block.fmpAct b c n e found).Sound := by
  unfold Block.fmpAct
  repeat' first
    | with_reducible assumption
    | (extract_lets +onlyGivenNames z; refine Block.Sound.cut z ?_ (fun hz => ?_); (on_goal 2 => clear_value z); (on_goal 1 => subst z))
    | (extract_lets +onlyGivenNames z; subst z)
    | with_reducible apply Block.ite_sound
    | with_reducible apply Block.wrapFld_sound
    | with_reducible apply Block.modClu_sound
    | with_reducible apply Block.farWrite_sound
    | with_reducible apply Block.cacheUse_sound
    | with_reducible apply Block.lineFill_sound
    | with_reducible apply Block.lineHit_sound
    | ((with_reducible refine r1_ne ?_); rfl)
    | split

theorem Block.fmpPresent_sound {b : Block} (c : Nat) (n : Nat) (num : Nat) (hS : b.Sound) : (Block.fmpPresent b c n num).Sound := by
  unfold Block.fmpPresent
  repeat' first
    | with_reducible assumption
    | with_reducible apply Block.modClu_sound

theorem Block.fmpArrive_sound {b : Block} (c : Nat) (n : Nat) (cls : Bool) (found : List (BitVec 3 × Ecc)) (hS : b.Sound) : (Block.fmpArrive b c n cls found).Sound := by
  unfold Block.fmpArrive
  repeat' first
    | with_reducible assumption
    | (extract_lets +onlyGivenNames z; refine Block.Sound.cut z ?_ (fun hz => ?_); (on_goal 2 => clear_value z); (on_goal 1 => subst z))
    | with_reducible apply Block.ite_sound
    | with_reducible apply Block.modClu_sound
    | with_reducible apply Block.fmpAct_sound
    | with_reducible apply Block.fmpPresent_sound
    | with_reducible apply Block.forEach_sound
    | (intro z hz hy)
    | split

theorem Block.refDelay_sound {b : Block} (k : Nat) (hS : b.Sound) : (Block.refDelay b k).Sound := by
  unfold Block.refDelay
  repeat' first
    | with_reducible assumption
    | with_reducible apply Block.satFld_sound
    | ((with_reducible refine r1_ne ?_); rfl)

theorem Block.refreshOne_sound {b : Block} (k : Nat) (mark : Block → Block) (hS : b.Sound) (hf_mark : ∀ x, x.Sound → (mark x).Sound) : (Block.refreshOne b k mark).Sound := by
  unfold Block.refreshOne
  repeat' first
    | with_reducible assumption
    | with_reducible apply Block.ite_sound
    | with_reducible apply Block.draw_sound
    | with_reducible apply Block.refDelay_sound
    | with_reducible apply hf_mark

theorem Block.refresh_sound {b : Block} (k : Nat) (hS : b.Sound) : (Block.refresh b k).Sound := by
  unfold Block.refresh
  repeat' first
    | with_reducible assumption
    | (extract_lets +onlyGivenNames z; refine Block.Sound.cut z ?_ (fun hz => ?_); (on_goal 2 => clear_value z); (on_goal 1 => subst z))
    | (extract_lets +onlyGivenNames z; subst z)
    | with_reducible apply Block.modClu_sound
    | with_reducible apply Block.refreshOne_sound
    | with_reducible apply Block.forEach_sound
    | (simp only [Block.sound_mk]; refine ⟨?_, ?_, ?_, ?_, ?_, ?_, ?_, ?_, ?_⟩)
    | with_reducible exact Block.Sound.rf (by assumption)
    | with_reducible exact Block.Sound.far (by assumption)
    | with_reducible exact Block.Sound.ssp (by assumption)
    | with_reducible exact Block.Sound.log (by assumption)
    | with_reducible exact Block.Sound.audit (by assumption)
    | with_reducible exact Block.Sound.vpt (by assumption)
    | with_reducible exact Block.Sound.sub (by assumption)
    | with_reducible exact Block.Sound.s0 (by assumption)
    | with_reducible exact Block.Sound.s1 (by assumption)
    | (intro z hz hy)
    | (intro z hz)

theorem Block.flush_sound {b : Block} (c : Nat) (hS : b.Sound) : (Block.flush b c).Sound := by
  unfold Block.flush
  repeat' first
    | with_reducible assumption
    | with_reducible apply Block.ite_sound
    | with_reducible apply Block.setBit_sound
    | ((with_reducible refine r1_ne ?_); rfl)

theorem Block.flushEnd_sound {b : Block} (c : Nat) (hS : b.Sound) : (Block.flushEnd b c).Sound := by
  unfold Block.flushEnd
  repeat' first
    | with_reducible assumption
    | with_reducible apply Block.ite_sound
    | with_reducible apply Block.clrFld_sound
    | with_reducible apply Block.modClu_sound
    | ((with_reducible refine r1_ne ?_); rfl)

end Sys2Proof.Machine
end

