-- ==== Sys2Proof/Laws/Sound/Freeze.lean ====
section
/-!
SUPPORT. The operations of Machine/Freeze.lean keep Block.Sound.
-/
namespace Sys2Proof.Machine

theorem Block.applyPath_sound {b : Block} (x : Part) (q : InPath) (hS : b.Sound) : (Block.applyPath b x q).Sound := by
  unfold Block.applyPath
  repeat' first
    | with_reducible assumption
    | with_reducible apply Block.setLane_sound
    | with_reducible apply Block.forEach_sound
    | (intro z hz hy)

theorem Block.applyFrames_sound {b : Block} (p : Nat) (hS : b.Sound) : (Block.applyFrames b p).Sound := by
  unfold Block.applyFrames
  repeat' first
    | with_reducible assumption
    | (extract_lets +onlyGivenNames z; refine Block.Sound.cut z ?_ (fun hz => ?_); (on_goal 2 => clear_value z); (on_goal 1 => subst z))
    | (extract_lets +onlyGivenNames z; subst z)
    | with_reducible apply Block.modPart_sound
    | with_reducible apply Block.applyPath_sound
    | with_reducible apply Block.forEach_sound
    | (intro z hz hy)

theorem Block.drain_sound {b : Block} (p : Nat) (hS : b.Sound) : (Block.drain b p).Sound := by
  unfold Block.drain
  repeat' first
    | with_reducible assumption
    | (extract_lets +onlyGivenNames z; subst z)
    | with_reducible apply Block.ite_sound
    | with_reducible apply Block.setBit_sound
    | with_reducible apply Block.applyFrames_sound
    | ((with_reducible refine r1_ne ?_); rfl)

theorem Block.takeSegment_sound {b : Block} (y : Segment) (hS : b.Sound) : (Block.takeSegment b y).Sound := by
  unfold Block.takeSegment
  repeat' first
    | with_reducible assumption
    | (extract_lets +onlyGivenNames z; refine Block.Sound.cut z ?_ (fun hz => ?_); (on_goal 2 => clear_value z); (on_goal 1 => subst z))
    | (extract_lets +onlyGivenNames z; subst z)
    | with_reducible apply Block.modPart_sound
    | with_reducible apply Block.drain_sound

theorem Block.frameStop_sound {b : Block} (p : Nat) (cls : Nat) (unit : Nat) (f : Fld) (hS : b.Sound) : (Block.frameStop b p cls unit f).Sound := by
  unfold Block.frameStop
  repeat' first
    | with_reducible assumption
    | with_reducible apply Block.setBit_sound
    | with_reducible apply Block.faultP_sound
    | ((with_reducible refine r1_ne ?_); rfl)

theorem Block.pathDownStop_sound {b : Block} (p : Nat) (hS : b.Sound) : (Block.pathDownStop b p).Sound := by
  unfold Block.pathDownStop
  repeat' first
    | with_reducible assumption
    | (extract_lets +onlyGivenNames z; subst z)
    | with_reducible apply Block.ite_sound
    | with_reducible apply Block.frameStop_sound

theorem Block.enterFrozen_sound {b : Block} (p : Nat) (hS : b.Sound) : (Block.enterFrozen b p).Sound := by
  unfold Block.enterFrozen
  repeat' first
    | with_reducible assumption
    | (extract_lets +onlyGivenNames z; refine Block.Sound.cut z ?_ (fun hz => ?_); (on_goal 2 => clear_value z); (on_goal 1 => subst z))
    | (extract_lets +onlyGivenNames z; subst z)
    | with_reducible apply Block.setBit_sound
    | with_reducible apply Block.clrFld_sound
    | with_reducible apply Block.modPart_sound
    | with_reducible apply Block.raiseGroups_sound
    | with_reducible apply Block.drain_sound
    | with_reducible apply Block.pathDownStop_sound
    | ((with_reducible refine r1_ne ?_); rfl)

theorem Block.meet_sound {b : Block} (p : Nat) (t : BitVec 32) (hS : b.Sound) : (Block.meet b p t).Sound := by
  unfold Block.meet
  repeat' first
    | with_reducible assumption
    | with_reducible apply Block.setReg_sound
    | with_reducible apply Block.clrFld_sound
    | with_reducible apply Block.modPart_sound
    | ((with_reducible refine r1_ne ?_); rfl)

theorem Block.setTarget_sound {b : Block} (p : Nat) (t : BitVec 32) (hS : b.Sound) : (Block.setTarget b p t).Sound := by
  unfold Block.setTarget
  repeat' first
    | with_reducible assumption
    | with_reducible apply Block.setReg_sound
    | with_reducible apply Block.setBit_sound
    | with_reducible apply Block.modPart_sound
    | ((with_reducible refine r1_ne ?_); rfl)

theorem Block.meetNow_sound {b : Block} (p : Nat) (t : BitVec 32) (hS : b.Sound) : (Block.meetNow b p t).Sound := by
  unfold Block.meetNow
  repeat' first
    | with_reducible assumption
    | (extract_lets +onlyGivenNames z; refine Block.Sound.cut z ?_ (fun hz => ?_); (on_goal 2 => clear_value z); (on_goal 1 => subst z))
    | (extract_lets +onlyGivenNames z; subst z)
    | with_reducible apply Block.ite_sound
    | with_reducible apply Block.satFld_sound
    | with_reducible apply Block.modPart_sound
    | with_reducible apply Block.enterFrozen_sound
    | with_reducible apply Block.meet_sound
    | ((with_reducible refine r1_ne ?_); rfl)

theorem Block.acceptTarget_sound {b : Block} (p : Nat) (t : BitVec 32) (hS : b.Sound) : (Block.acceptTarget b p t).Sound := by
  unfold Block.acceptTarget
  repeat' first
    | with_reducible assumption
    | (extract_lets +onlyGivenNames z; subst z)
    | with_reducible apply Block.ite_sound
    | with_reducible apply Block.setBit_sound
    | with_reducible apply Block.satFld_sound
    | with_reducible apply Block.modPart_sound
    | with_reducible apply Block.raiseGroups_sound
    | with_reducible apply Block.dropTarget_sound
    | with_reducible apply Block.setTarget_sound
    | with_reducible apply Block.meetNow_sound
    | ((with_reducible refine r1_ne ?_); rfl)
    | split

theorem Block.abortStop_sound {b : Block} (p : Nat) (hS : b.Sound) : (Block.abortStop b p).Sound := by
  unfold Block.abortStop
  repeat' first
    | with_reducible assumption
    | with_reducible apply Block.setBit_sound
    | with_reducible apply Block.modPart_sound
    | with_reducible apply Block.raiseGroups_sound
    | with_reducible apply Block.stopInconsistent_sound
    | ((with_reducible refine r1_ne ?_); rfl)

theorem Block.acceptAbort_sound {b : Block} (p : Nat) (hS : b.Sound) : (Block.acceptAbort b p).Sound := by
  unfold Block.acceptAbort
  repeat' first
    | with_reducible assumption
    | (extract_lets +onlyGivenNames z; subst z)
    | with_reducible apply Block.ite_sound
    | with_reducible apply Block.modPart_sound
    | with_reducible apply Block.abortStop_sound

theorem Block.acceptFreeze_sound {b : Block} (y : FreezeSym) (hS : b.Sound) : (Block.acceptFreeze b y).Sound := by
  unfold Block.acceptFreeze
  repeat' first
    | with_reducible assumption
    | (extract_lets +onlyGivenNames z; refine Block.Sound.cut z ?_ (fun hz => ?_); (on_goal 2 => clear_value z); (on_goal 1 => subst z))
    | (extract_lets +onlyGivenNames z; subst z)
    | with_reducible apply Block.ite_sound
    | with_reducible apply Block.recordFreeze_sound
    | with_reducible apply Block.acceptTarget_sound
    | with_reducible apply Block.acceptAbort_sound

theorem Block.freezeSym_sound {b : Block} (n : Nat) (y : FreezeSym) (hS : b.Sound) : (Block.freezeSym b n y).Sound := by
  unfold Block.freezeSym
  repeat' first
    | with_reducible assumption
    | with_reducible apply Block.ite_sound
    | with_reducible apply Block.flood_sound
    | with_reducible apply Block.acceptFreeze_sound
    | (simp only [Block.sound_mk]; refine ⟨?_, ?_, ?_, ?_, ?_, ?_, ?_, ?_, ?_⟩)
    | with_reducible exact Block.Sound.rf (by assumption)
    | with_reducible exact Block.Sound.far (by assumption)
    | with_reducible exact Block.Sound.ssp (by assumption)
    | with_reducible exact Block.Sound.log (by assumption)
    | with_reducible exact Block.Sound.audit (by assumption)
    | with_reducible exact Block.Sound.vpt (by assumption)
    | with_reducible exact Block.Sound.sub (by assumption)
    | with_reducible exact Block.Sound.s0 (by assumption)
    | with_reducible exact Block.Sound.s1 (by assumption)

theorem Block.freezeTarget_sound {b : Block} (p : Nat) (t : BitVec 32) (cause : Nat) (hS : b.Sound) : (Block.freezeTarget b p t cause).Sound := by
  unfold Block.freezeTarget
  repeat' first
    | with_reducible assumption
    | with_reducible apply Block.originate_sound
    | with_reducible apply Block.acceptTarget_sound

theorem Block.freeze_sound {b : Block} (p : Nat) (hS : b.Sound) : (Block.freeze b p).Sound := by
  unfold Block.freeze
  repeat' first
    | with_reducible assumption
    | with_reducible apply Block.ite_sound
    | with_reducible apply Block.freezeTarget_sound

theorem Block.freezeAt_sound {b : Block} (p : Nat) (hS : b.Sound) : (Block.freezeAt b p).Sound := by
  unfold Block.freezeAt
  repeat' first
    | with_reducible assumption
    | (extract_lets +onlyGivenNames z; subst z)
    | with_reducible apply Block.ite_sound
    | with_reducible apply Block.setBit_sound
    | with_reducible apply Block.freezeTarget_sound
    | ((with_reducible refine r1_ne ?_); rfl)

theorem Block.margin_sound {b : Block} (p : Nat) (hS : b.Sound) : (Block.margin b p).Sound := by
  unfold Block.margin
  repeat' first
    | with_reducible assumption
    | (extract_lets +onlyGivenNames z; subst z)
    | with_reducible apply Block.setReg_sound
    | ((with_reducible refine r1_ne ?_); rfl)

theorem Block.frzWrite_sound {b : Block} (r : Requester) (n : RegName) (p : Nat) (v : Word) (f : Block → Block) (hS : b.Sound) (hk_n : n ≠ .CTL_ID) (hf_f : ∀ x, x.Sound → (f x).Sound) : (Block.frzWrite b r n p v f).Sound := by
  unfold Block.frzWrite
  repeat' first
    | with_reducible assumption
    | with_reducible apply Block.ite_sound
    | with_reducible apply Block.hostWrite_sound
    | with_reducible apply hf_f
    | (intro z hz)

theorem Block.marginWrite_sound {b : Block} (p : Nat) (v : Word) (hS : b.Sound) : (Block.marginWrite b p v).Sound := by
  unfold Block.marginWrite
  repeat' first
    | with_reducible assumption
    | with_reducible apply Block.setReg_sound
    | with_reducible apply Block.margin_sound
    | ((with_reducible refine r1_ne ?_); rfl)

end Sys2Proof.Machine
end

