-- ==== Sys2Proof/Laws/Sound/Time.lean ====
section
/-!
SUPPORT. The operations of Machine/Time.lean keep Block.Sound.
-/
namespace Sys2Proof.Machine

theorem Block.timeEdges_sound {b : Block} (n : Nat) (hS : b.Sound) : (Block.timeEdges b n).Sound := by
  unfold Block.timeEdges
  repeat' first
    | with_reducible assumption
    | with_reducible apply Block.ite_sound
    | (simp only [Block.sound_mk]; refine ⟨?_, ?_, ?_, ?_, ?_, ?_, ?_, ?_, ?_⟩)
    | with_reducible exact Block.Sound.rf (by assumption)
    | with_reducible exact Block.Sound.far (by assumption)
    | with_reducible exact Block.Sound.ssp (by assumption)
    | with_reducible exact Block.Sound.log (by assumption)
    | with_reducible exact Block.Sound.audit (by assumption)
    | with_reducible exact Block.Sound.vpt (by assumption)
    | with_reducible exact Block.Sound.sub (by assumption)
    | with_reducible exact Block.Sound.s0 (by assumption)
    | with_reducible exact Block.Sound.s1 (by assumption)

theorem Block.evoEdge_sound {b : Block} (n : Nat) (at_ : Nat) (level : Bool) (hS : b.Sound) : (Block.evoEdge b n at_ level).Sound := by
  unfold Block.evoEdge
  repeat' first
    | (extract_lets +onlyGivenNames z; subst z)
    | (simp only [Block.sound_mk]; refine ⟨?_, ?_, ?_, ?_, ?_, ?_, ?_, ?_, ?_⟩)
    | with_reducible exact Block.Sound.rf (by assumption)
    | with_reducible exact Block.Sound.far (by assumption)
    | with_reducible exact Block.Sound.ssp (by assumption)
    | with_reducible exact Block.Sound.log (by assumption)
    | with_reducible exact Block.Sound.audit (by assumption)
    | with_reducible exact Block.Sound.vpt (by assumption)
    | with_reducible exact Block.Sound.sub (by assumption)
    | with_reducible exact Block.Sound.s0 (by assumption)
    | with_reducible exact Block.Sound.s1 (by assumption)

theorem Block.evoPulse_sound {b : Block} (n : Nat) (at_ : Nat) (hS : b.Sound) : (Block.evoPulse b n at_).Sound := by
  unfold Block.evoPulse
  repeat' first
    | with_reducible assumption
    | (extract_lets +onlyGivenNames z; refine Block.Sound.cut z ?_ (fun hz => ?_); (on_goal 2 => clear_value z); (on_goal 1 => subst z))
    | (extract_lets +onlyGivenNames z; subst z)
    | with_reducible apply Block.evoEdge_sound
    | (simp only [Block.sound_mk]; refine ⟨?_, ?_, ?_, ?_, ?_, ?_, ?_, ?_, ?_⟩)
    | with_reducible exact Block.Sound.rf (by assumption)
    | with_reducible exact Block.Sound.far (by assumption)
    | with_reducible exact Block.Sound.ssp (by assumption)
    | with_reducible exact Block.Sound.log (by assumption)
    | with_reducible exact Block.Sound.audit (by assumption)
    | with_reducible exact Block.Sound.vpt (by assumption)
    | with_reducible exact Block.Sound.sub (by assumption)
    | with_reducible exact Block.Sound.s0 (by assumption)
    | with_reducible exact Block.Sound.s1 (by assumption)

theorem Block.evoDrive_sound {b : Block} (trig : Bool) (idx : Nat) (at_ : Nat) (hS : b.Sound) : (Block.evoDrive b trig idx at_).Sound := by
  unfold Block.evoDrive
  repeat' first
    | with_reducible assumption
    | with_reducible apply Block.ite_sound
    | with_reducible apply Block.evoEdge_sound
    | with_reducible apply Block.evoPulse_sound
    | with_reducible apply Block.forEach_sound
    | (intro z hz hy)

theorem Block.setReg96_sound {b : Block} (n : RegName) (k : Nat) (t : Stamp) (hS : b.Sound) (hk_n : n ≠ .CTL_ID) : (Block.setReg96 b n k t).Sound := by
  unfold Block.setReg96
  repeat' first
    | with_reducible assumption
    | with_reducible apply Block.setReg_sound
    | with_reducible apply Block.forEach_sound
    | exact hk_n
    | (intro z hz hy)

theorem Block.tmrLate_sound {b : Block} (k : Nat) (hS : b.Sound) : (Block.tmrLate b k).Sound := by
  unfold Block.tmrLate
  repeat' first
    | with_reducible assumption
    | with_reducible apply Block.setBit_sound
    | with_reducible apply Block.raise_sound
    | ((with_reducible refine r1_ne ?_); rfl)
    | ((with_reducible refine r0_ne ?_); rfl)

theorem Block.tmrTarget_sound {b : Block} (k : Nat) (start : Nat) (e : Nat) (next_ : Nat) (hS : b.Sound) : (Block.tmrTarget b k start e next_).Sound := by
  unfold Block.tmrTarget
  repeat' first
    | with_reducible assumption
    | (extract_lets +onlyGivenNames z; refine Block.Sound.cut z ?_ (fun hz => ?_); (on_goal 2 => clear_value z); (on_goal 1 => subst z))
    | (extract_lets +onlyGivenNames z; subst z)
    | with_reducible apply Block.ite_sound
    | with_reducible apply Block.clrFld_sound
    | with_reducible apply Block.satFld_sound
    | with_reducible apply Block.tmrLate_sound
    | ((with_reducible refine r1_ne ?_); rfl)
    | (simp only [Block.sound_mk]; refine ⟨?_, ?_, ?_, ?_, ?_, ?_, ?_, ?_, ?_⟩)
    | with_reducible exact Block.Sound.rf (by assumption)
    | with_reducible exact Block.Sound.far (by assumption)
    | with_reducible exact Block.Sound.ssp (by assumption)
    | with_reducible exact Block.Sound.log (by assumption)
    | with_reducible exact Block.Sound.audit (by assumption)
    | with_reducible exact Block.Sound.vpt (by assumption)
    | with_reducible exact Block.Sound.sub (by assumption)
    | with_reducible exact Block.Sound.s0 (by assumption)
    | with_reducible exact Block.Sound.s1 (by assumption)

theorem Block.thawStart_sound {b : Block} (hS : b.Sound) : (Block.thawStart b).Sound := by
  unfold Block.thawStart
  repeat' first
    | with_reducible assumption
    | (extract_lets +onlyGivenNames z; subst z)
    | with_reducible apply Block.setFld_sound
    | ((with_reducible refine r0_ne ?_); rfl)
    | (simp only [Block.sound_mk]; refine ⟨?_, ?_, ?_, ?_, ?_, ?_, ?_, ?_, ?_⟩)
    | with_reducible exact Block.Sound.rf (by assumption)
    | with_reducible exact Block.Sound.far (by assumption)
    | with_reducible exact Block.Sound.ssp (by assumption)
    | with_reducible exact Block.Sound.log (by assumption)
    | with_reducible exact Block.Sound.audit (by assumption)
    | with_reducible exact Block.Sound.vpt (by assumption)
    | with_reducible exact Block.Sound.sub (by assumption)
    | with_reducible exact Block.Sound.s0 (by assumption)
    | with_reducible exact Block.Sound.s1 (by assumption)
    | split

theorem Block.tmrLatch_sound {b : Block} (k : Nat) (n : Nat) (hS : b.Sound) : (Block.tmrLatch b k n).Sound := by
  unfold Block.tmrLatch
  repeat' first
    | with_reducible assumption
    | (extract_lets +onlyGivenNames z; refine Block.Sound.cut z ?_ (fun hz => ?_); (on_goal 2 => clear_value z); (on_goal 1 => subst z))
    | with_reducible apply Block.ite_sound
    | with_reducible apply Block.setBit_sound
    | with_reducible apply Block.modDma_sound
    | ((with_reducible refine r1_ne ?_); rfl)

theorem Block.tmrRun_sound {b : Block} (k : Nat) (at_ : Nat) (hS : b.Sound) : (Block.tmrRun b k at_).Sound := by
  unfold Block.tmrRun
  repeat' first
    | with_reducible assumption
    | (extract_lets +onlyGivenNames z; refine Block.Sound.cut z ?_ (fun hz => ?_); (on_goal 2 => clear_value z); (on_goal 1 => subst z))
    | with_reducible apply Block.ite_sound
    | with_reducible apply Block.setBit_sound
    | with_reducible apply Block.raiseIf_sound
    | with_reducible apply Block.evoDrive_sound
    | with_reducible apply Block.thawStart_sound
    | with_reducible apply Block.tmrLatch_sound
    | with_reducible apply Block.forEach_sound
    | ((with_reducible refine r1_ne ?_); rfl)
    | (intro z hz hy)

theorem Block.tmrExpire_sound {b : Block} (k : Nat) (u : Nat) (hS : b.Sound) : (Block.tmrExpire b k u).Sound := by
  unfold Block.tmrExpire
  repeat' first
    | with_reducible assumption
    | (extract_lets +onlyGivenNames z; refine Block.Sound.cut z ?_ (fun hz => ?_); (on_goal 2 => clear_value z); (on_goal 1 => subst z))
    | (extract_lets +onlyGivenNames z; subst z)
    | with_reducible apply Block.ite_sound
    | with_reducible apply Block.clrFld_sound
    | with_reducible apply Block.tmrRun_sound
    | ((with_reducible refine r1_ne ?_); rfl)
    | (simp only [Block.sound_mk]; refine ⟨?_, ?_, ?_, ?_, ?_, ?_, ?_, ?_, ?_⟩)
    | with_reducible exact Block.Sound.rf (by assumption)
    | with_reducible exact Block.Sound.far (by assumption)
    | with_reducible exact Block.Sound.ssp (by assumption)
    | with_reducible exact Block.Sound.log (by assumption)
    | with_reducible exact Block.Sound.audit (by assumption)
    | with_reducible exact Block.Sound.vpt (by assumption)
    | with_reducible exact Block.Sound.sub (by assumption)
    | with_reducible exact Block.Sound.s0 (by assumption)
    | with_reducible exact Block.Sound.s1 (by assumption)

theorem Block.tmrEdge_sound {b : Block} (u : Nat) (hS : b.Sound) : (Block.tmrEdge b u).Sound := by
  unfold Block.tmrEdge
  repeat' first
    | with_reducible assumption
    | with_reducible apply Block.tmrExpire_sound
    | with_reducible apply Block.forEach_sound
    | (intro z hz hy)

theorem Block.tmrArm_sound {b : Block} (k : Nat) (v : Word) (hS : b.Sound) : (Block.tmrArm b k v).Sound := by
  unfold Block.tmrArm
  repeat' first
    | with_reducible assumption
    | (extract_lets +onlyGivenNames z; refine Block.Sound.cut z ?_ (fun hz => ?_); (on_goal 2 => clear_value z); (on_goal 1 => subst z))
    | (extract_lets +onlyGivenNames z; subst z)
    | with_reducible apply Block.ite_sound
    | with_reducible apply Block.setReg_sound
    | with_reducible apply Block.setBit_sound
    | with_reducible apply Block.clrFld_sound
    | with_reducible apply Block.tmrTarget_sound
    | ((with_reducible refine r1_ne ?_); rfl)

theorem Block.tmrDisarm_sound {b : Block} (k : Nat) (v : Word) (hS : b.Sound) : (Block.tmrDisarm b k v).Sound := by
  unfold Block.tmrDisarm
  repeat' first
    | with_reducible assumption
    | with_reducible apply Block.setReg_sound
    | with_reducible apply Block.clrFld_sound
    | with_reducible apply Block.tmrExpire_sound
    | ((with_reducible refine r1_ne ?_); rfl)

theorem Block.tmrCtrl_sound {b : Block} (k : Nat) (v : Word) (hS : b.Sound) : (Block.tmrCtrl b k v).Sound := by
  unfold Block.tmrCtrl
  repeat' first
    | with_reducible assumption
    | with_reducible apply Block.ite_sound
    | with_reducible apply Block.tmrArm_sound
    | with_reducible apply Block.tmrDisarm_sound

theorem Block.timeStep_sound {b : Block} (t : Int) (hS : b.Sound) : (Block.timeStep b t).Sound := by
  unfold Block.timeStep
  repeat' first
    | with_reducible assumption
    | (extract_lets +onlyGivenNames z; refine Block.Sound.cut z ?_ (fun hz => ?_); (on_goal 2 => clear_value z); (on_goal 1 => subst z))
    | (extract_lets +onlyGivenNames z; subst z)
    | with_reducible apply Block.ite_sound
    | with_reducible apply Block.setBit_sound
    | with_reducible apply Block.raise_sound
    | with_reducible apply Block.tmrTarget_sound
    | with_reducible apply Block.tmrEdge_sound
    | with_reducible apply Block.forEach_sound
    | ((with_reducible refine r0_ne ?_); rfl)
    | (simp only [Block.sound_mk]; refine ⟨?_, ?_, ?_, ?_, ?_, ?_, ?_, ?_, ?_⟩)
    | with_reducible exact Block.Sound.rf (by assumption)
    | with_reducible exact Block.Sound.far (by assumption)
    | with_reducible exact Block.Sound.ssp (by assumption)
    | with_reducible exact Block.Sound.log (by assumption)
    | with_reducible exact Block.Sound.audit (by assumption)
    | with_reducible exact Block.Sound.vpt (by assumption)
    | with_reducible exact Block.Sound.sub (by assumption)
    | with_reducible exact Block.Sound.s0 (by assumption)
    | with_reducible exact Block.Sound.s1 (by assumption)
    | (intro z hz hy)

theorem Block.setServo_sound {b : Block} (v : Nat) (hS : b.Sound) : (Block.setServo b v).Sound := by
  unfold Block.setServo
  repeat' first
    | with_reducible assumption
    | with_reducible apply Block.ite_sound
    | with_reducible apply Block.setFld_sound
    | with_reducible apply Block.raise_sound
    | ((with_reducible refine r0_ne ?_); rfl)

theorem Block.setPort_sound {b : Block} (n : Nat) (hS : b.Sound) : (Block.setPort b n).Sound := by
  unfold Block.setPort
  repeat' first
    | with_reducible assumption
    | with_reducible apply Block.setFld_sound
    | ((with_reducible refine r0_ne ?_); rfl)

theorem Block.modTu_sound {b : Block} (f : Tu → Tu) (hS : b.Sound) : (Block.modTu b f).Sound := by
  unfold Block.modTu
  repeat' first
    | (simp only [Block.sound_mk]; refine ⟨?_, ?_, ?_, ?_, ?_, ?_, ?_, ?_, ?_⟩)
    | with_reducible exact Block.Sound.rf (by assumption)
    | with_reducible exact Block.Sound.far (by assumption)
    | with_reducible exact Block.Sound.ssp (by assumption)
    | with_reducible exact Block.Sound.log (by assumption)
    | with_reducible exact Block.Sound.audit (by assumption)
    | with_reducible exact Block.Sound.vpt (by assumption)
    | with_reducible exact Block.Sound.sub (by assumption)
    | with_reducible exact Block.Sound.s0 (by assumption)
    | with_reducible exact Block.Sound.s1 (by assumption)

theorem Block.modPt_sound {b : Block} (n : Nat) (d : Bool) (f : PortTime → PortTime) (hS : b.Sound) : (Block.modPt b n d f).Sound := by
  unfold Block.modPt
  repeat' first
    | with_reducible assumption
    | with_reducible apply Block.modTu_sound

theorem Block.setRate_sound {b : Block} (v : Int) (hS : b.Sound) : (Block.setRate b v).Sound := by
  unfold Block.setRate
  repeat' first
    | with_reducible assumption
    | with_reducible apply Block.setReg_sound
    | ((with_reducible refine r0_ne ?_); rfl)

theorem Block.newFreq_sound {b : Block} (hS : b.Sound) : (Block.newFreq b).Sound := by
  unfold Block.newFreq
  repeat' first
    | with_reducible assumption
    | with_reducible apply Block.draw_sound
    | with_reducible apply Block.modTu_sound

theorem Block.slewBound_sound {b : Block} (hS : b.Sound) : (Block.slewBound b).Sound := by
  unfold Block.slewBound
  repeat' first
    | with_reducible assumption
    | with_reducible apply Block.ite_sound
    | with_reducible apply Block.setRate_sound

theorem Block.enterLocking_sound {b : Block} (hS : b.Sound) : (Block.enterLocking b).Sound := by
  unfold Block.enterLocking
  repeat' first
    | with_reducible assumption
    | with_reducible apply Block.setServo_sound
    | with_reducible apply Block.slewBound_sound

theorem Block.steer_sound {b : Block} (hS : b.Sound) : (Block.steer b).Sound := by
  unfold Block.steer
  repeat' first
    | with_reducible assumption
    | (extract_lets +onlyGivenNames z; refine Block.Sound.cut z ?_ (fun hz => ?_); (on_goal 2 => clear_value z); (on_goal 1 => subst z))
    | with_reducible apply Block.ite_sound
    | with_reducible apply Block.draw_sound
    | with_reducible apply Block.setRate_sound
    | with_reducible apply Block.newFreq_sound

theorem Block.holdover_sound {b : Block} (hS : b.Sound) : (Block.holdover b).Sound := by
  unfold Block.holdover
  repeat' first
    | with_reducible assumption
    | with_reducible apply Block.setServo_sound
    | with_reducible apply Block.setRate_sound

theorem Block.acceptChange_sound {b : Block} (hS : b.Sound) : (Block.acceptChange b).Sound := by
  unfold Block.acceptChange
  repeat' first
    | with_reducible assumption
    | with_reducible apply Block.setBit_sound
    | with_reducible apply Block.raise_sound
    | with_reducible apply Block.modTu_sound
    | with_reducible apply Block.enterLocking_sound
    | ((with_reducible refine r0_ne ?_); rfl)

theorem Block.decideChange_sound {b : Block} (o : Int) (hS : b.Sound) : (Block.decideChange b o).Sound := by
  unfold Block.decideChange
  repeat' first
    | with_reducible assumption
    | with_reducible apply Block.ite_sound
    | with_reducible apply Block.setBit_sound
    | with_reducible apply Block.raise_sound
    | with_reducible apply Block.modTu_sound
    | with_reducible apply Block.holdover_sound
    | with_reducible apply Block.acceptChange_sound
    | ((with_reducible refine r0_ne ?_); rfl)

theorem Block.acquireEnd_sound {b : Block} (l : List Int) (hS : b.Sound) : (Block.acquireEnd b l).Sound := by
  unfold Block.acquireEnd
  repeat' first
    | with_reducible assumption
    | (extract_lets +onlyGivenNames z; refine Block.Sound.cut z ?_ (fun hz => ?_); (on_goal 2 => clear_value z); (on_goal 1 => subst z))
    | with_reducible apply Block.ite_sound
    | with_reducible apply Block.timeStep_sound
    | with_reducible apply Block.setServo_sound
    | with_reducible apply Block.modTu_sound
    | with_reducible apply Block.setRate_sound
    | with_reducible apply Block.newFreq_sound
    | with_reducible apply Block.decideChange_sound

theorem Block.lockRuns_sound {b : Block} (off : Int) (hS : b.Sound) : (Block.lockRuns b off).Sound := by
  unfold Block.lockRuns
  repeat' first
    | with_reducible assumption
    | (extract_lets +onlyGivenNames z; refine Block.Sound.cut z ?_ (fun hz => ?_); (on_goal 2 => clear_value z); (on_goal 1 => subst z))
    | (extract_lets +onlyGivenNames z; subst z)
    | with_reducible apply Block.ite_sound
    | with_reducible apply Block.setServo_sound
    | with_reducible apply Block.modTu_sound

theorem Block.sample_sound {b : Block} (off : Int) (hS : b.Sound) : (Block.sample b off).Sound := by
  unfold Block.sample
  repeat' first
    | with_reducible assumption
    | (extract_lets +onlyGivenNames z; refine Block.Sound.cut z ?_ (fun hz => ?_); (on_goal 2 => clear_value z); (on_goal 1 => subst z))
    | (extract_lets +onlyGivenNames z; subst z)
    | with_reducible apply Block.ite_sound
    | with_reducible apply Block.setReg_sound
    | with_reducible apply Block.modTu_sound
    | with_reducible apply Block.steer_sound
    | with_reducible apply Block.acceptChange_sound
    | with_reducible apply Block.decideChange_sound
    | with_reducible apply Block.acquireEnd_sound
    | with_reducible apply Block.lockRuns_sound
    | ((with_reducible refine r0_ne ?_); rfl)
    | split

theorem Block.takePort_sound {b : Block} (n : Nat) (hS : b.Sound) : (Block.takePort b n).Sound := by
  unfold Block.takePort
  repeat' first
    | with_reducible assumption
    | with_reducible apply Block.setPort_sound
    | with_reducible apply Block.modTu_sound

theorem Block.takeAlt_sound {b : Block} (n : Nat) (hS : b.Sound) : (Block.takeAlt b n).Sound := by
  unfold Block.takeAlt
  repeat' first
    | with_reducible assumption
    | with_reducible apply Block.modTu_sound

theorem Block.beginChange_sound {b : Block} (n : Nat) (hS : b.Sound) : (Block.beginChange b n).Sound := by
  unfold Block.beginChange
  repeat' first
    | with_reducible assumption
    | (extract_lets +onlyGivenNames z; refine Block.Sound.cut z ?_ (fun hz => ?_); (on_goal 2 => clear_value z); (on_goal 1 => subst z))
    | with_reducible apply Block.ite_sound
    | with_reducible apply Block.modTu_sound
    | with_reducible apply Block.holdover_sound
    | with_reducible apply Block.takePort_sound

theorem Block.sourceBack_sound {b : Block} (n : Nat) (hS : b.Sound) : (Block.sourceBack b n).Sound := by
  unfold Block.sourceBack
  repeat' first
    | with_reducible assumption
    | with_reducible apply Block.setServo_sound
    | with_reducible apply Block.takePort_sound

theorem Block.switchDom_sound {b : Block} (back : Bool) (hS : b.Sound) : (Block.switchDom b back).Sound := by
  unfold Block.switchDom
  repeat' first
    | with_reducible assumption
    | (extract_lets +onlyGivenNames z; refine Block.Sound.cut z ?_ (fun hz => ?_); (on_goal 2 => clear_value z); (on_goal 1 => subst z))
    | (extract_lets +onlyGivenNames z; subst z)
    | with_reducible apply Block.ite_sound
    | with_reducible apply Block.setFld_sound
    | with_reducible apply Block.setBit_sound
    | with_reducible apply Block.raise_sound
    | with_reducible apply Block.setPort_sound
    | with_reducible apply Block.modTu_sound
    | with_reducible apply Block.enterLocking_sound
    | ((with_reducible refine r0_ne ?_); rfl)

theorem Block.masterLost_sound {b : Block} (hS : b.Sound) : (Block.masterLost b).Sound := by
  unfold Block.masterLost
  repeat' first
    | with_reducible assumption
    | (extract_lets +onlyGivenNames z; subst z)
    | with_reducible apply Block.ite_sound
    | with_reducible apply Block.raise_sound
    | with_reducible apply Block.holdover_sound
    | with_reducible apply Block.takePort_sound
    | with_reducible apply Block.beginChange_sound
    | with_reducible apply Block.switchDom_sound
    | split

theorem Block.altLost_sound {b : Block} (hS : b.Sound) : (Block.altLost b).Sound := by
  unfold Block.altLost
  repeat' first
    | with_reducible assumption
    | with_reducible apply Block.takeAlt_sound

theorem Block.watchMasters_sound {b : Block} (hS : b.Sound) : (Block.watchMasters b).Sound := by
  unfold Block.watchMasters
  repeat' first
    | with_reducible assumption
    | (extract_lets +onlyGivenNames z; refine Block.Sound.cut z ?_ (fun hz => ?_); (on_goal 2 => clear_value z); (on_goal 1 => subst z))
    | with_reducible apply Block.ite_sound
    | with_reducible apply Block.masterLost_sound
    | with_reducible apply Block.altLost_sound

theorem Block.timLinkLost_sound {b : Block} (n : Nat) (hS : b.Sound) : (Block.timLinkLost b n).Sound := by
  unfold Block.timLinkLost
  repeat' first
    | with_reducible assumption
    | (extract_lets +onlyGivenNames z; refine Block.Sound.cut z ?_ (fun hz => ?_); (on_goal 2 => clear_value z); (on_goal 1 => subst z))
    | (extract_lets +onlyGivenNames z; subst z)
    | with_reducible apply Block.ite_sound
    | with_reducible apply Block.setReg_sound
    | with_reducible apply Block.modTu_sound
    | with_reducible apply Block.modPt_sound
    | with_reducible apply Block.masterLost_sound
    | with_reducible apply Block.altLost_sound
    | ((with_reducible refine r1_ne ?_); rfl)

theorem Block.portValid_sound {b : Block} (n : Nat) (d : Bool) (hS : b.Sound) : (Block.portValid b n d).Sound := by
  unfold Block.portValid
  repeat' first
    | with_reducible assumption
    | (extract_lets +onlyGivenNames z; subst z)
    | with_reducible apply Block.ite_sound
    | with_reducible apply Block.takeAlt_sound
    | with_reducible apply Block.beginChange_sound
    | with_reducible apply Block.sourceBack_sound

theorem Block.noteGm_sound {b : Block} (n : Nat) (d : Bool) (g : BitVec 64) (hS : b.Sound) : (Block.noteGm b n d g).Sound := by
  unfold Block.noteGm
  repeat' first
    | with_reducible assumption
    | (extract_lets +onlyGivenNames z; refine Block.Sound.cut z ?_ (fun hz => ?_); (on_goal 2 => clear_value z); (on_goal 1 => subst z))
    | (extract_lets +onlyGivenNames z; subst z)
    | with_reducible apply Block.ite_sound
    | with_reducible apply Block.setBit_sound
    | with_reducible apply Block.raise_sound
    | with_reducible apply Block.modPt_sound
    | ((with_reducible refine r0_ne ?_); rfl)

theorem Block.origSample_sound {b : Block} (d : Bool) (hS : b.Sound) : (Block.origSample b d).Sound := by
  unfold Block.origSample
  repeat' first
    | with_reducible assumption
    | (extract_lets +onlyGivenNames z; subst z)
    | with_reducible apply Block.ite_sound
    | with_reducible apply Block.modTu_sound
    | with_reducible apply Block.switchDom_sound

theorem Block.syncAccept_sound {b : Block} (n : Nat) (d : Bool) (t2 : Int) (t1 : Int) (a : Int) (hS : b.Sound) : (Block.syncAccept b n d t2 t1 a).Sound := by
  unfold Block.syncAccept
  repeat' first
    | with_reducible assumption
    | (extract_lets +onlyGivenNames z; refine Block.Sound.cut z ?_ (fun hz => ?_); (on_goal 2 => clear_value z); (on_goal 1 => subst z))
    | (extract_lets +onlyGivenNames z; subst z)
    | with_reducible apply Block.ite_sound
    | with_reducible apply Block.draw_sound
    | with_reducible apply Block.modTu_sound
    | with_reducible apply Block.modPt_sound
    | with_reducible apply Block.sample_sound
    | with_reducible apply Block.portValid_sound
    | with_reducible apply Block.origSample_sound

theorem Block.syncIn_sound {b : Block} (n : Nat) (y : SyncBody) (stamp : Stamp) (hS : b.Sound) : (Block.syncIn b n y stamp).Sound := by
  unfold Block.syncIn
  repeat' first
    | with_reducible assumption
    | with_reducible apply Block.ite_sound
    | with_reducible apply Block.modPt_sound
    | with_reducible apply Block.noteGm_sound

theorem Block.fupHi_sound {b : Block} (n : Nat) (dom : Bool) (seq : BitVec 16) (void : Bool) (sec : Nat) (hS : b.Sound) : (Block.fupHi b n dom seq void sec).Sound := by
  unfold Block.fupHi
  repeat' first
    | with_reducible assumption
    | with_reducible apply Block.ite_sound
    | with_reducible apply Block.modPt_sound

theorem Block.fupLo_sound {b : Block} (n : Nat) (d : Bool) (seq : BitVec 16) (nsf : Nat) (hS : b.Sound) : (Block.fupLo b n d seq nsf).Sound := by
  unfold Block.fupLo
  repeat' first
    | with_reducible assumption
    | (extract_lets +onlyGivenNames z; refine Block.Sound.cut z ?_ (fun hz => ?_); (on_goal 2 => clear_value z); (on_goal 1 => subst z))
    | with_reducible apply Block.ite_sound
    | with_reducible apply Block.modPt_sound
    | with_reducible apply Block.syncAccept_sound
    | split

theorem Block.sendTim_sound {b : Block} (n : Nat) (typ : Nat) (body : Nat) (hS : b.Sound) : (Block.sendTim b n typ body).Sound := by
  unfold Block.sendTim
  repeat' first
    | with_reducible assumption
    | with_reducible apply Block.sendSym_sound

theorem Block.pdlyReq_sound {b : Block} (n : Nat) (dom : Bool) (seq : BitVec 16) (t2 : Stamp) (t3 : Stamp) (hS : b.Sound) : (Block.pdlyReq b n dom seq t2 t3).Sound := by
  unfold Block.pdlyReq
  repeat' first
    | with_reducible assumption
    | with_reducible apply Block.ite_sound
    | with_reducible apply Block.sendTim_sound

theorem Block.pdlyResp_sound {b : Block} (n : Nat) (dom : Bool) (seq : BitVec 16) (t4 : Stamp) (hS : b.Sound) : (Block.pdlyResp b n dom seq t4).Sound := by
  unfold Block.pdlyResp
  repeat' first
    | with_reducible assumption
    | with_reducible apply Block.ite_sound
    | with_reducible apply Block.modPt_sound

theorem Block.addMpd_sound {b : Block} (n : Nat) (v : Int) (hS : b.Sound) : (Block.addMpd b n v).Sound := by
  unfold Block.addMpd
  repeat' first
    | with_reducible assumption
    | (extract_lets +onlyGivenNames z; refine Block.Sound.cut z ?_ (fun hz => ?_); (on_goal 2 => clear_value z); (on_goal 1 => subst z))
    | (extract_lets +onlyGivenNames z; subst z)
    | with_reducible apply Block.ite_sound
    | with_reducible apply Block.setReg_sound
    | with_reducible apply Block.modTu_sound
    | with_reducible apply Block.portValid_sound
    | ((with_reducible refine r1_ne ?_); rfl)

theorem Block.pdlyFup_sound {b : Block} (n : Nat) (dom : Bool) (seq : BitVec 16) (void : Bool) (turn : Nat) (hS : b.Sound) : (Block.pdlyFup b n dom seq void turn).Sound := by
  unfold Block.pdlyFup
  repeat' first
    | with_reducible assumption
    | (extract_lets +onlyGivenNames z; refine Block.Sound.cut z ?_ (fun hz => ?_); (on_goal 2 => clear_value z); (on_goal 1 => subst z))
    | with_reducible apply Block.ite_sound
    | with_reducible apply Block.modPt_sound
    | with_reducible apply Block.addMpd_sound
    | split

theorem Block.syncOut_sound {b : Block} (n : Nat) (d : Bool) (egress : Stamp) (hS : b.Sound) : (Block.syncOut b n d egress).Sound := by
  unfold Block.syncOut
  repeat' first
    | with_reducible assumption
    | (extract_lets +onlyGivenNames z; refine Block.Sound.cut z ?_ (fun hz => ?_); (on_goal 2 => clear_value z); (on_goal 1 => subst z))
    | (extract_lets +onlyGivenNames z; subst z)
    | with_reducible apply Block.ite_sound
    | with_reducible apply Block.modPt_sound
    | with_reducible apply Block.sendTim_sound

theorem Block.announceIn_sound {b : Block} (n : Nat) (y : AnnounceBody) (hS : b.Sound) : (Block.announceIn b n y).Sound := by
  unfold Block.announceIn
  repeat' first
    | with_reducible assumption
    | with_reducible apply Block.ite_sound
    | with_reducible apply Block.modPt_sound
    | with_reducible apply Block.noteGm_sound

theorem Block.ppsEdge_sound {b : Block} (hS : b.Sound) : (Block.ppsEdge b).Sound := by
  unfold Block.ppsEdge
  repeat' first
    | with_reducible assumption
    | (extract_lets +onlyGivenNames z; subst z)
    | with_reducible apply Block.ite_sound
    | with_reducible apply Block.modTu_sound

theorem Block.ppsOfsWrite_sound {b : Block} (v : Word) (hS : b.Sound) : (Block.ppsOfsWrite b v).Sound := by
  unfold Block.ppsOfsWrite
  repeat' first
    | with_reducible assumption
    | (extract_lets +onlyGivenNames z; refine Block.Sound.cut z ?_ (fun hz => ?_); (on_goal 2 => clear_value z); (on_goal 1 => subst z))
    | with_reducible apply Block.setReg_sound
    | with_reducible apply Block.modTu_sound
    | with_reducible apply Block.ppsEdge_sound
    | ((with_reducible refine r0_ne ?_); rfl)

theorem Block.servoWrite_sound {b : Block} (v : Word) (hS : b.Sound) : (Block.servoWrite b v).Sound := by
  unfold Block.servoWrite
  repeat' first
    | with_reducible assumption
    | with_reducible apply Block.writeCodes_sound
    | with_reducible apply Block.slewBound_sound

theorem Block.eviPop_sound {b : Block} (n : Nat) (hS : b.Sound) : (Block.eviPop b n).1.Sound := by
  unfold Block.eviPop
  repeat' first
    | with_reducible assumption
    | with_reducible apply Block.setFld_sound
    | with_reducible apply Block.modTu_sound
    | ((with_reducible refine r1_ne ?_); rfl)
    | split

theorem Block.eviLatch_sound {b : Block} (n : Nat) (hS : b.Sound) : (Block.eviLatch b n).1.Sound := by
  unfold Block.eviLatch
  repeat' first
    | with_reducible assumption
    | with_reducible apply Block.setReg96_sound
    | ((with_reducible refine RegName.ne_ctlId ?_); rfl)
    | split

theorem Block.nowLatch_sound {b : Block} (hS : b.Sound) : (Block.nowLatch b).1.Sound := by
  unfold Block.nowLatch
  repeat' first
    | with_reducible assumption
    | (extract_lets +onlyGivenNames z; subst z)
    | with_reducible apply Block.setReg_sound
    | with_reducible apply Block.forEach_sound
    | ((with_reducible refine r1_ne ?_); rfl)
    | (intro z hz hy)

theorem Block.timSet_sound {b : Block} (hS : b.Sound) : (Block.timSet b).Sound := by
  unfold Block.timSet
  repeat' first
    | with_reducible assumption
    | with_reducible apply Block.ite_sound
    | with_reducible apply Block.timeStep_sound

theorem Block.timRelock_sound {b : Block} (hS : b.Sound) : (Block.timRelock b).Sound := by
  unfold Block.timRelock
  repeat' first
    | with_reducible assumption
    | with_reducible apply Block.ite_sound
    | with_reducible apply Block.timeStep_sound
    | with_reducible apply Block.acceptChange_sound
    | split

theorem Block.timCmd_sound {b : Block} (v : Word) (hS : b.Sound) : (Block.timCmd b v).Sound := by
  unfold Block.timCmd
  repeat' first
    | with_reducible assumption
    | (extract_lets +onlyGivenNames z; refine Block.Sound.cut z ?_ (fun hz => ?_); (on_goal 2 => clear_value z); (on_goal 1 => subst z))
    | with_reducible apply Block.ite_sound
    | with_reducible apply Block.timSet_sound
    | with_reducible apply Block.timRelock_sound

theorem Block.newSource_sound {b : Block} (hS : b.Sound) : (Block.newSource b).Sound := by
  unfold Block.newSource
  repeat' first
    | with_reducible assumption
    | (extract_lets +onlyGivenNames z; refine Block.Sound.cut z ?_ (fun hz => ?_); (on_goal 2 => clear_value z); (on_goal 1 => subst z))
    | with_reducible apply Block.ite_sound
    | with_reducible apply Block.setServo_sound
    | with_reducible apply Block.modTu_sound
    | with_reducible apply Block.setRate_sound
    | with_reducible apply Block.takePort_sound
    | with_reducible apply Block.takeAlt_sound

theorem Block.timCtrl_sound {b : Block} (v : Word) (hS : b.Sound) : (Block.timCtrl b v).Sound := by
  unfold Block.timCtrl
  repeat' first
    | with_reducible assumption
    | (extract_lets +onlyGivenNames z; refine Block.Sound.cut z ?_ (fun hz => ?_); (on_goal 2 => clear_value z); (on_goal 1 => subst z))
    | with_reducible apply Block.ite_sound
    | with_reducible apply Block.setReg_sound
    | with_reducible apply Block.newSource_sound
    | ((with_reducible refine r0_ne ?_); rfl)

end Sys2Proof.Machine
end

