-- ==== Sys2Proof/Laws/Sound/Links.lean ====
section
/-!
SUPPORT. The operations of Machine/Links.lean keep Block.Sound.
-/
namespace Sys2Proof.Machine

theorem Block.lnkErr_sound {b : Block} (n : Nat) (f : Fld) (hS : b.Sound) : (Block.lnkErr b n f).Sound := by
  unfold Block.lnkErr
  repeat' first
    | with_reducible assumption
    | with_reducible apply Block.setBit_sound
    | with_reducible apply Block.raiseIf_sound
    | ((with_reducible refine r1_ne ?_); rfl)

theorem Block.proto_sound {b : Block} (n : Nat) (hS : b.Sound) : (Block.proto b n).Sound := by
  unfold Block.proto
  repeat' first
    | with_reducible assumption
    | with_reducible apply Block.satFld_sound
    | with_reducible apply Block.lnkErr_sound
    | ((with_reducible refine r1_ne ?_); rfl)

theorem Block.lnkEnter_sound {b : Block} (n : Nat) (st : Nat) (hS : b.Sound) : (Block.lnkEnter b n st).Sound := by
  unfold Block.lnkEnter
  repeat' first
    | with_reducible assumption
    | with_reducible apply Block.setFld_sound
    | with_reducible apply Block.modLink_sound
    | ((with_reducible refine r1_ne ?_); rfl)

theorem Block.see_sound {b : Block} (n : Nat) (p : Nat) (hS : b.Sound) : (Block.see b n p).Sound := by
  unfold Block.see
  repeat' first
    | with_reducible assumption
    | (extract_lets +onlyGivenNames z; subst z)
    | with_reducible apply Block.setReg_sound
    | ((with_reducible refine r2_ne ?_); rfl)

theorem Block.takeDown_sound {b : Block} (p : Nat) (origin : Nat) (link : Nat) (hS : b.Sound) : (Block.takeDown b p origin link).Sound := by
  unfold Block.takeDown
  repeat' first
    | with_reducible assumption
    | (extract_lets +onlyGivenNames z; refine Block.Sound.cut z ?_ (fun hz => ?_); (on_goal 2 => clear_value z); (on_goal 1 => subst z))
    | with_reducible apply Block.ite_sound
    | with_reducible apply Block.modPart_sound
    | with_reducible apply Block.pathDownStop_sound
    | (simp only [Block.sound_mk]; refine ⟨?_, ?_, ?_, ?_, ?_, ?_, ?_, ?_, ?_⟩)
    | with_reducible exact Block.Sound.rf (by assumption)
    | with_reducible exact Block.Sound.far (by assumption)
    | with_reducible exact Block.Sound.ssp (by assumption)
    | with_reducible exact Block.Sound.log (by assumption)
    | with_reducible exact Block.Sound.audit (by assumption)
    | with_reducible exact Block.Sound.vpt (by assumption)
    | with_reducible exact Block.Sound.sub (by assumption)
    | with_reducible exact Block.Sound.s0 (by assumption)
    | with_reducible exact Block.Sound.s1 (by assumption)

theorem Block.takeHold_sound {b : Block} (p : Nat) (origin : Nat) (link : Nat) (on : Bool) (hS : b.Sound) : (Block.takeHold b p origin link on).Sound := by
  unfold Block.takeHold
  repeat' first
    | with_reducible assumption
    | (extract_lets +onlyGivenNames z; subst z)
    | with_reducible apply Block.modPart_sound

theorem Block.pathOut_sound {b : Block} (n : Nat) (p : Nat) (down : Bool) (on : Bool) (hS : b.Sound) : (Block.pathOut b n p down on).Sound := by
  unfold Block.pathOut
  repeat' first
    | with_reducible assumption
    | (extract_lets +onlyGivenNames z; refine Block.Sound.cut z ?_ (fun hz => ?_); (on_goal 2 => clear_value z); (on_goal 1 => subst z))
    | (extract_lets +onlyGivenNames z; subst z)
    | with_reducible apply Block.ite_sound
    | with_reducible apply Block.flood_sound
    | with_reducible apply Block.takeDown_sound
    | with_reducible apply Block.takeHold_sound
    | (simp only [Block.sound_mk]; refine ⟨?_, ?_, ?_, ?_, ?_, ?_, ?_, ?_, ?_⟩)
    | with_reducible exact Block.Sound.rf (by assumption)
    | with_reducible exact Block.Sound.far (by assumption)
    | with_reducible exact Block.Sound.ssp (by assumption)
    | with_reducible exact Block.Sound.log (by assumption)
    | with_reducible exact Block.Sound.audit (by assumption)
    | with_reducible exact Block.Sound.vpt (by assumption)
    | with_reducible exact Block.Sound.sub (by assumption)
    | with_reducible exact Block.Sound.s0 (by assumption)
    | with_reducible exact Block.Sound.s1 (by assumption)

theorem Block.holdOn_sound {b : Block} (n : Nat) (hS : b.Sound) : (Block.holdOn b n).Sound := by
  unfold Block.holdOn
  repeat' first
    | with_reducible assumption
    | (extract_lets +onlyGivenNames z; subst z)
    | with_reducible apply Block.modLink_sound
    | with_reducible apply Block.pathOut_sound
    | with_reducible apply Block.forEach_sound
    | (intro z hz hy)

theorem Block.holdOff_sound {b : Block} (n : Nat) (hS : b.Sound) : (Block.holdOff b n).Sound := by
  unfold Block.holdOff
  repeat' first
    | with_reducible assumption
    | with_reducible apply Block.modLink_sound
    | with_reducible apply Block.pathOut_sound
    | with_reducible apply Block.forEach_sound
    | (intro z hz hy)

theorem Block.pathIn_sound {b : Block} (n : Nat) (y : PathSym) (down : Bool) (hS : b.Sound) : (Block.pathIn b n y down).Sound := by
  unfold Block.pathIn
  repeat' first
    | with_reducible assumption
    | (extract_lets +onlyGivenNames z; refine Block.Sound.cut z ?_ (fun hz => ?_); (on_goal 2 => clear_value z); (on_goal 1 => subst z))
    | (extract_lets +onlyGivenNames z; subst z)
    | with_reducible apply Block.ite_sound
    | with_reducible apply Block.flood_sound
    | with_reducible apply Block.takeDown_sound
    | with_reducible apply Block.takeHold_sound
    | (simp only [Block.sound_mk]; refine ⟨?_, ?_, ?_, ?_, ?_, ?_, ?_, ?_, ?_⟩)
    | with_reducible exact Block.Sound.rf (by assumption)
    | with_reducible exact Block.Sound.far (by assumption)
    | with_reducible exact Block.Sound.ssp (by assumption)
    | with_reducible exact Block.Sound.log (by assumption)
    | with_reducible exact Block.Sound.audit (by assumption)
    | with_reducible exact Block.Sound.vpt (by assumption)
    | with_reducible exact Block.Sound.sub (by assumption)
    | with_reducible exact Block.Sound.s0 (by assumption)
    | with_reducible exact Block.Sound.s1 (by assumption)

theorem Block.discard_sound {b : Block} (from_ : Option Nat) (hS : b.Sound) : (Block.discard b from_).Sound := by
  unfold Block.discard
  repeat' first
    | with_reducible assumption
    | with_reducible apply Block.satFld_sound
    | with_reducible apply Block.proto_sound
    | ((with_reducible refine r0_ne ?_); rfl)
    | split

theorem Block.enqueue_sound {b : Block} (n : Nat) (m : TxMsg) (hS : b.Sound) : (Block.enqueue b n m).Sound := by
  unfold Block.enqueue
  repeat' first
    | with_reducible assumption
    | with_reducible apply Block.modLink_sound

theorem Block.free_sound {b : Block} (from_ : Option (Nat × Nat)) (flits : Nat) (hS : b.Sound) : (Block.free b from_ flits).Sound := by
  unfold Block.free
  repeat' first
    | with_reducible assumption
    | with_reducible apply Block.modLink_sound
    | split

theorem Block.nocDrop_sound {b : Block} (hS : b.Sound) : (Block.nocDrop b).Sound := by
  unfold Block.nocDrop
  repeat' first
    | with_reducible assumption
    | with_reducible apply Block.faultU_sound

theorem Block.inject_sound {b : Block} (node : Nat) (p : Packet) (hS : b.Sound) : (Block.inject b node p).Sound := by
  unfold Block.inject
  repeat' first
    | with_reducible assumption
    | (extract_lets +onlyGivenNames z; subst z)
    | with_reducible apply Block.nocDrop_sound
    | (simp only [Block.sound_mk]; refine ⟨?_, ?_, ?_, ?_, ?_, ?_, ?_, ?_, ?_⟩)
    | with_reducible exact Block.Sound.rf (by assumption)
    | with_reducible exact Block.Sound.far (by assumption)
    | with_reducible exact Block.Sound.ssp (by assumption)
    | with_reducible exact Block.Sound.log (by assumption)
    | with_reducible exact Block.Sound.audit (by assumption)
    | with_reducible exact Block.Sound.vpt (by assumption)
    | with_reducible exact Block.Sound.sub (by assumption)
    | with_reducible exact Block.Sound.s0 (by assumption)
    | with_reducible exact Block.Sound.s1 (by assumption)
    | split

theorem Block.deliverOwn_sound {b : Block} (m : Msg) (hS : b.Sound) : (Block.deliverOwn b m).Sound := by
  unfold Block.deliverOwn
  repeat' first
    | with_reducible assumption
    | with_reducible apply Block.ite_sound
    | with_reducible apply Block.takeSegment_sound
    | with_reducible apply Block.discard_sound
    | with_reducible apply Block.inject_sound
    | split

theorem Block.sendMsg_sound {b : Block} (m : Msg) (hS : b.Sound) : (Block.sendMsg b m).Sound := by
  unfold Block.sendMsg
  repeat' first
    | with_reducible assumption
    | with_reducible apply Block.ite_sound
    | with_reducible apply Block.discard_sound
    | with_reducible apply Block.enqueue_sound
    | with_reducible apply Block.deliverOwn_sound
    | split

theorem Block.putFlit_sound {b : Block} (n : Nat) (f : TxFlit) (hS : b.Sound) : (Block.putFlit b n f).Sound := by
  unfold Block.putFlit
  repeat' first
    | with_reducible assumption
    | with_reducible apply Block.modLink_sound

theorem Block.putNew_sound {b : Block} (n : Nat) (f : TxFlit) (hS : b.Sound) : (Block.putNew b n f).Sound := by
  unfold Block.putNew
  repeat' first
    | with_reducible assumption
    | (extract_lets +onlyGivenNames z; subst z)
    | with_reducible apply Block.modLink_sound
    | with_reducible apply Block.putFlit_sound

theorem Block.setAvail_sound {b : Block} (n : Nat) (k : Nat) (f : Nat → Nat) (hS : b.Sound) : (Block.setAvail b n k f).Sound := by
  unfold Block.setAvail
  repeat' first
    | with_reducible assumption
    | (extract_lets +onlyGivenNames z; subst z)
    | with_reducible apply Block.setFld_sound
    | ((with_reducible refine r2_ne ?_); rfl)

theorem Block.seeFlit_sound {b : Block} (n : Nat) (cls : Nat) (som : Bool) (payload : BitVec 416) (hS : b.Sound) : (Block.seeFlit b n cls som payload).Sound := by
  unfold Block.seeFlit
  repeat' first
    | with_reducible assumption
    | with_reducible apply Block.ite_sound
    | with_reducible apply Block.see_sound

theorem Block.sendCls_sound {b : Block} (n : Nat) (cls : Nat) (hS : b.Sound) : (Block.sendCls b n cls).Sound := by
  unfold Block.sendCls
  repeat' first
    | with_reducible assumption
    | (extract_lets +onlyGivenNames z; refine Block.Sound.cut z ?_ (fun hz => ?_); (on_goal 2 => clear_value z); (on_goal 1 => subst z))
    | (extract_lets +onlyGivenNames z; subst z)
    | with_reducible apply Block.modLink_sound
    | with_reducible apply Block.free_sound
    | with_reducible apply Block.putNew_sound
    | with_reducible apply Block.setAvail_sound
    | with_reducible apply Block.seeFlit_sound
    | split

theorem Block.voidFups_sound {b : Block} (n : Nat) (hS : b.Sound) : (Block.voidFups b n).Sound := by
  unfold Block.voidFups
  repeat' first
    | with_reducible assumption
    | (extract_lets +onlyGivenNames z; refine Block.Sound.cut z ?_ (fun hz => ?_); (on_goal 2 => clear_value z); (on_goal 1 => subst z))
    | (extract_lets +onlyGivenNames z; subst z)
    | with_reducible apply Block.setLink_sound
    | with_reducible apply Block.modPt_sound
    | with_reducible apply Block.forEach_sound
    | (intro z hz hy)

theorem Block.sendReplay_sound {b : Block} (n : Nat) (f : TxFlit) (r : List TxFlit) (hS : b.Sound) : (Block.sendReplay b n f r).Sound := by
  unfold Block.sendReplay
  repeat' first
    | with_reducible assumption
    | (extract_lets +onlyGivenNames z; refine Block.Sound.cut z ?_ (fun hz => ?_); (on_goal 2 => clear_value z); (on_goal 1 => subst z))
    | (extract_lets +onlyGivenNames z; subst z)
    | with_reducible apply Block.ite_sound
    | with_reducible apply Block.modLink_sound
    | with_reducible apply Block.putFlit_sound
    | with_reducible apply Block.setAvail_sound

theorem Block.transmit_sound {b : Block} (n : Nat) (hS : b.Sound) : (Block.transmit b n).Sound := by
  unfold Block.transmit
  repeat' first
    | with_reducible assumption
    | (extract_lets +onlyGivenNames z; refine Block.Sound.cut z ?_ (fun hz => ?_); (on_goal 2 => clear_value z); (on_goal 1 => subst z))
    | (extract_lets +onlyGivenNames z; subst z)
    | with_reducible apply Block.ite_sound
    | with_reducible apply Block.modLink_sound
    | with_reducible apply Block.putFlit_sound
    | with_reducible apply Block.putNew_sound
    | with_reducible apply Block.sendCls_sound
    | with_reducible apply Block.sendReplay_sound
    | split

theorem Block.startTrain_sound {b : Block} (n : Nat) (hS : b.Sound) : (Block.startTrain b n).Sound := by
  unfold Block.startTrain
  repeat' first
    | with_reducible assumption
    | with_reducible apply Block.lnkEnter_sound

theorem Block.downEnds_sound {b : Block} (n : Nat) (hS : b.Sound) : (Block.downEnds b n).Sound := by
  unfold Block.downEnds
  repeat' first
    | with_reducible assumption
    | with_reducible apply Block.ite_sound
    | with_reducible apply Block.setFld_sound
    | with_reducible apply Block.lnkEnter_sound
    | ((with_reducible refine r1_ne ?_); rfl)

theorem Block.configBegin_sound {b : Block} (n : Nat) (hS : b.Sound) : (Block.configBegin b n).Sound := by
  unfold Block.configBegin
  repeat' first
    | with_reducible assumption
    | with_reducible apply Block.modLink_sound

theorem Block.cutForward_sound {b : Block} (n : Nat) (k : Nat) (port : Nat) (hS : b.Sound) : (Block.cutForward b n k port).Sound := by
  unfold Block.cutForward
  repeat' first
    | with_reducible assumption
    | with_reducible apply Block.modLink_sound
    | with_reducible apply Block.free_sound
    | split

theorem Block.dropRx_sound {b : Block} (n : Nat) (cls : Nat) (m : RxMsg) (hS : b.Sound) : (Block.dropRx b n cls m).Sound := by
  unfold Block.dropRx
  repeat' first
    | with_reducible assumption
    | (extract_lets +onlyGivenNames z; subst z)
    | with_reducible apply Block.ite_sound
    | with_reducible apply Block.free_sound
    | with_reducible apply Block.cutForward_sound
    | split

theorem Block.endRx_sound {b : Block} (n : Nat) (cls : Nat) (m : RxMsg) (hS : b.Sound) : (Block.endRx b n cls m).Sound := by
  unfold Block.endRx
  repeat' first
    | with_reducible assumption
    | (extract_lets +onlyGivenNames z; subst z)
    | with_reducible apply Block.ite_sound
    | with_reducible apply Block.modLink_sound
    | with_reducible apply Block.free_sound
    | split

theorem Block.dropHeld_sound {b : Block} (l : Link) (hS : b.Sound) : (Block.dropHeld b l).Sound := by
  unfold Block.dropHeld
  repeat' first
    | with_reducible assumption
    | (extract_lets +onlyGivenNames z; refine Block.Sound.cut z ?_ (fun hz => ?_); (on_goal 2 => clear_value z); (on_goal 1 => subst z))
    | with_reducible apply Block.ite_sound
    | with_reducible apply Block.discard_sound
    | with_reducible apply Block.free_sound
    | with_reducible apply Block.forEach_sound
    | (intro z hz hy)

theorem Block.linkDown_sound {b : Block} (n : Nat) (why : Nat) (hS : b.Sound) : (Block.linkDown b n why).Sound := by
  unfold Block.linkDown
  repeat' first
    | with_reducible assumption
    | (extract_lets +onlyGivenNames z; refine Block.Sound.cut z ?_ (fun hz => ?_); (on_goal 2 => clear_value z); (on_goal 1 => subst z))
    | (extract_lets +onlyGivenNames z; subst z)
    | with_reducible apply Block.ite_sound
    | with_reducible apply Block.setReg_sound
    | with_reducible apply Block.setFld_sound
    | with_reducible apply Block.clrFld_sound
    | with_reducible apply Block.modLink_sound
    | with_reducible apply Block.raise_sound
    | with_reducible apply Block.faultEntry_sound
    | with_reducible apply Block.timLinkLost_sound
    | with_reducible apply Block.lnkEnter_sound
    | with_reducible apply Block.pathOut_sound
    | with_reducible apply Block.endRx_sound
    | with_reducible apply Block.dropHeld_sound
    | with_reducible apply Block.forEach_sound
    | ((with_reducible refine r1_ne ?_); rfl)
    | ((with_reducible refine r2_ne ?_); rfl)
    | (intro z hz hy)

theorem Block.configEnd_sound {b : Block} (n : Nat) (x : ConfigInfo) (hS : b.Sound) : (Block.configEnd b n x).Sound := by
  unfold Block.configEnd
  repeat' first
    | with_reducible assumption
    | (extract_lets +onlyGivenNames z; refine Block.Sound.cut z ?_ (fun hz => ?_); (on_goal 2 => clear_value z); (on_goal 1 => subst z))
    | (extract_lets +onlyGivenNames z; subst z)
    | with_reducible apply Block.ite_sound
    | with_reducible apply Block.setReg_sound
    | with_reducible apply Block.setFld_sound
    | with_reducible apply Block.clrFld_sound
    | with_reducible apply Block.modLink_sound
    | with_reducible apply Block.raise_sound
    | with_reducible apply Block.corrected_sound
    | with_reducible apply Block.lnkEnter_sound
    | with_reducible apply Block.voidFups_sound
    | with_reducible apply Block.linkDown_sound
    | with_reducible apply Block.forEach_sound
    | ((with_reducible refine r1_ne ?_); rfl)
    | ((with_reducible refine r2_ne ?_); rfl)
    | (intro z hz hy)

theorem Block.attemptFails_sound {b : Block} (n : Nat) (hS : b.Sound) : (Block.attemptFails b n).Sound := by
  unfold Block.attemptFails
  repeat' first
    | with_reducible assumption
    | (extract_lets +onlyGivenNames z; subst z)
    | with_reducible apply Block.ite_sound
    | with_reducible apply Block.setFld_sound
    | with_reducible apply Block.modLink_sound
    | with_reducible apply Block.lnkErr_sound
    | with_reducible apply Block.lnkEnter_sound
    | with_reducible apply Block.linkDown_sound
    | ((with_reducible refine r1_ne ?_); rfl)

theorem Block.retrain_sound {b : Block} (n : Nat) (hS : b.Sound) : (Block.retrain b n).Sound := by
  unfold Block.retrain
  repeat' first
    | with_reducible assumption
    | (extract_lets +onlyGivenNames z; refine Block.Sound.cut z ?_ (fun hz => ?_); (on_goal 2 => clear_value z); (on_goal 1 => subst z))
    | with_reducible apply Block.ite_sound
    | with_reducible apply Block.clrFld_sound
    | with_reducible apply Block.satFld_sound
    | with_reducible apply Block.modLink_sound
    | with_reducible apply Block.raise_sound
    | with_reducible apply Block.timLinkLost_sound
    | with_reducible apply Block.lnkEnter_sound
    | with_reducible apply Block.holdOn_sound
    | with_reducible apply Block.forEach_sound
    | ((with_reducible refine r1_ne ?_); rfl)
    | ((with_reducible refine r2_ne ?_); rfl)
    | (intro z hz hy)

theorem Block.flushCtl_sound {b : Block} (n k : Nat) (hS : b.Sound) : (Block.flushCtl b n k).Sound := by
  induction k generalizing b with
  | zero => exact hS
  | succ k ih =>
    unfold Block.flushCtl
    dsimp only
    split
    · exact ih (Block.sendReplay_sound _ _ _ hS)
    · exact Block.ite_sound hS (ih (Block.modLink_sound _ _ (Block.putNew_sound _ _ hS)))

theorem Block.deliberateDown_sound {b : Block} (n : Nat) (why : Nat) (hS : b.Sound) : (Block.deliberateDown b n why).Sound := by
  unfold Block.deliberateDown
  repeat' first
    | with_reducible assumption
    | (extract_lets +onlyGivenNames z; refine Block.Sound.cut z ?_ (fun hz => ?_); (on_goal 2 => clear_value z); (on_goal 1 => subst z))
    | with_reducible apply Block.ite_sound
    | with_reducible apply Block.setFld_sound
    | with_reducible apply Block.modLink_sound
    | with_reducible apply Block.lnkEnter_sound
    | with_reducible apply Block.linkDown_sound
    | with_reducible apply Block.flushCtl_sound
    | ((with_reducible refine r1_ne ?_); rfl)

theorem Block.lnkCtrl_sound {b : Block} (n : Nat) (v : Word) (hS : b.Sound) : (Block.lnkCtrl b n v).Sound := by
  unfold Block.lnkCtrl
  repeat' first
    | with_reducible assumption
    | (extract_lets +onlyGivenNames z; refine Block.Sound.cut z ?_ (fun hz => ?_); (on_goal 2 => clear_value z); (on_goal 1 => subst z))
    | (extract_lets +onlyGivenNames z; subst z)
    | with_reducible apply Block.ite_sound
    | with_reducible apply Block.setReg_sound
    | with_reducible apply Block.lnkEnter_sound
    | with_reducible apply Block.retrain_sound
    | with_reducible apply Block.deliberateDown_sound
    | ((with_reducible refine r1_ne ?_); rfl)

theorem Block.linksFollow_sound {b : Block} (hS : b.Sound) : (Block.linksFollow b).Sound := by
  unfold Block.linksFollow
  repeat' first
    | with_reducible assumption
    | with_reducible apply Block.ite_sound
    | with_reducible apply Block.lnkEnter_sound
    | with_reducible apply Block.deliberateDown_sound
    | with_reducible apply Block.forEach_sound
    | (intro z hz hy)

theorem Block.lnkDevid_sound {b : Block} (v : Word) (hS : b.Sound) : (Block.lnkDevid b v).Sound := by
  unfold Block.lnkDevid
  repeat' first
    | with_reducible assumption
    | with_reducible apply Block.ite_sound
    | with_reducible apply Block.setReg_sound
    | ((with_reducible refine r0_ne ?_); rfl)

theorem Block.linkReset_sound {b : Block} (n : Nat) (hS : b.Sound) : (Block.linkReset b n).Sound := by
  unfold Block.linkReset
  repeat' first
    | with_reducible assumption
    | with_reducible apply Block.ite_sound
    | with_reducible apply Block.linkDown_sound

theorem Block.sendNak_sound {b : Block} (n : Nat) (hS : b.Sound) : (Block.sendNak b n).Sound := by
  unfold Block.sendNak
  repeat' first
    | with_reducible assumption
    | (extract_lets +onlyGivenNames z; refine Block.Sound.cut z ?_ (fun hz => ?_); (on_goal 2 => clear_value z); (on_goal 1 => subst z))
    | with_reducible apply Block.ite_sound
    | with_reducible apply Block.modLink_sound
    | with_reducible apply Block.holdOn_sound

theorem Block.ackIn_sound {b : Block} (n : Nat) (ack : Nat) (hS : b.Sound) : (Block.ackIn b n ack).Sound := by
  unfold Block.ackIn
  repeat' first
    | with_reducible assumption
    | with_reducible apply Block.modLink_sound

theorem Block.nakIn_sound {b : Block} (n : Nat) (ack : Nat) (hS : b.Sound) : (Block.nakIn b n ack).Sound := by
  unfold Block.nakIn
  repeat' first
    | with_reducible assumption
    | (extract_lets +onlyGivenNames z; refine Block.Sound.cut z ?_ (fun hz => ?_); (on_goal 2 => clear_value z); (on_goal 1 => subst z))
    | (extract_lets +onlyGivenNames z; subst z)
    | with_reducible apply Block.ite_sound
    | with_reducible apply Block.satFld_sound
    | with_reducible apply Block.modLink_sound
    | with_reducible apply Block.corrected_sound
    | with_reducible apply Block.lnkErr_sound
    | with_reducible apply Block.voidFups_sound
    | with_reducible apply Block.retrain_sound
    | with_reducible apply Block.ackIn_sound
    | ((with_reducible refine r1_ne ?_); rfl)

theorem Block.credBad_sound {b : Block} (n : Nat) (hS : b.Sound) : (Block.credBad b n).Sound := by
  unfold Block.credBad
  repeat' first
    | with_reducible assumption
    | with_reducible apply Block.ite_sound
    | with_reducible apply Block.modLink_sound
    | with_reducible apply Block.retrain_sound

theorem Block.creditIn_sound {b : Block} (n : Nat) (k : Nat) (cnt : Nat) (hS : b.Sound) : (Block.creditIn b n k cnt).Sound := by
  unfold Block.creditIn
  repeat' first
    | with_reducible assumption
    | (extract_lets +onlyGivenNames z; subst z)
    | with_reducible apply Block.ite_sound
    | with_reducible apply Block.modLink_sound
    | with_reducible apply Block.setAvail_sound
    | with_reducible apply Block.credBad_sound

end Sys2Proof.Machine
end

