-- ==== Sys2Proof/Laws/Sound/Bp.lean ====
section
/-!
SUPPORT. The operations of Machine/Bp.lean keep Block.Sound.
-/
namespace Sys2Proof.Machine

theorem Block.driveLane_sound {b : Block} (p : Nat) (c : Nat) (lane : Nat) (v : Bool) (hS : b.Sound) : (Block.driveLane b p c lane v).Sound := by
  unfold Block.driveLane
  repeat' first
    | with_reducible assumption
    | with_reducible apply Block.modPart_sound

theorem Block.emitRun_sound {b : Block} (p : Nat) (i : Nat) (q : OutPath) (first : Nat) (count : Nat) (last : Bool) (hS : b.Sound) : (Block.emitRun b p i q first count last).Sound := by
  unfold Block.emitRun
  repeat' first
    | with_reducible assumption
    | (extract_lets +onlyGivenNames z; subst z)
    | with_reducible apply Block.sendMsg_sound

theorem Block.emitSeg_sound {b : Block} (p : Nat) (i : Nat) (q : OutPath) (g : Nat) (last : Bool) (hS : b.Sound) : (Block.emitSeg b p i q g last).Sound := by
  unfold Block.emitSeg
  repeat' first
    | with_reducible assumption
    | (extract_lets +onlyGivenNames z; subst z)
    | with_reducible apply Block.modPart_sound
    | with_reducible apply Block.emitRun_sound
    | with_reducible apply Block.forEach_sound
    | (intro z hz hy)

theorem Block.emitAt_sound {b : Block} (p : Nat) (s : Nat) (hS : b.Sound) : (Block.emitAt b p s).Sound := by
  unfold Block.emitAt
  repeat' first
    | with_reducible assumption
    | (extract_lets +onlyGivenNames z; subst z)
    | with_reducible apply Block.ite_sound
    | with_reducible apply Block.emitSeg_sound
    | with_reducible apply Block.forEach_sound
    | (intro z hz hy)
    | split

theorem Block.emitRest_sound {b : Block} (p : Nat) (hS : b.Sound) : (Block.emitRest b p).Sound := by
  unfold Block.emitRest
  repeat' first
    | with_reducible assumption
    | (extract_lets +onlyGivenNames z; subst z)
    | with_reducible apply Block.modPart_sound
    | with_reducible apply Block.emitRun_sound
    | with_reducible apply Block.emitSeg_sound
    | with_reducible apply Block.forEach_sound
    | (intro z hz hy)
    | split

theorem Block.stepFaults_sound {b : Block} (p : Nat) (fs : List StepFault) (hS : b.Sound) : (Block.stepFaults b p fs).Sound := by
  unfold Block.stepFaults
  repeat' first
    | with_reducible assumption
    | (extract_lets +onlyGivenNames z; refine Block.Sound.cut z ?_ (fun hz => ?_); (on_goal 2 => clear_value z); (on_goal 1 => subst z))
    | with_reducible apply Block.faultStop_sound
    | with_reducible apply Block.faultEntry_sound
    | with_reducible apply Block.forEach_sound
    | (intro z hz hy)
    | split

theorem Block.waitTake_sound {b : Block} (c : Nat) (q : Nat) (bp : Nat) (left : Nat) (hS : b.Sound) : (Block.waitTake b c q bp left).1.Sound := by
  unfold Block.waitTake
  repeat' first
    | with_reducible assumption
    | (extract_lets +onlyGivenNames z; refine Block.Sound.cut z ?_ (fun hz => ?_); (on_goal 2 => clear_value z); (on_goal 1 => subst z))
    | (extract_lets +onlyGivenNames z; subst z)
    | with_reducible apply Block.modClu_sound
    | with_reducible apply Block.memFault_sound
    | split

theorem foldFaults_sound {α : Type} (l : List α) {b : Block} (f : α → Block → Block × List StepFault) (hS : b.Sound)
    (hf_f : ∀ a x, x.Sound → (f a x).1.Sound) : (foldFaults l b f).1.Sound :=
  foldl_keeps (P := fun z : Block × List StepFault => z.1.Sound) l _ _ hS (fun z a hz => hf_f a z.1 hz)

theorem Block.applyBps_sound {b : Block} (p : Nat) (c : Nat) (outs0 : List (Nat × BpOut)) (due : List (Nat × Nat)) (left : Nat) (hS : b.Sound) : (Block.applyBps b p c outs0 due left).1.Sound := by
  unfold Block.applyBps
  repeat' first
    | with_reducible assumption
    | (extract_lets +onlyGivenNames z; refine Block.Sound.cut z ?_ (fun hz => ?_); (on_goal 2 => clear_value z); (on_goal 1 => subst z))
    | (extract_lets +onlyGivenNames z; refine Block.Sound.cutP z ?_ (fun hz => ?_); (on_goal 2 => clear_value z); (on_goal 1 => subst z))
    | (extract_lets +onlyGivenNames z; subst z)
    | with_reducible apply Block.modClu_sound
    | with_reducible apply Block.schedFault_sound
    | with_reducible apply Block.driveLane_sound
    | with_reducible apply Block.waitTake_sound
    | with_reducible apply foldFaults_sound
    | with_reducible apply Block.forEach_sound
    | (intro z hz hy)
    | split

theorem Block.bpCmd_sound {b : Block} (c : Nat) (bp : Nat) (opc : Nat) (w : BpArgs) (hS : b.Sound) : (Block.bpCmd b c bp opc w).Sound := by
  unfold Block.bpCmd
  repeat' first
    | with_reducible assumption
    | (extract_lets +onlyGivenNames z; refine Block.Sound.cut z ?_ (fun hz => ?_); (on_goal 2 => clear_value z); (on_goal 1 => subst z))
    | (extract_lets +onlyGivenNames z; refine Block.Sound.cutP z ?_ (fun hz => ?_); (on_goal 2 => clear_value z); (on_goal 1 => subst z))
    | with_reducible apply Block.ite_sound
    | with_reducible apply Block.emitAt_sound
    | with_reducible apply Block.stepFaults_sound
    | with_reducible apply Block.applyBps_sound
    | split

end Sys2Proof.Machine
end

