-- ==== Sys2Proof/Laws/Sound/We.lean ====
section
/-!
SUPPORT. The operations of Machine/We.lean keep Block.Sound.
-/
namespace Sys2Proof.Machine

theorem loopReg_name {c k w : Nat} {q : RegKey} (h : loopReg c k w = some q) : q.name ≠ .CTL_ID := by
  unfold loopReg at h
  split at h
  · cases h; exact r2_ne rfl
  · split at h
    · cases h; exact r2_ne rfl
    · split at h
      · cases h
        split
        · exact r3_ne rfl
        · exact r3_ne rfl
      · cases h

theorem Block.repPush_sound {b : Block} (c : Nat) (k : Nat) (e : Nat) (w : WeArgs) (hS : b.Sound) : (Block.repPush b c k e w).Sound := by
  unfold Block.repPush
  repeat' first
    | with_reducible assumption
    | (extract_lets +onlyGivenNames z; refine Block.Sound.cut z ?_ (fun hz => ?_); (on_goal 2 => clear_value z); (on_goal 1 => subst z))
    | (extract_lets +onlyGivenNames z; subst z)
    | with_reducible apply Block.setReg_sound
    | with_reducible apply Block.setFld_sound
    | ((with_reducible refine r2_ne ?_); rfl)
    | ((with_reducible refine r3_ne ?_); rfl)

theorem Block.repTest_sound (c k e n : Nat) {b : Block} (hS : b.Sound) : (Block.repTest b c k e n).Sound := by
  induction n generalizing b with
  | zero => exact Block.setFld_sound hS _ _ _ (r2_ne rfl)
  | succ n ih =>
    unfold Block.repTest
    extract_lets d l
    refine Block.ite_sound (Block.setFld_sound hS _ _ _ (r2_ne rfl)) (Block.ite_sound ?_ (ih (Block.setFld_sound hS _ _ _ (r2_ne rfl))))
    exact Block.setFld_sound (Block.setFld_sound hS _ _ _ (r3_ne rfl)) _ _ _ (r2_ne rfl)

theorem Block.weIssue_sound {b : Block} (s0 : Block) (p c k op : Nat) (w : WeArgs) (hS : b.Sound) : (Block.weIssue b s0 p c k op w).1.Sound := by
  unfold Block.weIssue
  extract_lets x step e codes r b1 b2
  have h1 : b1.Sound := by
    show (match weDest k op w with | some d => _ | none => b).Sound
    split
    · exact Block.modClu_sound _ _ hS
    · exact hS
  have h2 : b2.Sound := Block.repTest_sound _ _ _ _ (Block.ite_sound (Block.repPush_sound _ _ _ _ h1) h1)
  split
  · exact Block.weFault_sound _ _ _ _ _ hS
  · split
    · exact Block.weFault_sound _ _ _ _ _ h2
    · exact h2

theorem Block.landOne_sound {b : Block} (c : Nat) (f : Flight) (hS : b.Sound) : (Block.landOne b c f).Sound := by
  unfold Block.landOne
  repeat' first
    | with_reducible assumption
    | (extract_lets +onlyGivenNames z; refine Block.Sound.cut z ?_ (fun hz => ?_); (on_goal 2 => clear_value z); (on_goal 1 => subst z))
    | (extract_lets +onlyGivenNames z; subst z)
    | with_reducible apply Block.ite_sound
    | with_reducible apply Block.modClu_sound
    | with_reducible apply Block.setAov_sound
    | with_reducible apply Block.weSticky_sound
    | split

theorem Block.landBad_sound {b : Block} (c : Nat) (f : Flight) (hS : b.Sound) : (Block.landBad b c f).1.Sound := by
  unfold Block.landBad
  repeat' first
    | with_reducible assumption
    | with_reducible apply Block.modClu_sound

theorem Block.landDue_sound {b : Block} (c : Nat) (hS : b.Sound) : (Block.landDue b c).Sound := by
  unfold Block.landDue
  repeat' first
    | with_reducible assumption
    | with_reducible apply Block.landOne_sound
    | with_reducible apply Block.forEach_sound
    | (intro z hz hy)

theorem Block.landAll_sound {b : Block} (c : Nat) (hS : b.Sound) : (Block.landAll b c).Sound := by
  unfold Block.landAll
  repeat' first
    | with_reducible assumption
    | with_reducible apply Block.landOne_sound
    | with_reducible apply Block.forEach_sound
    | (intro z hz hy)

theorem Block.weWrite_sound {b : Block} (c : Nat) (k : Nat) (w : Nat) (v : Word) (hS : b.Sound) : (Block.weWrite b c k w v).Sound := by
  unfold Block.weWrite
  repeat' first
    | with_reducible assumption
    | with_reducible apply Block.ite_sound
    | with_reducible apply Block.modClu_sound

theorem Block.loopWrite_sound {b : Block} (r : Requester) (c : Nat) (k : Nat) (w : Nat) (v : Word) (hS : b.Sound) : (Block.loopWrite b r c k w v).Sound := by
  unfold Block.loopWrite
  repeat' first
    | with_reducible assumption
    | with_reducible apply Block.ite_sound
    | with_reducible apply Block.setReg_sound
    | with_reducible apply Block.hostWrite_sound
    | exact loopReg_name (by assumption)
    | (intro z hz)
    | split

theorem Block.faultWrite_sound {b : Block} (c : Nat) (v : Word) (hS : b.Sound) : (Block.faultWrite b c v).Sound := by
  unfold Block.faultWrite
  repeat' first
    | with_reducible assumption
    | (extract_lets +onlyGivenNames z; refine Block.Sound.cut z ?_ (fun hz => ?_); (on_goal 2 => clear_value z); (on_goal 1 => subst z))
    | with_reducible apply Block.ite_sound
    | with_reducible apply Block.clrReg_sound
    | with_reducible apply Block.faultClear_sound
    | ((with_reducible refine r1_ne ?_); rfl)

end Sys2Proof.Machine
end

