-- ==== Sys2Proof/Laws/Sound/Slot.lean ====
section
/-!
SUPPORT. The operations of Machine/Slot.lean keep Block.Sound.
-/
namespace Sys2Proof.Machine

theorem Block.runAct_sound {b : Block} (c : Nat) (left : Nat) (a : SlotAct) (hS : b.Sound) : (Block.runAct b c left a).Sound := by
  unfold Block.runAct
  repeat' first
    | with_reducible assumption
    | (extract_lets +onlyGivenNames z; refine Block.Sound.cut z ?_ (fun hz => ?_); (on_goal 2 => clear_value z); (on_goal 1 => subst z))
    | with_reducible apply Block.ite_sound
    | with_reducible apply Block.modClu_sound
    | with_reducible apply Block.pushFrag_sound
    | split

theorem Block.runOps_sound {b : Block} (c : Nat) (ops : List SlotOp) (hS : b.Sound) : (Block.runOps b c ops).Sound := by
  unfold Block.runOps
  repeat' first
    | with_reducible assumption
    | (extract_lets +onlyGivenNames z; subst z)
    | with_reducible apply Block.modClu_sound
    | with_reducible apply Block.runAct_sound
    | with_reducible apply Block.forEach_sound
    | (intro z hz hy)

theorem Block.opNote_sound {b : Block} (c : Nat) (j : Nat) (step : Nat) (u : OpOut) (hS : b.Sound) : (Block.opNote b c j step u).1.Sound := by
  unfold Block.opNote
  repeat' first
    | with_reducible assumption
    | (extract_lets +onlyGivenNames z; refine Block.Sound.cut z ?_ (fun hz => ?_); (on_goal 2 => clear_value z); (on_goal 1 => subst z))
    | with_reducible apply Block.ite_sound
    | with_reducible apply Block.satFld_sound
    | with_reducible apply Block.modClu_sound
    | with_reducible apply Block.corrected_sound
    | with_reducible apply Block.memFault_sound
    | ((with_reducible refine r1_ne ?_); rfl)
    | split

theorem Block.opField_sound {b : Block} (s0 : Block) (p : Nat) (c : Nat) (j : Nat) (kind : Nat) (o : OpArgs) (ops : List SlotOp) (row : Ecc) (pm : Ecc) (hS : b.Sound) : (Block.opField b s0 p c j kind o ops row pm).1.Sound := by
  unfold Block.opField
  repeat' first
    | with_reducible assumption
    | (extract_lets +onlyGivenNames z; refine Block.Sound.cut z ?_ (fun hz => ?_); (on_goal 2 => clear_value z); (on_goal 1 => subst z))
    | (extract_lets +onlyGivenNames z; refine Block.Sound.cutP z ?_ (fun hz => ?_); (on_goal 2 => clear_value z); (on_goal 1 => subst z))
    | (extract_lets +onlyGivenNames z; subst z)
    | with_reducible apply Block.ite_sound
    | with_reducible apply Block.modClu_sound
    | with_reducible apply Block.corrected_sound
    | with_reducible apply Block.opNote_sound

theorem Block.slotStep_sound {b : Block} (s0 : Block) (p c : Nat) (entry : BitVec 160) (row pm : Nat → Ecc) (hS : b.Sound) :
    (Block.slotStep b s0 p c entry row pm).1.Sound := by
  unfold Block.slotStep
  refine Block.runOps_sound _ _ (Block.foldl1_sound hS (fun z j hz => ?_))
  split
  · exact hz
  · exact Block.opField_sound _ _ _ _ _ _ _ _ _ hz

theorem Block.dmbScrub_sound {b : Block} (c : Nat) (used : List Nat) (found : Nat → Bool → Ecc) (hS : b.Sound) : (Block.dmbScrub b c used found).Sound := by
  unfold Block.dmbScrub
  repeat' first
    | with_reducible assumption
    | (extract_lets +onlyGivenNames z; refine Block.Sound.cut z ?_ (fun hz => ?_); (on_goal 2 => clear_value z); (on_goal 1 => subst z))
    | with_reducible apply Block.ite_sound
    | with_reducible apply Block.satFld_sound
    | with_reducible apply Block.modClu_sound
    | with_reducible apply Block.corrected_sound
    | with_reducible apply Block.forEach_sound
    | ((with_reducible refine r1_ne ?_); rfl)
    | (intro z hz hy)
    | split

theorem Block.deferRound_sound {b : Block} (c : Nat) (hS : b.Sound) : (Block.deferRound b c).Sound := by
  unfold Block.deferRound
  repeat' first
    | with_reducible assumption
    | (extract_lets +onlyGivenNames z; subst z)
    | with_reducible apply Block.ite_sound
    | with_reducible apply Block.modClu_sound
    | with_reducible apply Block.runAct_sound
    | with_reducible apply Block.forEach_sound
    | (intro z hz hy)

theorem Block.runDeferredClu_sound {b : Block} (c : Nat) (hS : b.Sound) : (Block.runDeferredClu b c).Sound := by
  unfold Block.runDeferredClu
  repeat' first
    | with_reducible assumption
    | with_reducible apply Block.modClu_sound
    | with_reducible apply Block.runAct_sound
    | with_reducible apply Block.forEach_sound
    | (intro z hz hy)

theorem Block.runDeferred_sound {b : Block} (p : Nat) (hS : b.Sound) : (Block.runDeferred b p).Sound := by
  unfold Block.runDeferred
  repeat' first
    | with_reducible assumption
    | with_reducible apply Block.runDeferredClu_sound
    | with_reducible apply Block.forEach_sound
    | (intro z hz hy)

theorem Block.stoppedClu_sound {b : Block} (c : Nat) (hS : b.Sound) : (Block.stoppedClu b c).Sound := by
  unfold Block.stoppedClu
  repeat' first
    | with_reducible assumption
    | with_reducible apply Block.landAll_sound
    | with_reducible apply Block.runDeferredClu_sound

theorem Block.stoppedTick_sound {b : Block} (hS : b.Sound) : (Block.stoppedTick b).Sound := by
  unfold Block.stoppedTick
  repeat' first
    | with_reducible assumption
    | with_reducible apply Block.stoppedClu_sound
    | with_reducible apply Block.forEach_sound
    | (intro z hz hy)

theorem Block.latchDue_sound {b : Block} (p : Nat) (c : Nat) (hS : b.Sound) : (Block.latchDue b p c).1.Sound := by
  unfold Block.latchDue
  repeat' first
    | with_reducible assumption
    | (extract_lets +onlyGivenNames z; refine Block.Sound.cut z ?_ (fun hz => ?_); (on_goal 2 => clear_value z); (on_goal 1 => subst z))
    | (extract_lets +onlyGivenNames z; subst z)
    | with_reducible apply Block.modPart_sound
    | with_reducible apply Block.modClu_sound
    | with_reducible apply Block.setLane_sound
    | with_reducible apply Block.memFault_sound
    | with_reducible apply Block.forEach_sound
    | (intro z hz hy)
    | split

theorem Block.latchPart_sound {b : Block} (p : Nat) (hS : b.Sound) : (Block.latchPart b p).Sound := by
  unfold Block.latchPart
  repeat' first
    | with_reducible assumption
    | (extract_lets +onlyGivenNames z; refine Block.Sound.cutP z ?_ (fun hz => ?_); (on_goal 2 => clear_value z); (on_goal 1 => subst z))
    | with_reducible apply Block.stepFaults_sound
    | with_reducible apply foldFaults_sound
    | with_reducible apply Block.latchDue_sound
    | (intro z hz hy)

theorem Block.latchClu_sound {b : Block} (c : Nat) (hS : b.Sound) : (Block.latchClu b c).Sound := by
  unfold Block.latchClu
  repeat' first
    | with_reducible assumption
    | (extract_lets +onlyGivenNames z; refine Block.Sound.cutP z ?_ (fun hz => ?_); (on_goal 2 => clear_value z); (on_goal 1 => subst z))
    | with_reducible apply Block.stepFaults_sound
    | with_reducible apply Block.latchDue_sound
    | split

theorem Block.settle_sound {b : Block} (p : Nat) (hS : b.Sound) : (Block.settle b p).Sound := by
  unfold Block.settle
  repeat' first
    | with_reducible assumption
    | with_reducible apply Block.landDue_sound
    | with_reducible apply Block.deferRound_sound
    | with_reducible apply Block.latchPart_sound
    | with_reducible apply Block.forEach_sound
    | (intro z hz hy)

theorem Block.slotCmd_sound {b : Block} (c : Nat) (j : Nat) (kind : Nat) (o : OpArgs) (row : Ecc) (hS : b.Sound) : (Block.slotCmd b c j kind o row).Sound := by
  unfold Block.slotCmd
  repeat' first
    | with_reducible assumption
    | (extract_lets +onlyGivenNames z; refine Block.Sound.cutP z ?_ (fun hz => ?_); (on_goal 2 => clear_value z); (on_goal 1 => subst z))
    | with_reducible apply Block.stepFaults_sound
    | with_reducible apply Block.runOps_sound
    | with_reducible apply Block.opField_sound
    | split

end Sys2Proof.Machine
end

