-- ==== Sys2Proof/Laws/Sound/StatePort.lean ====
section
/-!
SUPPORT. The operations of Machine/StatePort.lean keep Block.Sound.
-/
namespace Sys2Proof.Machine

theorem Block.spFinish_sound {b : Block} (c : Nat) (hS : b.Sound) : (Block.spFinish b c).Sound := by
  unfold Block.spFinish
  repeat' first
    | with_reducible assumption
    | (extract_lets +onlyGivenNames z; refine Block.Sound.cut z ?_ (fun hz => ?_); (on_goal 2 => clear_value z); (on_goal 1 => subst z))
    | (extract_lets +onlyGivenNames z; subst z)
    | with_reducible apply Block.ite_sound
    | with_reducible apply Block.setFld_sound
    | with_reducible apply Block.setBit_sound
    | with_reducible apply Block.clrFld_sound
    | with_reducible apply Block.wrapFld_sound
    | ((with_reducible refine r1_ne ?_); rfl)

theorem Block.spTransfer_sound {b : Block} (p : Nat) (c : Nat) (hS : b.Sound) : (Block.spTransfer b p c).Sound := by
  unfold Block.spTransfer
  repeat' first
    | with_reducible assumption
    | (extract_lets +onlyGivenNames z; refine Block.Sound.cut z ?_ (fun hz => ?_); (on_goal 2 => clear_value z); (on_goal 1 => subst z))
    | (extract_lets +onlyGivenNames z; subst z)
    | with_reducible apply Block.ite_sound
    | with_reducible apply Block.setBit_sound
    | with_reducible apply Block.setClu_sound
    | with_reducible apply Block.spFinish_sound
    | ((with_reducible refine r1_ne ?_); rfl)

theorem Block.spStop_sound {b : Block} (p : Nat) (hS : b.Sound) : (Block.spStop b p).Sound := by
  unfold Block.spStop
  repeat' first
    | with_reducible assumption
    | with_reducible apply Block.ite_sound
    | with_reducible apply Block.enterFrozen_sound

theorem Block.spGroup_sound {b : Block} (c : Nat) (hS : b.Sound) : (Block.spGroup b c).Sound := by
  unfold Block.spGroup
  repeat' first
    | with_reducible assumption
    | (extract_lets +onlyGivenNames z; refine Block.Sound.cut z ?_ (fun hz => ?_); (on_goal 2 => clear_value z); (on_goal 1 => subst z))
    | (extract_lets +onlyGivenNames z; subst z)
    | with_reducible apply Block.ite_sound
    | with_reducible apply Block.modClu_sound
    | with_reducible apply Block.spFinish_sound

theorem Block.spEffect_sound {b : Block} (c : Nat) (hS : b.Sound) : (Block.spEffect b c).Sound := by
  unfold Block.spEffect
  repeat' first
    | with_reducible assumption
    | (extract_lets +onlyGivenNames z; subst z)
    | with_reducible apply Block.ite_sound
    | with_reducible apply Block.setFld_sound
    | with_reducible apply Block.clrFld_sound
    | with_reducible apply Block.modClu_sound
    | ((with_reducible refine r1_ne ?_); rfl)

theorem Block.spEquinox_sound {b : Block} (c : Nat) (hS : b.Sound) : (Block.spEquinox b c).Sound := by
  unfold Block.spEquinox
  repeat' first
    | with_reducible assumption
    | (extract_lets +onlyGivenNames z; refine Block.Sound.cut z ?_ (fun hz => ?_); (on_goal 2 => clear_value z); (on_goal 1 => subst z))
    | (extract_lets +onlyGivenNames z; subst z)
    | with_reducible apply Block.modClu_sound
    | with_reducible apply Block.spEffect_sound

theorem Block.spCtrl_sound {b : Block} (c : Nat) (v : Word) (hS : b.Sound) : (Block.spCtrl b c v).Sound := by
  unfold Block.spCtrl
  repeat' first
    | with_reducible assumption
    | with_reducible apply Block.setReg_sound
    | with_reducible apply Block.setBit_sound
    | ((with_reducible refine r1_ne ?_); rfl)

theorem Block.selWrite_sound {b : Block} (c : Nat) (j : Nat) (v : Word) (hS : b.Sound) : (Block.selWrite b c j v).Sound := by
  unfold Block.selWrite
  repeat' first
    | with_reducible assumption
    | with_reducible apply Block.ite_sound
    | with_reducible apply Block.modClu_sound

theorem Block.loadWrite_sound {b : Block} (c : Nat) (buf : Bool) (w : Nat) (v : Word) (hS : b.Sound) : (Block.loadWrite b c buf w v).Sound := by
  unfold Block.loadWrite
  repeat' first
    | with_reducible assumption
    | (extract_lets +onlyGivenNames z; subst z)
    | with_reducible apply Block.ite_sound
    | with_reducible apply Block.setBit_sound
    | with_reducible apply Block.modClu_sound
    | ((with_reducible refine r1_ne ?_); rfl)

theorem Block.spHandoff_sound {b : Block} (c : Nat) (v : Word) (hS : b.Sound) : (Block.spHandoff b c v).Sound := by
  unfold Block.spHandoff
  repeat' first
    | with_reducible assumption
    | (extract_lets +onlyGivenNames z; refine Block.Sound.cut z ?_ (fun hz => ?_); (on_goal 2 => clear_value z); (on_goal 1 => subst z))
    | (extract_lets +onlyGivenNames z; subst z)
    | with_reducible apply Block.ite_sound
    | with_reducible apply Block.setBit_sound
    | with_reducible apply Block.clrFld_sound
    | ((with_reducible refine r1_ne ?_); rfl)

theorem Block.sentPut_sound {b : Block} (c : Nat) (pos : Nat) (lock : Option Nat) (hS : b.Sound) : (Block.sentPut b c pos lock).Sound := by
  unfold Block.sentPut
  repeat' first
    | with_reducible assumption
    | with_reducible apply Block.setFld_sound
    | with_reducible apply Block.modClu_sound
    | ((with_reducible refine r1_ne ?_); rfl)

theorem Block.sentAdvance_sound {b : Block} (c : Nat) (hS : b.Sound) : (Block.sentAdvance b c).Sound := by
  unfold Block.sentAdvance
  repeat' first
    | with_reducible assumption
    | (extract_lets +onlyGivenNames z; subst z)
    | with_reducible apply Block.ite_sound
    | with_reducible apply Block.wrapFld_sound
    | with_reducible apply Block.sentPut_sound
    | ((with_reducible refine r1_ne ?_); rfl)

theorem Block.sentWrite_sound {b : Block} (c : Nat) (v : Word) (hS : b.Sound) : (Block.sentWrite b c v).Sound := by
  unfold Block.sentWrite
  repeat' first
    | with_reducible assumption
    | (extract_lets +onlyGivenNames z; refine Block.Sound.cut z ?_ (fun hz => ?_); (on_goal 2 => clear_value z); (on_goal 1 => subst z))
    | with_reducible apply Block.ite_sound
    | with_reducible apply Block.setReg_sound
    | with_reducible apply Block.sentPut_sound
    | ((with_reducible refine r1_ne ?_); rfl)

end Sys2Proof.Machine
end

