-- ==== Sys2Proof/Laws/Sound/Manifest.lean ====
section
/-!
SUPPORT. The operations of Machine/Manifest.lean keep Block.Sound.
-/
namespace Sys2Proof.Machine

theorem Block.manRecord_sound {b : Block} (code : Nat) (p : Nat) (c : Nat) (i : Nat) (hS : b.Sound) : (Block.manRecord b code p c i).Sound := by
  unfold Block.manRecord
  repeat' first
    | with_reducible assumption
    | with_reducible apply Block.ite_sound
    | with_reducible apply Block.setReg_sound
    | ((with_reducible refine r0_ne ?_); rfl)

theorem Block.manCluster_sound {b : Block} (m : Man) (c : Nat) (hS : b.Sound) : (Block.manCluster b m c).Sound := by
  unfold Block.manCluster
  repeat' first
    | with_reducible assumption
    | (extract_lets +onlyGivenNames z; refine Block.Sound.cut z ?_ (fun hz => ?_); (on_goal 2 => clear_value z); (on_goal 1 => subst z))
    | (extract_lets +onlyGivenNames z; subst z)
    | with_reducible apply Block.setReg_sound
    | with_reducible apply Block.forEach_sound
    | ((with_reducible refine r1_ne ?_); rfl)
    | ((with_reducible refine r2_ne ?_); rfl)
    | (intro z hz hy)

theorem Block.manRegion_sound {b : Block} (r : ManRegion) (hS : b.Sound) : (Block.manRegion b r).Sound := by
  unfold Block.manRegion
  repeat' first
    | with_reducible assumption
    | with_reducible apply Block.setReg_sound
    | ((with_reducible refine r2_ne ?_); rfl)

theorem Block.manInstall_sound {b : Block} (m : Man) (hS : b.Sound) : (Block.manInstall b m).Sound := by
  unfold Block.manInstall
  repeat' first
    | with_reducible assumption
    | (extract_lets +onlyGivenNames z; refine Block.Sound.cut z ?_ (fun hz => ?_); (on_goal 2 => clear_value z); (on_goal 1 => subst z))
    | (extract_lets +onlyGivenNames z; subst z)
    | with_reducible apply Block.setReg_sound
    | with_reducible apply Block.modPart_sound
    | with_reducible apply Block.manCluster_sound
    | with_reducible apply Block.manRegion_sound
    | with_reducible apply Block.forEach_sound
    | ((with_reducible refine r1_ne ?_); rfl)
    | (intro z hz hy)

end Sys2Proof.Machine
end

