-- ==== Sys2Proof/Laws/Sound/Store.lean ====
section
/-!
SUPPORT. The operations of Machine/Store.lean keep Block.Sound.
-/
namespace Sys2Proof.Machine

theorem Block.bulkRefuse_sound {b : Block} (f : Fld) (hS : b.Sound) : (Block.bulkRefuse b f).Sound := by
  unfold Block.bulkRefuse
  repeat' first
    | with_reducible assumption
    | with_reducible apply Block.setBit_sound
    | ((with_reducible refine r0_ne ?_); rfl)

theorem Block.bulkRead_sound {b : Block} (r : Requester) (off : Nat) (len : Nat) (hS : b.Sound) : (Block.bulkRead b r off len).Sound := by
  unfold Block.bulkRead
  repeat' first
    | with_reducible assumption
    | (extract_lets +onlyGivenNames z; refine Block.Sound.cut z ?_ (fun hz => ?_); (on_goal 2 => clear_value z); (on_goal 1 => subst z))
    | with_reducible apply Block.ite_sound
    | with_reducible apply Block.bulkRefuse_sound
    | (simp only [Block.sound_mk]; refine ⟨?_, ?_, ?_, ?_, ?_, ?_, ?_, ?_, ?_⟩)
    | with_reducible exact Block.Sound.rf (by assumption)
    | with_reducible exact Block.Sound.far (by assumption)
    | with_reducible exact Block.Sound.ssp (by assumption)
    | with_reducible exact Block.Sound.log (by assumption)
    | with_reducible exact Block.Sound.audit (by assumption)
    | with_reducible exact Block.Sound.vpt (by assumption)
    | with_reducible exact Block.Sound.sub (by assumption)
    | with_reducible exact Block.Sound.s0 (by assumption)
    | with_reducible exact Block.Sound.s1 (by assumption)

theorem Block.bulkFetch_sound {b : Block} (r : Requester) (off : Nat) (len : Nat) (hS : b.Sound) : (Block.bulkFetch b r off len).Sound := by
  unfold Block.bulkFetch
  repeat' first
    | with_reducible assumption
    | (extract_lets +onlyGivenNames z; refine Block.Sound.cut z ?_ (fun hz => ?_); (on_goal 2 => clear_value z); (on_goal 1 => subst z))
    | (extract_lets +onlyGivenNames z; subst z)
    | with_reducible apply Block.ite_sound
    | with_reducible apply Block.modClu_sound
    | with_reducible apply Block.bulkRead_sound
    | (simp only [Block.sound_mk]; refine ⟨?_, ?_, ?_, ?_, ?_, ?_, ?_, ?_, ?_⟩)
    | with_reducible exact Block.Sound.rf (by assumption)
    | with_reducible exact Block.Sound.far (by assumption)
    | with_reducible exact Block.Sound.ssp (by assumption)
    | with_reducible exact Block.Sound.log (by assumption)
    | with_reducible exact Block.Sound.audit (by assumption)
    | with_reducible exact Block.Sound.vpt (by assumption)
    | with_reducible exact Block.Sound.sub (by assumption)
    | with_reducible exact Block.Sound.s0 (by assumption)
    | with_reducible exact Block.Sound.s1 (by assumption)

theorem Block.bulkSlot_sound {b : Block} (c : Nat) (w : StoreSel × Nat) (hS : b.Sound) : (Block.bulkSlot b c w).Sound := by
  unfold Block.bulkSlot
  repeat' first
    | with_reducible assumption
    | (extract_lets +onlyGivenNames z; refine Block.Sound.cut z ?_ (fun hz => ?_); (on_goal 2 => clear_value z); (on_goal 1 => subst z))
    | (extract_lets +onlyGivenNames z; subst z)
    | with_reducible apply Block.ite_sound
    | with_reducible apply Block.setClu_sound
    | (simp only [Block.sound_mk]; refine ⟨?_, ?_, ?_, ?_, ?_, ?_, ?_, ?_, ?_⟩)
    | with_reducible exact Block.Sound.rf (by assumption)
    | with_reducible exact Block.Sound.far (by assumption)
    | with_reducible exact Block.Sound.ssp (by assumption)
    | with_reducible exact Block.Sound.log (by assumption)
    | with_reducible exact Block.Sound.audit (by assumption)
    | with_reducible exact Block.Sound.vpt (by assumption)
    | with_reducible exact Block.Sound.sub (by assumption)
    | with_reducible exact Block.Sound.s0 (by assumption)
    | with_reducible exact Block.Sound.s1 (by assumption)
    | split

theorem Block.bulkWrite_sound {b : Block} (r : Requester) (off : Nat) (l : List Byte) (hS : b.Sound) : (Block.bulkWrite b r off l).Sound := by
  unfold Block.bulkWrite
  repeat' first
    | with_reducible assumption
    | (extract_lets +onlyGivenNames z; subst z)
    | with_reducible apply Block.ite_sound
    | with_reducible apply Block.setClu_sound
    | with_reducible apply Block.bulkRefuse_sound
    | split

end Sys2Proof.Machine
end

