-- ==== Sys2Proof/Laws/Sound/Trace.lean ====
section
/-!
SUPPORT. The operations of Machine/Trace.lean keep Block.Sound.
-/
namespace Sys2Proof.Machine

theorem Block.setStream_sound {b : Block} (x : Nat) (s : Stream) (hS : b.Sound) : (Block.setStream b x s).Sound := by
  unfold Block.setStream
  repeat' first
    | (extract_lets +onlyGivenNames z; subst z)
    | with_reducible apply Block.setFld_sound
    | ((with_reducible refine r1_ne ?_); rfl)
    | (simp only [Block.sound_mk]; refine ⟨?_, ?_, ?_, ?_, ?_, ?_, ?_, ?_, ?_⟩)
    | with_reducible exact Block.Sound.rf (by assumption)
    | with_reducible exact Block.Sound.far (by assumption)
    | with_reducible exact Block.Sound.ssp (by assumption)
    | with_reducible exact Block.Sound.log (by assumption)
    | with_reducible exact Block.Sound.audit (by assumption)
    | with_reducible exact Block.Sound.vpt (by assumption)
    | with_reducible exact Block.Sound.sub (by assumption)
    | with_reducible exact Block.Sound.s0 (by assumption)
    | with_reducible exact Block.Sound.s1 (by assumption)

theorem Block.modStream_sound {b : Block} (x : Nat) (f : Stream → Stream) (hS : b.Sound) : (Block.modStream b x f).Sound := by
  unfold Block.modStream
  repeat' first
    | with_reducible assumption
    | with_reducible apply Block.setStream_sound

theorem Block.strEnter_sound {b : Block} (x : Nat) (st : Nat) (hS : b.Sound) : (Block.strEnter b x st).Sound := by
  unfold Block.strEnter
  repeat' first
    | with_reducible assumption
    | with_reducible apply Block.setFld_sound
    | ((with_reducible refine r1_ne ?_); rfl)

theorem Block.trcWrite_sound {b : Block} (p : Nat) (g : TrcPage) (l : List Byte) (hS : b.Sound) : (Block.trcWrite b p g l).Sound := by
  unfold Block.trcWrite
  repeat' first
    | with_reducible assumption
    | (extract_lets +onlyGivenNames z; subst z)
    | with_reducible apply Block.ite_sound
    | with_reducible apply Block.send_sound
    | with_reducible apply Block.farWrite_sound
    | with_reducible apply Block.snoop_sound
    | with_reducible apply Block.forEach_sound
    | (intro z hz hy)

theorem Block.closePage_sound {b : Block} (x : Nat) (last : Bool) (hS : b.Sound) : (Block.closePage b x last).1.Sound := by
  unfold Block.closePage
  repeat' first
    | with_reducible assumption
    | (extract_lets +onlyGivenNames z; subst z)
    | with_reducible apply Block.setStream_sound
    | with_reducible apply Block.trcWrite_sound
    | split

theorem Block.closeOrWait_sound {b : Block} (x : Nat) (last : Bool) (hS : b.Sound) : (Block.closeOrWait b x last).Sound := by
  unfold Block.closeOrWait
  repeat' first
    | with_reducible assumption
    | with_reducible apply Block.modStream_sound
    | with_reducible apply Block.closePage_sound
    | (with_reducible refine Block.pair_sound (by assumption) ?_)
    | split

theorem Block.openPage_sound {b : Block} (x : Nat) (hS : b.Sound) : OptSound (Block.openPage b x) := by
  unfold Block.openPage
  extract_lets s
  split
  · exact OptSound.none
  · exact OptSound.some (Block.setStream_sound _ _ hS)
  · split
    · exact OptSound.some (Block.satFld_sound (Block.setStream_sound _ _ hS) _ _ _ (r1_ne rfl))
    · exact OptSound.none
  · exact OptSound.none

theorem Block.turnPage_sound {b : Block} (x : Nat) (hS : b.Sound) : OptSound (Block.turnPage b x) := by
  unfold Block.turnPage
  split
  · rename_i h; exact Block.openPage_sound _ (Block.pair_sound h (Block.closePage_sound _ _ hS))
  · extract_lets s
    split
    · split
      · exact OptSound.some (Block.satFld_sound (Block.modStream_sound _ _ (Block.closePage_sound _ _ (Block.setStream_sound _ _ hS))) _ _ _ (r1_ne rfl))
      · exact OptSound.none
    · exact OptSound.none

theorem Block.addRec_sound {b : Block} (x : Nat) (r : List Byte) (hS : b.Sound) : (Block.addRec b x r).Sound := by
  unfold Block.addRec
  repeat' first
    | with_reducible assumption
    | with_reducible apply Block.modStream_sound

theorem Block.putRec_sound {b : Block} (x : Nat) (r : List Byte) (hS : b.Sound) : OptSound (Block.putRec b x r) := by
  unfold Block.putRec
  split
  · exact (Block.openPage_sound _ hS).map (fun y hy => Block.addRec_sound _ _ hy)
  · split
    · exact OptSound.some (Block.addRec_sound _ _ hS)
    · exact (Block.turnPage_sound _ hS).map (fun y hy => Block.addRec_sound _ _ hy)

theorem Block.putDc_sound {b : Block} (x dc : Nat) (ts : Stamp) (f : Nat) (hS : b.Sound) : OptSound (Block.putDc b x dc ts f) := by
  unfold Block.putDc
  extract_lets b1
  have h1 : b1.Sound := Block.modStream_sound _ _ hS
  clear_value b1
  split
  · exact Block.openPage_sound _ h1
  · split
    · exact OptSound.some (Block.addRec_sound _ _ h1)
    · exact Block.turnPage_sound _ h1

theorem Block.putAll_sound (x : Nat) (l : List (List Byte)) {b : Block} (hS : b.Sound) : (Block.putAll x l b).Sound := by
  induction l generalizing b with
  | nil => exact Block.modStream_sound _ _ hS
  | cons r rest ih =>
    unfold Block.putAll
    split
    · rename_i y e; exact ih (Block.putRec_sound _ _ hS y e)
    · exact Block.modStream_sound _ _ hS

theorem Block.strSettle_sound {b : Block} (x : Nat) (hS : b.Sound) : (Block.strSettle b x).Sound := by
  unfold Block.strSettle
  repeat' first
    | with_reducible assumption
    | (extract_lets +onlyGivenNames z; refine Block.Sound.cut z ?_ (fun hz => ?_); (on_goal 2 => clear_value z); (on_goal 1 => subst z))
    | with_reducible apply Block.ite_sound
    | with_reducible apply Block.clrFld_sound
    | with_reducible apply Block.modStream_sound
    | with_reducible apply Block.strEnter_sound
    | with_reducible apply Block.closePage_sound
    | ((with_reducible refine r1_ne ?_); rfl)
    | (with_reducible refine Block.pair_sound (by assumption) ?_)
    | split

theorem Block.putWaiting_sound {b : Block} (x : Nat) (hS : b.Sound) : (Block.putWaiting b x).Sound :=
  Block.strSettle_sound _ (Block.ite_sound (Block.putAll_sound _ _ hS) hS)

theorem Block.noteRec_sound {b : Block} (x : Nat) (r : List Byte) (hS : b.Sound) : (Block.noteRec b x r).Sound := by
  unfold Block.noteRec
  repeat' first
    | with_reducible assumption
    | with_reducible apply Block.modStream_sound
    | with_reducible apply Block.putWaiting_sound

theorem Block.putEnt_sound (x c : Nat) (z : Option (Block × CluRec)) (e : TrcEnt) (hS : ∀ y, z = some y → y.1.Sound) :
    ∀ y, Block.putEnt x c z e = some y → y.1.Sound := by
  intro y hy
  unfold Block.putEnt at hy
  split at hy
  · cases hy
  · rename_i b r
    have hb : b.Sound := hS _ rfl
    split at hy
    · cases hy; exact hb
    · have h1 : OptSound (if r.bytes.isEmpty then some b else b.putRec x (r.encode c)) := by
        split
        · exact OptSound.some hb
        · exact Block.putRec_sound _ _ hb
      cases h : (if r.bytes.isEmpty then some b else b.putRec x (r.encode c)) with
      | none => rw [h] at hy; cases hy
      | some b1 =>
        rw [h] at hy
        have h2 := Block.turnPage_sound x (h1 b1 h)
        simp only [Option.bind_some] at hy
        cases g : b1.turnPage x with
        | none => rw [g] at hy; cases hy
        | some b2 =>
          rw [g] at hy
          cases hy
          exact h2 b2 g

theorem Block.putClu_sound {b : Block} (x c : Nat) (l : List TrcEnt) (hS : b.Sound) : OptSound (Block.putClu b x c l) := by
  unfold Block.putClu
  have h : ∀ y, l.foldl (Block.putEnt x c) (some (b, {})) = some y → y.1.Sound :=
    foldl_keeps (P := fun o : Option (Block × CluRec) => ∀ y, o = some y → y.1.Sound) l _ _
      (fun y e => by cases e; exact hS) (fun z e hz => Block.putEnt_sound x c z e hz)
  split
  · exact OptSound.none
  · rename_i b1 r e
    have h1 : b1.Sound := h _ e
    split
    · exact OptSound.some h1
    · exact Block.putRec_sound _ _ h1

theorem Block.putLoss_sound {b : Block} (x : Nat) (hS : b.Sound) : (Block.putLoss b x).Sound := by
  unfold Block.putLoss
  repeat' first
    | with_reducible assumption
    | with_reducible apply Block.modStream_sound
    | with_reducible apply Block.noteRec_sound
    | split

theorem Block.captureDc_sound {b : Block} (x dc : Nat) (ts : Stamp) (hs : List Handed) (hS : b.Sound) : OptSound (Block.captureDc b x dc ts hs) := by
  unfold Block.captureDc
  exact OptSound.map (OptSound.foldl (Block.putDc_sound _ _ _ _ (Block.putLoss_sound _ hS)) (fun z h hz => hz.bind (fun y hy => Block.putClu_sound _ _ _ hy)))
    (fun y hy => Block.putWaiting_sound _ hy)

theorem Block.loseDc_sound {b : Block} (x : Nat) (dc : Nat) (hS : b.Sound) : (Block.loseDc b x dc).Sound := by
  unfold Block.loseDc
  repeat' first
    | with_reducible assumption
    | with_reducible apply Block.setReg_sound
    | with_reducible apply Block.modStream_sound
    | ((with_reducible refine r1_ne ?_); rfl)

theorem Block.deadDc_sound {b : Block} (x : Nat) (ns : Nat) (hS : b.Sound) : (Block.deadDc b x ns).Sound := by
  unfold Block.deadDc
  repeat' first
    | with_reducible assumption
    | (extract_lets +onlyGivenNames z; subst z)
    | with_reducible apply Block.setReg_sound
    | with_reducible apply Block.setReg64_sound
    | ((with_reducible refine r1_ne ?_); rfl)

theorem Block.setFactor_sound {b : Block} (x : Nat) (dc : Nat) (f : Nat) (hS : b.Sound) : (Block.setFactor b x dc f).Sound := by
  unfold Block.setFactor
  repeat' first
    | with_reducible assumption
    | with_reducible apply Block.modStream_sound
    | with_reducible apply Block.noteRec_sound

theorem Block.autoRate_sound {b : Block} (x : Nat) (dc : Nat) (level : Nat) (hS : b.Sound) : (Block.autoRate b x dc level).Sound := by
  unfold Block.autoRate
  repeat' first
    | with_reducible assumption
    | (extract_lets +onlyGivenNames z; subst z)
    | with_reducible apply Block.ite_sound
    | with_reducible apply Block.setStream_sound
    | with_reducible apply Block.setFactor_sound

theorem Block.finish_sound {b : Block} (x : Nat) (dc : Nat) (st : Nat) (hS : b.Sound) : (Block.finish b x dc st).Sound := by
  unfold Block.finish
  repeat' first
    | with_reducible assumption
    | (extract_lets +onlyGivenNames z; refine Block.Sound.cut z ?_ (fun hz => ?_); (on_goal 2 => clear_value z); (on_goal 1 => subst z))
    | with_reducible apply Block.modStream_sound
    | with_reducible apply Block.putWaiting_sound
    | with_reducible apply Block.putLoss_sound

theorem Block.trcDrain_sound {b : Block} (x : Nat) (ns : Nat) (hS : b.Sound) : (Block.trcDrain b x ns).Sound := by
  unfold Block.trcDrain
  repeat' first
    | with_reducible assumption
    | with_reducible apply Block.draw_sound
    | with_reducible apply Block.modStream_sound

theorem Block.trcEmpty_sound {b : Block} (hS : b.Sound) : (Block.trcEmpty b).Sound := by
  unfold Block.trcEmpty
  repeat' first
    | with_reducible assumption
    | with_reducible apply Block.modStream_sound
    | with_reducible apply Block.forEach_sound
    | (intro z hz hy)

theorem Block.trcDc_sound {b : Block} (dc ns : Nat) (ts : Stamp) (hs : List Handed) (x : Nat) (hS : b.Sound) : (Block.trcDc b dc ns ts hs x).Sound := by
  unfold Block.trcDc
  extract_lets b0 sel level got b1 b2
  have h0 : b0.Sound := Block.trcDrain_sound _ _ hS
  have hg : OptSound got := by
    show OptSound (if _ then (b0.captureDc x dc ts hs).map _ else none)
    split
    · exact OptSound.map (Block.captureDc_sound _ _ _ _ h0) (fun y hy => Block.modStream_sound _ _ hy)
    · exact OptSound.none
  have h1 : b1.Sound := by
    have hd : ((if sel = true then b0.loseDc x dc else b0).deadDc x ns).Sound := Block.deadDc_sound _ _ (Block.ite_sound (Block.loseDc_sound _ _ h0) h0)
    clear_value got
    cases got with
    | none => exact hd
    | some y => exact hg y rfl
  have h2 : b2.Sound := Block.autoRate_sound _ _ _ (Block.modStream_sound _ _ h1)
  exact Block.ite_sound hS (Block.ite_sound (Block.finish_sound _ _ _ h2) (Block.ite_sound (Block.finish_sound _ _ _ h2) h2))

theorem Block.trcEquinox_sound {b : Block} (p : Nat) (dc : Nat) (ns : Nat) (ts : Stamp) (hs : List Handed) (hS : b.Sound) : (Block.trcEquinox b p dc ns ts hs).Sound := by
  unfold Block.trcEquinox
  repeat' first
    | with_reducible assumption
    | with_reducible apply Block.trcDc_sound
    | with_reducible apply Block.forEach_sound
    | (intro z hz hy)

theorem Block.trcFire_sound {b : Block} (p : Nat) (t : Nat) (f : Nat) (ts : Stamp) (hS : b.Sound) : (Block.trcFire b p t f ts).Sound := by
  unfold Block.trcFire
  repeat' first
    | with_reducible assumption
    | (extract_lets +onlyGivenNames z; refine Block.Sound.cut z ?_ (fun hz => ?_); (on_goal 2 => clear_value z); (on_goal 1 => subst z))
    | (extract_lets +onlyGivenNames z; subst z)
    | with_reducible apply Block.ite_sound
    | with_reducible apply Block.modStream_sound
    | with_reducible apply Block.strEnter_sound
    | with_reducible apply Block.noteRec_sound
    | with_reducible apply Block.finish_sound
    | with_reducible apply Block.forEach_sound
    | (intro z hz hy)

theorem Block.trcQual_sound {b : Block} (p : Nat) (q : Nat) (dc : Nat) (et : Nat) (hS : b.Sound) : (Block.trcQual b p q dc et).Sound := by
  unfold Block.trcQual
  repeat' first
    | with_reducible assumption
    | with_reducible apply Block.noteRec_sound
    | with_reducible apply Block.forEach_sound
    | (intro z hz hy)

theorem Block.trcStart_sound {b : Block} (x : Nat) (hS : b.Sound) : (Block.trcStart b x).Sound := by
  unfold Block.trcStart
  repeat' first
    | with_reducible assumption
    | (extract_lets +onlyGivenNames z; refine Block.Sound.cut z ?_ (fun hz => ?_); (on_goal 2 => clear_value z); (on_goal 1 => subst z))
    | (extract_lets +onlyGivenNames z; subst z)
    | with_reducible apply Block.ite_sound
    | with_reducible apply Block.setStream_sound
    | with_reducible apply Block.strEnter_sound
    | with_reducible apply Block.clrReg_foldl_sound
    | split

theorem Block.trcStop_sound {b : Block} (x : Nat) (hS : b.Sound) : (Block.trcStop b x).Sound := by
  unfold Block.trcStop
  repeat' first
    | with_reducible assumption
    | (extract_lets +onlyGivenNames z; subst z)
    | with_reducible apply Block.ite_sound
    | with_reducible apply Block.modStream_sound
    | with_reducible apply Block.finish_sound

theorem Block.trcSpring_sound {b : Block} (p : Nat) (hS : b.Sound) : (Block.trcSpring b p).Sound := by
  unfold Block.trcSpring
  repeat' first
    | with_reducible assumption
    | (extract_lets +onlyGivenNames z; subst z)
    | with_reducible apply Block.modStream_sound
    | with_reducible apply Block.forEach_sound
    | (intro z hz hy)

theorem Block.trcReturn_sound {b : Block} (x : Nat) (hS : b.Sound) : (Block.trcReturn b x).Sound := by
  unfold Block.trcReturn
  repeat' first
    | with_reducible assumption
    | with_reducible apply Block.modStream_sound

theorem Block.trcCmd_sound {b : Block} (x : Nat) (v : Word) (hS : b.Sound) : (Block.trcCmd b x v).Sound := by
  unfold Block.trcCmd
  repeat' first
    | with_reducible assumption
    | (extract_lets +onlyGivenNames z; subst z)
    | with_reducible apply Block.ite_sound
    | with_reducible apply Block.closeOrWait_sound
    | with_reducible apply Block.trcStart_sound
    | with_reducible apply Block.trcStop_sound
    | with_reducible apply Block.trcReturn_sound

theorem Block.pagePost_sound {b : Block} (x : Nat) (v : Word) (hS : b.Sound) : (Block.pagePost b x v).Sound := by
  unfold Block.pagePost
  repeat' first
    | with_reducible assumption
    | (extract_lets +onlyGivenNames z; refine Block.Sound.cut z ?_ (fun hz => ?_); (on_goal 2 => clear_value z); (on_goal 1 => subst z))
    | (extract_lets +onlyGivenNames z; subst z)
    | with_reducible apply Block.ite_sound
    | with_reducible apply Block.setReg_sound
    | with_reducible apply Block.setBit_sound
    | with_reducible apply Block.modStream_sound
    | with_reducible apply Block.putWaiting_sound
    | ((with_reducible refine r1_ne ?_); rfl)

theorem Block.doneRead_sound {b : Block} (x : Nat) (hS : b.Sound) : (Block.doneRead b x).1.Sound := by
  unfold Block.doneRead
  repeat' first
    | with_reducible assumption
    | (extract_lets +onlyGivenNames z; refine Block.Sound.cut z ?_ (fun hz => ?_); (on_goal 2 => clear_value z); (on_goal 1 => subst z))
    | (extract_lets +onlyGivenNames z; subst z)
    | with_reducible apply Block.setReg_sound
    | with_reducible apply Block.setStream_sound
    | with_reducible apply Block.closeOrWait_sound
    | with_reducible apply Block.putWaiting_sound
    | ((with_reducible refine r1_ne ?_); rfl)
    | split

theorem Block.factorFix_sound {b : Block} (x : Nat) (hS : b.Sound) : (Block.factorFix b x).Sound := by
  unfold Block.factorFix
  repeat' first
    | with_reducible assumption
    | with_reducible apply Block.modStream_sound

theorem Block.trcCfgWrite_sound {b : Block} (k : RegKey) (v : Word) (hS : b.Sound) : (Block.trcCfgWrite b k v).Sound := by
  unfold Block.trcCfgWrite
  repeat' first
    | with_reducible assumption
    | with_reducible apply Block.ite_sound
    | with_reducible apply Block.writeCodes_sound
    | with_reducible apply Block.factorFix_sound

theorem Block.trcOwnWrite_sound {b : Block} (x : Nat) (v : Word) (hS : b.Sound) : (Block.trcOwnWrite b x v).Sound := by
  unfold Block.trcOwnWrite
  repeat' first
    | with_reducible assumption
    | (extract_lets +onlyGivenNames z; subst z)
    | with_reducible apply Block.ite_sound
    | with_reducible apply Block.setReg_sound
    | with_reducible apply Block.setStream_sound
    | with_reducible apply Block.strEnter_sound
    | with_reducible apply Block.factorFix_sound
    | ((with_reducible refine r1_ne ?_); rfl)

theorem Block.trcRelease_sound {b : Block} (p : Nat) (hS : b.Sound) : (Block.trcRelease b p).Sound := by
  unfold Block.trcRelease
  repeat' first
    | with_reducible assumption
    | with_reducible apply Block.setBit_sound
    | with_reducible apply Block.forEach_sound
    | ((with_reducible refine r1_ne ?_); rfl)
    | (intro z hz hy)

theorem Block.strRelease_sound {b : Block} (x : Nat) (hS : b.Sound) : (Block.strRelease b x).Sound := by
  unfold Block.strRelease
  repeat' first
    | with_reducible assumption
    | with_reducible apply Block.ite_sound
    | with_reducible apply Block.clrFld_sound
    | with_reducible apply Block.modStream_sound
    | with_reducible apply Block.strEnter_sound
    | with_reducible apply Block.finish_sound
    | ((with_reducible refine r1_ne ?_); rfl)

theorem Block.trcReleased_sound {b : Block} (p : Nat) (hS : b.Sound) : (Block.trcReleased b p).Sound := by
  unfold Block.trcReleased
  repeat' first
    | with_reducible assumption
    | with_reducible apply Block.strRelease_sound
    | with_reducible apply Block.forEach_sound
    | (intro z hz hy)

theorem Block.trcWarm_sound {b : Block} (hS : b.Sound) : (Block.trcWarm b).Sound := by
  unfold Block.trcWarm
  repeat' first
    | with_reducible assumption
    | with_reducible apply Block.clrFld_sound
    | with_reducible apply Block.setStream_sound
    | with_reducible apply Block.strEnter_sound
    | with_reducible apply Block.factorFix_sound
    | with_reducible apply Block.forEach_sound
    | ((with_reducible refine r1_ne ?_); rfl)
    | (intro z hz hy)

end Sys2Proof.Machine
end

