-- ==== Sys2Proof/Laws/Sound/Trig.lean ====
section
/-!
SUPPORT. The operations of Machine/Trig.lean keep Block.Sound.
-/
namespace Sys2Proof.Machine

theorem Block.seqTaken_name {b : Block} {c : Nat} {k : RegKey} (h : b.seqTaken c = some k) : k.name ≠ .CTL_ID := by
  unfold Block.seqTaken at h
  extract_lets s at h
  split at h
  · cases h; exact r3_ne rfl
  · split at h
    · cases h; exact r3_ne rfl
    · cases h

theorem Block.seqEnter_sound {b : Block} (c : Nat) (s : Nat) (hS : b.Sound) : (Block.seqEnter b c s).Sound := by
  unfold Block.seqEnter
  repeat' first
    | with_reducible assumption
    | with_reducible apply Block.setFld_sound
    | ((with_reducible refine r1_ne ?_); rfl)

theorem Block.seqAct_sound {b : Block} (c : Nat) (w : RegKey) (hS : b.Sound) (hk_w : w.name ≠ .CTL_ID) : (Block.seqAct b c w).Sound := by
  unfold Block.seqAct
  repeat' first
    | with_reducible assumption
    | (extract_lets +onlyGivenNames z; refine Block.Sound.cut z ?_ (fun hz => ?_); (on_goal 2 => clear_value z); (on_goal 1 => subst z))
    | (extract_lets +onlyGivenNames z; subst z)
    | with_reducible apply Block.ite_sound
    | with_reducible apply Block.setFld_sound
    | with_reducible apply Block.setBit_sound
    | with_reducible apply Block.clrFld_sound
    | with_reducible apply Block.seqEnter_sound
    | ((with_reducible refine r1_ne ?_); rfl)

theorem Block.seqStep_sound {b : Block} (c : Nat) (hS : b.Sound) : (Block.seqStep b c).Sound := by
  unfold Block.seqStep
  repeat' first
    | with_reducible assumption
    | (extract_lets +onlyGivenNames z; refine Block.Sound.cut z ?_ (fun hz => ?_); (on_goal 2 => clear_value z); (on_goal 1 => subst z))
    | (extract_lets +onlyGivenNames z; subst z)
    | with_reducible apply Block.ite_sound
    | with_reducible apply Block.satFld_sound
    | with_reducible apply Block.modClu_sound
    | with_reducible apply Block.seqEnter_sound
    | with_reducible apply Block.seqAct_sound
    | exact Block.seqTaken_name (by assumption)
    | ((with_reducible refine r1_ne ?_); rfl)
    | split

theorem Block.seqInit_sound {b : Block} (c : Nat) (hS : b.Sound) : (Block.seqInit b c).Sound := by
  unfold Block.seqInit
  repeat' first
    | with_reducible assumption
    | with_reducible apply Block.modClu_sound
    | with_reducible apply Block.seqEnter_sound
    | with_reducible apply Block.clrReg_foldl_sound

theorem Block.qualRestart_sound {b : Block} (q : Nat) (hS : b.Sound) : (Block.qualRestart b q).Sound := by
  unfold Block.qualRestart
  repeat' first
    | (simp only [Block.sound_mk]; refine ⟨?_, ?_, ?_, ?_, ?_, ?_, ?_, ?_, ?_⟩)
    | with_reducible exact Block.Sound.rf (by assumption)
    | with_reducible exact Block.Sound.far (by assumption)
    | with_reducible exact Block.Sound.ssp (by assumption)
    | with_reducible exact Block.Sound.log (by assumption)
    | with_reducible exact Block.Sound.audit (by assumption)
    | with_reducible exact Block.Sound.vpt (by assumption)
    | with_reducible exact Block.Sound.sub (by assumption)
    | with_reducible exact Block.Sound.s0 (by assumption)
    | with_reducible exact Block.Sound.s1 (by assumption)

theorem Block.qualStep_sound {b : Block} (q : Nat) (dc : Nat) (d : Nat) (et : Nat) (hS : b.Sound) : (Block.qualStep b q dc d et).1.Sound := by
  unfold Block.qualStep
  repeat' first
    | with_reducible assumption
    | (extract_lets +onlyGivenNames z; refine Block.Sound.cut z ?_ (fun hz => ?_); (on_goal 2 => clear_value z); (on_goal 1 => subst z))
    | (extract_lets +onlyGivenNames z; subst z)
    | with_reducible apply Block.ite_sound
    | with_reducible apply Block.satFld_sound
    | with_reducible apply Block.qualRestart_sound
    | ((with_reducible refine r1_ne ?_); rfl)
    | (simp only [Block.sound_mk]; refine ⟨?_, ?_, ?_, ?_, ?_, ?_, ?_, ?_, ?_⟩)
    | with_reducible exact Block.Sound.rf (by assumption)
    | with_reducible exact Block.Sound.far (by assumption)
    | with_reducible exact Block.Sound.ssp (by assumption)
    | with_reducible exact Block.Sound.log (by assumption)
    | with_reducible exact Block.Sound.audit (by assumption)
    | with_reducible exact Block.Sound.vpt (by assumption)
    | with_reducible exact Block.Sound.sub (by assumption)
    | with_reducible exact Block.Sound.s0 (by assumption)
    | with_reducible exact Block.Sound.s1 (by assumption)
    | split

theorem Block.qualSample_sound {b : Block} (p : Nat) (q : Nat) (dc : Nat) (smp : Nat → Nat × Nat) (hS : b.Sound) : (Block.qualSample b p q dc smp).1.Sound := by
  unfold Block.qualSample
  repeat' first
    | with_reducible assumption
    | (extract_lets +onlyGivenNames z; refine Block.Sound.cutP z ?_ (fun hz => ?_); (on_goal 2 => clear_value z); (on_goal 1 => subst z))
    | (extract_lets +onlyGivenNames z; subst z)
    | with_reducible apply Block.ite_sound
    | with_reducible apply Block.trcQual_sound
    | with_reducible apply Block.qualRestart_sound
    | with_reducible apply Block.qualStep_sound
    | split

theorem Block.qualWrite_sound {b : Block} (q : Nat) (reg : Nat) (v : Word) (hS : b.Sound) : (Block.qualWrite b q reg v).Sound := by
  unfold Block.qualWrite
  repeat' first
    | with_reducible assumption
    | (extract_lets +onlyGivenNames z; refine Block.Sound.cut z ?_ (fun hz => ?_); (on_goal 2 => clear_value z); (on_goal 1 => subst z))
    | (extract_lets +onlyGivenNames z; subst z)
    | with_reducible apply Block.ite_sound
    | with_reducible apply Block.clrReg_sound
    | with_reducible apply Block.writeCodes_sound
    | with_reducible apply Block.qualRestart_sound

theorem Block.modTrg_sound {b : Block} (t : Nat) (f : TrgOut → TrgOut) (hS : b.Sound) : (Block.modTrg b t f).Sound := by
  unfold Block.modTrg
  repeat' first
    | (extract_lets +onlyGivenNames z; subst z)
    | with_reducible apply Block.setFld_sound
    | ((with_reducible refine r1_ne ?_); rfl)
    | (simp only [Block.sound_mk]; refine ⟨?_, ?_, ?_, ?_, ?_, ?_, ?_, ?_, ?_⟩)
    | with_reducible exact Block.Sound.rf (by assumption)
    | with_reducible exact Block.Sound.far (by assumption)
    | with_reducible exact Block.Sound.ssp (by assumption)
    | with_reducible exact Block.Sound.log (by assumption)
    | with_reducible exact Block.Sound.audit (by assumption)
    | with_reducible exact Block.Sound.vpt (by assumption)
    | with_reducible exact Block.Sound.sub (by assumption)
    | with_reducible exact Block.Sound.s0 (by assumption)
    | with_reducible exact Block.Sound.s1 (by assumption)

theorem Block.trgEnter_sound {b : Block} (t : Nat) (st : Nat) (hS : b.Sound) : (Block.trgEnter b t st).Sound := by
  unfold Block.trgEnter
  repeat' first
    | with_reducible assumption
    | with_reducible apply Block.setFld_sound
    | ((with_reducible refine r1_ne ?_); rfl)

theorem Block.trgFire_sound {b : Block} (p : Nat) (t : Nat) (f : Nat) (hS : b.Sound) : (Block.trgFire b p t f).Sound := by
  unfold Block.trgFire
  repeat' first
    | with_reducible assumption
    | (extract_lets +onlyGivenNames z; refine Block.Sound.cut z ?_ (fun hz => ?_); (on_goal 2 => clear_value z); (on_goal 1 => subst z))
    | (extract_lets +onlyGivenNames z; subst z)
    | with_reducible apply Block.ite_sound
    | with_reducible apply Block.setReg_sound
    | with_reducible apply Block.setBit_sound
    | with_reducible apply Block.raise_sound
    | with_reducible apply Block.freezeTarget_sound
    | with_reducible apply Block.evoDrive_sound
    | with_reducible apply Block.trcFire_sound
    | with_reducible apply Block.modTrg_sound
    | with_reducible apply Block.trgEnter_sound
    | ((with_reducible refine r1_ne ?_); rfl)

theorem Block.trgCount_sound {b : Block} (p : Nat) (t : Nat) (n : Nat) (hS : b.Sound) : (Block.trgCount b p t n).Sound := by
  unfold Block.trgCount
  repeat' first
    | with_reducible assumption
    | (extract_lets +onlyGivenNames z; refine Block.Sound.cut z ?_ (fun hz => ?_); (on_goal 2 => clear_value z); (on_goal 1 => subst z))
    | (extract_lets +onlyGivenNames z; subst z)
    | with_reducible apply Block.ite_sound
    | with_reducible apply Block.modTrg_sound
    | with_reducible apply Block.trgEnter_sound
    | with_reducible apply Block.trgFire_sound

theorem Block.trgEval_sound {b : Block} (p : Nat) (t : Nat) (e : DcHit) (hS : b.Sound) : (Block.trgEval b p t e).Sound := by
  unfold Block.trgEval
  repeat' first
    | with_reducible assumption
    | (extract_lets +onlyGivenNames z; refine Block.Sound.cut z ?_ (fun hz => ?_); (on_goal 2 => clear_value z); (on_goal 1 => subst z))
    | (extract_lets +onlyGivenNames z; subst z)
    | with_reducible apply Block.ite_sound
    | with_reducible apply Block.modTrg_sound
    | with_reducible apply Block.trgFire_sound
    | with_reducible apply Block.trgCount_sound

theorem Block.trgEvalAll_sound {b : Block} (p : Nat) (hS : b.Sound) : (Block.trgEvalAll b p).Sound := by
  unfold Block.trgEvalAll
  repeat' first
    | with_reducible assumption
    | (extract_lets +onlyGivenNames z; refine Block.Sound.cut z ?_ (fun hz => ?_); (on_goal 2 => clear_value z); (on_goal 1 => subst z))
    | (extract_lets +onlyGivenNames z; subst z)
    | with_reducible apply Block.modPart_sound
    | with_reducible apply Block.trgEval_sound
    | with_reducible apply Block.forEach_sound
    | (intro z hz hy)

theorem Block.noteHit_sound {b : Block} (p : Nat) (dc : Nat) (hit : Bool) (hS : b.Sound) : (Block.noteHit b p dc hit).Sound := by
  unfold Block.noteHit
  repeat' first
    | with_reducible assumption
    | with_reducible apply Block.modPart_sound

theorem Block.hitArrive_sound {b : Block} (p : Nat) (dc : Nat) (hS : b.Sound) : (Block.hitArrive b p dc).Sound := by
  unfold Block.hitArrive
  repeat' first
    | with_reducible assumption
    | with_reducible apply Block.modPart_sound
    | with_reducible apply Block.trgEvalAll_sound

theorem Block.trgSpring_sound {b : Block} (p : Nat) (hS : b.Sound) : (Block.trgSpring b p).Sound := by
  unfold Block.trgSpring
  repeat' first
    | with_reducible assumption
    | with_reducible apply Block.modTrg_sound
    | with_reducible apply Block.forEach_sound
    | (intro z hz hy)

theorem Block.pinReport_sound {b : Block} (p : Nat) (r : PinReport) (hS : b.Sound) : (Block.pinReport b p r).Sound := by
  unfold Block.pinReport
  repeat' first
    | with_reducible assumption
    | (extract_lets +onlyGivenNames z; refine Block.Sound.cutP z ?_ (fun hz => ?_); (on_goal 2 => clear_value z); (on_goal 1 => subst z))
    | (extract_lets +onlyGivenNames z; subst z)
    | with_reducible apply Block.modPart_sound
    | with_reducible apply Block.qualSample_sound
    | with_reducible apply Block.trgEvalAll_sound
    | (intro z hz hy)
    | with_reducible apply Block.foldl1_sound

theorem Block.pinSettle_sound {b : Block} (p : Nat) (hS : b.Sound) : (Block.pinSettle b p).Sound := by
  unfold Block.pinSettle
  repeat' first
    | with_reducible assumption
    | (extract_lets +onlyGivenNames z; subst z)
    | with_reducible apply Block.modPart_sound
    | with_reducible apply Block.pinReport_sound
    | with_reducible apply Block.forEach_sound
    | (intro z hz hy)

theorem Block.pinArrive_sound {b : Block} (p : Nat) (r : PinReport) (hS : b.Sound) : (Block.pinArrive b p r).Sound := by
  unfold Block.pinArrive
  repeat' first
    | with_reducible assumption
    | with_reducible apply Block.modPart_sound
    | with_reducible apply Block.pinSettle_sound

theorem Block.trgArm_sound {b : Block} (t : Nat) (hS : b.Sound) : (Block.trgArm b t).Sound := by
  unfold Block.trgArm
  repeat' first
    | with_reducible assumption
    | with_reducible apply Block.ite_sound
    | with_reducible apply Block.modTrg_sound
    | with_reducible apply Block.trgEnter_sound
    | split

theorem Block.trgIdle_sound {b : Block} (t : Nat) (hS : b.Sound) : (Block.trgIdle b t).Sound := by
  unfold Block.trgIdle
  repeat' first
    | with_reducible assumption
    | with_reducible apply Block.modTrg_sound
    | with_reducible apply Block.trgEnter_sound

theorem Block.trgForce_sound {b : Block} (t : Nat) (hS : b.Sound) : (Block.trgForce b t).Sound := by
  unfold Block.trgForce
  repeat' first
    | with_reducible assumption
    | with_reducible apply Block.ite_sound
    | with_reducible apply Block.modTrg_sound

theorem Block.trgCmd_sound {b : Block} (t : Nat) (v : Word) (hS : b.Sound) : (Block.trgCmd b t v).Sound := by
  unfold Block.trgCmd
  repeat' first
    | with_reducible assumption
    | (extract_lets +onlyGivenNames z; subst z)
    | with_reducible apply Block.ite_sound
    | with_reducible apply Block.trgArm_sound
    | with_reducible apply Block.trgIdle_sound
    | with_reducible apply Block.trgForce_sound

theorem Block.trgOwn_sound {b : Block} (t : Nat) (v : Word) (hS : b.Sound) : (Block.trgOwn b t v).Sound := by
  unfold Block.trgOwn
  repeat' first
    | with_reducible assumption
    | with_reducible apply Block.setReg_sound
    | with_reducible apply Block.trgIdle_sound
    | ((with_reducible refine r1_ne ?_); rfl)

theorem Block.fireTsRead_sound {b : Block} (t : Nat) (hS : b.Sound) : (Block.fireTsRead b t).1.Sound := by
  unfold Block.fireTsRead
  repeat' first
    | with_reducible assumption
    | (extract_lets +onlyGivenNames z; subst z)
    | with_reducible apply Block.setReg_sound
    | with_reducible apply Block.forEach_sound
    | ((with_reducible refine r2_ne ?_); rfl)
    | (intro z hz hy)

theorem Block.trgReset_sound {b : Block} (f : Option Nat → Bool) (hS : b.Sound) : (Block.trgReset b f).Sound := by
  unfold Block.trgReset
  repeat' first
    | with_reducible assumption
    | (extract_lets +onlyGivenNames z; refine Block.Sound.cut z ?_ (fun hz => ?_); (on_goal 2 => clear_value z); (on_goal 1 => subst z))
    | with_reducible apply Block.qualRestart_sound
    | with_reducible apply Block.trgIdle_sound
    | with_reducible apply Block.forEach_sound
    | (intro z hz hy)

end Sys2Proof.Machine
end

