-- ==== Sys2Proof/Laws/Sound/Vpt.lean ====
section
/-!
SUPPORT. The operations of Machine/Vpt.lean keep Block.Sound.
-/
namespace Sys2Proof.Machine

@[simp] theorem Vpt.putBlocks_tx (v : Vpt) (n : Nat) : (v.putBlocks n).tx = v.tx := by
  induction n generalizing v with
  | zero => rfl
  | succ n ih =>
    unfold Vpt.putBlocks
    split
    · rfl
    · exact (ih _).trans rfl

@[simp] theorem Vpt.sent_tx (v : Vpt) (f : VptFrame) : (v.sent f).tx = v.tx := Vpt.putBlocks_tx _ _

theorem Vpt.foldl_sent_tx (l : List VptFrame) (v : Vpt) : (l.foldl Vpt.sent v).tx = v.tx := by
  induction l generalizing v with
  | nil => rfl
  | cons f r ih => exact (ih _).trans (Vpt.sent_tx v f)

theorem Block.modVpt_sound {b : Block} (f : Vpt → Vpt) (hS : b.Sound) (hf : (f b.vpt).tx.length ≤ 16) : (Block.modVpt b f).Sound := by
  unfold Block.modVpt
  refine Block.setFld_sound ?_ _ _ _ (r0_ne rfl)
  exact (Block.sound_mk ..).mpr ⟨hS.rf, hS.far, hS.ssp, hS.log, hS.audit, hf, hS.sub, hS.set0, hS.set1⟩

theorem Block.vptErr_sound {b : Block} (f : Fld) (hS : b.Sound) : (Block.vptErr b f).Sound := by
  unfold Block.vptErr
  repeat' first
    | with_reducible assumption
    | (extract_lets +onlyGivenNames z; refine Block.Sound.cut z ?_ (fun hz => ?_); (on_goal 2 => clear_value z); (on_goal 1 => subst z))
    | (extract_lets +onlyGivenNames z; subst z)
    | with_reducible apply Block.ite_sound
    | with_reducible apply Block.setBit_sound
    | with_reducible apply Block.raiseIf_sound
    | with_reducible apply Block.modVpt_sound
    | ((with_reducible refine r0_ne ?_); rfl)
    | with_reducible exact Block.Sound.vpt (by assumption)

theorem Block.vptDiscard_sound {b : Block} (cnt : Fld) (hS : b.Sound) : (Block.vptDiscard b cnt).Sound := by
  unfold Block.vptDiscard
  repeat' first
    | with_reducible assumption
    | (extract_lets +onlyGivenNames z; refine Block.Sound.cut z ?_ (fun hz => ?_); (on_goal 2 => clear_value z); (on_goal 1 => subst z))
    | with_reducible apply Block.ite_sound
    | with_reducible apply Block.satFld_sound
    | with_reducible apply Block.raise_sound
    | with_reducible apply Block.modVpt_sound
    | with_reducible apply Block.vptErr_sound
    | ((with_reducible refine r0_ne ?_); rfl)
    | with_reducible exact Block.Sound.vpt (by assumption)

theorem Block.vptEnter_sound {b : Block} (st : Nat) (hS : b.Sound) : (Block.vptEnter b st).Sound := by
  unfold Block.vptEnter
  repeat' first
    | with_reducible assumption
    | (extract_lets +onlyGivenNames z; refine Block.Sound.cut z ?_ (fun hz => ?_); (on_goal 2 => clear_value z); (on_goal 1 => subst z))
    | (extract_lets +onlyGivenNames z; subst z)
    | with_reducible apply Block.setFld_sound
    | with_reducible apply Block.raiseIf_sound
    | with_reducible apply Block.modVpt_sound
    | ((with_reducible refine r0_ne ?_); rfl)
    | ((try dsimp only); with_reducible apply Block.Sound.vpt)

theorem Block.vptPush_sound {b : Block} (p : Nat) (f : VptFrame) (hS : b.Sound) (hn : b.vpt.tx.length < 16) : (Block.vptPush b p f).Sound := by
  refine Block.modPart_sound _ _ (Block.modVpt_sound _ hS ?_)
  simp only [List.length_append, List.length_cons, List.length_nil]
  omega

theorem Block.vptQueue_sound {b : Block} (p : Nat) (f : VptFrame) (hS : b.Sound) : (Block.vptQueue b p f).Sound := by
  unfold Block.vptQueue
  split
  · rename_i h
    exact Block.vptPush_sound _ _ hS h.2
  · exact hS

theorem Block.vptMust_sound {b : Block} (p : Nat) (f : VptFrame) (hS : b.Sound) : (Block.vptMust b p f).Sound := by
  unfold Block.vptMust
  split
  · exact hS
  · split
    · rename_i h
      exact Block.vptPush_sound _ _ hS h.1
    · exact Block.modVpt_sound _ hS hS.vpt

theorem Block.vptDue_sound {b : Block} (hS : b.Sound) : (Block.vptDue b).Sound := by
  unfold Block.vptDue
  split
  · split
    · rename_i h
      exact Block.vptPush_sound _ _ (Block.modVpt_sound _ hS hS.vpt) h
    · exact hS
  · exact hS

theorem Block.vptConfig_sound {b : Block} (hS : b.Sound) : (Block.vptConfig b).Sound := by
  unfold Block.vptConfig
  split
  · rename_i h
    refine Block.modVpt_sound _ hS ?_
    have := h.2.2
    simp only [List.length_append, List.length_cons, List.length_nil]
    omega
  · exact hS

theorem Block.vptDrain_sound {b : Block} (hS : b.Sound) : (Block.vptDrain b).Sound := by
  unfold Block.vptDrain
  split
  · rename_i f r e
    refine Block.vptConfig_sound (Block.vptDue_sound (Block.modVpt_sound _ hS ?_))
    have := hS.vpt
    rw [e, List.length_cons] at this
    rw [Vpt.sent_tx]
    exact Nat.le_of_succ_le this
  · exact Block.ite_sound (Block.modVpt_sound _ hS (by rw [Vpt.sent_tx]; exact hS.vpt)) hS

theorem Block.vptHiz_sound {b : Block} (hS : b.Sound) : (Block.vptHiz b).Sound := by
  unfold Block.vptHiz
  split
  · refine Block.forEach_sound ?_ _ _ (fun p x hx => ?_)
    · exact Block.modVpt_sound _ hS (by rw [Vpt.foldl_sent_tx]; exact Nat.zero_le 16)
    · exact Block.modVpt_sound _ hx (by rw [Vpt.sent_tx]; exact hx.vpt)
  · exact hS

theorem Block.mapCheck_sound {b : Block} (p : Nat) (hS : b.Sound) : (Block.mapCheck b p).Sound := by
  unfold Block.mapCheck
  repeat' first
    | with_reducible assumption
    | (extract_lets +onlyGivenNames z; subst z)
    | with_reducible apply Block.ite_sound
    | with_reducible apply Block.setBit_sound
    | with_reducible apply Block.raise_sound
    | with_reducible apply Block.forEach_sound
    | ((with_reducible refine r1_ne ?_); rfl)
    | (intro z hz hy)

theorem Block.dropExpect_sound {b : Block} (p : Nat) (dc : Nat) (hS : b.Sound) : (Block.dropExpect b p dc).Sound := by
  unfold Block.dropExpect
  repeat' first
    | with_reducible assumption
    | with_reducible apply Block.modPart_sound

theorem Block.sampleMissing_sound {b : Block} (p : Nat) (dc : Nat) (hS : b.Sound) : (Block.sampleMissing b p dc).Sound := by
  unfold Block.sampleMissing
  repeat' first
    | with_reducible assumption
    | (extract_lets +onlyGivenNames z; subst z)
    | with_reducible apply Block.satFld_sound
    | with_reducible apply Block.raiseIf_sound
    | with_reducible apply Block.pinArrive_sound
    | with_reducible apply Block.vptErr_sound
    | with_reducible apply Block.dropExpect_sound
    | ((with_reducible refine r1_ne ?_); rfl)

theorem Block.vptEquinox_sound {b : Block} (p : Nat) (dc : Nat) (s : VptSample) (hS : b.Sound) : (Block.vptEquinox b p dc s).Sound := by
  unfold Block.vptEquinox
  repeat' first
    | with_reducible assumption
    | (extract_lets +onlyGivenNames z; refine Block.Sound.cut z ?_ (fun hz => ?_); (on_goal 2 => clear_value z); (on_goal 1 => subst z))
    | (extract_lets +onlyGivenNames z; subst z)
    | with_reducible apply Block.ite_sound
    | with_reducible apply Block.satFld_sound
    | with_reducible apply Block.modPart_sound
    | with_reducible apply Block.raise_sound
    | with_reducible apply Block.vptErr_sound
    | with_reducible apply Block.vptQueue_sound
    | with_reducible apply Block.sampleMissing_sound
    | with_reducible apply Block.forEach_sound
    | ((with_reducible refine r0_ne ?_); rfl)
    | (intro z hz hy)

theorem Block.firstFail_sound {b : Block} (p : Nat) (dc : Nat) (ch : Nat) (exp : Nat) (cls : Nat) (hS : b.Sound) : (Block.firstFail b p dc ch exp cls).Sound := by
  unfold Block.firstFail
  repeat' first
    | with_reducible assumption
    | (extract_lets +onlyGivenNames z; subst z)
    | with_reducible apply Block.ite_sound
    | with_reducible apply Block.setReg_sound
    | with_reducible apply Block.setFld_sound
    | with_reducible apply Block.setBit_sound
    | with_reducible apply Block.raise_sound
    | ((with_reducible refine r1_ne ?_); rfl)

theorem Block.smpCompare_sound {b : Block} (f : VptFrame) (e : Expect) (hS : b.Sound) : (Block.smpCompare b f e).Sound := by
  unfold Block.smpCompare
  repeat' first
    | with_reducible assumption
    | (extract_lets +onlyGivenNames z; refine Block.Sound.cut z ?_ (fun hz => ?_); (on_goal 2 => clear_value z); (on_goal 1 => subst z))
    | (extract_lets +onlyGivenNames z; subst z)
    | with_reducible apply Block.ite_sound
    | with_reducible apply Block.satFld_sound
    | with_reducible apply Block.pinArrive_sound
    | with_reducible apply Block.dropExpect_sound
    | with_reducible apply Block.firstFail_sound
    | with_reducible apply Block.forEach_sound
    | ((with_reducible refine r1_ne ?_); rfl)
    | (intro z hz hy)
    | split

theorem Block.smpFrame_sound {b : Block} (f : VptFrame) (hS : b.Sound) : (Block.smpFrame b f).Sound := by
  unfold Block.smpFrame
  repeat' first
    | with_reducible assumption
    | (extract_lets +onlyGivenNames z; subst z)
    | with_reducible apply Block.ite_sound
    | with_reducible apply Block.modVpt_sound
    | with_reducible apply Block.vptErr_sound
    | with_reducible apply Block.vptDiscard_sound
    | with_reducible apply Block.smpCompare_sound
    | ((try dsimp only); with_reducible apply Block.Sound.vpt)
    | split

theorem Block.vptDown_sound {b : Block} (st : Nat) (hS : b.Sound) : (Block.vptDown b st).Sound := by
  unfold Block.vptDown
  repeat' first
    | with_reducible assumption
    | with_reducible apply Block.modVpt_sound
    | with_reducible apply Block.vptEnter_sound
    | exact Nat.zero_le 16

theorem Block.vptCtrl_sound {b : Block} (v : Word) (hS : b.Sound) : (Block.vptCtrl b v).Sound := by
  unfold Block.vptCtrl
  repeat' first
    | with_reducible assumption
    | (extract_lets +onlyGivenNames z; refine Block.Sound.cut z ?_ (fun hz => ?_); (on_goal 2 => clear_value z); (on_goal 1 => subst z))
    | with_reducible apply Block.ite_sound
    | with_reducible apply Block.setReg_sound
    | with_reducible apply Block.vptEnter_sound
    | with_reducible apply Block.vptHiz_sound
    | with_reducible apply Block.vptDown_sound
    | ((with_reducible refine r0_ne ?_); rfl)

theorem Block.vptFollow_sound {b : Block} (hS : b.Sound) : (Block.vptFollow b).Sound := by
  unfold Block.vptFollow
  repeat' first
    | with_reducible assumption
    | with_reducible apply Block.ite_sound
    | with_reducible apply Block.vptEnter_sound
    | with_reducible apply Block.vptDown_sound

theorem Block.firstClear_sound {b : Block} (p : Nat) (v : Word) (hS : b.Sound) : (Block.firstClear b p v).Sound := by
  unfold Block.firstClear
  repeat' first
    | with_reducible assumption
    | with_reducible apply Block.ite_sound
    | with_reducible apply Block.clrReg_sound

theorem Block.vptOwn_sound {b : Block} (ch : Nat) (v : Word) (hS : b.Sound) : (Block.vptOwn b ch v).Sound := by
  unfold Block.vptOwn
  repeat' first
    | with_reducible assumption
    | (extract_lets +onlyGivenNames z; refine Block.Sound.cut z ?_ (fun hz => ?_); (on_goal 2 => clear_value z); (on_goal 1 => subst z))
    | (extract_lets +onlyGivenNames z; subst z)
    | with_reducible apply Block.ite_sound
    | with_reducible apply Block.setReg_sound
    | with_reducible apply Block.modPart_sound
    | with_reducible apply Block.modVpt_sound
    | with_reducible apply Block.vptErr_sound
    | with_reducible apply Block.vptConfig_sound
    | ((with_reducible refine r1_ne ?_); rfl)
    | ((try dsimp only); with_reducible apply Block.Sound.vpt)
    | split

theorem Block.vptSpring_sound {b : Block} (p : Nat) (running : Bool) (hS : b.Sound) : (Block.vptSpring b p running).Sound := by
  unfold Block.vptSpring
  repeat' first
    | with_reducible assumption
    | (extract_lets +onlyGivenNames z; refine Block.Sound.cut z ?_ (fun hz => ?_); (on_goal 2 => clear_value z); (on_goal 1 => subst z))
    | (extract_lets +onlyGivenNames z; subst z)
    | with_reducible apply Block.ite_sound
    | with_reducible apply Block.modPart_sound
    | with_reducible apply Block.vptMust_sound
    | with_reducible apply Block.mapCheck_sound

theorem Block.vptPartReset_sound {b : Block} (p : Nat) (hS : b.Sound) : (Block.vptPartReset b p).Sound := by
  unfold Block.vptPartReset
  repeat' first
    | with_reducible assumption
    | (extract_lets +onlyGivenNames z; refine Block.Sound.cut z ?_ (fun hz => ?_); (on_goal 2 => clear_value z); (on_goal 1 => subst z))
    | with_reducible apply Block.clrFld_sound
    | with_reducible apply Block.modPart_sound
    | with_reducible apply Block.forEach_sound
    | with_reducible apply Block.clrReg_foldl_sound
    | ((with_reducible refine r1_ne ?_); rfl)
    | (intro z hz hy)

theorem Block.vptWarm_sound {b : Block} (hS : b.Sound) : (Block.vptWarm b).Sound := by
  unfold Block.vptWarm
  extract_lets b1 b2
  have h2 : b2.Sound := Block.clrRegs_sound (Block.vptDown_sound _ (Block.vptHiz_sound hS)) _
  clear_value b2
  have g : ∀ (l : List (RegKey × BitVec 32)), (∀ e ∈ l, e.1.name ≠ .CTL_ID) → ∀ x : Block, x.Sound →
      (forEach l x (fun e x => x.clrFld e.1 F.VPT_CHc_STAT_FAILS)).Sound := by
    intro l
    induction l with
    | nil => intro _ x hx; exact hx
    | cons a r ih =>
      intro hl x hx
      exact ih (fun e he => hl e (List.mem_cons_of_mem _ he)) _ (Block.clrFld_sound hx _ _ (hl a (List.mem_cons_self ..)))
  refine g _ (fun e he => ?_) _ h2
  have := (List.mem_filter.mp he).2
  have e2 : e.1.name = .VPT_CHc_STAT := by simpa using this
  rw [e2]
  exact RegName.ne_ctlId rfl

end Sys2Proof.Machine
end

