-- ==== Sys2Proof/Laws/Sound/Cfg.lean ====
section
/-!
SUPPORT. The operations of Machine/Cfg.lean keep Block.Sound.
-/
namespace Sys2Proof.Machine

theorem Block.modCfg_sound {b : Block} (f : Cfg → Cfg) (hS : b.Sound) : (Block.modCfg b f).Sound := by
  unfold Block.modCfg
  repeat' first
    | (simp only [Block.sound_mk]; refine ⟨?_, ?_, ?_, ?_, ?_, ?_, ?_, ?_, ?_⟩)
    | with_reducible exact Block.Sound.rf (by assumption)
    | with_reducible exact Block.Sound.far (by assumption)
    | with_reducible exact Block.Sound.ssp (by assumption)
    | with_reducible exact Block.Sound.log (by assumption)
    | with_reducible exact Block.Sound.audit (by assumption)
    | with_reducible exact Block.Sound.vpt (by assumption)
    | with_reducible exact Block.Sound.sub (by assumption)
    | with_reducible exact Block.Sound.s0 (by assumption)
    | with_reducible exact Block.Sound.s1 (by assumption)

theorem Block.cfgEnter_sound {b : Block} (st : Nat) (hS : b.Sound) : (Block.cfgEnter b st).Sound := by
  unfold Block.cfgEnter
  repeat' first
    | with_reducible assumption
    | with_reducible apply Block.setFld_sound
    | ((with_reducible refine r0_ne ?_); rfl)

theorem Block.auditLoad_sound {b : Block} (typ : Nat) (res : Nat) (hS : b.Sound) : (Block.auditLoad b typ res).Sound := by
  unfold Block.auditLoad
  repeat' first
    | with_reducible assumption
    | with_reducible apply Block.auditFull_sound

theorem Block.sendCfg_sound {b : Block} (n : Nat) (m : CfgMsg) (relay : Option Nat := none) (hS : b.Sound) : (Block.sendCfg b n m relay).Sound := by
  unfold Block.sendCfg
  repeat' first
    | with_reducible assumption
    | with_reducible apply Block.ite_sound
    | with_reducible apply Block.enqueue_sound

theorem Block.forward_sound {b : Block} (m : CfgMsg) (relay : Option Nat := none) (hS : b.Sound) : (Block.forward b m relay).Sound := by
  unfold Block.forward
  repeat' first
    | with_reducible assumption
    | with_reducible apply Block.sendCfg_sound
    | with_reducible apply Block.forEach_sound
    | (intro z hz hy)

theorem Block.relayHold_sound {b : Block} (n : Nat) (k : Nat) (flits : Nat) (hS : b.Sound) : (Block.relayHold b n k flits).Sound := by
  unfold Block.relayHold
  repeat' first
    | with_reducible assumption
    | with_reducible apply Block.modCfg_sound

theorem Block.reportUp_sound {b : Block} (hS : b.Sound) : (Block.reportUp b).Sound := by
  unfold Block.reportUp
  repeat' first
    | with_reducible assumption
    | (extract_lets +onlyGivenNames z; refine Block.Sound.cut z ?_ (fun hz => ?_); (on_goal 2 => clear_value z); (on_goal 1 => subst z))
    | (extract_lets +onlyGivenNames z; subst z)
    | with_reducible apply Block.ite_sound
    | with_reducible apply Block.setReg_sound
    | with_reducible apply Block.raise_sound
    | with_reducible apply Block.modCfg_sound
    | with_reducible apply Block.sendCfg_sound
    | ((with_reducible refine r0_ne ?_); rfl)
    | split

theorem Block.loadEnded_sound {b : Block} (hS : b.Sound) : (Block.loadEnded b).Sound := by
  unfold Block.loadEnded
  repeat' first
    | with_reducible assumption
    | with_reducible apply Block.ite_sound
    | with_reducible apply Block.modCfg_sound
    | with_reducible apply Block.reportUp_sound

theorem Block.fanReport_sound {b : Block} (n : Nat) (f : FanReport) (hS : b.Sound) : (Block.fanReport b n f).Sound := by
  unfold Block.fanReport
  repeat' first
    | with_reducible assumption
    | with_reducible apply Block.ite_sound
    | with_reducible apply Block.proto_sound
    | with_reducible apply Block.modCfg_sound
    | with_reducible apply Block.reportUp_sound

theorem Block.unload_sound {b : Block} (p : Nat) (hS : b.Sound) : (Block.unload b p).Sound := by
  unfold Block.unload
  repeat' first
    | with_reducible assumption
    | (extract_lets +onlyGivenNames z; subst z)
    | with_reducible apply Block.setReg_sound
    | ((with_reducible refine r1_ne ?_); rfl)

theorem Block.cfgErrPin_sound {b : Block} (v : Bool) (hS : b.Sound) : (Block.cfgErrPin b v).Sound := by
  unfold Block.cfgErrPin
  repeat' first
    | with_reducible assumption
    | (extract_lets +onlyGivenNames z; refine Block.Sound.cut z ?_ (fun hz => ?_); (on_goal 2 => clear_value z); (on_goal 1 => subst z))
    | (extract_lets +onlyGivenNames z; subst z)
    | with_reducible apply Block.setFld_sound
    | ((with_reducible refine r0_ne ?_); rfl)
    | (simp only [Block.sound_mk]; refine ⟨?_, ?_, ?_, ?_, ?_, ?_, ?_, ?_, ?_⟩)
    | with_reducible exact Block.Sound.rf (by assumption)
    | with_reducible exact Block.Sound.far (by assumption)
    | with_reducible exact Block.Sound.ssp (by assumption)
    | with_reducible exact Block.Sound.log (by assumption)
    | with_reducible exact Block.Sound.audit (by assumption)
    | with_reducible exact Block.Sound.vpt (by assumption)
    | with_reducible exact Block.Sound.sub (by assumption)
    | with_reducible exact Block.Sound.s0 (by assumption)
    | with_reducible exact Block.Sound.s1 (by assumption)

theorem Block.loadFail_sound {b : Block} (status : Nat) (frame : Nat) (hS : b.Sound) : (Block.loadFail b status frame).Sound := by
  unfold Block.loadFail
  repeat' first
    | with_reducible assumption
    | (extract_lets +onlyGivenNames z; refine Block.Sound.cut z ?_ (fun hz => ?_); (on_goal 2 => clear_value z); (on_goal 1 => subst z))
    | with_reducible apply Block.setReg_sound
    | with_reducible apply Block.setFld_sound
    | with_reducible apply Block.raise_sound
    | with_reducible apply Block.modCfg_sound
    | with_reducible apply Block.cfgEnter_sound
    | with_reducible apply Block.auditLoad_sound
    | with_reducible apply Block.loadEnded_sound
    | with_reducible apply Block.unload_sound
    | with_reducible apply Block.cfgErrPin_sound
    | with_reducible apply Block.forEach_sound
    | ((with_reducible refine r0_ne ?_); rfl)
    | (intro z hz hy)

theorem Block.starve_sound {b : Block} (hS : b.Sound) : (Block.starve b).Sound := by
  unfold Block.starve
  repeat' first
    | with_reducible assumption
    | with_reducible apply Block.ite_sound
    | with_reducible apply Block.loadFail_sound

theorem Block.endOfStream_sound {b : Block} (hS : b.Sound) : (Block.endOfStream b).Sound := by
  unfold Block.endOfStream
  repeat' first
    | with_reducible assumption
    | with_reducible apply Block.ite_sound
    | with_reducible apply Block.modCfg_sound
    | with_reducible apply Block.starve_sound

theorem Block.takeBytes_sound {b : Block} (l : List Byte) (hS : b.Sound) : (Block.takeBytes b l).Sound := by
  unfold Block.takeBytes
  repeat' first
    | with_reducible assumption
    | with_reducible apply Block.ite_sound
    | with_reducible apply Block.setBit_sound
    | with_reducible apply Block.modCfg_sound
    | ((with_reducible refine r0_ne ?_); rfl)

theorem Block.cfgStart_sound {b : Block} (r : Requester) (hS : b.Sound) : (Block.cfgStart b r).Sound := by
  unfold Block.cfgStart
  repeat' first
    | with_reducible assumption
    | (extract_lets +onlyGivenNames z; refine Block.Sound.cut z ?_ (fun hz => ?_); (on_goal 2 => clear_value z); (on_goal 1 => subst z))
    | (extract_lets +onlyGivenNames z; subst z)
    | with_reducible apply Block.ite_sound
    | with_reducible apply Block.setBit_sound
    | with_reducible apply Block.modCfg_sound
    | with_reducible apply Block.cfgEnter_sound
    | with_reducible apply Block.auditLoad_sound
    | with_reducible apply Block.cfgErrPin_sound
    | with_reducible apply Block.clrReg_foldl_sound
    | ((with_reducible refine r0_ne ?_); rfl)

theorem Block.cfgClrErr_sound {b : Block} (hS : b.Sound) : (Block.cfgClrErr b).Sound := by
  unfold Block.cfgClrErr
  repeat' first
    | with_reducible assumption
    | with_reducible apply Block.cfgErrPin_sound

theorem Block.cfgWrite_sound {b : Block} (r : Requester) (v : Word) (f : Block → Block) (hS : b.Sound) (hf_f : ∀ x, x.Sound → (f x).Sound) : (Block.cfgWrite b r v f).Sound := by
  unfold Block.cfgWrite
  repeat' first
    | with_reducible assumption
    | with_reducible apply Block.hostWrite_sound

theorem Block.endStream_sound {b : Block} (r : Requester) (hS : b.Sound) : (Block.endStream b r).Sound := by
  unfold Block.endStream
  repeat' first
    | with_reducible assumption
    | with_reducible apply Block.ite_sound
    | with_reducible apply Block.forward_sound
    | with_reducible apply Block.endOfStream_sound

theorem Block.streamWrite_sound {b : Block} (r : Requester) (off : Nat) (l : List Byte) (hS : b.Sound) : (Block.streamWrite b r off l).Sound := by
  unfold Block.streamWrite
  repeat' first
    | with_reducible assumption
    | with_reducible apply Block.ite_sound
    | with_reducible apply Block.auditRefused_sound
    | with_reducible apply Block.forward_sound
    | with_reducible apply Block.takeBytes_sound

theorem Block.endMarkIn_sound {b : Block} (n : Nat) (hS : b.Sound) : (Block.endMarkIn b n).Sound := by
  unfold Block.endMarkIn
  repeat' first
    | with_reducible assumption
    | (extract_lets +onlyGivenNames z; refine Block.Sound.cut z ?_ (fun hz => ?_); (on_goal 2 => clear_value z); (on_goal 1 => subst z))
    | with_reducible apply Block.ite_sound
    | with_reducible apply Block.proto_sound
    | with_reducible apply Block.forward_sound
    | with_reducible apply Block.endOfStream_sound

theorem Block.streamIn_sound {b : Block} (n : Nat) (l : List Byte) (hS : b.Sound) : (Block.streamIn b n l).Sound := by
  unfold Block.streamIn
  repeat' first
    | with_reducible assumption
    | (extract_lets +onlyGivenNames z; refine Block.Sound.cut z ?_ (fun hz => ?_); (on_goal 2 => clear_value z); (on_goal 1 => subst z))
    | with_reducible apply Block.ite_sound
    | with_reducible apply Block.proto_sound
    | with_reducible apply Block.forward_sound
    | with_reducible apply Block.takeBytes_sound

theorem Block.relayDone_sound {b : Block} (hS : b.Sound) : (Block.relayDone b).Sound := by
  unfold Block.relayDone
  repeat' first
    | with_reducible assumption
    | with_reducible apply Block.free_sound
    | with_reducible apply Block.modCfg_sound
    | with_reducible apply Block.forEach_sound
    | (intro z hz hy)

theorem Block.upWatch_sound {b : Block} (f : Block → Block) (hS : b.Sound) (hf_f : ∀ x, x.Sound → (f x).Sound) : (Block.upWatch b f).Sound := by
  unfold Block.upWatch
  repeat' first
    | with_reducible assumption
    | (extract_lets +onlyGivenNames z; refine Block.Sound.cut z ?_ (fun hz => ?_); (on_goal 2 => clear_value z); (on_goal 1 => subst z))
    | with_reducible apply Block.ite_sound
    | with_reducible apply Block.forward_sound
    | with_reducible apply Block.endOfStream_sound
    | with_reducible apply hf_f
    | split

theorem Block.faultX_sound {b : Block} (cls : Nat) (unit : Nat) (clocks : Bool) (hS : b.Sound) : (Block.faultX b cls unit clocks).Sound := by
  unfold Block.faultX
  repeat' first
    | with_reducible assumption
    | (extract_lets +onlyGivenNames z; refine Block.Sound.cut z ?_ (fun hz => ?_); (on_goal 2 => clear_value z); (on_goal 1 => subst z))
    | with_reducible apply Block.ite_sound
    | with_reducible apply Block.faultStop_sound
    | with_reducible apply Block.faultEntry_sound
    | with_reducible apply Block.linkDown_sound
    | with_reducible apply Block.deliberateDown_sound
    | with_reducible apply Block.vptHiz_sound
    | with_reducible apply Block.upWatch_sound
    | with_reducible apply Block.forEach_sound
    | (intro z hz hy)
    | (intro z hz)

theorem Block.keyUse_sound {b : Block} (bad : Bool) (hS : b.Sound) : (Block.keyUse b bad).Sound := by
  unfold Block.keyUse
  repeat' first
    | with_reducible assumption
    | (extract_lets +onlyGivenNames z; subst z)
    | with_reducible apply Block.ite_sound
    | with_reducible apply Block.clrFld_sound
    | with_reducible apply Block.raise_sound
    | with_reducible apply Block.faultX_sound
    | ((with_reducible refine r0_ne ?_); rfl)
    | (simp only [Block.sound_mk]; refine ⟨?_, ?_, ?_, ?_, ?_, ?_, ?_, ?_, ?_⟩)
    | with_reducible exact Block.Sound.rf (by assumption)
    | with_reducible exact Block.Sound.far (by assumption)
    | with_reducible exact Block.Sound.ssp (by assumption)
    | with_reducible exact Block.Sound.log (by assumption)
    | with_reducible exact Block.Sound.audit (by assumption)
    | with_reducible exact Block.Sound.vpt (by assumption)
    | with_reducible exact Block.Sound.sub (by assumption)
    | with_reducible exact Block.Sound.s0 (by assumption)
    | with_reducible exact Block.Sound.s1 (by assumption)

theorem Block.auth_sound {b : Block} (hS : b.Sound) : (Block.auth b).Sound := by
  unfold Block.auth
  repeat' first
    | with_reducible assumption
    | with_reducible apply Block.ite_sound
    | with_reducible apply Block.modCfg_sound
    | with_reducible apply Block.cfgEnter_sound
    | with_reducible apply Block.loadFail_sound
    | with_reducible apply Block.starve_sound
    | split

theorem Block.imageHeader_sound {b : Block} (bad : Bool) (hS : b.Sound) : (Block.imageHeader b bad).Sound := by
  unfold Block.imageHeader
  repeat' first
    | with_reducible assumption
    | (extract_lets +onlyGivenNames z; refine Block.Sound.cut z ?_ (fun hz => ?_); (on_goal 2 => clear_value z); (on_goal 1 => subst z))
    | with_reducible apply Block.ite_sound
    | with_reducible apply Block.modCfg_sound
    | with_reducible apply Block.cfgEnter_sound
    | with_reducible apply Block.loadFail_sound
    | with_reducible apply Block.keyUse_sound
    | with_reducible apply Block.auth_sound
    | split

theorem Block.springClu_sound {b : Block} (p : Nat) (c : Nat) (hS : b.Sound) : (Block.springClu b p c).Sound := by
  unfold Block.springClu
  repeat' first
    | with_reducible assumption
    | (extract_lets +onlyGivenNames z; refine Block.Sound.cut z ?_ (fun hz => ?_); (on_goal 2 => clear_value z); (on_goal 1 => subst z))
    | with_reducible apply Block.setReg_sound
    | with_reducible apply Block.clrFld_sound
    | with_reducible apply Block.clrReg_sound
    | with_reducible apply Block.modClu_sound
    | with_reducible apply Block.spEffect_sound
    | with_reducible apply Block.sentPut_sound
    | with_reducible apply Block.seqInit_sound
    | with_reducible apply Block.forEach_sound
    | ((with_reducible refine r1_ne ?_); rfl)
    | ((with_reducible refine r2_ne ?_); rfl)
    | (intro z hz hy)

theorem Block.springPart_sound {b : Block} (p : Nat) (hS : b.Sound) : (Block.springPart b p).Sound := by
  unfold Block.springPart
  repeat' first
    | with_reducible assumption
    | (extract_lets +onlyGivenNames z; refine Block.Sound.cut z ?_ (fun hz => ?_); (on_goal 2 => clear_value z); (on_goal 1 => subst z))
    | (extract_lets +onlyGivenNames z; subst z)
    | with_reducible apply Block.ite_sound
    | with_reducible apply Block.setBit_sound
    | with_reducible apply Block.clrFld_sound
    | with_reducible apply Block.modPart_sound
    | with_reducible apply Block.raiseGroups_sound
    | with_reducible apply Block.margin_sound
    | with_reducible apply Block.trcSpring_sound
    | with_reducible apply Block.trgSpring_sound
    | with_reducible apply Block.vptSpring_sound
    | with_reducible apply Block.springClu_sound
    | with_reducible apply Block.forEach_sound
    | with_reducible apply Block.clrReg_foldl_sound
    | ((with_reducible refine r1_ne ?_); rfl)
    | (intro z hz hy)

theorem Block.springCommit_sound {b : Block} (hS : b.Sound) : (Block.springCommit b).Sound := by
  unfold Block.springCommit
  repeat' first
    | with_reducible assumption
    | (extract_lets +onlyGivenNames z; subst z)
    | with_reducible apply Block.ite_sound
    | with_reducible apply Block.setBit_sound
    | with_reducible apply Block.raise_sound
    | with_reducible apply Block.cfgEnter_sound
    | with_reducible apply Block.auditLoad_sound
    | with_reducible apply Block.springPart_sound
    | with_reducible apply Block.forEach_sound
    | ((with_reducible refine r0_ne ?_); rfl)
    | (intro z hz hy)

theorem Block.cfgCommit_sound {b : Block} (r : Requester) (hS : b.Sound) : (Block.cfgCommit b r).Sound := by
  unfold Block.cfgCommit
  repeat' first
    | with_reducible assumption
    | with_reducible apply Block.ite_sound
    | with_reducible apply Block.auditRefused_sound
    | with_reducible apply Block.springCommit_sound

theorem Block.touch_sound {b : Block} (p : Nat) (hS : b.Sound) : (Block.touch b p).Sound := by
  unfold Block.touch
  repeat' first
    | with_reducible assumption
    | with_reducible apply Block.modCfg_sound

theorem Block.manFrame_sound {b : Block} (f : Frame) (hS : b.Sound) : (Block.manFrame b f).1.Sound := by
  unfold Block.manFrame
  repeat' first
    | with_reducible assumption
    | (extract_lets +onlyGivenNames z; refine Block.Sound.cut z ?_ (fun hz => ?_); (on_goal 2 => clear_value z); (on_goal 1 => subst z))
    | (extract_lets +onlyGivenNames z; subst z)
    | with_reducible apply Block.ite_sound
    | with_reducible apply Block.manRecord_sound
    | with_reducible apply Block.manInstall_sound
    | with_reducible apply Block.modCfg_sound
    | split

theorem Block.storeData_sound {b : Block} (c : Nat) (off : Nat) (l : List Byte) (hS : b.Sound) : (Block.storeData b c off l).1.Sound := by
  unfold Block.storeData
  repeat' first
    | with_reducible assumption
    | with_reducible apply Block.setClu_sound
    | with_reducible apply Block.manRecord_sound
    | split

theorem Block.storeFrame_sound {b : Block} (f : Frame) (hS : b.Sound) : (Block.storeFrame b f).1.Sound := by
  unfold Block.storeFrame
  repeat' first
    | with_reducible assumption
    | with_reducible apply Block.modCfg_sound
    | with_reducible apply Block.storeData_sound
    | split

theorem Block.fillFrame_sound {b : Block} (f : Frame) (hS : b.Sound) : (Block.fillFrame b f).1.Sound := by
  unfold Block.fillFrame
  repeat' first
    | with_reducible assumption
    | with_reducible apply Block.storeData_sound
    | split

theorem Block.setMasked_sound {b : Block} (k : RegKey) (v : Word) (hS : b.Sound) :
    (b.setReg k ((b.reg k &&& ~~~k.name.info.rwMask) ||| (v &&& k.name.info.rwMask))).Sound := by
  refine Block.setReg_sound_id hS k _ (fun e => ?_)
  subst e
  have h1 : (r0 .CTL_ID).name.info.rwMask = 0 := by decide
  have e : ~~~(0 : BitVec 32) = BitVec.allOnes 32 := by decide
  have f : v &&& 0 = 0 := BitVec.and_zero
  rw [h1, e, f, BitVec.and_allOnes, hS.id]
  decide

theorem Block.regsPair_sound {b : Block} (c off : Nat) (v : Word) (hS : b.Sound) : OptSound (Block.regsPair b c off v) := by
  unfold Block.regsPair
  split
  · split
    · exact OptSound.some (Block.setMasked_sound _ _ hS)
    · exact OptSound.none
  · exact OptSound.none

theorem Block.regsFrame_sound {b : Block} (f : Frame) (hS : b.Sound) : (Block.regsFrame b f).1.Sound := by
  unfold Block.regsFrame
  split
  · split
    · rename_i y e
      split
      · exact OptSound.foldl (OptSound.some hS) (fun z i hz => hz.bind (fun y hy => Block.regsPair_sound _ _ _ hy)) y e
      · exact hS
    · exact hS
  · exact hS

theorem Block.queueFrame_sound {b : Block} (f : Frame) (hS : b.Sound) : (Block.queueFrame b f).1.Sound := by
  unfold Block.queueFrame
  repeat' first
    | with_reducible assumption
    | (extract_lets +onlyGivenNames z; subst z)
    | with_reducible apply Block.modClu_sound
    | split

theorem Block.endFrame_sound {b : Block} (f : Frame) (hS : b.Sound) : (Block.endFrame b f).Sound := by
  unfold Block.endFrame
  repeat' first
    | with_reducible assumption
    | (extract_lets +onlyGivenNames z; refine Block.Sound.cut z ?_ (fun hz => ?_); (on_goal 2 => clear_value z); (on_goal 1 => subst z))
    | (extract_lets +onlyGivenNames z; subst z)
    | with_reducible apply Block.ite_sound
    | with_reducible apply Block.setReg_sound
    | with_reducible apply Block.setBit_sound
    | with_reducible apply Block.modCfg_sound
    | with_reducible apply Block.cfgEnter_sound
    | with_reducible apply Block.auditLoad_sound
    | with_reducible apply Block.loadEnded_sound
    | with_reducible apply Block.loadFail_sound
    | with_reducible apply Block.springCommit_sound
    | with_reducible apply Block.forEach_sound
    | ((with_reducible refine r1_ne ?_); rfl)
    | ((with_reducible refine r0_ne ?_); rfl)
    | (intro z hz hy)

theorem Block.applyFrame_sound {b : Block} (f : Frame) (hS : b.Sound) : (Block.applyFrame b f).1.Sound := by
  unfold Block.applyFrame
  repeat' first
    | with_reducible assumption
    | with_reducible apply Block.modCfg_sound
    | with_reducible apply Block.manFrame_sound
    | with_reducible apply Block.storeFrame_sound
    | with_reducible apply Block.fillFrame_sound
    | with_reducible apply Block.regsFrame_sound
    | with_reducible apply Block.queueFrame_sound
    | split

theorem Block.frame_sound {b : Block} (t : Nat) (hS : b.Sound) : (Block.frame b t).Sound := by
  unfold Block.frame
  repeat' first
    | with_reducible assumption
    | (extract_lets +onlyGivenNames z; refine Block.Sound.cut z ?_ (fun hz => ?_); (on_goal 2 => clear_value z); (on_goal 1 => subst z))
    | (extract_lets +onlyGivenNames z; refine Block.Sound.cutP z ?_ (fun hz => ?_); (on_goal 2 => clear_value z); (on_goal 1 => subst z))
    | (extract_lets +onlyGivenNames z; subst z)
    | with_reducible apply Block.ite_sound
    | with_reducible apply Block.setReg_sound
    | with_reducible apply Block.modCfg_sound
    | with_reducible apply Block.loadFail_sound
    | with_reducible apply Block.starve_sound
    | with_reducible apply Block.touch_sound
    | with_reducible apply Block.endFrame_sound
    | with_reducible apply Block.applyFrame_sound
    | ((with_reducible refine r0_ne ?_); rfl)
    | split

theorem Block.runFrames_sound (n : Nat) {b : Block} (hS : b.Sound) : (Block.runFrames n b).Sound := by
  induction n generalizing b with
  | zero => exact hS
  | succ n ih =>
    unfold Block.runFrames
    exact Block.ite_sound (ih (Block.frame_sound _ hS)) hS

theorem Block.flashLoad_sound {b : Block} (t : Nat) (hS : b.Sound) : (Block.flashLoad b t).Sound := by
  unfold Block.flashLoad
  have h : ((b.setFld (r0 .CFG_SRC) F.CFG_SRC_SRC 2).cfgStart .hkc).Sound :=
    Block.cfgStart_sound _ (Block.setFld_sound hS _ _ _ (r0_ne rfl))
  exact Block.runFrames_sound _ (Block.starve_sound (Block.imageHeader_sound _ (Block.modCfg_sound _ h)))

theorem Block.scrubPassed_sound {b : Block} (c : Nat) (k : Nat) (hS : b.Sound) : (Block.scrubPassed b c k).Sound := by
  unfold Block.scrubPassed
  repeat' first
    | with_reducible assumption
    | (extract_lets +onlyGivenNames z; refine Block.Sound.cut z ?_ (fun hz => ?_); (on_goal 2 => clear_value z); (on_goal 1 => subst z))
    | with_reducible apply Block.ite_sound
    | with_reducible apply Block.setReg_sound
    | with_reducible apply Block.modClu_sound
    | ((with_reducible refine r0_ne ?_); rfl)
    | (simp only [Block.sound_mk]; refine ⟨?_, ?_, ?_, ?_, ?_, ?_, ?_, ?_, ?_⟩)
    | with_reducible exact Block.Sound.rf (by assumption)
    | with_reducible exact Block.Sound.far (by assumption)
    | with_reducible exact Block.Sound.ssp (by assumption)
    | with_reducible exact Block.Sound.log (by assumption)
    | with_reducible exact Block.Sound.audit (by assumption)
    | with_reducible exact Block.Sound.vpt (by assumption)
    | with_reducible exact Block.Sound.sub (by assumption)
    | with_reducible exact Block.Sound.s0 (by assumption)
    | with_reducible exact Block.Sound.s1 (by assumption)

theorem Block.scrubCorrect_sound {b : Block} (c : Nat) (st : StoreSel) (w : Nat) (hS : b.Sound) : (Block.scrubCorrect b c st w).Sound := by
  unfold Block.scrubCorrect
  repeat' first
    | with_reducible assumption
    | (extract_lets +onlyGivenNames z; refine Block.Sound.cut z ?_ (fun hz => ?_); (on_goal 2 => clear_value z); (on_goal 1 => subst z))
    | with_reducible apply Block.satFld_sound
    | with_reducible apply Block.modClu_sound
    | with_reducible apply Block.raiseIf_sound
    | with_reducible apply Block.corrected_sound
    | with_reducible apply Block.modCfg_sound
    | ((with_reducible refine r1_ne ?_); rfl)

theorem Block.scrubError_sound {b : Block} (c : Nat) (st : StoreSel) (w : Nat) (crc : Bool) (hS : b.Sound) : (Block.scrubError b c st w crc).Sound := by
  unfold Block.scrubError
  repeat' first
    | with_reducible assumption
    | (extract_lets +onlyGivenNames z; refine Block.Sound.cut z ?_ (fun hz => ?_); (on_goal 2 => clear_value z); (on_goal 1 => subst z))
    | (extract_lets +onlyGivenNames z; subst z)
    | with_reducible apply Block.ite_sound
    | with_reducible apply Block.setReg_sound
    | with_reducible apply Block.modPart_sound
    | with_reducible apply Block.modClu_sound
    | with_reducible apply Block.raise_sound
    | with_reducible apply Block.faultP_sound
    | with_reducible apply Block.unload_sound
    | ((with_reducible refine r0_ne ?_); rfl)
    | split

theorem Block.scrubWord_sound {b : Block} (c : Nat) (st : StoreSel) (f : ScrubFinding) (hS : b.Sound) : (Block.scrubWord b c st f).Sound := by
  unfold Block.scrubWord
  repeat' first
    | with_reducible assumption
    | (extract_lets +onlyGivenNames z; refine Block.Sound.cut z ?_ (fun hz => ?_); (on_goal 2 => clear_value z); (on_goal 1 => subst z))
    | (extract_lets +onlyGivenNames z; subst z)
    | with_reducible apply Block.ite_sound
    | with_reducible apply Block.modClu_sound
    | with_reducible apply Block.scrubPassed_sound
    | with_reducible apply Block.scrubCorrect_sound
    | with_reducible apply Block.scrubError_sound
    | split

theorem Block.scrubRead_sound {b : Block} (c : Nat) (st : StoreSel) (f : ScrubFinding) (hS : b.Sound) : (Block.scrubRead b c st f).Sound := by
  unfold Block.scrubRead
  repeat' first
    | with_reducible assumption
    | with_reducible apply Block.ite_sound
    | with_reducible apply Block.modClu_sound
    | with_reducible apply Block.scrubWord_sound

theorem Block.freeSlot_sound {b : Block} (c : Nat) (st : StoreSel) (odd : Bool) (hS : b.Sound) : (Block.freeSlot b c st odd).Sound := by
  unfold Block.freeSlot
  repeat' first
    | with_reducible assumption
    | (extract_lets +onlyGivenNames z; subst z)
    | with_reducible apply Block.ite_sound
    | with_reducible apply Block.setClu_sound
    | with_reducible apply Block.bulkSlot_sound
    | with_reducible apply Block.scrubWord_sound
    | split

theorem Block.scrubCtrl_sound {b : Block} (v : Word) (hS : b.Sound) : (Block.scrubCtrl b v).Sound := by
  unfold Block.scrubCtrl
  repeat' first
    | with_reducible assumption
    | (extract_lets +onlyGivenNames z; refine Block.Sound.cut z ?_ (fun hz => ?_); (on_goal 2 => clear_value z); (on_goal 1 => subst z))
    | with_reducible apply Block.ite_sound
    | with_reducible apply Block.setReg_sound
    | ((with_reducible refine r0_ne ?_); rfl)
    | (simp only [Block.sound_mk]; refine ⟨?_, ?_, ?_, ?_, ?_, ?_, ?_, ?_, ?_⟩)
    | with_reducible exact Block.Sound.rf (by assumption)
    | with_reducible exact Block.Sound.far (by assumption)
    | with_reducible exact Block.Sound.ssp (by assumption)
    | with_reducible exact Block.Sound.log (by assumption)
    | with_reducible exact Block.Sound.audit (by assumption)
    | with_reducible exact Block.Sound.vpt (by assumption)
    | with_reducible exact Block.Sound.sub (by assumption)
    | with_reducible exact Block.Sound.s0 (by assumption)
    | with_reducible exact Block.Sound.s1 (by assumption)

end Sys2Proof.Machine
end

