-- ==== Sys2Proof/Laws/Sound/Ssp.lean ====
section
/-!
SUPPORT. The operations of Machine/Ssp.lean keep Block.Sound.
-/
namespace Sys2Proof.Machine

theorem Block.modSsp_sound {b : Block} (f : Ssp → Ssp) (hS : b.Sound) (hf : Memory.wf (f b.ssp).bytes = true) : (Block.modSsp b f).Sound :=
  (Block.sound_mk ..).mpr ⟨hS.rf, hS.far, hf, hS.log, hS.audit, hS.vpt, hS.sub, hS.set0, hS.set1⟩

theorem Block.sspPut_sound {b : Block} (k : Nat) (off : Nat) (l : List Byte) (hS : b.Sound) : (Block.sspPut b k off l).Sound := by
  unfold Block.sspPut
  repeat' first
    | with_reducible assumption
    | with_reducible apply Block.modSsp_sound
    | with_reducible exact Block.Sound.ssp (by assumption)
    | ((try dsimp only); with_reducible apply Memory.wf_writes)

theorem Block.sspZero_sound {b : Block} (k : Nat) (hS : b.Sound) : (Block.sspZero b k).Sound := by
  unfold Block.sspZero
  repeat' first
    | with_reducible assumption
    | with_reducible apply Block.modSsp_sound
    | with_reducible exact Block.Sound.ssp (by assumption)
    | ((try dsimp only); with_reducible apply Memory.wf_clearRange)

theorem Block.sspChange_sound {b : Block} (k : Nat) (target : Nat) (hS : b.Sound) : (Block.sspChange b k target).Sound := by
  unfold Block.sspChange
  repeat' first
    | with_reducible assumption
    | with_reducible apply Block.ite_sound
    | with_reducible apply Block.setFld_sound
    | with_reducible apply Block.modSsp_sound
    | ((with_reducible refine r1_ne ?_); rfl)
    | ((try dsimp only); with_reducible apply Block.Sound.ssp)

theorem Block.sspWake_sound {b : Block} (k : Nat) (hS : b.Sound) : (Block.sspWake b k).Sound := by
  unfold Block.sspWake
  repeat' first
    | with_reducible assumption
    | with_reducible apply Block.ite_sound
    | with_reducible apply Block.sspChange_sound

theorem Block.sspOwn_sound {b : Block} (r : Requester) (k : Nat) (v : Word) (hS : b.Sound) : (Block.sspOwn b r k v).Sound := by
  unfold Block.sspOwn
  repeat' first
    | with_reducible assumption
    | (extract_lets +onlyGivenNames z; subst z)
    | with_reducible apply Block.ite_sound
    | with_reducible apply Block.setReg_sound
    | with_reducible apply Block.modSsp_sound
    | ((with_reducible refine r1_ne ?_); rfl)
    | ((try dsimp only); with_reducible apply Block.Sound.ssp)

theorem Block.snapTry_sound {b : Block} (hS : b.Sound) : (Block.snapTry b).Sound := by
  unfold Block.snapTry
  repeat' first
    | with_reducible assumption
    | (extract_lets +onlyGivenNames z; refine Block.Sound.cut z ?_ (fun hz => ?_); (on_goal 2 => clear_value z); (on_goal 1 => subst z))
    | (extract_lets +onlyGivenNames z; subst z)
    | with_reducible apply Block.setBit_sound
    | with_reducible apply Block.raise_sound
    | with_reducible apply Block.sspPut_sound
    | with_reducible apply Block.sspWake_sound
    | ((with_reducible refine r0_ne ?_); rfl)
    | (simp only [Block.sound_mk]; refine ⟨?_, ?_, ?_, ?_, ?_, ?_, ?_, ?_, ?_⟩)
    | with_reducible exact Block.Sound.rf (by assumption)
    | with_reducible exact Block.Sound.far (by assumption)
    | with_reducible exact Block.Sound.ssp (by assumption)
    | with_reducible exact Block.Sound.log (by assumption)
    | with_reducible exact Block.Sound.audit (by assumption)
    | with_reducible exact Block.Sound.vpt (by assumption)
    | with_reducible exact Block.Sound.sub (by assumption)
    | with_reducible exact Block.Sound.s0 (by assumption)
    | with_reducible exact Block.Sound.s1 (by assumption)
    | split

theorem Block.sspHandoverEnd_sound {b : Block} (k : Nat) (hS : b.Sound) : (Block.sspHandoverEnd b k).Sound := by
  unfold Block.sspHandoverEnd
  repeat' first
    | with_reducible assumption
    | with_reducible apply Block.ite_sound
    | with_reducible apply Block.setReg_sound
    | with_reducible apply Block.modSsp_sound
    | with_reducible apply Block.sspZero_sound
    | with_reducible apply Block.snapTry_sound
    | ((with_reducible refine r1_ne ?_); rfl)
    | ((try dsimp only); with_reducible apply Block.Sound.ssp)
    | split

theorem Block.sspPwr_sound {b : Block} (k : Nat) (v : Word) (hS : b.Sound) : (Block.sspPwr b k v).Sound := by
  unfold Block.sspPwr
  repeat' first
    | with_reducible assumption
    | (extract_lets +onlyGivenNames z; refine Block.Sound.cut z ?_ (fun hz => ?_); (on_goal 2 => clear_value z); (on_goal 1 => subst z))
    | (extract_lets +onlyGivenNames z; subst z)
    | with_reducible apply Block.ite_sound
    | with_reducible apply Block.setFld_sound
    | with_reducible apply Block.sspChange_sound
    | ((with_reducible refine r1_ne ?_); rfl)

theorem Block.sspPwrWrite_sound {b : Block} (r : Requester) (k : Nat) (v : Word) (hS : b.Sound) : (Block.sspPwrWrite b r k v).Sound := by
  unfold Block.sspPwrWrite
  repeat' first
    | with_reducible assumption
    | with_reducible apply Block.ite_sound
    | with_reducible apply Block.auditRefused_sound
    | with_reducible apply Block.hostWrite_sound
    | with_reducible apply Block.sspPwr_sound
    | (intro z hz)

theorem Block.sspReach_sound {b : Block} (k : Nat) (st : Nat) (hS : b.Sound) : (Block.sspReach b k st).Sound := by
  unfold Block.sspReach
  repeat' first
    | with_reducible assumption
    | (extract_lets +onlyGivenNames z; refine Block.Sound.cut z ?_ (fun hz => ?_); (on_goal 2 => clear_value z); (on_goal 1 => subst z))
    | (extract_lets +onlyGivenNames z; subst z)
    | with_reducible apply Block.ite_sound
    | with_reducible apply Block.setFld_sound
    | with_reducible apply Block.modSsp_sound
    | with_reducible apply Block.sspZero_sound
    | ((with_reducible refine r1_ne ?_); rfl)
    | ((try dsimp only); with_reducible apply Block.Sound.ssp)

theorem Block.sspDone_sound {b : Block} (k : Nat) (hS : b.Sound) : (Block.sspDone b k).Sound := by
  unfold Block.sspDone
  repeat' first
    | with_reducible assumption
    | with_reducible apply Block.modSsp_sound
    | with_reducible apply Block.sspReach_sound
    | ((try dsimp only); with_reducible apply Block.Sound.ssp)
    | split

theorem Block.sspFrost_sound {b : Block} (hS : b.Sound) : (Block.sspFrost b).Sound := by
  unfold Block.sspFrost
  repeat' first
    | with_reducible assumption
    | (extract_lets +onlyGivenNames z; refine Block.Sound.cut z ?_ (fun hz => ?_); (on_goal 2 => clear_value z); (on_goal 1 => subst z))
    | with_reducible apply Block.ite_sound
    | with_reducible apply Block.sspReach_sound
    | with_reducible apply Block.sspDone_sound
    | with_reducible apply Block.forEach_sound
    | (intro z hz hy)

theorem Block.sspThaw_sound {b : Block} (hS : b.Sound) : (Block.sspThaw b).Sound := by
  unfold Block.sspThaw
  repeat' first
    | with_reducible assumption
    | with_reducible apply Block.ite_sound
    | with_reducible apply Block.snapTry_sound
    | with_reducible apply Block.sspReach_sound
    | with_reducible apply Block.forEach_sound
    | (intro z hz hy)

theorem Block.marchStart_sound {b : Block} (hS : b.Sound) : (Block.marchStart b).Sound := by
  unfold Block.marchStart
  repeat' first
    | with_reducible assumption
    | (extract_lets +onlyGivenNames z; refine Block.Sound.cut z ?_ (fun hz => ?_); (on_goal 2 => clear_value z); (on_goal 1 => subst z))
    | (extract_lets +onlyGivenNames z; subst z)
    | with_reducible apply Block.ite_sound
    | with_reducible apply Block.setFld_sound
    | with_reducible apply Block.clrReg_foldl_sound
    | ((with_reducible refine r0_ne ?_); rfl)
    | (simp only [Block.sound_mk]; refine ⟨?_, ?_, ?_, ?_, ?_, ?_, ?_, ?_, ?_⟩)
    | with_reducible exact Block.Sound.rf (by assumption)
    | with_reducible exact Block.Sound.far (by assumption)
    | with_reducible exact Block.Sound.ssp (by assumption)
    | with_reducible exact Block.Sound.log (by assumption)
    | with_reducible exact Block.Sound.audit (by assumption)
    | with_reducible exact Block.Sound.vpt (by assumption)
    | with_reducible exact Block.Sound.sub (by assumption)
    | with_reducible exact Block.Sound.s0 (by assumption)
    | with_reducible exact Block.Sound.s1 (by assumption)

theorem Block.marchAbort_sound {b : Block} (hS : b.Sound) : (Block.marchAbort b).Sound := by
  unfold Block.marchAbort
  repeat' first
    | (simp only [Block.sound_mk]; refine ⟨?_, ?_, ?_, ?_, ?_, ?_, ?_, ?_, ?_⟩)
    | with_reducible exact Block.Sound.rf (by assumption)
    | with_reducible exact Block.Sound.far (by assumption)
    | with_reducible exact Block.Sound.ssp (by assumption)
    | with_reducible exact Block.Sound.log (by assumption)
    | with_reducible exact Block.Sound.audit (by assumption)
    | with_reducible exact Block.Sound.vpt (by assumption)
    | with_reducible exact Block.Sound.sub (by assumption)
    | with_reducible exact Block.Sound.s0 (by assumption)
    | with_reducible exact Block.Sound.s1 (by assumption)

theorem Block.mteCtrl_sound {b : Block} (v : Word) (hS : b.Sound) : (Block.mteCtrl b v).Sound := by
  unfold Block.mteCtrl
  repeat' first
    | with_reducible assumption
    | (extract_lets +onlyGivenNames z; refine Block.Sound.cut z ?_ (fun hz => ?_); (on_goal 2 => clear_value z); (on_goal 1 => subst z))
    | with_reducible apply Block.ite_sound
    | with_reducible apply Block.writeCodes_sound
    | with_reducible apply Block.marchStart_sound
    | with_reducible apply Block.marchAbort_sound

theorem Block.marchPut_sound {b : Block} (m : March) (f : Nat → Byte) (hS : b.Sound) : (Block.marchPut b m f).Sound := by
  unfold Block.marchPut
  repeat' first
    | with_reducible assumption
    | with_reducible apply Block.ite_sound
    | with_reducible apply Block.farWrite_sound
    | with_reducible apply Block.sspPut_sound
    | with_reducible apply Block.forEach_sound
    | (intro z hz hy)

theorem Block.marchKeep_sound {b : Block} (m : March) (hS : b.Sound) : (Block.marchKeep b m).Sound := by
  unfold Block.marchKeep
  repeat' first
    | with_reducible assumption
    | (extract_lets +onlyGivenNames z; subst z)
    | with_reducible apply Block.ite_sound
    | with_reducible apply Block.draw_sound
    | with_reducible apply Block.farWrite_sound
    | with_reducible apply Block.sspPut_sound
    | with_reducible apply Block.forEach_sound
    | (intro z hz hy)

theorem Block.marchContent_sound {b : Block} (m : March) (hS : b.Sound) : (Block.marchContent b m).Sound := by
  unfold Block.marchContent
  repeat' first
    | with_reducible assumption
    | (extract_lets +onlyGivenNames z; refine Block.Sound.cut z ?_ (fun hz => ?_); (on_goal 2 => clear_value z); (on_goal 1 => subst z))
    | (extract_lets +onlyGivenNames z; subst z)
    | with_reducible apply Block.ite_sound
    | with_reducible apply Block.draw_sound
    | with_reducible apply Block.marchPut_sound
    | with_reducible apply Block.marchKeep_sound
    | (simp only [Block.sound_mk]; refine ⟨?_, ?_, ?_, ?_, ?_, ?_, ?_, ?_, ?_⟩)
    | with_reducible exact Block.Sound.rf (by assumption)
    | with_reducible exact Block.Sound.far (by assumption)
    | with_reducible exact Block.Sound.ssp (by assumption)
    | with_reducible exact Block.Sound.log (by assumption)
    | with_reducible exact Block.Sound.audit (by assumption)
    | with_reducible exact Block.Sound.vpt (by assumption)
    | with_reducible exact Block.Sound.sub (by assumption)
    | with_reducible exact Block.Sound.s0 (by assumption)
    | with_reducible exact Block.Sound.s1 (by assumption)

theorem Block.marchRecord_sound {b : Block} (f : MarchFail) (hS : b.Sound) : (Block.marchRecord b f).Sound := by
  unfold Block.marchRecord
  repeat' first
    | with_reducible assumption
    | with_reducible apply Block.setReg_sound
    | with_reducible apply Block.setReg64_sound
    | ((with_reducible refine r0_ne ?_); rfl)

theorem Block.marchBanks_sound {b : Block} (m : March) (fails : List MarchFail) (hS : b.Sound) : (Block.marchBanks b m fails).Sound := by
  unfold Block.marchBanks
  repeat' first
    | with_reducible assumption
    | with_reducible apply Block.ite_sound
    | with_reducible apply Block.setReg_sound
    | with_reducible apply Block.clrFld_sound
    | with_reducible apply Block.modSsp_sound
    | with_reducible apply Block.sspChange_sound
    | with_reducible apply Block.sspReach_sound
    | with_reducible apply Block.forEach_sound
    | ((with_reducible refine r1_ne ?_); rfl)
    | (intro z hz hy)
    | ((try dsimp only); with_reducible apply Block.Sound.ssp)

theorem Block.marchEnd_sound {b : Block} (found : List MarchFail) (hS : b.Sound) : (Block.marchEnd b found).Sound := by
  unfold Block.marchEnd
  repeat' first
    | with_reducible assumption
    | (extract_lets +onlyGivenNames z; refine Block.Sound.cut z ?_ (fun hz => ?_); (on_goal 2 => clear_value z); (on_goal 1 => subst z))
    | (extract_lets +onlyGivenNames z; subst z)
    | with_reducible apply Block.setFld_sound
    | with_reducible apply Block.raise_sound
    | with_reducible apply Block.raiseIf_sound
    | with_reducible apply Block.marchContent_sound
    | with_reducible apply Block.marchRecord_sound
    | with_reducible apply Block.marchBanks_sound
    | ((with_reducible refine r0_ne ?_); rfl)
    | (simp only [Block.sound_mk]; refine ⟨?_, ?_, ?_, ?_, ?_, ?_, ?_, ?_, ?_⟩)
    | with_reducible exact Block.Sound.rf (by assumption)
    | with_reducible exact Block.Sound.far (by assumption)
    | with_reducible exact Block.Sound.ssp (by assumption)
    | with_reducible exact Block.Sound.log (by assumption)
    | with_reducible exact Block.Sound.audit (by assumption)
    | with_reducible exact Block.Sound.vpt (by assumption)
    | with_reducible exact Block.Sound.sub (by assumption)
    | with_reducible exact Block.Sound.s0 (by assumption)
    | with_reducible exact Block.Sound.s1 (by assumption)
    | split

theorem Block.marchBoot_sound {b : Block} (found : List MarchFail) (hS : b.Sound) : (Block.marchBoot b found).Sound := by
  unfold Block.marchBoot
  repeat' first
    | with_reducible assumption
    | (extract_lets +onlyGivenNames z; refine Block.Sound.cut z ?_ (fun hz => ?_); (on_goal 2 => clear_value z); (on_goal 1 => subst z))
    | (extract_lets +onlyGivenNames z; subst z)
    | with_reducible apply Block.setFld_sound
    | with_reducible apply Block.raise_sound
    | with_reducible apply Block.raiseIf_sound
    | with_reducible apply Block.marchContent_sound
    | with_reducible apply Block.marchRecord_sound
    | with_reducible apply Block.marchBanks_sound
    | with_reducible apply Block.forEach_sound
    | ((with_reducible refine r0_ne ?_); rfl)
    | (intro z hz hy)
    | split

theorem Block.marchWarm_sound {b : Block} (hS : b.Sound) : (Block.marchWarm b).Sound := by
  unfold Block.marchWarm
  repeat' first
    | with_reducible assumption
    | with_reducible apply Block.draw_sound
    | with_reducible apply Block.marchEnd_sound
    | (simp only [Block.sound_mk]; refine ⟨?_, ?_, ?_, ?_, ?_, ?_, ?_, ?_, ?_⟩)
    | with_reducible exact Block.Sound.rf (by assumption)
    | with_reducible exact Block.Sound.far (by assumption)
    | with_reducible exact Block.Sound.ssp (by assumption)
    | with_reducible exact Block.Sound.log (by assumption)
    | with_reducible exact Block.Sound.audit (by assumption)
    | with_reducible exact Block.Sound.vpt (by assumption)
    | with_reducible exact Block.Sound.sub (by assumption)
    | with_reducible exact Block.Sound.s0 (by assumption)
    | with_reducible exact Block.Sound.s1 (by assumption)
    | split

end Sys2Proof.Machine
end

