-- ==== Sys2Proof/Laws/Sound/LinkRx.lean ====
section
/-!
SUPPORT. The operations of Machine/LinkRx.lean keep Block.Sound.
-/
namespace Sys2Proof.Machine

theorem Block.symIn_sound {b : Block} (n : Nat) (y : Sym) (t : Stamp) (t3 : Stamp) (hS : b.Sound) : (Block.symIn b n y t t3).Sound := by
  unfold Block.symIn
  repeat' first
    | with_reducible assumption
    | (extract_lets +onlyGivenNames z; subst z)
    | with_reducible apply Block.freezeSym_sound
    | with_reducible apply Block.syncIn_sound
    | with_reducible apply Block.fupHi_sound
    | with_reducible apply Block.fupLo_sound
    | with_reducible apply Block.pdlyReq_sound
    | with_reducible apply Block.pdlyResp_sound
    | with_reducible apply Block.pdlyFup_sound
    | with_reducible apply Block.announceIn_sound
    | with_reducible apply Block.proto_sound
    | with_reducible apply Block.pathIn_sound
    | with_reducible apply Block.linkReset_sound
    | with_reducible apply Block.upWatch_sound
    | (intro z hz)
    | split

theorem Block.segmentIn_sound {b : Block} (n : Nat) (y : Segment) (hS : b.Sound) : (Block.segmentIn b n y).Sound := by
  unfold Block.segmentIn
  repeat' first
    | with_reducible assumption
    | (extract_lets +onlyGivenNames z; refine Block.Sound.cut z ?_ (fun hz => ?_); (on_goal 2 => clear_value z); (on_goal 1 => subst z))
    | with_reducible apply Block.ite_sound
    | with_reducible apply Block.modLink_sound
    | with_reducible apply Block.takeSegment_sound
    | with_reducible apply Block.proto_sound
    | with_reducible apply Block.see_sound

theorem Block.msgIn_sound {b : Block} (n : Nat) (cls : Nat) (x : RxMsg) (hS : b.Sound) : (Block.msgIn b n cls x).Sound := by
  unfold Block.msgIn
  repeat' first
    | with_reducible assumption
    | (extract_lets +onlyGivenNames z; refine Block.Sound.cut z ?_ (fun hz => ?_); (on_goal 2 => clear_value z); (on_goal 1 => subst z))
    | (extract_lets +onlyGivenNames z; subst z)
    | with_reducible apply Block.ite_sound
    | with_reducible apply Block.proto_sound
    | with_reducible apply Block.free_sound
    | with_reducible apply Block.inject_sound
    | with_reducible apply Block.relayHold_sound
    | with_reducible apply Block.fanReport_sound
    | with_reducible apply Block.endMarkIn_sound
    | with_reducible apply Block.streamIn_sound
    | with_reducible apply Block.segmentIn_sound
    | split

theorem Block.setRx_sound {b : Block} (n : Nat) (cls : Nat) (m : Option RxMsg) (hS : b.Sound) : (Block.setRx b n cls m).Sound := by
  unfold Block.setRx
  repeat' first
    | with_reducible assumption
    | with_reducible apply Block.modLink_sound

theorem Block.swallow_sound {b : Block} (n : Nat) (cls : Nat) (vc : Bool) (eom : Bool) (hS : b.Sound) : (Block.swallow b n cls vc eom).Sound := by
  unfold Block.swallow
  repeat' first
    | with_reducible assumption
    | with_reducible apply Block.free_sound
    | with_reducible apply Block.setRx_sound

theorem Block.startMsg_sound {b : Block} (n : Nat) (cls : Nat) (f : TxFlit) (hS : b.Sound) : (Block.startMsg b n cls f).Sound := by
  unfold Block.startMsg
  repeat' first
    | with_reducible assumption
    | (extract_lets +onlyGivenNames z; refine Block.Sound.cut z ?_ (fun hz => ?_); (on_goal 2 => clear_value z); (on_goal 1 => subst z))
    | (extract_lets +onlyGivenNames z; subst z)
    | with_reducible apply Block.ite_sound
    | with_reducible apply Block.proto_sound
    | with_reducible apply Block.enqueue_sound
    | with_reducible apply Block.seeFlit_sound
    | with_reducible apply Block.msgIn_sound
    | with_reducible apply Block.setRx_sound
    | with_reducible apply Block.swallow_sound
    | split

theorem Block.followMsg_sound {b : Block} (n : Nat) (cls : Nat) (port : Nat) (m : RxMsg) (f : TxFlit) (hS : b.Sound) : (Block.followMsg b n cls port m f).Sound := by
  unfold Block.followMsg
  repeat' first
    | with_reducible assumption
    | (extract_lets +onlyGivenNames z; refine Block.Sound.cut z ?_ (fun hz => ?_); (on_goal 2 => clear_value z); (on_goal 1 => subst z))
    | (extract_lets +onlyGivenNames z; subst z)
    | with_reducible apply Block.ite_sound
    | with_reducible apply Block.modLink_sound
    | with_reducible apply Block.free_sound
    | with_reducible apply Block.setRx_sound

theorem Block.msgFlit_sound {b : Block} (n : Nat) (f : TxFlit) (hS : b.Sound) : (Block.msgFlit b n f).Sound := by
  unfold Block.msgFlit
  repeat' first
    | with_reducible assumption
    | (extract_lets +onlyGivenNames z; refine Block.Sound.cut z ?_ (fun hz => ?_); (on_goal 2 => clear_value z); (on_goal 1 => subst z))
    | (extract_lets +onlyGivenNames z; subst z)
    | with_reducible apply Block.ite_sound
    | with_reducible apply Block.modLink_sound
    | with_reducible apply Block.proto_sound
    | with_reducible apply Block.dropRx_sound
    | with_reducible apply Block.msgIn_sound
    | with_reducible apply Block.setRx_sound
    | with_reducible apply Block.swallow_sound
    | with_reducible apply Block.startMsg_sound
    | with_reducible apply Block.followMsg_sound
    | split

theorem Block.flitHead_sound {b : Block} (n : Nat) (f : BitVec 512) (hS : b.Sound) : (Block.flitHead b n f).Sound := by
  unfold Block.flitHead
  repeat' first
    | with_reducible assumption
    | (extract_lets +onlyGivenNames z; refine Block.Sound.cut z ?_ (fun hz => ?_); (on_goal 2 => clear_value z); (on_goal 1 => subst z))
    | (extract_lets +onlyGivenNames z; subst z)
    | with_reducible apply Block.ite_sound
    | with_reducible apply Block.ackIn_sound
    | with_reducible apply Block.nakIn_sound
    | with_reducible apply Block.creditIn_sound

theorem Block.flitBody_sound {b : Block} (n : Nat) (f : BitVec 512) (t : Stamp) (t3 : Stamp) (hS : b.Sound) : (Block.flitBody b n f t t3).Sound := by
  unfold Block.flitBody
  repeat' first
    | with_reducible assumption
    | (extract_lets +onlyGivenNames z; subst z)
    | with_reducible apply Block.ite_sound
    | with_reducible apply Block.proto_sound
    | with_reducible apply Block.symIn_sound
    | with_reducible apply Block.msgFlit_sound
    | with_reducible apply Block.forEach_sound
    | (intro z hz hy)

theorem Block.flitLost_sound {b : Block} (n : Nat) (hS : b.Sound) : (Block.flitLost b n).Sound := by
  unfold Block.flitLost
  repeat' first
    | with_reducible assumption
    | with_reducible apply Block.ite_sound
    | with_reducible apply Block.sendNak_sound

theorem Block.flitIn_sound {b : Block} (n : Nat) (f : BitVec 512) (corrected : BitVec 4) (uncorrectable : Bool) (t : Stamp) (t3 : Stamp) (hS : b.Sound) : (Block.flitIn b n f corrected uncorrectable t t3).Sound := by
  unfold Block.flitIn
  repeat' first
    | with_reducible assumption
    | (extract_lets +onlyGivenNames z; refine Block.Sound.cut z ?_ (fun hz => ?_); (on_goal 2 => clear_value z); (on_goal 1 => subst z))
    | (extract_lets +onlyGivenNames z; subst z)
    | with_reducible apply Block.ite_sound
    | with_reducible apply Block.satFld_sound
    | with_reducible apply Block.wrapFld_sound
    | with_reducible apply Block.modLink_sound
    | with_reducible apply Block.correctedBy_sound
    | with_reducible apply Block.flitHead_sound
    | with_reducible apply Block.flitBody_sound
    | with_reducible apply Block.flitLost_sound
    | ((with_reducible refine r1_ne ?_); rfl)

theorem Block.lnkCtrlWrite_sound {b : Block} (n : Nat) (v : Word) (hS : b.Sound) : (Block.lnkCtrlWrite b n v).Sound := by
  unfold Block.lnkCtrlWrite
  repeat' first
    | with_reducible assumption
    | with_reducible apply Block.lnkCtrl_sound
    | with_reducible apply Block.upWatch_sound
    | (intro z hz)

end Sys2Proof.Machine
end

