-- ==== Sys2Proof/Laws/Sound/Sem.lean ====
section
/-!
SUPPORT. The operations of Machine/Sem.lean keep Block.Sound.
-/
namespace Sys2Proof.Machine

theorem Block.semFree_sound {b : Block} (n : Nat) (broken : Bool) (hS : b.Sound) : (Block.semFree b n broken).Sound := by
  unfold Block.semFree
  repeat' first
    | with_reducible assumption
    | with_reducible apply Block.setReg_sound
    | ((with_reducible refine r1_ne ?_); rfl)

theorem Block.semBreak_sound {b : Block} (id : Nat) (hS : b.Sound) : (Block.semBreak b id).Sound := by
  unfold Block.semBreak
  repeat' first
    | with_reducible assumption
    | with_reducible apply Block.ite_sound
    | with_reducible apply Block.semFree_sound
    | with_reducible apply Block.forEach_sound
    | (intro z hz hy)

theorem Block.semAcq_sound {b : Block} (r : Requester) (n : Nat) (hS : b.Sound) : (Block.semAcq b r n).Sound := by
  unfold Block.semAcq
  repeat' first
    | with_reducible assumption
    | (extract_lets +onlyGivenNames z; refine Block.Sound.cut z ?_ (fun hz => ?_); (on_goal 2 => clear_value z); (on_goal 1 => subst z))
    | with_reducible apply Block.ite_sound
    | with_reducible apply Block.setReg_sound
    | ((with_reducible refine r1_ne ?_); rfl)
    | (simp only [Block.sound_mk]; refine ⟨?_, ?_, ?_, ?_, ?_, ?_, ?_, ?_, ?_⟩)
    | with_reducible exact Block.Sound.rf (by assumption)
    | with_reducible exact Block.Sound.far (by assumption)
    | with_reducible exact Block.Sound.ssp (by assumption)
    | with_reducible exact Block.Sound.log (by assumption)
    | with_reducible exact Block.Sound.audit (by assumption)
    | with_reducible exact Block.Sound.vpt (by assumption)
    | with_reducible exact Block.Sound.sub (by assumption)
    | with_reducible exact Block.Sound.s0 (by assumption)
    | with_reducible exact Block.Sound.s1 (by assumption)

theorem Block.semRelease_sound {b : Block} (r : Requester) (n : Nat) (hS : b.Sound) : (Block.semRelease b r n).Sound := by
  unfold Block.semRelease
  repeat' first
    | with_reducible assumption
    | with_reducible apply Block.ite_sound
    | with_reducible apply Block.semFree_sound

theorem Block.semRel_sound {b : Block} (r : Requester) (n : Nat) (hS : b.Sound) : (Block.semRel b r n).Sound := by
  unfold Block.semRel
  repeat' first
    | with_reducible assumption
    | with_reducible apply Block.hostWrite_sound
    | with_reducible apply Block.semRelease_sound
    | (intro z hz)

theorem Block.semForce_sound {b : Block} (r : Requester) (n : Nat) (hS : b.Sound) : (Block.semForce b r n).Sound := by
  unfold Block.semForce
  repeat' first
    | with_reducible assumption
    | with_reducible apply Block.ite_sound
    | with_reducible apply Block.hostWrite_sound
    | with_reducible apply Block.semFree_sound
    | (intro z hz)

end Sys2Proof.Machine
end

