-- ==== Sys2Proof/Laws/Sound/Mailbox.lean ====
section
/-!
SUPPORT. The operations of Machine/Mailbox.lean keep Block.Sound.
-/
namespace Sys2Proof.Machine

theorem Block.settingsNow_ok (b : Block) (q : BitVec 16) : SetCopy.Ok (b.settingsNow q) := by
  intro e he g
  have h := (List.mem_filter.mp he).2
  simp only [isSetting, g] at h
  exact absurd h (by decide)

theorem Block.mbxDone_sound {b : Block} (r : Requester) (status : Nat) (pl : List Byte) (hS : b.Sound) : (Block.mbxDone b r status pl).Sound := by
  unfold Block.mbxDone
  repeat' first
    | with_reducible assumption
    | (extract_lets +onlyGivenNames z; refine Block.Sound.cut z ?_ (fun hz => ?_); (on_goal 2 => clear_value z); (on_goal 1 => subst z))
    | (extract_lets +onlyGivenNames z; subst z)
    | with_reducible apply Block.ite_sound
    | with_reducible apply Block.modFunc_sound
    | with_reducible apply Block.send_sound
    | with_reducible apply Block.msix_sound
    | (simp only [Block.sound_mk]; refine ⟨?_, ?_, ?_, ?_, ?_, ?_, ?_, ?_, ?_⟩)
    | with_reducible exact Block.Sound.rf (by assumption)
    | with_reducible exact Block.Sound.far (by assumption)
    | with_reducible exact Block.Sound.ssp (by assumption)
    | with_reducible exact Block.Sound.log (by assumption)
    | with_reducible exact Block.Sound.audit (by assumption)
    | with_reducible exact Block.Sound.vpt (by assumption)
    | with_reducible exact Block.Sound.sub (by assumption)
    | with_reducible exact Block.Sound.s0 (by assumption)
    | with_reducible exact Block.Sound.s1 (by assumption)

theorem Block.mbx_sound {b : Block} (r : Requester) (cmd : Nat) (need : Need) (lenOk : Nat → Bool) (f : List Byte → Block → Nat × List Byte × Block) (hS : b.Sound) (hf_f : ∀ l x, x.Sound → (f l x).2.2.Sound) : (Block.mbx b r cmd need lenOk f).Sound := by
  unfold Block.mbx
  repeat' first
    | with_reducible assumption
    | (extract_lets +onlyGivenNames z; subst z)
    | with_reducible apply Block.ite_sound
    | with_reducible apply Block.mbxDone_sound
    | with_reducible apply hf_f

theorem Block.mbxGo_sound {b : Block} (r : Requester) (hS : b.Sound) : (Block.mbxGo b r).Sound := by
  unfold Block.mbxGo
  repeat' first
    | with_reducible assumption
    | (extract_lets +onlyGivenNames z; refine Block.Sound.cut z ?_ (fun hz => ?_); (on_goal 2 => clear_value z); (on_goal 1 => subst z))
    | (extract_lets +onlyGivenNames z; subst z)
    | with_reducible apply Block.ite_sound
    | with_reducible apply Block.modFunc_sound
    | with_reducible apply Block.mbxDone_sound

theorem Block.go_sound {b : Block} (r : Requester) (hS : b.Sound) : (Block.go b r).Sound := by
  unfold Block.go
  repeat' first
    | with_reducible assumption
    | with_reducible apply Block.hostWrite_sound
    | with_reducible apply Block.mbxGo_sound
    | (intro z hz)

theorem Block.mgmtDatagram_sound {b : Block} (port : BitVec 16) (bytes : List Byte) (hS : b.Sound) : (Block.mgmtDatagram b port bytes).Sound := by
  unfold Block.mgmtDatagram
  repeat' first
    | with_reducible assumption
    | with_reducible apply Block.ite_sound
    | with_reducible apply Block.modFunc_sound
    | with_reducible apply Block.mbxGo_sound

theorem Block.vecUnmask_sound {b : Block} (fn : Nat) (v : Nat) (hS : b.Sound) : (Block.vecUnmask b fn v).Sound := by
  unfold Block.vecUnmask
  repeat' first
    | with_reducible assumption
    | (extract_lets +onlyGivenNames z; refine Block.Sound.cut z ?_ (fun hz => ?_); (on_goal 2 => clear_value z); (on_goal 1 => subst z))
    | (extract_lets +onlyGivenNames z; subst z)
    | with_reducible apply Block.ite_sound
    | with_reducible apply Block.modFunc_sound
    | with_reducible apply Block.send_sound

theorem Block.vecMask_sound {b : Block} (fn : Nat) (v : Nat) (hS : b.Sound) : (Block.vecMask b fn v).Sound := by
  unfold Block.vecMask
  repeat' first
    | with_reducible assumption
    | with_reducible apply Block.modFunc_sound

theorem Block.bar2Write_sound {b : Block} (r : Requester) (off : Nat) (l : List Byte) (hS : b.Sound) : (Block.bar2Write b r off l).Sound := by
  unfold Block.bar2Write
  repeat' first
    | with_reducible assumption
    | (extract_lets +onlyGivenNames z; subst z)
    | with_reducible apply Block.ite_sound
    | with_reducible apply Block.modFunc_sound
    | with_reducible apply Block.vecUnmask_sound
    | with_reducible apply Block.vecMask_sound

theorem Block.aerReport_sound {b : Block} (r : Requester) (hS : b.Sound) : (Block.aerReport b r).Sound := by
  unfold Block.aerReport
  repeat' first
    | with_reducible assumption
    | with_reducible apply Block.ite_sound
    | with_reducible apply Block.modFunc_sound

theorem Block.showSlots_sound {b : Block} (hS : b.Sound) : (Block.showSlots b).Sound := by
  unfold Block.showSlots
  repeat' first
    | with_reducible assumption
    | with_reducible apply Block.setFld_sound
    | ((with_reducible refine r0_ne ?_); rfl)

theorem Block.saveSettings_sound {b : Block} (hS : b.Sound) : (Block.saveSettings b).Sound := by
  unfold Block.saveSettings
  repeat' first
    | (extract_lets +onlyGivenNames z; subst z)
    | with_reducible apply Block.setFld_sound
    | (simp only [apply_ite Fw.set0, apply_ite Fw.set1]; split)
    | with_reducible exact Block.settingsNow_ok _ _
    | ((with_reducible refine r0_ne ?_); rfl)
    | (simp only [Block.sound_mk]; refine ⟨?_, ?_, ?_, ?_, ?_, ?_, ?_, ?_, ?_⟩)
    | with_reducible exact Block.Sound.rf (by assumption)
    | with_reducible exact Block.Sound.far (by assumption)
    | with_reducible exact Block.Sound.ssp (by assumption)
    | with_reducible exact Block.Sound.log (by assumption)
    | with_reducible exact Block.Sound.audit (by assumption)
    | with_reducible exact Block.Sound.vpt (by assumption)
    | with_reducible exact Block.Sound.sub (by assumption)
    | with_reducible exact Block.Sound.s0 (by assumption)
    | with_reducible exact Block.Sound.s1 (by assumption)

theorem Block.endSession_sound {b : Block} (r : Requester) (hS : b.Sound) : (Block.endSession b r).Sound := by
  unfold Block.endSession
  repeat' first
    | with_reducible assumption
    | with_reducible apply Block.modFunc_sound
    | with_reducible apply Block.audit_sound
    | split

theorem Block.showKeys_sound {b : Block} (hS : b.Sound) : (Block.showKeys b).Sound := by
  unfold Block.showKeys
  repeat' first
    | with_reducible assumption
    | with_reducible apply Block.setFld_sound
    | ((with_reducible refine r0_ne ?_); rfl)

theorem Block.endSessions_sound {b : Block} (p : Session → Bool) (hS : b.Sound) : (Block.endSessions b p).Sound := by
  unfold Block.endSessions
  repeat' first
    | with_reducible assumption
    | (extract_lets +onlyGivenNames z; subst z)
    | with_reducible apply Block.endSession_sound
    | with_reducible apply Block.forEach_sound
    | (intro z hz hy)

theorem Block.eraseKeys_sound {b : Block} (r : Requester) (hS : b.Sound) : (Block.eraseKeys b r).Sound := by
  unfold Block.eraseKeys
  repeat' first
    | with_reducible assumption
    | (extract_lets +onlyGivenNames z; refine Block.Sound.cut z ?_ (fun hz => ?_); (on_goal 2 => clear_value z); (on_goal 1 => subst z))
    | (extract_lets +onlyGivenNames z; subst z)
    | with_reducible apply Block.audit_sound
    | with_reducible apply Block.showKeys_sound
    | with_reducible apply Block.endSessions_sound
    | with_reducible apply Block.forEach_sound
    | (simp only [Block.sound_mk]; refine ⟨?_, ?_, ?_, ?_, ?_, ?_, ?_, ?_, ?_⟩)
    | with_reducible exact Block.Sound.rf (by assumption)
    | with_reducible exact Block.Sound.far (by assumption)
    | with_reducible exact Block.Sound.ssp (by assumption)
    | with_reducible exact Block.Sound.log (by assumption)
    | with_reducible exact Block.Sound.audit (by assumption)
    | with_reducible exact Block.Sound.vpt (by assumption)
    | with_reducible exact Block.Sound.sub (by assumption)
    | with_reducible exact Block.Sound.s0 (by assumption)
    | with_reducible exact Block.Sound.s1 (by assumption)
    | (intro z hz hy)

theorem Block.showUnacked_sound {b : Block} (hS : b.Sound) : (Block.showUnacked b).Sound := by
  unfold Block.showUnacked
  repeat' first
    | with_reducible assumption
    | with_reducible apply Block.setFld_sound
    | ((with_reducible refine r0_ne ?_); rfl)

theorem Block.calAsym_sound {b : Block} (n : Nat) (hS : b.Sound) : (Block.calAsym b n).Sound := by
  unfold Block.calAsym
  repeat' first
    | with_reducible assumption
    | (extract_lets +onlyGivenNames z; subst z)
    | with_reducible apply Block.setReg_sound
    | with_reducible apply Block.setFld_sound
    | ((with_reducible refine r1_ne ?_); rfl)

theorem Block.calDeskew_sound {b : Block} (n : Nat) (hS : b.Sound) : (Block.calDeskew b n).Sound := by
  unfold Block.calDeskew
  repeat' first
    | with_reducible assumption
    | with_reducible apply Block.setFld_sound
    | ((with_reducible refine r1_ne ?_); rfl)

theorem Block.calTherm_sound {b : Block} (hS : b.Sound) : (Block.calTherm b).Sound := by
  unfold Block.calTherm
  repeat' first
    | with_reducible assumption
    | (extract_lets +onlyGivenNames z; subst z)
    | with_reducible apply Block.setReg_sound
    | ((with_reducible refine r0_ne ?_); rfl)

theorem Block.calShow_sound {b : Block} (key : Nat) (hS : b.Sound) : (Block.calShow b key).Sound := by
  unfold Block.calShow
  repeat' first
    | with_reducible assumption
    | with_reducible apply Block.ite_sound
    | with_reducible apply Block.calAsym_sound
    | with_reducible apply Block.calDeskew_sound
    | with_reducible apply Block.calTherm_sound

theorem Block.calBoot_sound {b : Block} (blocks : List (List Byte)) (hS : b.Sound) : (Block.calBoot b blocks).Sound := by
  unfold Block.calBoot
  repeat' first
    | with_reducible assumption
    | (extract_lets +onlyGivenNames z; refine Block.Sound.cut z ?_ (fun hz => ?_); (on_goal 2 => clear_value z); (on_goal 1 => subst z))
    | (extract_lets +onlyGivenNames z; subst z)
    | with_reducible apply Block.raiseIf_sound
    | with_reducible apply Block.calShow_sound
    | with_reducible apply Block.forEach_sound
    | (simp only [Block.sound_mk]; refine ⟨?_, ?_, ?_, ?_, ?_, ?_, ?_, ?_, ?_⟩)
    | with_reducible exact Block.Sound.rf (by assumption)
    | with_reducible exact Block.Sound.far (by assumption)
    | with_reducible exact Block.Sound.ssp (by assumption)
    | with_reducible exact Block.Sound.log (by assumption)
    | with_reducible exact Block.Sound.audit (by assumption)
    | with_reducible exact Block.Sound.vpt (by assumption)
    | with_reducible exact Block.Sound.sub (by assumption)
    | with_reducible exact Block.Sound.s0 (by assumption)
    | with_reducible exact Block.Sound.s1 (by assumption)
    | (intro z hz hy)

end Sys2Proof.Machine
end

