-- ==== Sys2Proof/Laws/Sound/DmaCtl.lean ====
section
/-!
SUPPORT. The operations of Machine/DmaCtl.lean keep Block.Sound.
-/
namespace Sys2Proof.Machine

theorem Block.dmaSetState_sound {b : Block} (n : Nat) (v : Nat) (hS : b.Sound) : (Block.dmaSetState b n v).Sound := by
  unfold Block.dmaSetState
  repeat' first
    | with_reducible assumption
    | with_reducible apply Block.setFld_sound
    | ((with_reducible refine r1_ne ?_); rfl)

theorem Block.dmaFlag_sound {b : Block} (n : Nat) (f : Fld) (en : Fld) (again : Bool) (hS : b.Sound) : (Block.dmaFlag b n f en again).Sound := by
  unfold Block.dmaFlag
  repeat' first
    | with_reducible assumption
    | (extract_lets +onlyGivenNames z; subst z)
    | with_reducible apply Block.setBit_sound
    | with_reducible apply Block.raiseIf_sound
    | ((with_reducible refine r1_ne ?_); rfl)

theorem Block.dmaRetire_sound {b : Block} (n : Nat) (result : BitVec 64) (fault : Bool) (hS : b.Sound) : (Block.dmaRetire b n result fault).Sound := by
  unfold Block.dmaRetire
  repeat' first
    | with_reducible assumption
    | (extract_lets +onlyGivenNames z; subst z)
    | with_reducible apply Block.ite_sound
    | with_reducible apply Block.tduRetire_sound
    | split

theorem Block.dmaFail_sound {b : Block} (n : Nat) (hS : b.Sound) : (Block.dmaFail b n).Sound := by
  unfold Block.dmaFail
  repeat' first
    | with_reducible assumption
    | with_reducible apply Block.ite_sound
    | with_reducible apply Block.draw_sound
    | with_reducible apply Block.dmaRetire_sound

theorem Block.sigDrop_sound {b : Block} (n : Nat) (hS : b.Sound) : (Block.sigDrop b n).Sound := by
  unfold Block.sigDrop
  repeat' first
    | (extract_lets +onlyGivenNames z; subst z)
    | (simp only [Block.sound_mk]; refine ⟨?_, ?_, ?_, ?_, ?_, ?_, ?_, ?_, ?_⟩)
    | with_reducible exact Block.Sound.rf (by assumption)
    | with_reducible exact Block.Sound.far (by assumption)
    | with_reducible exact Block.Sound.ssp (by assumption)
    | with_reducible exact Block.Sound.log (by assumption)
    | with_reducible exact Block.Sound.audit (by assumption)
    | with_reducible exact Block.Sound.vpt (by assumption)
    | with_reducible exact Block.Sound.sub (by assumption)
    | with_reducible exact Block.Sound.s0 (by assumption)
    | with_reducible exact Block.Sound.s1 (by assumption)

theorem Block.dmaFinish_sound {b : Block} (n : Nat) (code : Nat) (hS : b.Sound) : (Block.dmaFinish b n code).Sound := by
  unfold Block.dmaFinish
  repeat' first
    | with_reducible assumption
    | (extract_lets +onlyGivenNames z; refine Block.Sound.cut z ?_ (fun hz => ?_); (on_goal 2 => clear_value z); (on_goal 1 => subst z))
    | (extract_lets +onlyGivenNames z; subst z)
    | with_reducible apply Block.ite_sound
    | with_reducible apply Block.setReg_sound
    | with_reducible apply Block.setFld_sound
    | with_reducible apply Block.modDma_sound
    | with_reducible apply Block.semBreak_sound
    | with_reducible apply Block.dmaSetState_sound
    | with_reducible apply Block.dmaFlag_sound
    | with_reducible apply Block.dmaFail_sound
    | with_reducible apply Block.sigDrop_sound
    | ((with_reducible refine r1_ne ?_); rfl)

theorem Block.dmaError_sound {b : Block} (n : Nat) (code : Nat) (hS : b.Sound) : (Block.dmaError b n code).Sound := by
  unfold Block.dmaError
  repeat' first
    | with_reducible assumption
    | with_reducible apply Block.ite_sound
    | with_reducible apply Block.modDma_sound
    | with_reducible apply Block.sigDrop_sound
    | with_reducible apply Block.dmaFinish_sound

theorem Block.dmaAbort_sound {b : Block} (n : Nat) (code : Nat) (hS : b.Sound) : (Block.dmaAbort b n code).Sound := by
  unfold Block.dmaAbort
  repeat' first
    | with_reducible assumption
    | with_reducible apply Block.ite_sound
    | with_reducible apply Block.modDma_sound
    | with_reducible apply Block.semBreak_sound
    | with_reducible apply Block.sigDrop_sound

theorem Block.dmaAccepted_sound {b : Block} (n : Nat) (hS : b.Sound) : (Block.dmaAccepted b n).Sound := by
  unfold Block.dmaAccepted
  repeat' first
    | with_reducible assumption
    | with_reducible apply Block.clrFld_sound
    | ((with_reducible refine r1_ne ?_); rfl)

theorem Block.dmaRefuse_sound {b : Block} (n : Nat) (hS : b.Sound) : (Block.dmaRefuse b n).Sound := by
  unfold Block.dmaRefuse
  repeat' first
    | with_reducible assumption
    | with_reducible apply Block.setBit_sound
    | ((with_reducible refine r1_ne ?_); rfl)

theorem Block.dmaCmd_sound {b : Block} (r : Requester) (n : Nat) (v : Word) (instToo : Bool) (f : Block → Block) (hS : b.Sound) (hf_f : ∀ x, x.Sound → (f x).Sound) : (Block.dmaCmd b r n v instToo f).Sound := by
  unfold Block.dmaCmd
  repeat' first
    | with_reducible assumption
    | with_reducible apply Block.ite_sound
    | with_reducible apply Block.auditRefused_sound
    | with_reducible apply Block.hostWrite_sound
    | with_reducible apply hf_f
    | (intro z hz)

theorem Block.dmaStart_sound {b : Block} (n : Nat) (slot : Nat) (hS : b.Sound) : (Block.dmaStart b n slot).Sound := by
  unfold Block.dmaStart
  repeat' first
    | with_reducible assumption
    | with_reducible apply Block.ite_sound
    | with_reducible apply Block.modDma_sound
    | with_reducible apply Block.dmaBegin_sound
    | with_reducible apply Block.dmaAccepted_sound
    | with_reducible apply Block.dmaRefuse_sound

theorem Block.showObj_sound {b : Block} (n : Nat) (cls : Nat) (num : Nat) (hS : b.Sound) : (Block.showObj b n cls num).Sound := by
  unfold Block.showObj
  repeat' first
    | with_reducible assumption
    | with_reducible apply Block.setReg_sound
    | ((with_reducible refine r1_ne ?_); rfl)

theorem Block.dmaEnterArmed_sound {b : Block} (n : Nat) (hS : b.Sound) : (Block.dmaEnterArmed b n).Sound := by
  unfold Block.dmaEnterArmed
  repeat' first
    | with_reducible assumption
    | with_reducible apply Block.dmaSetState_sound
    | with_reducible apply Block.showObj_sound

theorem Block.trigWrite_sound {b : Block} (n : Nat) (v : Word) (hS : b.Sound) : (Block.trigWrite b n v).Sound := by
  unfold Block.trigWrite
  repeat' first
    | with_reducible assumption
    | (extract_lets +onlyGivenNames z; refine Block.Sound.cut z ?_ (fun hz => ?_); (on_goal 2 => clear_value z); (on_goal 1 => subst z))
    | with_reducible apply Block.ite_sound
    | with_reducible apply Block.writeCodes_sound
    | with_reducible apply Block.showObj_sound

theorem Block.dmaArm_sound {b : Block} (n : Nat) (hS : b.Sound) : (Block.dmaArm b n).Sound := by
  unfold Block.dmaArm
  repeat' first
    | with_reducible assumption
    | with_reducible apply Block.ite_sound
    | with_reducible apply Block.dmaAccepted_sound
    | with_reducible apply Block.dmaRefuse_sound
    | with_reducible apply Block.dmaEnterArmed_sound

theorem Block.dmaClear_sound {b : Block} (n : Nat) (hS : b.Sound) : (Block.dmaClear b n).Sound := by
  unfold Block.dmaClear
  repeat' first
    | with_reducible assumption
    | with_reducible apply Block.ite_sound
    | with_reducible apply Block.dmaSetState_sound
    | with_reducible apply Block.dmaAccepted_sound
    | with_reducible apply Block.dmaRefuse_sound

theorem Block.dmaGoto_sound {b : Block} (n : Nat) (pc : Nat) (hS : b.Sound) : (Block.dmaGoto b n pc).Sound := by
  unfold Block.dmaGoto
  repeat' first
    | with_reducible assumption
    | with_reducible apply Block.setFld_sound
    | ((with_reducible refine r1_ne ?_); rfl)

theorem Block.dmaNext_sound {b : Block} (n : Nat) (hS : b.Sound) : (Block.dmaNext b n).Sound := by
  unfold Block.dmaNext
  repeat' first
    | with_reducible assumption
    | with_reducible apply Block.ite_sound
    | with_reducible apply Block.dmaError_sound
    | with_reducible apply Block.dmaGoto_sound

theorem Block.baseAdd_sound {b : Block} (n : Nat) (k : Nat) (len : Int) (hS : b.Sound) : (Block.baseAdd b n k len).Sound := by
  unfold Block.baseAdd
  repeat' first
    | with_reducible assumption
    | with_reducible apply Block.setReg64_sound
    | ((with_reducible refine r2_ne ?_); rfl)

theorem Block.moveInc_sound {b : Block} (n : Nat) (i : BitVec 128) (sign : Int) (hS : b.Sound) : (Block.moveInc b n i sign).Sound := by
  unfold Block.moveInc
  repeat' first
    | with_reducible assumption
    | (extract_lets +onlyGivenNames z; refine Block.Sound.cut z ?_ (fun hz => ?_); (on_goal 2 => clear_value z); (on_goal 1 => subst z))
    | (extract_lets +onlyGivenNames z; subst z)
    | with_reducible apply Block.ite_sound
    | with_reducible apply Block.baseAdd_sound

theorem Block.moveEnd_sound {b : Block} (n : Nat) (i : BitVec 128) (hS : b.Sound) : (Block.moveEnd b n i).Sound := by
  unfold Block.moveEnd
  repeat' first
    | with_reducible assumption
    | with_reducible apply Block.modDma_sound
    | with_reducible apply Block.dmaNext_sound
    | with_reducible apply Block.moveInc_sound

theorem Block.consume_sound {b : Block} (n : Nat) (cls : Nat) (num : Nat) (pol : Bool) (hS : b.Sound) : (Block.consume b n cls num pol).Sound := by
  unfold Block.consume
  repeat' first
    | with_reducible assumption
    | with_reducible apply Block.ite_sound
    | with_reducible apply Block.setReg64_sound
    | with_reducible apply Block.modDma_sound
    | with_reducible apply Block.clrPend_sound
    | ((with_reducible refine r1_ne ?_); rfl)
    | split

theorem Block.slotTake_sound {b : Block} (s : Nat) (w : Word) (hS : b.Sound) : (Block.slotTake b s w).Sound := by
  unfold Block.slotTake
  repeat' first
    | with_reducible apply Block.setReg_sound
    | ((with_reducible refine r1_ne ?_); rfl)
    | (simp only [Block.sound_mk]; refine ⟨?_, ?_, ?_, ?_, ?_, ?_, ?_, ?_, ?_⟩)
    | with_reducible exact Block.Sound.rf (by assumption)
    | with_reducible exact Block.Sound.far (by assumption)
    | with_reducible exact Block.Sound.ssp (by assumption)
    | with_reducible exact Block.Sound.log (by assumption)
    | with_reducible exact Block.Sound.audit (by assumption)
    | with_reducible exact Block.Sound.vpt (by assumption)
    | with_reducible exact Block.Sound.sub (by assumption)
    | with_reducible exact Block.Sound.s0 (by assumption)
    | with_reducible exact Block.Sound.s1 (by assumption)

theorem Block.slotWrite_sound {b : Block} (s : Nat) (v : Word) (hS : b.Sound) : (Block.slotWrite b s v).Sound := by
  unfold Block.slotWrite
  repeat' first
    | with_reducible assumption
    | (extract_lets +onlyGivenNames z; subst z)
    | with_reducible apply Block.ite_sound
    | with_reducible apply Block.setReg_sound
    | with_reducible apply Block.setBit_sound
    | with_reducible apply Block.slotTake_sound
    | ((with_reducible refine r1_ne ?_); rfl)
    | (simp only [Block.sound_mk]; refine ⟨?_, ?_, ?_, ?_, ?_, ?_, ?_, ?_, ?_⟩)
    | with_reducible exact Block.Sound.rf (by assumption)
    | with_reducible exact Block.Sound.far (by assumption)
    | with_reducible exact Block.Sound.ssp (by assumption)
    | with_reducible exact Block.Sound.log (by assumption)
    | with_reducible exact Block.Sound.audit (by assumption)
    | with_reducible exact Block.Sound.vpt (by assumption)
    | with_reducible exact Block.Sound.sub (by assumption)
    | with_reducible exact Block.Sound.s0 (by assumption)
    | with_reducible exact Block.Sound.s1 (by assumption)

theorem Block.progWrite_sound {b : Block} (r : Requester) (w : Nat) (v : Word) (hS : b.Sound) : (Block.progWrite b r w v).Sound := by
  unfold Block.progWrite
  repeat' first
    | with_reducible assumption
    | (extract_lets +onlyGivenNames z; subst z)
    | with_reducible apply Block.ite_sound
    | with_reducible apply Block.auditRefused_sound
    | (simp only [Block.sound_mk]; refine ⟨?_, ?_, ?_, ?_, ?_, ?_, ?_, ?_, ?_⟩)
    | with_reducible exact Block.Sound.rf (by assumption)
    | with_reducible exact Block.Sound.far (by assumption)
    | with_reducible exact Block.Sound.ssp (by assumption)
    | with_reducible exact Block.Sound.log (by assumption)
    | with_reducible exact Block.Sound.audit (by assumption)
    | with_reducible exact Block.Sound.vpt (by assumption)
    | with_reducible exact Block.Sound.sub (by assumption)
    | with_reducible exact Block.Sound.s0 (by assumption)
    | with_reducible exact Block.Sound.s1 (by assumption)

theorem Block.progStore_sound {b : Block} (r : Requester) (w : Nat) (l : List Word) (hS : b.Sound) : (Block.progStore b r w l).Sound := by
  unfold Block.progStore
  repeat' first
    | with_reducible assumption
    | with_reducible apply Block.progWrite_sound
    | with_reducible apply Block.forEach_sound
    | (intro z hz hy)

theorem Block.dmaCfg_sound {b : Block} (n : Nat) (v : Word) (hS : b.Sound) : (Block.dmaCfg b n v).Sound := by
  unfold Block.dmaCfg
  repeat' first
    | with_reducible assumption
    | (extract_lets +onlyGivenNames z; refine Block.Sound.cut z ?_ (fun hz => ?_); (on_goal 2 => clear_value z); (on_goal 1 => subst z))
    | (extract_lets +onlyGivenNames z; subst z)
    | with_reducible apply Block.ite_sound
    | with_reducible apply Block.setReg_sound
    | with_reducible apply Block.setReg64_sound
    | with_reducible apply Block.forEach_sound
    | ((with_reducible refine r1_ne ?_); rfl)
    | ((with_reducible refine r2_ne ?_); rfl)
    | (intro z hz hy)

end Sys2Proof.Machine
end

