-- ==== Sys2Proof/Laws/Sound/Faults.lean ====
section
/-!
SUPPORT. The operations of Machine/Faults.lean keep Block.Sound.
-/
namespace Sys2Proof.Machine

theorem Block.cluFault_sound {b : Block} (cls : Nat) (unit : Nat) (c : Nat) (hS : b.Sound) : (Block.cluFault b cls unit c).Sound := by
  unfold Block.cluFault
  repeat' first
    | with_reducible assumption
    | with_reducible apply Block.faultP_sound
    | split

theorem Block.semFreeAll_sound {b : Block} (hS : b.Sound) : (Block.semFreeAll b).Sound := by
  unfold Block.semFreeAll
  repeat' first
    | with_reducible assumption
    | with_reducible apply Block.semFree_sound
    | with_reducible apply Block.forEach_sound
    | (intro z hz hy)

theorem Block.imbalance_sound {b : Block} (code : Nat) (unit : Nat) (hS : b.Sound) : (Block.imbalance b code unit).Sound := by
  unfold Block.imbalance
  repeat' first
    | with_reducible assumption
    | (extract_lets +onlyGivenNames z; subst z)
    | with_reducible apply Block.ite_sound
    | with_reducible apply Block.faultP_sound
    | with_reducible apply Block.faultU_sound
    | with_reducible apply Block.unitFault_sound
    | with_reducible apply Block.credBad_sound
    | with_reducible apply Block.trcStop_sound
    | with_reducible apply Block.cluFault_sound
    | with_reducible apply Block.semFreeAll_sound
    | split

theorem Block.mbxClear_sound {b : Block} (hS : b.Sound) : (Block.mbxClear b).Sound := by
  unfold Block.mbxClear
  repeat' first
    | (simp only [Block.sound_mk]; refine ⟨?_, ?_, ?_, ?_, ?_, ?_, ?_, ?_, ?_⟩)
    | with_reducible exact Block.Sound.rf (by assumption)
    | with_reducible exact Block.Sound.far (by assumption)
    | with_reducible exact Block.Sound.ssp (by assumption)
    | with_reducible exact Block.Sound.log (by assumption)
    | with_reducible exact Block.Sound.audit (by assumption)
    | with_reducible exact Block.Sound.vpt (by assumption)
    | with_reducible exact Block.Sound.sub (by assumption)
    | with_reducible exact Block.Sound.s0 (by assumption)
    | with_reducible exact Block.Sound.s1 (by assumption)

theorem Block.fltRelease_sound {b : Block} (hS : b.Sound) : (Block.fltRelease b).Sound := by
  unfold Block.fltRelease
  repeat' first
    | with_reducible assumption
    | (extract_lets +onlyGivenNames z; refine Block.Sound.cut z ?_ (fun hz => ?_); (on_goal 2 => clear_value z); (on_goal 1 => subst z))
    | (extract_lets +onlyGivenNames z; subst z)
    | with_reducible apply Block.ite_sound
    | with_reducible apply Block.clrFld_sound
    | ((with_reducible refine r0_ne ?_); rfl)
    | (simp only [Block.sound_mk]; refine ⟨?_, ?_, ?_, ?_, ?_, ?_, ?_, ?_, ?_⟩)
    | with_reducible exact Block.Sound.rf (by assumption)
    | with_reducible exact Block.Sound.far (by assumption)
    | with_reducible exact Block.Sound.ssp (by assumption)
    | with_reducible exact Block.Sound.log (by assumption)
    | with_reducible exact Block.Sound.audit (by assumption)
    | with_reducible exact Block.Sound.vpt (by assumption)
    | with_reducible exact Block.Sound.sub (by assumption)
    | with_reducible exact Block.Sound.s0 (by assumption)
    | with_reducible exact Block.Sound.s1 (by assumption)

theorem Block.fltClr_sound {b : Block} (v : Word) (hS : b.Sound) : (Block.fltClr b v).Sound := by
  unfold Block.fltClr
  repeat' first
    | with_reducible assumption
    | (extract_lets +onlyGivenNames z; refine Block.Sound.cut z ?_ (fun hz => ?_); (on_goal 2 => clear_value z); (on_goal 1 => subst z))
    | with_reducible apply Block.ite_sound
    | with_reducible apply Block.clrFld_sound
    | with_reducible apply Block.fltRelease_sound
    | ((with_reducible refine r0_ne ?_); rfl)

theorem Block.fltAck_sound {b : Block} (v : Word) (hS : b.Sound) : (Block.fltAck b v).Sound := by
  unfold Block.fltAck
  repeat' first
    | with_reducible assumption
    | (extract_lets +onlyGivenNames z; refine Block.Sound.cut z ?_ (fun hz => ?_); (on_goal 2 => clear_value z); (on_goal 1 => subst z))
    | (extract_lets +onlyGivenNames z; subst z)
    | with_reducible apply Block.setFld_sound
    | ((with_reducible refine r0_ne ?_); rfl)
    | (simp only [Block.sound_mk]; refine ⟨?_, ?_, ?_, ?_, ?_, ?_, ?_, ?_, ?_⟩)
    | with_reducible exact Block.Sound.rf (by assumption)
    | with_reducible exact Block.Sound.far (by assumption)
    | with_reducible exact Block.Sound.ssp (by assumption)
    | with_reducible exact Block.Sound.audit (by assumption)
    | with_reducible exact Block.Sound.vpt (by assumption)
    | with_reducible exact Block.Sound.sub (by assumption)
    | with_reducible exact Block.Sound.s0 (by assumption)
    | with_reducible exact Block.Sound.s1 (by assumption)
    | omega

theorem Block.fltWarm_sound {b : Block} (hS : b.Sound) : (Block.fltWarm b).Sound := by
  unfold Block.fltWarm
  repeat' first
    | with_reducible assumption
    | (extract_lets +onlyGivenNames z; refine Block.Sound.cut z ?_ (fun hz => ?_); (on_goal 2 => clear_value z); (on_goal 1 => subst z))
    | with_reducible apply Block.clrRegs_sound
    | with_reducible apply Block.auditHk_sound
    | with_reducible apply Block.forEach_sound
    | (simp only [Block.sound_mk]; refine ⟨?_, ?_, ?_, ?_, ?_, ?_, ?_, ?_, ?_⟩)
    | with_reducible exact Block.Sound.rf (by assumption)
    | with_reducible exact Block.Sound.far (by assumption)
    | with_reducible exact Block.Sound.ssp (by assumption)
    | with_reducible exact Block.Sound.audit (by assumption)
    | with_reducible exact Block.Sound.vpt (by assumption)
    | with_reducible exact Block.Sound.sub (by assumption)
    | with_reducible exact Block.Sound.s0 (by assumption)
    | with_reducible exact Block.Sound.s1 (by assumption)
    | (intro z hz hy)
    | omega

end Sys2Proof.Machine
end

