-- ==== Sys2Proof/Laws/Sound/Power.lean ====
section
/-!
SUPPORT. The operations of Machine/Power.lean keep Block.Sound.
-/
namespace Sys2Proof.Machine

theorem Block.pwrEvt_sound {b : Block} (f : Fld) (e : Nat) (hS : b.Sound) : (Block.pwrEvt b f e).Sound := by
  unfold Block.pwrEvt
  repeat' first
    | with_reducible assumption
    | with_reducible apply Block.setBit_sound
    | with_reducible apply Block.raise_sound
    | ((with_reducible refine r0_ne ?_); rfl)

theorem Block.trip_sound {b : Block} (hS : b.Sound) : (Block.trip b).Sound := by
  unfold Block.trip
  repeat' first
    | (extract_lets +onlyGivenNames z; subst z)
    | with_reducible apply Block.faultX_sound
    | (simp only [Block.sound_mk]; refine ⟨?_, ?_, ?_, ?_, ?_, ?_, ?_, ?_, ?_⟩)
    | with_reducible exact Block.Sound.rf (by assumption)
    | with_reducible exact Block.Sound.far (by assumption)
    | with_reducible exact Block.Sound.ssp (by assumption)
    | with_reducible exact Block.Sound.log (by assumption)
    | with_reducible exact Block.Sound.audit (by assumption)
    | with_reducible exact Block.Sound.vpt (by assumption)
    | with_reducible exact Block.Sound.sub (by assumption)
    | with_reducible exact Block.Sound.s0 (by assumption)
    | with_reducible exact Block.Sound.s1 (by assumption)

theorem Block.frostEnter_sound {b : Block} (hS : b.Sound) : (Block.frostEnter b).Sound := by
  unfold Block.frostEnter
  repeat' first
    | with_reducible assumption
    | (extract_lets +onlyGivenNames z; refine Block.Sound.cut z ?_ (fun hz => ?_); (on_goal 2 => clear_value z); (on_goal 1 => subst z))
    | (extract_lets +onlyGivenNames z; subst z)
    | with_reducible apply Block.setFld_sound
    | with_reducible apply Block.setBit_sound
    | ((with_reducible refine r0_ne ?_); rfl)
    | (simp only [Block.sound_mk]; refine ⟨?_, ?_, ?_, ?_, ?_, ?_, ?_, ?_, ?_⟩)
    | with_reducible exact Block.Sound.rf (by assumption)
    | with_reducible exact Block.Sound.far (by assumption)
    | with_reducible exact Block.Sound.ssp (by assumption)
    | with_reducible exact Block.Sound.log (by assumption)
    | with_reducible exact Block.Sound.audit (by assumption)
    | with_reducible exact Block.Sound.vpt (by assumption)
    | with_reducible exact Block.Sound.sub (by assumption)
    | with_reducible exact Block.Sound.s0 (by assumption)
    | with_reducible exact Block.Sound.s1 (by assumption)
    | split

theorem Block.frostWrite_sound {b : Block} (v : Word) (hS : b.Sound) : (Block.frostWrite b v).Sound := by
  unfold Block.frostWrite
  repeat' first
    | with_reducible assumption
    | (extract_lets +onlyGivenNames z; refine Block.Sound.cut z ?_ (fun hz => ?_); (on_goal 2 => clear_value z); (on_goal 1 => subst z))
    | with_reducible apply Block.ite_sound
    | with_reducible apply Block.writeCodes_sound
    | with_reducible apply Block.thawStart_sound
    | with_reducible apply Block.frostEnter_sound

theorem Block.fmpSettle_sound {b : Block} (c : Nat) (n : Nat) (hS : b.Sound) : (Block.fmpSettle b c n).Sound := by
  unfold Block.fmpSettle
  repeat' first
    | with_reducible assumption
    | with_reducible apply Block.modClu_sound
    | with_reducible apply Block.draw_sound
    | with_reducible apply Block.forEach_sound
    | (intro z hz hy)

theorem Block.fmpComplete_sound {b : Block} (c : Nat) (hS : b.Sound) : (Block.fmpComplete b c).Sound := by
  unfold Block.fmpComplete
  repeat' first
    | with_reducible assumption
    | (extract_lets +onlyGivenNames z; subst z)
    | with_reducible apply Block.fmpArrive_sound
    | with_reducible apply Block.fmpSettle_sound
    | with_reducible apply Block.forEach_sound
    | (simp only [Block.sound_mk]; refine ⟨?_, ?_, ?_, ?_, ?_, ?_, ?_, ?_, ?_⟩)
    | with_reducible exact Block.Sound.rf (by assumption)
    | with_reducible exact Block.Sound.far (by assumption)
    | with_reducible exact Block.Sound.ssp (by assumption)
    | with_reducible exact Block.Sound.log (by assumption)
    | with_reducible exact Block.Sound.audit (by assumption)
    | with_reducible exact Block.Sound.vpt (by assumption)
    | with_reducible exact Block.Sound.sub (by assumption)
    | with_reducible exact Block.Sound.s0 (by assumption)
    | with_reducible exact Block.Sound.s1 (by assumption)
    | (intro z hz hy)

theorem Block.frostPart_sound {b : Block} (p : Nat) (hS : b.Sound) : (Block.frostPart b p).Sound := by
  unfold Block.frostPart
  repeat' first
    | with_reducible assumption
    | (extract_lets +onlyGivenNames z; refine Block.Sound.cut z ?_ (fun hz => ?_); (on_goal 2 => clear_value z); (on_goal 1 => subst z))
    | with_reducible apply Block.modPart_sound
    | with_reducible apply Block.landAll_sound
    | with_reducible apply Block.fmpComplete_sound
    | with_reducible apply Block.forEach_sound
    | (intro z hz hy)

theorem Block.setDuty_sound {b : Block} (d : Nat) (hS : b.Sound) : (Block.setDuty b d).Sound := by
  unfold Block.setDuty
  repeat' first
    | with_reducible assumption
    | (extract_lets +onlyGivenNames z; refine Block.Sound.cut z ?_ (fun hz => ?_); (on_goal 2 => clear_value z); (on_goal 1 => subst z))
    | (extract_lets +onlyGivenNames z; subst z)
    | with_reducible apply Block.ite_sound
    | with_reducible apply Block.setFld_sound
    | with_reducible apply Block.pwrEvt_sound
    | ((with_reducible refine r0_ne ?_); rfl)

theorem Block.showTemp_sound {b : Block} (k : Nat) (e : BitVec 8 × BitVec 8) (hS : b.Sound) : (Block.showTemp b k e).Sound := by
  unfold Block.showTemp
  repeat' first
    | with_reducible assumption
    | (extract_lets +onlyGivenNames z; subst z)
    | with_reducible apply Block.setReg_sound
    | ((with_reducible refine r1_ne ?_); rfl)

theorem Block.sensorRead_sound {b : Block} (sites : List (BitVec 8 × BitVec 8)) (power : Nat) (hS : b.Sound) : (Block.sensorRead b sites power).Sound := by
  unfold Block.sensorRead
  repeat' first
    | with_reducible assumption
    | (extract_lets +onlyGivenNames z; refine Block.Sound.cut z ?_ (fun hz => ?_); (on_goal 2 => clear_value z); (on_goal 1 => subst z))
    | (extract_lets +onlyGivenNames z; subst z)
    | with_reducible apply Block.ite_sound
    | with_reducible apply Block.setFld_sound
    | with_reducible apply Block.pwrEvt_sound
    | with_reducible apply Block.trip_sound
    | with_reducible apply Block.setDuty_sound
    | with_reducible apply Block.showTemp_sound
    | with_reducible apply Block.forEach_sound
    | ((with_reducible refine r0_ne ?_); rfl)
    | (simp only [Block.sound_mk]; refine ⟨?_, ?_, ?_, ?_, ?_, ?_, ?_, ?_, ?_⟩)
    | with_reducible exact Block.Sound.rf (by assumption)
    | with_reducible exact Block.Sound.far (by assumption)
    | with_reducible exact Block.Sound.ssp (by assumption)
    | with_reducible exact Block.Sound.log (by assumption)
    | with_reducible exact Block.Sound.audit (by assumption)
    | with_reducible exact Block.Sound.vpt (by assumption)
    | with_reducible exact Block.Sound.sub (by assumption)
    | with_reducible exact Block.Sound.s0 (by assumption)
    | with_reducible exact Block.Sound.s1 (by assumption)
    | (intro z hz hy)

end Sys2Proof.Machine
end

