-- ==== Sys2Proof/Laws/Sound/Reset.lean ====
section
/-!
SUPPORT. The operations of Machine/Reset.lean keep Block.Sound.
-/
namespace Sys2Proof.Machine

theorem Fw.setTrial_set0 (f : Fw) (s : Bool) : (f.setTrial s).set0 = f.set0 := by cases s <;> rfl
theorem Fw.setTrial_set1 (f : Fw) (s : Bool) : (f.setTrial s).set1 = f.set1 := by cases s <;> rfl
theorem Fw.setSlot_set0 (f : Fw) (s : Bool) (n : Nat) : (f.setSlot s n).set0 = f.set0 := by cases s <;> rfl
theorem Fw.setSlot_set1 (f : Fw) (s : Bool) (n : Nat) : (f.setSlot s n).set1 = f.set1 := by cases s <;> rfl

theorem Block.setAll_sound (l : List (RegKey × BitVec 32)) (hl : ∀ e ∈ l, e.1.name ≠ .CTL_ID) {b : Block} (hS : b.Sound) :
    (forEach l b (fun e x => x.setReg e.1 e.2)).Sound := by
  induction l generalizing b with
  | nil => exact hS
  | cons a r ih => exact ih (fun e he => hl e (List.mem_cons_of_mem _ he)) (Block.setReg_sound hS _ _ (hl a (List.mem_cons_self ..)))

/-- A block whose settings copies hold no CTL_ID, else as one that is sound. -/
theorem Block.withFw_sound {b : Block} (h : b.Sound) (w : Fw) (h0 : SetCopy.Ok w.set0) (h1 : SetCopy.Ok w.set1) : Block.Sound { b with fw := w } :=
  (Block.sound_mk ..).mpr ⟨h.rf, h.far, h.ssp, h.log, h.audit, h.vpt, h.sub, h0, h1⟩

theorem SetCopy.empty_ok : SetCopy.Ok {} := fun _ h => by cases h

theorem Block.calRestore_sound {b : Block} (ch : Nat) (hS : b.Sound) : (Block.calRestore b ch).Sound := by
  unfold Block.calRestore
  repeat' first
    | with_reducible assumption
    | (extract_lets +onlyGivenNames z; refine Block.Sound.cut z ?_ (fun hz => ?_); (on_goal 2 => clear_value z); (on_goal 1 => subst z))
    | (extract_lets +onlyGivenNames z; subst z)
    | with_reducible apply Block.raiseIf_sound
    | with_reducible apply Block.calDeskew_sound
    | (simp only [Block.sound_mk]; refine ⟨?_, ?_, ?_, ?_, ?_, ?_, ?_, ?_, ?_⟩)
    | with_reducible exact Block.Sound.rf (by assumption)
    | with_reducible exact Block.Sound.far (by assumption)
    | with_reducible exact Block.Sound.ssp (by assumption)
    | with_reducible exact Block.Sound.log (by assumption)
    | with_reducible exact Block.Sound.audit (by assumption)
    | with_reducible exact Block.Sound.vpt (by assumption)
    | with_reducible exact Block.Sound.sub (by assumption)
    | with_reducible exact Block.Sound.s0 (by assumption)
    | with_reducible exact Block.Sound.s1 (by assumption)

theorem Block.prstBusy_sound {b : Block} (p : Nat) (v : Bool) (hS : b.Sound) : (Block.prstBusy b p v).Sound := by
  unfold Block.prstBusy
  repeat' first
    | with_reducible assumption
    | (extract_lets +onlyGivenNames z; subst z)
    | with_reducible apply Block.setReg_sound
    | ((with_reducible refine r1_ne ?_); rfl)

theorem Block.loadReset_sound {b : Block} (p : Nat) (hS : b.Sound) : (Block.loadReset b p).Sound := by
  unfold Block.loadReset
  repeat' first
    | with_reducible assumption
    | (extract_lets +onlyGivenNames z; refine Block.Sound.cut z ?_ (fun hz => ?_); (on_goal 2 => clear_value z); (on_goal 1 => subst z))
    | with_reducible apply Block.ite_sound
    | with_reducible apply Block.modCfg_sound
    | with_reducible apply Block.cfgEnter_sound

theorem Block.partReset_sound {b : Block} (p : Nat) (hS : b.Sound) : (Block.partReset b p).Sound := by
  unfold Block.partReset
  repeat' first
    | with_reducible assumption
    | (extract_lets +onlyGivenNames z; refine Block.Sound.cut z ?_ (fun hz => ?_); (on_goal 2 => clear_value z); (on_goal 1 => subst z))
    | (extract_lets +onlyGivenNames z; subst z)
    | with_reducible apply Block.ite_sound
    | with_reducible apply Block.setReg_sound
    | with_reducible apply Block.clrRegs_sound
    | with_reducible apply Block.setPart_sound
    | with_reducible apply Block.modClu_sound
    | with_reducible apply Block.dropTarget_sound
    | with_reducible apply Block.tduHandover_sound
    | with_reducible apply Block.trcRelease_sound
    | with_reducible apply Block.trgReset_sound
    | with_reducible apply Block.vptQueue_sound
    | with_reducible apply Block.vptPartReset_sound
    | with_reducible apply Block.unload_sound
    | with_reducible apply Block.semBreak_sound
    | with_reducible apply Block.dmaAbort_sound
    | with_reducible apply Block.calRestore_sound
    | with_reducible apply Block.prstBusy_sound
    | with_reducible apply Block.loadReset_sound
    | with_reducible apply Block.forEach_sound
    | ((with_reducible refine r1_ne ?_); rfl)
    | (intro z hz hy)

theorem Block.prstWrite_sound {b : Block} (r : Requester) (w : Nat) (v : Word) (hS : b.Sound) : (Block.prstWrite b r w v).Sound := by
  unfold Block.prstWrite
  repeat' first
    | with_reducible assumption
    | with_reducible apply Block.partReset_sound
    | with_reducible apply Block.forEach_sound
    | (intro z hz hy)

theorem Block.partResetDone_sound {b : Block} (p : Nat) (hS : b.Sound) : (Block.partResetDone b p).Sound := by
  unfold Block.partResetDone
  repeat' first
    | with_reducible assumption
    | with_reducible apply Block.ite_sound
    | with_reducible apply Block.trcReleased_sound
    | with_reducible apply Block.prstBusy_sound

theorem Block.dmaLand_sound {b : Block} (q : NocReq) (hS : b.Sound) : (Block.dmaLand b q).Sound := by
  unfold Block.dmaLand
  repeat' first
    | with_reducible assumption
    | with_reducible apply Block.ite_sound
    | with_reducible apply Block.farWrite_sound
    | with_reducible apply Block.snoopRange_sound
    | with_reducible apply Block.sspPut_sound
    | split

theorem Block.dmaWarm_sound {b : Block} (hS : b.Sound) : (Block.dmaWarm b).Sound := by
  unfold Block.dmaWarm
  repeat' first
    | with_reducible assumption
    | (extract_lets +onlyGivenNames z; refine Block.Sound.cut z ?_ (fun hz => ?_); (on_goal 2 => clear_value z); (on_goal 1 => subst z))
    | with_reducible apply Block.setReg_sound
    | with_reducible apply Block.clrRegs_sound
    | with_reducible apply Block.semBreak_sound
    | with_reducible apply Block.dmaLand_sound
    | with_reducible apply Block.forEach_sound
    | ((with_reducible refine r1_ne ?_); rfl)
    | (simp only [Block.sound_mk]; refine ⟨?_, ?_, ?_, ?_, ?_, ?_, ?_, ?_, ?_⟩)
    | with_reducible exact Block.Sound.rf (by assumption)
    | with_reducible exact Block.Sound.far (by assumption)
    | with_reducible exact Block.Sound.ssp (by assumption)
    | with_reducible exact Block.Sound.log (by assumption)
    | with_reducible exact Block.Sound.audit (by assumption)
    | with_reducible exact Block.Sound.vpt (by assumption)
    | with_reducible exact Block.Sound.sub (by assumption)
    | with_reducible exact Block.Sound.s0 (by assumption)
    | with_reducible exact Block.Sound.s1 (by assumption)
    | (intro z hz hy)

theorem Block.tduWarm_sound {b : Block} (hS : b.Sound) : (Block.tduWarm b).Sound := by
  unfold Block.tduWarm
  repeat' first
    | with_reducible assumption
    | (extract_lets +onlyGivenNames z; refine Block.Sound.cut z ?_ (fun hz => ?_); (on_goal 2 => clear_value z); (on_goal 1 => subst z))
    | with_reducible apply Block.ite_sound
    | with_reducible apply Block.setReg_sound
    | with_reducible apply Block.clrRegs_sound
    | with_reducible apply Block.tduSetHeld_sound
    | with_reducible apply Block.forEach_sound
    | ((with_reducible refine r1_ne ?_); rfl)
    | (simp only [Block.sound_mk]; refine ⟨?_, ?_, ?_, ?_, ?_, ?_, ?_, ?_, ?_⟩)
    | with_reducible exact Block.Sound.rf (by assumption)
    | with_reducible exact Block.Sound.far (by assumption)
    | with_reducible exact Block.Sound.ssp (by assumption)
    | with_reducible exact Block.Sound.log (by assumption)
    | with_reducible exact Block.Sound.audit (by assumption)
    | with_reducible exact Block.Sound.vpt (by assumption)
    | with_reducible exact Block.Sound.sub (by assumption)
    | with_reducible exact Block.Sound.s0 (by assumption)
    | with_reducible exact Block.Sound.s1 (by assumption)
    | (intro z hz hy)

theorem Block.linkWarm_sound {b : Block} (hS : b.Sound) : (Block.linkWarm b).Sound := by
  unfold Block.linkWarm
  repeat' first
    | with_reducible assumption
    | (extract_lets +onlyGivenNames z; refine Block.Sound.cut z ?_ (fun hz => ?_); (on_goal 2 => clear_value z); (on_goal 1 => subst z))
    | with_reducible apply Block.ite_sound
    | with_reducible apply Block.clrRegs_sound
    | with_reducible apply Block.modLink_sound
    | with_reducible apply Block.lnkEnter_sound
    | with_reducible apply Block.deliberateDown_sound
    | with_reducible apply Block.forEach_sound
    | (intro z hz hy)

theorem Block.funcWarm_sound {b : Block} (hS : b.Sound) : (Block.funcWarm b).Sound := by
  unfold Block.funcWarm
  repeat' first
    | with_reducible assumption
    | (extract_lets +onlyGivenNames z; refine Block.Sound.cut z ?_ (fun hz => ?_); (on_goal 2 => clear_value z); (on_goal 1 => subst z))
    | with_reducible apply Block.endSessions_sound
    | (simp only [Block.sound_mk]; refine ⟨?_, ?_, ?_, ?_, ?_, ?_, ?_, ?_, ?_⟩)
    | with_reducible exact Block.Sound.rf (by assumption)
    | with_reducible exact Block.Sound.far (by assumption)
    | with_reducible exact Block.Sound.ssp (by assumption)
    | with_reducible exact Block.Sound.log (by assumption)
    | with_reducible exact Block.Sound.audit (by assumption)
    | with_reducible exact Block.Sound.vpt (by assumption)
    | with_reducible exact Block.Sound.sub (by assumption)
    | with_reducible exact Block.Sound.s0 (by assumption)
    | with_reducible exact Block.Sound.s1 (by assumption)

theorem Block.timWarm_sound {b : Block} (old : Block) (hS : b.Sound) : (Block.timWarm b old).Sound := by
  unfold Block.timWarm
  extract_lets b1 b2
  have h1 : b1.Sound := Block.setAll_sound _ (fun e he hc => by
    have := (List.mem_filter.mp he).2
    rw [hc] at this
    exact absurd this (by decide)) (Block.clrRegs_sound hS _)
  have h2 : b2.Sound := (Block.sound_mk ..).mpr ⟨h1.rf, h1.far, h1.ssp, h1.log, h1.audit, h1.vpt, h1.sub, h1.set0, h1.set1⟩
  exact Block.ite_sound h2 (Block.setFld_sound (Block.modTu_sound _ h2) _ _ _ (r0_ne rfl))

theorem Block.calWarm_sound {b : Block} (hS : b.Sound) : (Block.calWarm b).Sound := by
  unfold Block.calWarm
  repeat' first
    | with_reducible assumption
    | (extract_lets +onlyGivenNames z; refine Block.Sound.cut z ?_ (fun hz => ?_); (on_goal 2 => clear_value z); (on_goal 1 => subst z))
    | (extract_lets +onlyGivenNames z; subst z)
    | with_reducible apply Block.raiseIf_sound
    | with_reducible apply Block.calShow_sound
    | with_reducible apply Block.forEach_sound
    | (simp only [Block.sound_mk]; refine ⟨?_, ?_, ?_, ?_, ?_, ?_, ?_, ?_, ?_⟩)
    | with_reducible exact Block.Sound.rf (by assumption)
    | with_reducible exact Block.Sound.far (by assumption)
    | with_reducible exact Block.Sound.ssp (by assumption)
    | with_reducible exact Block.Sound.log (by assumption)
    | with_reducible exact Block.Sound.audit (by assumption)
    | with_reducible exact Block.Sound.vpt (by assumption)
    | with_reducible exact Block.Sound.sub (by assumption)
    | with_reducible exact Block.Sound.s0 (by assumption)
    | with_reducible exact Block.Sound.s1 (by assumption)
    | (intro z hz hy)

theorem Block.withClus_sound {b : Block} (h : b.Sound) (c : List (Nat × Cluster)) : Block.Sound { b with clus := c } := by
  refine (Block.sound_mk ..).mpr ?_
  exact ⟨h.rf, h.far, h.ssp, h.log, h.audit, h.vpt, h.sub, h.set0, h.set1⟩
theorem Block.warm7_sound {b6 : Block} (h6 : b6.Sound) : (forEach (List.range 256) b6 (fun p x => if x.reg (r1 .TRG_SBRKp_CTRL p) = 0 then x
    else x.setReg (r1 .TRG_SBRKp_CTRL p) (x.reg (r1 .TRG_SBRKp_CTRL p) &&& 0x7FFFFFFF#32))).Sound :=
  Block.forEach_sound h6 _ _ (fun p x hx => by
    split
    · exact hx
    · exact Block.setReg_sound hx _ _ (r1_ne rfl))
theorem Block.warm8_sound {b7 : Block} (m : Word) (h7 : b7.Sound) : (((b7.clrFld (r0 .PWR_POWER) F.PWR_POWER_PEAK).clrFld (r0 .PWR_STATUS) F.PWR_STATUS_STATE).setReg (r0 .SEC_STATUS) (b7.reg (r0 .SEC_STATUS) &&& m)).Sound :=
 Block.setReg_sound (Block.clrFld_sound (Block.clrFld_sound h7 _ _ (r0_ne rfl)) _ _ (r0_ne rfl)) _ _ (r0_ne rfl)
theorem Block.warm10_sound {b9 : Block} (h9 : b9.Sound) : ((b9.setReg (r0 .FW_VER_HK) 0).setReg (r0 .FW_VER_LINK) 0).Sound :=
  Block.setReg_sound (Block.setReg_sound h9 (r0 .FW_VER_HK) 0 (r0_ne rfl)) (r0 .FW_VER_LINK) 0 (r0_ne rfl)
theorem Block.warm11_sound {b10 : Block} (h10 : b10.Sound) (w : Power) (cause : Nat): Block.Sound { b10 with
    cfg := {}, noc := {}
    fw := { b10.fw with safeReq := decide (cause = 5), linksOff := true }
    pw := { w with phase := .boot, cfgDone := false, cfgErr := false, faultN := true, thawReq := false, warmReq := none, byPacket := false, trip := false, thermN := w.warned } } := by
  refine (Block.sound_mk ..).mpr ?_
  exact ⟨h10.rf, h10.far, h10.ssp, h10.log, h10.audit, h10.vpt, h10.sub, h10.set0, h10.set1⟩
theorem Block.warm5_sound {b4 : Block} (h4 : b4.Sound) (old : Block) : ((((b4.calWarm.trcWarm.trgReset (fun _ => true)).dmaWarm.marchWarm.funcWarm.timWarm old).clrRegs
    (fun k => isCfgReg k.name && !cfgKept k.name)).fltWarm.tduWarm).Sound :=
  Block.tduWarm_sound (Block.fltWarm_sound (Block.clrRegs_sound (Block.timWarm_sound _ (Block.funcWarm_sound (Block.marchWarm_sound
    (Block.dmaWarm_sound (Block.trgReset_sound _ (Block.trcWarm_sound (Block.calWarm_sound h4))))))) _))
theorem Block.warm9_sound {b8 : Block} (h8 : b8.Sound) (cause : Nat): ((((b8.satFld (r0 .CTL_RST_CAUSE) F.CTL_RST_CAUSE_WARMS 1).setFld (r0 .CTL_RST_CAUSE) F.CTL_RST_CAUSE_CAUSE cause).clrReg (r0 .FW_STATUS))).Sound := Block.clrReg_sound (Block.setFld_sound (Block.satFld_sound h8 _ _ _ (r0_ne rfl)) _ _ _ (r0_ne rfl)) _

theorem Block.warm_sound {b : Block} (cause : Nat) (hS : b.Sound) : (Block.warm b cause).Sound := by
  unfold Block.warm
  extract_lets b0 b1 b2 b3 b4 b5 b6 b7 b8 k b9 w b10
  have h0 : b0.Sound := Block.withClus_sound hS _
  have h1 : b1.Sound := Block.forEach_sound h0 _ _ (fun p x hx => Block.stopInconsistent_sound _ hx)
  have h2 : b2.Sound := Block.vptWarm_sound (Block.linkWarm_sound h1)
  have h3 : b3.Sound := Block.forEach_sound h2 _ _ (fun p x hx => Block.ite_sound (Block.semFree_sound _ _ hx) hx)
  have h4 : b4.Sound := Block.forEach_sound h3 _ _ (fun p x hx => Block.partResetDone_sound _ (Block.partReset_sound _ hx))
  have h6 : b6.Sound := Block.clrRegs_sound (Block.warm5_sound h4 b) _
  have h7 : b7.Sound := Block.warm7_sound h6
  have h8 : b8.Sound := Block.warm8_sound _ h7
  have h9 : b9.Sound := Block.warm9_sound h8 cause
  have h10 : b10.Sound := Block.warm10_sound h9
  exact Block.warm11_sound h10 w cause

theorem Block.warmAsk_sound {b : Block} (cause : Nat) (hS : b.Sound) : (Block.warmAsk b cause).Sound := by
  unfold Block.warmAsk
  repeat' first
    | with_reducible assumption
    | (extract_lets +onlyGivenNames z; subst z)
    | with_reducible apply Block.ite_sound
    | with_reducible apply Block.thawStart_sound
    | with_reducible apply Block.warm_sound
    | (simp only [Block.sound_mk]; refine ⟨?_, ?_, ?_, ?_, ?_, ?_, ?_, ?_, ?_⟩)
    | with_reducible exact Block.Sound.rf (by assumption)
    | with_reducible exact Block.Sound.far (by assumption)
    | with_reducible exact Block.Sound.ssp (by assumption)
    | with_reducible exact Block.Sound.log (by assumption)
    | with_reducible exact Block.Sound.audit (by assumption)
    | with_reducible exact Block.Sound.vpt (by assumption)
    | with_reducible exact Block.Sound.sub (by assumption)
    | with_reducible exact Block.Sound.s0 (by assumption)
    | with_reducible exact Block.Sound.s1 (by assumption)

theorem Block.thawPart_sound {b : Block} (p : Nat) (hS : b.Sound) : (Block.thawPart b p).Sound := by
  unfold Block.thawPart
  repeat' first
    | with_reducible assumption
    | with_reducible apply Block.modPart_sound
    | with_reducible apply Block.drain_sound

theorem Block.cold_sound {b : Block} (hS : b.Sound) : (Block.cold b).Sound := by
  unfold Block.cold
  repeat' first
    | (extract_lets +onlyGivenNames z; refine Block.Sound.cut z ?_ (fun hz => ?_); (on_goal 2 => clear_value z); (on_goal 1 => subst z))
    | (extract_lets +onlyGivenNames z; subst z)
    | exact Nat.zero_le _
    | exact SetCopy.empty_ok
    | (simp only [Block.sound_mk]; refine ⟨?_, ?_, ?_, ?_, ?_, ?_, ?_, ?_, ?_⟩)
    | with_reducible exact Block.Sound.rf (by assumption)
    | with_reducible exact Block.Sound.far (by assumption)
    | with_reducible exact Block.Sound.ssp (by assumption)
    | with_reducible exact Block.Sound.log (by assumption)
    | with_reducible exact Block.Sound.vpt (by assumption)
    | with_reducible exact Block.Sound.sub (by assumption)
    | with_reducible exact Block.Sound.s0 (by assumption)
    | with_reducible exact Block.Sound.s1 (by assumption)
    | omega
    | rfl
    | exact ⟨rfl, rfl⟩

theorem Block.settingsFollow_sound {b : Block} (old : Block) (hS : b.Sound) : (Block.settingsFollow b old).Sound := by
  unfold Block.settingsFollow
  extract_lets keys b1
  have h1 : b1.Sound := Block.forEach_sound hS _ _ (fun k x hx => by
    split
    · rename_i h
      exact Block.tduSetHeld_sound _ _ (Block.ite_sound hx (Block.setReg_sound hx _ _ (by rw [h]; exact RegName.ne_ctlId rfl)))
    · split
      · exact Block.slotTake_sound _ _ hx
      · split
        · rename_i h
          exact Block.dmaCfg_sound _ _ (Block.setReg_sound hx _ _ (by rw [h.1]; exact RegName.ne_ctlId rfl))
        · exact hx)
  exact Block.ite_sound h1 (Block.newSource_sound h1)

theorem Block.factory_sound {b : Block} (hS : b.Sound) : (Block.factory b).Sound := by
  unfold Block.factory
  repeat' first
    | with_reducible assumption
    | (extract_lets +onlyGivenNames z; refine Block.Sound.cut z ?_ (fun hz => ?_); (on_goal 2 => clear_value z); (on_goal 1 => subst z))
    | (extract_lets +onlyGivenNames z; subst z)
    | with_reducible apply Block.writeCodes_sound
    | with_reducible apply Block.forEach_sound
    | (simp only [Block.sound_mk]; refine ⟨?_, ?_, ?_, ?_, ?_, ?_, ?_, ?_, ?_⟩)
    | with_reducible exact Block.Sound.rf (by assumption)
    | with_reducible exact Block.Sound.far (by assumption)
    | with_reducible exact Block.Sound.ssp (by assumption)
    | with_reducible exact Block.Sound.log (by assumption)
    | with_reducible exact Block.Sound.audit (by assumption)
    | with_reducible exact Block.Sound.vpt (by assumption)
    | with_reducible exact Block.Sound.sub (by assumption)
    | with_reducible exact Block.Sound.s0 (by assumption)
    | with_reducible exact Block.Sound.s1 (by assumption)
    | (intro z hz hy)

theorem Block.applySettings_sound {b : Block} (c : SetCopy) (hS : b.Sound) : (Block.applySettings b c).Sound := by
  unfold Block.applySettings
  extract_lets b1
  have h1 : b1.Sound := Block.forEach_sound (Block.factory_sound hS) _ _ (fun e x hx => Block.writeCodes_sound hx _ _)
  exact Block.calBoot_sound _ (Block.withFw_sound h1 _ h1.s0 h1.s1)

theorem Block.takeSettings_sound {b : Block} (fmt from_ : Nat) (migrates : Bool) (hS : b.Sound) : OptSound (Block.takeSettings b fmt from_ migrates) := by
  unfold Block.takeSettings
  extract_lets k w0 b0
  have h0 : b0.Sound := Block.withFw_sound hS _ hS.s0 hS.s1
  have hp : ∀ {x : Block} (m n : Nat), x.Sound → ((x.setFld k F.FW_STATUS_SET_SRC m).setFld k F.FW_STATUS_SET_SEQ n).Sound :=
    fun m n hx => Block.setFld_sound (Block.setFld_sound hx _ _ _ (r0_ne rfl)) _ _ _ (r0_ne rfl)
  split
  · exact OptSound.some (hp _ _ (Block.applySettings_sound _ h0))
  · split
    · extract_lets b1 c w1 b2
      have h1 : b1.Sound := Block.applySettings_sound _ h0
      have hc : SetCopy.Ok c := Block.settingsNow_ok _ _
      have h2 : b2.Sound := by
        refine Block.withFw_sound h1 _ ?_ ?_ <;> split
        · exact hc
        · exact h1.s0
        · exact h1.s1
        · exact hc
      exact OptSound.some (hp _ _ h2)
    · exact OptSound.none
  · split
    · exact OptSound.none
    · exact OptSound.some (hp _ _ (Block.factory_sound h0))

theorem Block.allDisabled_sound {b : Block} (hS : b.Sound) : (Block.allDisabled b).Sound := by
  unfold Block.allDisabled
  repeat' first
    | with_reducible assumption
    | with_reducible apply Block.lnkEnter_sound
    | with_reducible apply Block.vptDown_sound
    | with_reducible apply Block.forEach_sound
    | (intro z hz hy)

theorem Block.keysUp_sound {b : Block} (hS : b.Sound) : (Block.keysUp b).Sound := by
  unfold Block.keysUp
  repeat' first
    | with_reducible assumption
    | with_reducible apply Block.setFld_sound
    | with_reducible apply Block.showKeys_sound
    | ((with_reducible refine r0_ne ?_); rfl)

theorem Block.safe_sound {b : Block} (hS : b.Sound) : (Block.safe b).Sound := by
  unfold Block.safe
  repeat' first
    | with_reducible assumption
    | (extract_lets +onlyGivenNames z; refine Block.Sound.cut z ?_ (fun hz => ?_); (on_goal 2 => clear_value z); (on_goal 1 => subst z))
    | (extract_lets +onlyGivenNames z; subst z)
    | with_reducible apply Block.setFld_sound
    | with_reducible apply Block.setBit_sound
    | with_reducible apply Block.auditHk_sound
    | with_reducible apply Block.showSlots_sound
    | with_reducible apply Block.settingsFollow_sound
    | with_reducible apply Block.factory_sound
    | with_reducible apply Block.allDisabled_sound
    | with_reducible apply Block.keysUp_sound
    | ((with_reducible refine r0_ne ?_); rfl)
    | (simp only [Block.sound_mk]; refine ⟨?_, ?_, ?_, ?_, ?_, ?_, ?_, ?_, ?_⟩)
    | with_reducible exact Block.Sound.rf (by assumption)
    | with_reducible exact Block.Sound.far (by assumption)
    | with_reducible exact Block.Sound.ssp (by assumption)
    | with_reducible exact Block.Sound.log (by assumption)
    | with_reducible exact Block.Sound.audit (by assumption)
    | with_reducible exact Block.Sound.vpt (by assumption)
    | with_reducible exact Block.Sound.sub (by assumption)
    | with_reducible exact Block.Sound.s0 (by assumption)
    | with_reducible exact Block.Sound.s1 (by assumption)

theorem Block.slotState_sound {b : Block} (s : Bool) (v : Nat) (hS : b.Sound) : (Block.slotState b s v).Sound :=
  Block.auditHk_sound _ _ (Block.withFw_sound hS _ (by rw [Fw.setSlot_set0]; exact hS.s0) (by rw [Fw.setSlot_set1]; exact hS.s1))

theorem Block.loadLink_sound {b : Block} (hS : b.Sound) : (Block.loadLink b).1.Sound := by
  unfold Block.loadLink
  repeat' first
    | with_reducible assumption
    | (extract_lets +onlyGivenNames z; refine Block.Sound.cut z ?_ (fun hz => ?_); (on_goal 2 => clear_value z); (on_goal 1 => subst z))
    | (extract_lets +onlyGivenNames z; subst z)
    | with_reducible apply Block.flashLoad_sound
    | split

theorem Block.runFw_sound {b : Block} (s : Bool) (hk : List Byte) (link : Option (Bool × List Byte)) (fails : List MarchFail) (hS : b.Sound) :
    (Block.runFw b s hk link fails).Sound := by
  unfold Block.runFw
  extract_lets k cold pair b1 w1 b2 b3 b4 b5 b6 b7
  have h1 : b1.Sound := Block.ite_sound (Block.slotState_sound _ _ hS) hS
  have h2 : b2.Sound := Block.keysUp_sound (Block.showSlots_sound (Block.withFw_sound h1 _ h1.s0 h1.s1))
  have h3 : b3.Sound := Block.setFld_sound (Block.setFld_sound (Block.setFld_sound h2 _ _ _ (r0_ne rfl)) _ _ _ (r0_ne rfl)) _ _ _ (r0_ne rfl)
  have h4 : b4.Sound := Block.setReg_sound (Block.setReg_sound h3 _ _ (r0_ne rfl)) _ _ (r0_ne rfl)
  have h5 : b5.Sound := Block.ite_sound (Block.marchBoot_sound _ h4) h4
  have h6 : b6.Sound := Block.ite_sound (Block.allDisabled_sound h5) (Block.vptFollow_sound (Block.linksFollow_sound h5))
  have h7 : b7.Sound := Block.ite_sound h6 (Block.auditHk_sound _ _ h6)
  refine (Block.sound_mk ..).mpr ?_
  exact ⟨h7.rf, h7.far, h7.ssp, h7.log, h7.audit, h7.vpt, h7.sub, h7.set0, h7.set1⟩

theorem Block.startFw_sound {b : Block} (s : Bool) (r : BootReport) (hS : b.Sound) : (Block.startFw b s r).Sound := by
  unfold Block.startFw
  extract_lets hk
  split
  rename_i b1 link e1
  extract_lets b2
  have h1 : b1.Sound := by
    refine Block.pair_sound e1 (Block.loadLink_sound (Block.withFw_sound hS _ ?_ ?_)) <;> split
    · rw [Fw.setTrial_set0]; exact hS.s0
    · exact hS.s0
    · rw [Fw.setTrial_set1]; exact hS.s1
    · exact hS.s1
  have h2 : b2.Sound := Block.clrFld_sound h1 _ _ (r0_ne rfl)
  split
  · rename_i b3 e
    have h3 : b3.Sound := by
      refine OptSound.get e ?_
      split
      · exact Block.takeSettings_sound _ _ _ h2
      · exact OptSound.none
    have h4 := Block.runFw_sound s hk link r.fails (Block.settingsFollow_sound b2 h3)
    exact Block.withFw_sound h4 _ h4.s0 h4.s1
  · have h3 := Block.slotState_sound s 3 h2
    exact Block.warm_sound _ (Block.withFw_sound h3 _ h3.s0 h3.s1)

theorem Block.bootGo_sound {b : Block} (r : BootReport) (l : List Bool) (hS : b.Sound) : (Block.bootGo b r l).Sound := by
  induction l generalizing b with
  | nil => exact Block.safe_sound (Block.clrFld_sound hS _ _ (r0_ne rfl))
  | cons s rest ih =>
    unfold Block.bootGo
    extract_lets b1 x
    have h1 : b1.Sound := Block.ite_sound (Block.slotState_sound _ _ hS) hS
    have hx : x.Sound := Block.flashLoad_sound _ h1
    exact Block.ite_sound (Block.ite_sound (Block.startFw_sound _ _ hx) (ih (Block.slotState_sound _ _ hx))) (ih h1)

theorem Block.keyCheck_sound {b : Block} (bad : Bool) (hS : b.Sound) : (Block.keyCheck b bad).Sound := by
  unfold Block.keyCheck
  repeat' first
    | with_reducible assumption
    | with_reducible apply Block.ite_sound
    | with_reducible apply Block.raise_sound
    | with_reducible apply Block.faultX_sound

theorem Block.funcReset_sound {b : Block} (r : Requester) (hS : b.Sound) : (Block.funcReset b r).Sound := by
  unfold Block.funcReset
  repeat' first
    | with_reducible assumption
    | with_reducible apply Block.modFunc_sound
    | with_reducible apply Block.endSession_sound

theorem Block.setVfs_sound {b : Block} (en : Bool) (n : Nat) (hS : b.Sound) : (Block.setVfs b en n).Sound := by
  unfold Block.setVfs
  repeat' first
    | with_reducible assumption
    | (extract_lets +onlyGivenNames z; refine Block.Sound.cut z ?_ (fun hz => ?_); (on_goal 2 => clear_value z); (on_goal 1 => subst z))
    | with_reducible apply Block.endSession_sound
    | with_reducible apply Block.forEach_sound
    | (simp only [Block.sound_mk]; refine ⟨?_, ?_, ?_, ?_, ?_, ?_, ?_, ?_, ?_⟩)
    | with_reducible exact Block.Sound.rf (by assumption)
    | with_reducible exact Block.Sound.far (by assumption)
    | with_reducible exact Block.Sound.ssp (by assumption)
    | with_reducible exact Block.Sound.log (by assumption)
    | with_reducible exact Block.Sound.audit (by assumption)
    | with_reducible exact Block.Sound.vpt (by assumption)
    | with_reducible exact Block.Sound.sub (by assumption)
    | with_reducible exact Block.Sound.s0 (by assumption)
    | with_reducible exact Block.Sound.s1 (by assumption)
    | (intro z hz hy)

theorem Block.pcieServe_sound {b : Block} (q : PcieReq) (hS : b.Sound) : (Block.pcieServe b q).Sound := by
  unfold Block.pcieServe
  repeat' first
    | with_reducible assumption
    | with_reducible apply Block.ite_sound
    | with_reducible apply Block.modFunc_sound
    | with_reducible apply Block.send_sound
    | with_reducible apply Block.setVfs_sound
    | split

end Sys2Proof.Machine
end

