-- ==== Sys2Proof/Laws/Sound/Sched.lean ====
section
/-!
SUPPORT. The operations of Machine/Sched.lean keep Block.Sound.
-/
namespace Sys2Proof.Machine

theorem Block.sentMiss_sound {b : Block} (p : Nat) (c : Nat) (d : SentDiff) (hS : b.Sound) : (Block.sentMiss b p c d).1.Sound := by
  unfold Block.sentMiss
  repeat' first
    | with_reducible assumption
    | (extract_lets +onlyGivenNames z; refine Block.Sound.cut z ?_ (fun hz => ?_); (on_goal 2 => clear_value z); (on_goal 1 => subst z))
    | (extract_lets +onlyGivenNames z; subst z)
    | with_reducible apply Block.ite_sound
    | with_reducible apply Block.setReg_sound
    | with_reducible apply Block.setBit_sound
    | with_reducible apply Block.modClu_sound
    | with_reducible apply Block.raiseCluster_sound
    | with_reducible apply Block.faultEntry_sound
    | ((with_reducible refine r1_ne ?_); rfl)
    | split

theorem Block.stepSent_sound {b : Block} (p : Nat) (c : Nat) (outs : List (Nat × BpOut)) (fs : List Finding) (hS : b.Sound) : (Block.stepSent b p c outs fs).1.Sound := by
  unfold Block.stepSent
  repeat' first
    | with_reducible assumption
    | (extract_lets +onlyGivenNames z; refine Block.Sound.cutP z ?_ (fun hz => ?_); (on_goal 2 => clear_value z); (on_goal 1 => subst z))
    | (extract_lets +onlyGivenNames z; subst z)
    | with_reducible apply Block.sentMiss_sound
    | split

theorem Block.noteFinding_sound {b : Block} (c : Nat) (f : Finding) (hS : b.Sound) : (Block.noteFinding b c f).1.Sound := by
  unfold Block.noteFinding
  repeat' first
    | with_reducible assumption
    | split

theorem Block.weChecks_sound {b : Block} (c : Nat) (fs : List Finding) (hS : b.Sound) : (Block.weChecks b c fs).1.Sound := by
  unfold Block.weChecks
  repeat' first
    | with_reducible assumption
    | with_reducible apply foldFaults_sound
    | with_reducible apply Block.landBad_sound
    | (intro z hz hy)
    | split

theorem Block.scrubWes_sound {b : Block} (s0 : Block) (p : Nat) (c : Nat) (hS : b.Sound) : (Block.scrubWes b s0 p c).1.Sound := by
  unfold Block.scrubWes
  repeat' first
    | with_reducible assumption
    | with_reducible apply Block.weFault_sound
    | with_reducible apply foldFaults_sound
    | (intro z hz hy)
    | split

theorem Block.scrubSlots_sound {b : Block} (s0 : Block) (c : Nat) (hS : b.Sound) : (Block.scrubSlots b s0 c).1.Sound := by
  unfold Block.scrubSlots
  repeat' first
    | with_reducible assumption
    | with_reducible apply Block.memFault_sound
    | with_reducible apply foldFaults_sound
    | (intro z hz hy)
    | split

theorem Block.dmbFaults_sound {b : Block} (p : Nat) (c : Nat) (hS : b.Sound) : (Block.dmbFaults b p c).1.Sound := by
  unfold Block.dmbFaults
  repeat' first
    | with_reducible assumption
    | (extract_lets +onlyGivenNames z; refine Block.Sound.cutP z ?_ (fun hz => ?_); (on_goal 2 => clear_value z); (on_goal 1 => subst z))
    | with_reducible apply Block.modClu_sound
    | with_reducible apply Block.memFault_sound
    | with_reducible apply foldFaults_sound
    | (intro z hz hy)

theorem Block.stepBps_sound {b : Block} (s0 : Block) (p : Nat) (c : Nat) (fs : List Finding) (hS : b.Sound) : (Block.stepBps b s0 p c fs).1.Sound := by
  unfold Block.stepBps
  repeat' first
    | with_reducible assumption
    | (extract_lets +onlyGivenNames z; refine Block.Sound.cut z ?_ (fun hz => ?_); (on_goal 2 => clear_value z); (on_goal 1 => subst z))
    | (extract_lets +onlyGivenNames z; refine Block.Sound.cutP z ?_ (fun hz => ?_); (on_goal 2 => clear_value z); (on_goal 1 => subst z))
    | (extract_lets +onlyGivenNames z; subst z)
    | with_reducible apply Block.satFld_sound
    | with_reducible apply Block.corrected_sound
    | with_reducible apply Block.applyBps_sound
    | with_reducible apply Block.stepSent_sound
    | with_reducible apply Block.forEach_sound
    | ((with_reducible refine r1_ne ?_); rfl)
    | (intro z hz hy)

theorem Block.stepWes_sound {b : Block} (s0 : Block) (p : Nat) (c : Nat) (fs : List Finding) (hS : b.Sound) : (Block.stepWes b s0 p c fs).1.Sound := by
  unfold Block.stepWes
  repeat' first
    | with_reducible assumption
    | (extract_lets +onlyGivenNames z; refine Block.Sound.cut z ?_ (fun hz => ?_); (on_goal 2 => clear_value z); (on_goal 1 => subst z))
    | (extract_lets +onlyGivenNames z; refine Block.Sound.cutP z ?_ (fun hz => ?_); (on_goal 2 => clear_value z); (on_goal 1 => subst z))
    | (extract_lets +onlyGivenNames z; subst z)
    | with_reducible apply Block.ite_sound
    | with_reducible apply Block.satFld_sound
    | with_reducible apply Block.modClu_sound
    | with_reducible apply Block.corrected_sound
    | with_reducible apply Block.weFault_sound
    | with_reducible apply foldFaults_sound
    | with_reducible apply Block.weIssue_sound
    | ((with_reducible refine r2_ne ?_); rfl)
    | (intro z hz hy)
    | split

theorem Block.stepMem_sound {b : Block} (s0 : Block) (p : Nat) (c : Nat) (fs : List Finding) (hS : b.Sound) : (Block.stepMem b s0 p c fs).1.Sound := by
  unfold Block.stepMem
  repeat' first
    | with_reducible assumption
    | (extract_lets +onlyGivenNames z; refine Block.Sound.cut z ?_ (fun hz => ?_); (on_goal 2 => clear_value z); (on_goal 1 => subst z))
    | (extract_lets +onlyGivenNames z; refine Block.Sound.cutP z ?_ (fun hz => ?_); (on_goal 2 => clear_value z); (on_goal 1 => subst z))
    | (extract_lets +onlyGivenNames z; subst z)
    | with_reducible apply Block.ite_sound
    | with_reducible apply Block.corrected_sound
    | with_reducible apply Block.memFault_sound
    | with_reducible apply Block.slotStep_sound
    | with_reducible apply Block.dmbScrub_sound
    | with_reducible apply Block.dmbFaults_sound
    | split

theorem Block.stepClu_sound {b : Block} (s0 : Block) (p : Nat) (fs : List Finding) (c : Nat) (hS : b.Sound) : (Block.stepClu b s0 p fs c).1.Sound := by
  unfold Block.stepClu
  repeat' first
    | with_reducible assumption
    | (extract_lets +onlyGivenNames z; refine Block.Sound.cutP z ?_ (fun hz => ?_); (on_goal 2 => clear_value z); (on_goal 1 => subst z))
    | with_reducible apply Block.modClu_sound
    | with_reducible apply foldFaults_sound
    | with_reducible apply Block.noteFinding_sound
    | with_reducible apply Block.scrubWes_sound
    | with_reducible apply Block.scrubSlots_sound
    | with_reducible apply Block.stepBps_sound
    | with_reducible apply Block.stepWes_sound
    | with_reducible apply Block.stepMem_sound
    | (intro z hz hy)

theorem Block.advance_sound {b : Block} (p : Nat) (hS : b.Sound) : (Block.advance b p).Sound := by
  unfold Block.advance
  repeat' first
    | with_reducible assumption
    | (extract_lets +onlyGivenNames z; subst z)
    | with_reducible apply Block.modPart_sound
    | with_reducible apply Block.modClu_sound
    | with_reducible apply Block.forEach_sound
    | (intro z hz hy)

theorem Block.breakCount_sound {b : Block} (p : Nat) (hS : b.Sound) : (Block.breakCount b p).Sound := by
  unfold Block.breakCount
  repeat' first
    | with_reducible assumption
    | (extract_lets +onlyGivenNames z; subst z)
    | with_reducible apply Block.ite_sound
    | with_reducible apply Block.setFld_sound
    | with_reducible apply Block.modPart_sound
    | ((with_reducible refine r1_ne ?_); rfl)

theorem Block.breakStop_sound {b : Block} (p : Nat) (hS : b.Sound) : (Block.breakStop b p).Sound := by
  unfold Block.breakStop
  repeat' first
    | with_reducible assumption
    | (extract_lets +onlyGivenNames z; refine Block.Sound.cut z ?_ (fun hz => ?_); (on_goal 2 => clear_value z); (on_goal 1 => subst z))
    | (extract_lets +onlyGivenNames z; subst z)
    | with_reducible apply Block.ite_sound
    | with_reducible apply Block.setBit_sound
    | with_reducible apply Block.clrFld_sound
    | with_reducible apply Block.modPart_sound
    | with_reducible apply Block.raiseGroups_sound
    | ((with_reducible refine r1_ne ?_); rfl)

theorem Block.nextStep_sound {b : Block} (p : Nat) (hS : b.Sound) : (Block.nextStep b p).Sound := by
  unfold Block.nextStep
  repeat' first
    | with_reducible assumption
    | with_reducible apply Block.modPart_sound

theorem Block.execStep_sound {b : Block} (p : Nat) (fs : List Finding) (hS : b.Sound) : (Block.execStep b p fs).Sound := by
  unfold Block.execStep
  repeat' first
    | with_reducible assumption
    | (extract_lets +onlyGivenNames z; refine Block.Sound.cut z ?_ (fun hz => ?_); (on_goal 2 => clear_value z); (on_goal 1 => subst z))
    | (extract_lets +onlyGivenNames z; refine Block.Sound.cutP z ?_ (fun hz => ?_); (on_goal 2 => clear_value z); (on_goal 1 => subst z))
    | (extract_lets +onlyGivenNames z; subst z)
    | with_reducible apply Block.ite_sound
    | with_reducible apply Block.emitAt_sound
    | with_reducible apply Block.stepFaults_sound
    | with_reducible apply foldFaults_sound
    | with_reducible apply Block.runDeferred_sound
    | with_reducible apply Block.stepClu_sound
    | with_reducible apply Block.advance_sound
    | with_reducible apply Block.breakCount_sound
    | with_reducible apply Block.breakStop_sound
    | with_reducible apply Block.nextStep_sound
    | (intro z hz hy)

theorem Block.checkResults_sound {b : Block} (p : Nat) (fs : List Finding) (hS : b.Sound) : (Block.checkResults b p fs).1.Sound := by
  unfold Block.checkResults
  repeat' first
    | with_reducible assumption
    | with_reducible apply foldFaults_sound
    | with_reducible apply Block.weChecks_sound
    | (intro z hz hy)

theorem Block.traceUse_sound {b : Block} (p : Nat) (fs : List Finding) (hS : b.Sound) : (Block.traceUse b p fs).Sound := by
  unfold Block.traceUse
  repeat' first
    | with_reducible assumption
    | with_reducible apply Block.ite_sound
    | with_reducible apply Block.unitUse_sound
    | with_reducible apply Block.forEach_sound
    | exact fun _ h => h
    | (intro z hz hy)
    | split

theorem Block.schedStep_sound {b : Block} (p : Nat) (fs : List Finding) (hS : b.Sound) : (Block.schedStep b p fs).Sound := by
  unfold Block.schedStep
  repeat' first
    | with_reducible assumption
    | (extract_lets +onlyGivenNames z; refine Block.Sound.cut z ?_ (fun hz => ?_); (on_goal 2 => clear_value z); (on_goal 1 => subst z))
    | (extract_lets +onlyGivenNames z; refine Block.Sound.cutP z ?_ (fun hz => ?_); (on_goal 2 => clear_value z); (on_goal 1 => subst z))
    | with_reducible apply Block.ite_sound
    | with_reducible apply Block.stepFaults_sound
    | with_reducible apply Block.settle_sound
    | with_reducible apply Block.execStep_sound
    | with_reducible apply Block.checkResults_sound
    | with_reducible apply Block.traceUse_sound

theorem Block.own_sound {b : Block} (c : Nat) (j : Nat) (x : Bool) (hS : b.Sound) : (Block.own b c j x).Sound := by
  unfold Block.own
  repeat' first
    | with_reducible assumption
    | with_reducible apply Block.ite_sound
    | with_reducible apply Block.satFld_sound
    | ((with_reducible refine r2_ne ?_); rfl)

theorem Block.runOn_sound {b : Block} (p : Nat) (c : Nat) (k : Nat) (hS : b.Sound) : (Block.runOn b p c k).Sound := by
  unfold Block.runOn
  repeat' first
    | with_reducible assumption
    | (extract_lets +onlyGivenNames z; refine Block.Sound.cut z ?_ (fun hz => ?_); (on_goal 2 => clear_value z); (on_goal 1 => subst z))
    | (extract_lets +onlyGivenNames z; subst z)
    | with_reducible apply Block.ite_sound
    | with_reducible apply Block.setReg_sound
    | with_reducible apply Block.modClu_sound
    | ((with_reducible refine r1_ne ?_); rfl)

theorem Block.slipClu_sound {b : Block} (s0 : Block) (p : Nat) (k : Nat) (gated : Bool) (we : Option Nat) (c : Nat) (hS : b.Sound) : (Block.slipClu b s0 p k gated we c).Sound := by
  unfold Block.slipClu
  repeat' first
    | with_reducible assumption
    | (extract_lets +onlyGivenNames z; refine Block.Sound.cut z ?_ (fun hz => ?_); (on_goal 2 => clear_value z); (on_goal 1 => subst z))
    | (extract_lets +onlyGivenNames z; subst z)
    | with_reducible apply Block.ite_sound
    | with_reducible apply Block.modClu_sound
    | with_reducible apply Block.spGroup_sound
    | with_reducible apply Block.own_sound
    | with_reducible apply Block.runOn_sound

theorem Block.waitMax_sound {b : Block} (p : Nat) (hS : b.Sound) : (Block.waitMax b p).Sound := by
  unfold Block.waitMax
  repeat' first
    | with_reducible assumption
    | (extract_lets +onlyGivenNames z; subst z)
    | with_reducible apply Block.setFld_sound
    | ((with_reducible refine r1_ne ?_); rfl)

theorem Block.slipStep_sound {b : Block} (p : Nat) (k : Nat) (gated : Bool) (we : Option Nat) (hS : b.Sound) : (Block.slipStep b p k gated we).Sound := by
  unfold Block.slipStep
  repeat' first
    | with_reducible assumption
    | (extract_lets +onlyGivenNames z; refine Block.Sound.cut z ?_ (fun hz => ?_); (on_goal 2 => clear_value z); (on_goal 1 => subst z))
    | (extract_lets +onlyGivenNames z; subst z)
    | with_reducible apply Block.modPart_sound
    | with_reducible apply Block.pathDownStop_sound
    | with_reducible apply Block.spStop_sound
    | with_reducible apply Block.slipClu_sound
    | with_reducible apply Block.waitMax_sound
    | with_reducible apply Block.forEach_sound
    | (intro z hz hy)

theorem Block.slipCmd_sound {b : Block} (p : Nat) (hS : b.Sound) : (Block.slipCmd b p).Sound := by
  unfold Block.slipCmd
  repeat' first
    | with_reducible assumption
    | (extract_lets +onlyGivenNames z; refine Block.Sound.cut z ?_ (fun hz => ?_); (on_goal 2 => clear_value z); (on_goal 1 => subst z))
    | with_reducible apply Block.ite_sound
    | with_reducible apply Block.settle_sound
    | with_reducible apply Block.slipStep_sound
    | split

theorem Block.weWait_sound (p c k op : Nat) (w : WeArgs) (n : Nat) {b : Block} (hS : b.Sound) : (Block.weWait b p c k op w n).Sound := by
  induction n generalizing b with
  | zero => exact hS
  | succ n ih =>
    unfold Block.weWait
    have h0 := Block.settle_sound p hS
    exact Block.ite_sound (ih (Block.slipStep_sound _ _ _ _ h0)) h0

theorem Block.weCmd_sound {b : Block} (c k op : Nat) (w : WeArgs) (hS : b.Sound) : (Block.weCmd b c k op w).Sound := by
  unfold Block.weCmd
  split
  · exact hS
  · extract_lets b0
    have h0 : b0.Sound := Block.ite_sound (Block.weWait_sound _ _ _ _ _ _ hS) (Block.landDue_sound _ hS)
    refine Block.ite_sound h0 ?_
    extract_lets z
    exact Block.stepFaults_sound _ _ (Block.modClu_sound _ _ (Block.weIssue_sound _ _ _ _ _ _ h0))

theorem Block.dcStart_sound {b : Block} (p : Nat) (hS : b.Sound) : (Block.dcStart b p).Sound := by
  unfold Block.dcStart
  repeat' first
    | with_reducible assumption
    | (extract_lets +onlyGivenNames z; subst z)
    | with_reducible apply Block.ite_sound
    | with_reducible apply Block.modPart_sound
    | with_reducible apply Block.applyFrames_sound

theorem Block.loopCheck_sound {b : Block} (p : Nat) (c : Nat) (hS : b.Sound) : (Block.loopCheck b p c).Sound := by
  unfold Block.loopCheck
  repeat' first
    | with_reducible assumption
    | (extract_lets +onlyGivenNames z; subst z)
    | with_reducible apply Block.modClu_sound

theorem Block.resumeNow_sound {b : Block} (p : Nat) (hS : b.Sound) : (Block.resumeNow b p).Sound := by
  unfold Block.resumeNow
  repeat' first
    | with_reducible assumption
    | (extract_lets +onlyGivenNames z; refine Block.Sound.cut z ?_ (fun hz => ?_); (on_goal 2 => clear_value z); (on_goal 1 => subst z))
    | (extract_lets +onlyGivenNames z; subst z)
    | with_reducible apply Block.ite_sound
    | with_reducible apply Block.setFld_sound
    | with_reducible apply Block.clrFld_sound
    | with_reducible apply Block.modPart_sound
    | with_reducible apply Block.landAll_sound
    | with_reducible apply Block.loopCheck_sound
    | with_reducible apply Block.forEach_sound
    | ((with_reducible refine r1_ne ?_); rfl)
    | (intro z hz hy)

theorem Block.resume_sound {b : Block} (p : Nat) (hS : b.Sound) : (Block.resume b p).Sound := by
  unfold Block.resume
  repeat' first
    | with_reducible assumption
    | with_reducible apply Block.ite_sound
    | with_reducible apply Block.resumeNow_sound

theorem Block.hzClear_sound {b : Block} (c : Nat) (hS : b.Sound) : (Block.hzClear b c).Sound := by
  unfold Block.hzClear
  repeat' first
    | with_reducible assumption
    | (extract_lets +onlyGivenNames z; refine Block.Sound.cut z ?_ (fun hz => ?_); (on_goal 2 => clear_value z); (on_goal 1 => subst z))
    | with_reducible apply Block.setReg_sound
    | with_reducible apply Block.modClu_sound
    | with_reducible apply Block.forEach_sound
    | with_reducible apply Block.clrReg_foldl_sound
    | ((with_reducible refine r2_ne ?_); rfl)
    | (intro z hz hy)

theorem Block.breakWrite_sound {b : Block} (p : Nat) (v : Word) (hS : b.Sound) : (Block.breakWrite b p v).Sound := by
  unfold Block.breakWrite
  repeat' first
    | with_reducible assumption
    | (extract_lets +onlyGivenNames z; refine Block.Sound.cut z ?_ (fun hz => ?_); (on_goal 2 => clear_value z); (on_goal 1 => subst z))
    | (extract_lets +onlyGivenNames z; subst z)
    | with_reducible apply Block.ite_sound
    | with_reducible apply Block.setReg_sound
    | with_reducible apply Block.setBit_sound
    | ((with_reducible refine r1_ne ?_); rfl)

end Sys2Proof.Machine
end

