-- ==== Sys2Proof/Laws/Sound/Bus.lean ====
section
/-!
SUPPORT. The operations of Machine/Bus.lean keep Block.Sound.
-/
namespace Sys2Proof.Machine

theorem Block.plainWrite_sound {b : Block} (k : RegKey) (v : Word) (hS : b.Sound) : (Block.plainWrite b k v).Sound := by
  unfold Block.plainWrite
  repeat' first
    | with_reducible assumption
    | with_reducible apply Block.ite_sound
    | with_reducible apply Block.writeCodes_sound

theorem Block.frzCmd_sound {b : Block} (p : Nat) (v : Word) (hS : b.Sound) : (Block.frzCmd b p v).Sound := by
  unfold Block.frzCmd
  repeat' first
    | with_reducible assumption
    | (extract_lets +onlyGivenNames z; subst z)
    | with_reducible apply Block.ite_sound
    | with_reducible apply Block.freeze_sound
    | with_reducible apply Block.freezeAt_sound
    | with_reducible apply Block.resume_sound

theorem Block.cfgCtrl_sound {b : Block} (r : Requester) (v : Word) (hS : b.Sound) : (Block.cfgCtrl b r v).Sound := by
  unfold Block.cfgCtrl
  repeat' first
    | with_reducible assumption
    | (extract_lets +onlyGivenNames z; subst z)
    | with_reducible apply Block.ite_sound
    | with_reducible apply Block.cfgStart_sound
    | with_reducible apply Block.cfgClrErr_sound
    | with_reducible apply Block.endStream_sound
    | with_reducible apply Block.cfgCommit_sound

theorem Block.pendWrite_sound {b : Block} (k : RegKey) (v : Word) (hS : b.Sound) (hk_k : k.name ≠ .CTL_ID) : (Block.pendWrite b k v).Sound := by
  unfold Block.pendWrite
  repeat' first
    | with_reducible assumption
    | (extract_lets +onlyGivenNames z; refine Block.Sound.cut z ?_ (fun hz => ?_); (on_goal 2 => clear_value z); (on_goal 1 => subst z))
    | (extract_lets +onlyGivenNames z; subst z)
    | with_reducible apply Block.clrPend_sound
    | with_reducible apply Block.forEach_sound
    | (simp only [Block.sound_mk]; refine ⟨?_, ?_, ?_, ?_, ?_, ?_, ?_, ?_, ?_⟩)
    | with_reducible exact Block.Sound.rf (by assumption)
    | with_reducible exact Block.Sound.far (by assumption)
    | with_reducible exact Block.Sound.ssp (by assumption)
    | with_reducible exact Block.Sound.log (by assumption)
    | with_reducible exact Block.Sound.audit (by assumption)
    | with_reducible exact Block.Sound.vpt (by assumption)
    | with_reducible exact Block.Sound.sub (by assumption)
    | with_reducible exact Block.Sound.s0 (by assumption)
    | with_reducible exact Block.Sound.s1 (by assumption)
    | (intro z hz hy)

theorem Block.semCfg_sound {b : Block} (n : Nat) (v : Word) (hS : b.Sound) : (Block.semCfg b n v).Sound := by
  unfold Block.semCfg
  repeat' first
    | with_reducible assumption
    | with_reducible apply Block.ite_sound
    | with_reducible apply Block.writeCodes_sound
    | with_reducible apply Block.semFree_sound

theorem Block.tduCfg_sound {b : Block} (n : Nat) (v : Word) (hS : b.Sound) : (Block.tduCfg b n v).Sound := by
  unfold Block.tduCfg
  repeat' first
    | with_reducible assumption
    | with_reducible apply Block.ite_sound
    | with_reducible apply Block.writeCodes_sound
    | with_reducible apply Block.tduSetHeld_sound

theorem Block.dmaCmdWrite_sound {b : Block} (r : Requester) (n : Nat) (v : Word) (hS : b.Sound) : (Block.dmaCmdWrite b r n v).Sound := by
  unfold Block.dmaCmdWrite
  repeat' first
    | with_reducible assumption
    | (extract_lets +onlyGivenNames z; subst z)
    | with_reducible apply Block.ite_sound
    | with_reducible apply Block.dmaAbort_sound
    | with_reducible apply Block.dmaAccepted_sound
    | with_reducible apply Block.dmaCmd_sound
    | with_reducible apply Block.dmaStart_sound
    | with_reducible apply Block.dmaArm_sound
    | with_reducible apply Block.dmaClear_sound
    | assumption
    | (intro z hz)

theorem Block.baseWrite_sound {b : Block} (r : Requester) (k : RegKey) (v : Word) (hS : b.Sound) (hk_k : k.name ≠ .CTL_ID) : (Block.baseWrite b r k v).Sound := by
  unfold Block.baseWrite
  repeat' first
    | with_reducible assumption
    | with_reducible apply Block.ite_sound
    | with_reducible apply Block.setReg_sound
    | with_reducible apply Block.hostWrite_sound
    | (intro z hz)

theorem Block.mbxWrite_sound {b : Block} (r : Requester) (k : RegKey) (v : Word) (hS : b.Sound) (hk_k : k.name ≠ .CTL_ID) : (Block.mbxWrite b r k v).Sound := by
  unfold Block.mbxWrite
  repeat' first
    | with_reducible assumption
    | (extract_lets +onlyGivenNames z; subst z)
    | with_reducible apply Block.ite_sound
    | with_reducible apply Block.modFunc_sound
    | with_reducible apply Block.hostWrite_sound
    | with_reducible apply Block.mbxGo_sound
    | (intro z hz)

theorem Block.regWrite_sound {b : Block} (r : Requester) (k : RegKey) (v : Word) (hS : b.Sound) : (Block.regWrite b r k v).Sound := by
  unfold Block.regWrite
  repeat' first
    | with_reducible assumption
    | with_reducible apply Block.ite_sound
    | with_reducible apply Block.clrReg_sound
    | with_reducible apply Block.writeCodes_sound
    | with_reducible apply Block.hostWrite_sound
    | with_reducible apply Block.windowWrite_sound
    | with_reducible apply Block.faultClear_sound
    | with_reducible apply Block.tduSettle_sound
    | with_reducible apply Block.tduPost_sound
    | with_reducible apply Block.tduRetireNotify_sound
    | with_reducible apply Block.flush_sound
    | with_reducible apply Block.frzWrite_sound
    | with_reducible apply Block.marginWrite_sound
    | with_reducible apply Block.tmrCtrl_sound
    | with_reducible apply Block.ppsOfsWrite_sound
    | with_reducible apply Block.servoWrite_sound
    | with_reducible apply Block.timCmd_sound
    | with_reducible apply Block.timCtrl_sound
    | with_reducible apply Block.lnkDevid_sound
    | with_reducible apply Block.loopWrite_sound
    | with_reducible apply Block.faultWrite_sound
    | with_reducible apply Block.spCtrl_sound
    | with_reducible apply Block.spHandoff_sound
    | with_reducible apply Block.sentWrite_sound
    | with_reducible apply Block.trcCmd_sound
    | with_reducible apply Block.pagePost_sound
    | with_reducible apply Block.trcCfgWrite_sound
    | with_reducible apply Block.trcOwnWrite_sound
    | with_reducible apply Block.qualWrite_sound
    | with_reducible apply Block.trgCmd_sound
    | with_reducible apply Block.trgOwn_sound
    | with_reducible apply Block.vptCtrl_sound
    | with_reducible apply Block.firstClear_sound
    | with_reducible apply Block.vptOwn_sound
    | with_reducible apply Block.scrubCtrl_sound
    | with_reducible apply Block.sspOwn_sound
    | with_reducible apply Block.sspPwrWrite_sound
    | with_reducible apply Block.mteCtrl_sound
    | with_reducible apply Block.lnkCtrlWrite_sound
    | with_reducible apply Block.semRelease_sound
    | with_reducible apply Block.trigWrite_sound
    | with_reducible apply Block.slotWrite_sound
    | with_reducible apply Block.dmaCfg_sound
    | with_reducible apply Block.fltClr_sound
    | with_reducible apply Block.fltAck_sound
    | with_reducible apply Block.frostWrite_sound
    | with_reducible apply Block.prstWrite_sound
    | with_reducible apply Block.hzClear_sound
    | with_reducible apply Block.breakWrite_sound
    | with_reducible apply Block.plainWrite_sound
    | with_reducible apply Block.frzCmd_sound
    | with_reducible apply Block.cfgCtrl_sound
    | with_reducible apply Block.pendWrite_sound
    | with_reducible apply Block.semCfg_sound
    | with_reducible apply Block.tduCfg_sound
    | with_reducible apply Block.dmaCmdWrite_sound
    | with_reducible apply Block.baseWrite_sound
    | with_reducible apply Block.mbxWrite_sound
    | (intro e; rename_i g; rw [e] at g; cases g)
    | ((with_reducible refine RegName.ne_ctlId ?_); rfl)
    | (intro z hz)
    | split

theorem Block.requestWrite_sound {b : Block} (r : Requester) (w : Nat) (v : Word) (hS : b.Sound) : (Block.requestWrite b r w v).Sound := by
  unfold Block.requestWrite
  repeat' first
    | with_reducible assumption
    | (extract_lets +onlyGivenNames z; subst z)
    | with_reducible apply Block.ite_sound
    | with_reducible apply Block.modFunc_sound

theorem Block.busWrite_sound {b : Block} (r : Requester) (off : Nat) (v : Word) (hS : b.Sound) : (Block.busWrite b r off v).Sound := by
  unfold Block.busWrite
  repeat' first
    | with_reducible assumption
    | with_reducible apply Block.ite_sound
    | with_reducible apply Block.windowWrite_sound
    | with_reducible apply Block.weWrite_sound
    | with_reducible apply Block.selWrite_sound
    | with_reducible apply Block.loadWrite_sound
    | with_reducible apply Block.bulkWrite_sound
    | with_reducible apply Block.streamWrite_sound
    | with_reducible apply Block.progWrite_sound
    | with_reducible apply Block.regWrite_sound
    | with_reducible apply Block.requestWrite_sound
    | (intro z hz)
    | split

theorem Block.barStore_sound {b : Block} (r : Requester) (off : Nat) (l : List Byte) (hS : b.Sound) : (Block.barStore b r off l).Sound := by
  unfold Block.barStore
  repeat' first
    | with_reducible assumption
    | with_reducible apply Block.ite_sound
    | with_reducible apply Block.bulkWrite_sound
    | with_reducible apply Block.streamWrite_sound
    | with_reducible apply Block.progStore_sound
    | with_reducible apply Block.busWrite_sound
    | split

theorem Block.hostStore_sound {b : Block} (r : Requester) (bar2 : Bool) (off : Nat) (l : List Byte) (poisoned : Bool) (hS : b.Sound) : (Block.hostStore b r bar2 off l poisoned).Sound := by
  unfold Block.hostStore
  repeat' first
    | with_reducible assumption
    | with_reducible apply Block.ite_sound
    | with_reducible apply Block.bar2Write_sound
    | with_reducible apply Block.aerReport_sound
    | with_reducible apply Block.barStore_sound

theorem Block.regRead_sound {b : Block} (r : Requester) (k : RegKey) (hS : b.Sound) : (Block.regRead b r k).1.Sound := by
  unfold Block.regRead
  repeat' first
    | with_reducible assumption
    | (extract_lets +onlyGivenNames z; subst z)
    | with_reducible apply Block.nheadRead_sound
    | with_reducible apply Block.eviPop_sound
    | with_reducible apply Block.eviLatch_sound
    | with_reducible apply Block.nowLatch_sound
    | with_reducible apply Block.doneRead_sound
    | with_reducible apply Block.fireTsRead_sound
    | with_reducible apply Block.semAcq_sound
    | (simp only [Block.sound_mk]; refine ⟨?_, ?_, ?_, ?_, ?_, ?_, ?_, ?_, ?_⟩)
    | with_reducible exact Block.Sound.rf (by assumption)
    | with_reducible exact Block.Sound.far (by assumption)
    | with_reducible exact Block.Sound.ssp (by assumption)
    | with_reducible exact Block.Sound.log (by assumption)
    | with_reducible exact Block.Sound.audit (by assumption)
    | with_reducible exact Block.Sound.vpt (by assumption)
    | with_reducible exact Block.Sound.sub (by assumption)
    | with_reducible exact Block.Sound.s0 (by assumption)
    | with_reducible exact Block.Sound.s1 (by assumption)
    | split

theorem Block.busRead_sound {b : Block} (r : Requester) (off : Nat) (hS : b.Sound) : (Block.busRead b r off).1.Sound := by
  unfold Block.busRead
  repeat' first
    | with_reducible assumption
    | (extract_lets +onlyGivenNames z; refine Block.Sound.cut z ?_ (fun hz => ?_); (on_goal 2 => clear_value z); (on_goal 1 => subst z))
    | with_reducible apply Block.bulkRead_sound
    | with_reducible apply Block.regRead_sound
    | split

end Sys2Proof.Machine
end

