-- ==== Sys2Proof/Laws/Sound/DmaRun.lean ====
section
/-!
SUPPORT. The operations of Machine/DmaRun.lean keep Block.Sound.
-/
namespace Sys2Proof.Machine

/-- Whatever way an access ends, it leaves a sound block. -/
def AccSound {α : Type} : Acc α → Prop
  | .done b _ => b.Sound
  | .err b _ => b.Sound
  | .wait b => b.Sound

theorem AccSound.done {α : Type} {b : Block} {a : α} (h : b.Sound) : AccSound (.done b a) := h
theorem AccSound.err {α : Type} {b : Block} {n : Nat} (h : b.Sound) : AccSound (.err b n : Acc α) := h
theorem AccSound.wait {α : Type} {b : Block} (h : b.Sound) : AccSound (.wait b : Acc α) := h
theorem AccSound.ofDone {α : Type} {z : Acc α} {b : Block} {a : α} (e : z = .done b a) (h : AccSound z) : b.Sound := by rw [e] at h; exact h
theorem AccSound.ofErr {α : Type} {z : Acc α} {b : Block} {n : Nat} (e : z = .err b n) (h : AccSound z) : b.Sound := by rw [e] at h; exact h
theorem AccSound.ofWait {α : Type} {z : Acc α} {b : Block} (e : z = .wait b) (h : AccSound z) : b.Sound := by rw [e] at h; exact h

theorem Block.dmaExec_sound {b : Block} (n : Nat) (op : Nat) (fetch : Ecc) (f : BitVec 128 → Block → Block) (hS : b.Sound) (hf_f : ∀ a x, x.Sound → (f a x).Sound) : (Block.dmaExec b n op fetch f).Sound := by
  unfold Block.dmaExec
  repeat' first
    | with_reducible assumption
    | (extract_lets +onlyGivenNames z; refine Block.Sound.cut z ?_ (fun hz => ?_); (on_goal 2 => clear_value z); (on_goal 1 => subst z))
    | (extract_lets +onlyGivenNames z; subst z)
    | with_reducible apply Block.ite_sound
    | with_reducible apply Block.corrected_sound
    | with_reducible apply Block.dmaError_sound
    | with_reducible apply hf_f
    | (simp only [Block.sound_mk]; refine ⟨?_, ?_, ?_, ?_, ?_, ?_, ?_, ?_, ?_⟩)
    | with_reducible exact Block.Sound.rf (by assumption)
    | with_reducible exact Block.Sound.far (by assumption)
    | with_reducible exact Block.Sound.ssp (by assumption)
    | with_reducible exact Block.Sound.log (by assumption)
    | with_reducible exact Block.Sound.audit (by assumption)
    | with_reducible exact Block.Sound.vpt (by assumption)
    | with_reducible exact Block.Sound.sub (by assumption)
    | with_reducible exact Block.Sound.s0 (by assumption)
    | with_reducible exact Block.Sound.s1 (by assumption)

theorem Block.thawByPacket_sound {b : Block} (hS : b.Sound) : (Block.thawByPacket b).Sound := by
  unfold Block.thawByPacket
  repeat' first
    | with_reducible assumption
    | (extract_lets +onlyGivenNames z; subst z)
    | with_reducible apply Block.ite_sound
    | with_reducible apply Block.thawStart_sound
    | (simp only [Block.sound_mk]; refine ⟨?_, ?_, ?_, ?_, ?_, ?_, ?_, ?_, ?_⟩)
    | with_reducible exact Block.Sound.rf (by assumption)
    | with_reducible exact Block.Sound.far (by assumption)
    | with_reducible exact Block.Sound.ssp (by assumption)
    | with_reducible exact Block.Sound.log (by assumption)
    | with_reducible exact Block.Sound.audit (by assumption)
    | with_reducible exact Block.Sound.vpt (by assumption)
    | with_reducible exact Block.Sound.sub (by assumption)
    | with_reducible exact Block.Sound.s0 (by assumption)
    | with_reducible exact Block.Sound.s1 (by assumption)

theorem Block.wakeUp_sound {b : Block} (hS : b.Sound) : (Block.wakeUp b).Sound := by
  unfold Block.wakeUp
  repeat' first
    | with_reducible assumption
    | with_reducible apply Block.ite_sound
    | with_reducible apply Block.thawByPacket_sound

theorem Block.regsRead_sound (r : Requester) (os : List Nat) (l : List Byte) {b : Block} (hS : b.Sound) : AccSound (Block.regsRead b r os l) := by
  induction os generalizing b l with
  | nil => exact hS
  | cons o rest ih =>
    unfold Block.regsRead
    split
    · exact hS
    · exact ih _ (Block.busRead_sound _ _ hS)

theorem Block.regsWrite_sound (r : Requester) (l : List Byte) (os : List Nat) (i : Nat) {b : Block} (hS : b.Sound) :
    AccSound (Block.regsWrite b r l os i) := by
  induction os generalizing b i with
  | nil => exact hS
  | cons o rest ih =>
    unfold Block.regsWrite
    extract_lets v
    split
    · exact Block.busWrite_sound _ _ _ hS
    · exact ih _ (Block.busWrite_sound _ _ _ hS)

theorem Block.dmaGate_sound {b : Block} (n : Nat) (space : Nat) (addr : Nat) (hS : b.Sound) : AccSound (Block.dmaGate b n space addr) := by
  unfold Block.dmaGate
  repeat' first
    | with_reducible assumption
    | (extract_lets +onlyGivenNames z; subst z)
    | with_reducible apply Block.modDma_sound
    | with_reducible apply Block.sspWake_sound
    | with_reducible apply Block.wakeUp_sound
    | with_reducible apply AccSound.done
    | with_reducible apply AccSound.err
    | with_reducible apply AccSound.wait
    | split

theorem Block.sspFound_sound {b : Block} (k : Nat) (off : Nat) (len : Nat) (found : Found) (hS : b.Sound) : (Block.sspFound b k off len found).Sound := by
  unfold Block.sspFound
  repeat' first
    | with_reducible assumption
    | with_reducible apply Block.wordsFound_sound
    | with_reducible apply Block.modSsp_sound
    | with_reducible exact Block.Sound.ssp (by assumption)
    | (intro z hz hy)

theorem Block.dmaRead_sound {b : Block} (n : Nat) (space : Nat) (addr : Nat) (len : Nat) (found : Found) (hS : b.Sound) : AccSound (Block.dmaRead b n space addr len found) := by
  unfold Block.dmaRead
  repeat' first
    | with_reducible assumption
    | (extract_lets +onlyGivenNames z; refine Block.Sound.cut z ?_ (fun hz => ?_); (on_goal 2 => clear_value z); (on_goal 1 => subst z))
    | (extract_lets +onlyGivenNames z; subst z)
    | with_reducible apply Block.snoopRange_sound
    | with_reducible apply Block.wordsFound_sound
    | with_reducible apply Block.farFound_sound
    | with_reducible apply Block.regsRead_sound
    | with_reducible apply Block.dmaGate_sound
    | with_reducible apply Block.sspFound_sound
    | with_reducible apply AccSound.done
    | with_reducible apply AccSound.err
    | with_reducible apply AccSound.wait
    | (with_reducible refine AccSound.ofDone (by assumption) ?_)
    | (with_reducible refine AccSound.ofErr (by assumption) ?_)
    | (with_reducible refine AccSound.ofWait (by assumption) ?_)
    | (intro z hz hy)
    | split

theorem Block.dmaPut_sound {b : Block} (n : Nat) (space : Nat) (addr : Nat) (l : List Byte) (hS : b.Sound) : AccSound (Block.dmaPut b n space addr l) := by
  unfold Block.dmaPut
  repeat' first
    | with_reducible assumption
    | with_reducible apply Block.send_sound
    | with_reducible apply Block.farWrite_sound
    | with_reducible apply Block.snoopRange_sound
    | with_reducible apply Block.sspPut_sound
    | with_reducible apply Block.regsWrite_sound
    | with_reducible apply AccSound.done
    | split

theorem Block.dmaWrite_sound {b : Block} (n : Nat) (space : Nat) (addr : Nat) (l : List Byte) (hS : b.Sound) : AccSound (Block.dmaWrite b n space addr l) := by
  unfold Block.dmaWrite
  repeat' first
    | with_reducible assumption
    | with_reducible apply Block.dmaGate_sound
    | with_reducible apply Block.dmaPut_sound
    | with_reducible apply AccSound.done
    | (with_reducible refine AccSound.ofDone (by assumption) ?_)
    | split

theorem Block.dmaIssue_sound {b : Block} (n : Nat) (m : MoveRun) (l : List Byte) (hS : b.Sound) : (Block.dmaIssue b n m l).Sound := by
  unfold Block.dmaIssue
  repeat' first
    | with_reducible assumption
    | (extract_lets +onlyGivenNames z; refine Block.Sound.cut z ?_ (fun hz => ?_); (on_goal 2 => clear_value z); (on_goal 1 => subst z))
    | (extract_lets +onlyGivenNames z; subst z)
    | with_reducible apply Block.modDma_sound
    | (simp only [Block.sound_mk]; refine ⟨?_, ?_, ?_, ?_, ?_, ?_, ?_, ?_, ?_⟩)
    | with_reducible exact Block.Sound.rf (by assumption)
    | with_reducible exact Block.Sound.far (by assumption)
    | with_reducible exact Block.Sound.ssp (by assumption)
    | with_reducible exact Block.Sound.log (by assumption)
    | with_reducible exact Block.Sound.audit (by assumption)
    | with_reducible exact Block.Sound.vpt (by assumption)
    | with_reducible exact Block.Sound.sub (by assumption)
    | with_reducible exact Block.Sound.s0 (by assumption)
    | with_reducible exact Block.Sound.s1 (by assumption)

theorem Block.dmaAnswered_sound {b : Block} (n : Nat) (q : Option NocReq) (hS : b.Sound) : (Block.dmaAnswered b n q).Sound := by
  unfold Block.dmaAnswered
  repeat' first
    | (extract_lets +onlyGivenNames z; subst z)
    | with_reducible apply Block.modDma_sound
    | (simp only [Block.sound_mk]; refine ⟨?_, ?_, ?_, ?_, ?_, ?_, ?_, ?_, ?_⟩)
    | with_reducible exact Block.Sound.rf (by assumption)
    | with_reducible exact Block.Sound.far (by assumption)
    | with_reducible exact Block.Sound.ssp (by assumption)
    | with_reducible exact Block.Sound.log (by assumption)
    | with_reducible exact Block.Sound.audit (by assumption)
    | with_reducible exact Block.Sound.vpt (by assumption)
    | with_reducible exact Block.Sound.sub (by assumption)
    | with_reducible exact Block.Sound.s0 (by assumption)
    | with_reducible exact Block.Sound.s1 (by assumption)

theorem Block.dmaNack_sound {b : Block} (n : Nat) (q : NocReq) (code : Nat) (hS : b.Sound) : (Block.dmaNack b n q code).Sound := by
  unfold Block.dmaNack
  repeat' first
    | with_reducible assumption
    | (extract_lets +onlyGivenNames z; refine Block.Sound.cut z ?_ (fun hz => ?_); (on_goal 2 => clear_value z); (on_goal 1 => subst z))
    | (extract_lets +onlyGivenNames z; subst z)
    | with_reducible apply Block.ite_sound
    | with_reducible apply Block.dmaFinish_sound
    | with_reducible apply Block.dmaError_sound
    | with_reducible apply Block.dmaGoto_sound
    | with_reducible apply Block.moveInc_sound
    | with_reducible apply Block.dmaAnswered_sound

theorem Block.dmaAcked_sound {b : Block} (n : Nat) (q : Option NocReq) (hS : b.Sound) : (Block.dmaAcked b n q).Sound := by
  unfold Block.dmaAcked
  repeat' first
    | with_reducible assumption
    | (extract_lets +onlyGivenNames z; refine Block.Sound.cut z ?_ (fun hz => ?_); (on_goal 2 => clear_value z); (on_goal 1 => subst z))
    | (extract_lets +onlyGivenNames z; subst z)
    | with_reducible apply Block.ite_sound
    | with_reducible apply Block.dmaFinish_sound
    | with_reducible apply Block.moveEnd_sound
    | with_reducible apply Block.dmaAnswered_sound
    | split

theorem Block.dmaAck_sound {b : Block} (n : Nat) (named : Option NocReq) (hS : b.Sound) : (Block.dmaAck b n named).Sound := by
  unfold Block.dmaAck
  repeat' first
    | with_reducible assumption
    | with_reducible apply Block.ite_sound
    | with_reducible apply Block.dmaGate_sound
    | with_reducible apply Block.dmaPut_sound
    | with_reducible apply Block.dmaNack_sound
    | with_reducible apply Block.dmaAcked_sound
    | (with_reducible refine AccSound.ofDone (by assumption) ?_)
    | (with_reducible refine AccSound.ofErr (by assumption) ?_)
    | (with_reducible refine AccSound.ofWait (by assumption) ?_)
    | split

theorem Block.moveStore_sound {b : Block} (n : Nat) (m : MoveRun) (l : List Byte) (hS : b.Sound) : (Block.moveStore b n m l).Sound := by
  unfold Block.moveStore
  repeat' first
    | with_reducible assumption
    | (extract_lets +onlyGivenNames z; refine Block.Sound.cut z ?_ (fun hz => ?_); (on_goal 2 => clear_value z); (on_goal 1 => subst z))
    | (extract_lets +onlyGivenNames z; subst z)
    | with_reducible apply Block.ite_sound
    | with_reducible apply Block.modDma_sound
    | with_reducible apply Block.dmaError_sound
    | with_reducible apply Block.moveEnd_sound
    | with_reducible apply Block.dmaWrite_sound
    | with_reducible apply Block.dmaIssue_sound
    | (with_reducible refine AccSound.ofDone (by assumption) ?_)
    | (with_reducible refine AccSound.ofErr (by assumption) ?_)
    | (with_reducible refine AccSound.ofWait (by assumption) ?_)
    | split

theorem Block.moveStep_sound {b : Block} (n : Nat) (e : Found) (hS : b.Sound) : (Block.moveStep b n e).Sound := by
  unfold Block.moveStep
  repeat' first
    | with_reducible assumption
    | (extract_lets +onlyGivenNames z; subst z)
    | with_reducible apply Block.ite_sound
    | with_reducible apply Block.modDma_sound
    | with_reducible apply Block.send_sound
    | with_reducible apply Block.dmaError_sound
    | with_reducible apply Block.dmaGate_sound
    | with_reducible apply Block.dmaRead_sound
    | with_reducible apply Block.moveStore_sound
    | (with_reducible refine AccSound.ofDone (by assumption) ?_)
    | (with_reducible refine AccSound.ofErr (by assumption) ?_)
    | (with_reducible refine AccSound.ofWait (by assumption) ?_)
    | split

theorem Block.dmaMove_sound {b : Block} (n : Nat) (i : BitVec 128) (e : Found) (hS : b.Sound) : (Block.dmaMove b n i e).Sound := by
  unfold Block.dmaMove
  repeat' first
    | with_reducible assumption
    | (extract_lets +onlyGivenNames z; subst z)
    | with_reducible apply Block.ite_sound
    | with_reducible apply Block.modDma_sound
    | with_reducible apply Block.dmaError_sound
    | with_reducible apply Block.moveStep_sound
    | split

theorem Block.dmaLoop_sound {b : Block} (n : Nat) (i : BitVec 128) (hS : b.Sound) : (Block.dmaLoop b n i).Sound := by
  unfold Block.dmaLoop
  repeat' first
    | with_reducible assumption
    | (extract_lets +onlyGivenNames z; refine Block.Sound.cut z ?_ (fun hz => ?_); (on_goal 2 => clear_value z); (on_goal 1 => subst z))
    | (extract_lets +onlyGivenNames z; subst z)
    | with_reducible apply Block.ite_sound
    | with_reducible apply Block.setReg_sound
    | with_reducible apply Block.setBit_sound
    | with_reducible apply Block.clrFld_sound
    | with_reducible apply Block.dmaFlag_sound
    | with_reducible apply Block.dmaGoto_sound
    | with_reducible apply Block.dmaNext_sound
    | ((with_reducible refine r1_ne ?_); rfl)
    | ((with_reducible refine r2_ne ?_); rfl)

theorem Block.dmaWaitOn_sound {b : Block} (n : Nat) (i : BitVec 128) (hS : b.Sound) : (Block.dmaWaitOn b n i).Sound := by
  unfold Block.dmaWaitOn
  repeat' first
    | with_reducible assumption
    | (extract_lets +onlyGivenNames z; subst z)
    | with_reducible apply Block.ite_sound
    | with_reducible apply Block.modDma_sound
    | with_reducible apply Block.dmaSetState_sound
    | with_reducible apply Block.dmaError_sound
    | with_reducible apply Block.showObj_sound
    | with_reducible apply Block.dmaNext_sound
    | with_reducible apply Block.consume_sound

theorem Block.dmaEight_sound {b : Block} (n : Nat) (i : BitVec 128) (e : Found) (f : BitVec 64 → Block → Block) (hS : b.Sound) (hf_f : ∀ a x, x.Sound → (f a x).Sound) : (Block.dmaEight b n i e f).Sound := by
  unfold Block.dmaEight
  repeat' first
    | with_reducible assumption
    | (extract_lets +onlyGivenNames z; subst z)
    | with_reducible apply Block.ite_sound
    | with_reducible apply Block.modDma_sound
    | with_reducible apply Block.send_sound
    | with_reducible apply Block.dmaError_sound
    | with_reducible apply Block.dmaRead_sound
    | with_reducible apply hf_f
    | (with_reducible refine AccSound.ofDone (by assumption) ?_)
    | (with_reducible refine AccSound.ofErr (by assumption) ?_)
    | (with_reducible refine AccSound.ofWait (by assumption) ?_)
    | split

theorem Block.sigEnd_sound {b : Block} (n : Nat) (hS : b.Sound) : (Block.sigEnd b n).Sound := by
  unfold Block.sigEnd
  repeat' first
    | with_reducible assumption
    | (extract_lets +onlyGivenNames z; refine Block.Sound.cut z ?_ (fun hz => ?_); (on_goal 2 => clear_value z); (on_goal 1 => subst z))
    | with_reducible apply Block.ite_sound
    | with_reducible apply Block.modDma_sound
    | with_reducible apply Block.dmaError_sound
    | with_reducible apply Block.dmaNext_sound
    | split

theorem Block.dmaPost_sound {b : Block} (n : Nat) (i : BitVec 128) (v : BitVec 64) (hS : b.Sound) : (Block.dmaPost b n i v).Sound := by
  unfold Block.dmaPost
  repeat' first
    | with_reducible assumption
    | with_reducible apply Block.modDma_sound
    | with_reducible apply Block.pushFrag_sound

theorem Block.dmaMarkDone_sound {b : Block} (n : Nat) (hS : b.Sound) : (Block.dmaMarkDone b n).Sound := by
  unfold Block.dmaMarkDone
  repeat' first
    | with_reducible assumption
    | (extract_lets +onlyGivenNames z; subst z)
    | with_reducible apply Block.setReg64_sound
    | with_reducible apply Block.forEach_sound
    | ((with_reducible refine r1_ne ?_); rfl)
    | (intro z hz hy)

theorem Block.dmaFinishOk_sound {b : Block} (n : Nat) (v : BitVec 64) (hS : b.Sound) : (Block.dmaFinishOk b n v).Sound := by
  unfold Block.dmaFinishOk
  repeat' first
    | with_reducible assumption
    | (extract_lets +onlyGivenNames z; refine Block.Sound.cut z ?_ (fun hz => ?_); (on_goal 2 => clear_value z); (on_goal 1 => subst z))
    | with_reducible apply Block.ite_sound
    | with_reducible apply Block.setReg64_sound
    | with_reducible apply Block.dmaSetState_sound
    | with_reducible apply Block.dmaFlag_sound
    | with_reducible apply Block.dmaRetire_sound
    | with_reducible apply Block.dmaEnterArmed_sound
    | with_reducible apply Block.dmaMarkDone_sound
    | ((with_reducible refine r1_ne ?_); rfl)

theorem Block.dmaCompletion_sound {b : Block} (n : Nat) (ok : Bool) (l : List Byte) (hS : b.Sound) : (Block.dmaCompletion b n ok l).Sound := by
  unfold Block.dmaCompletion
  repeat' first
    | with_reducible assumption
    | (extract_lets +onlyGivenNames z; refine Block.Sound.cut z ?_ (fun hz => ?_); (on_goal 2 => clear_value z); (on_goal 1 => subst z))
    | (extract_lets +onlyGivenNames z; subst z)
    | with_reducible apply Block.ite_sound
    | with_reducible apply Block.modDma_sound
    | with_reducible apply Block.dmaError_sound
    | with_reducible apply Block.moveStore_sound
    | with_reducible apply Block.dmaPost_sound
    | with_reducible apply Block.dmaFinishOk_sound
    | split

end Sys2Proof.Machine
end

