-- ==== Sys2Proof/Laws/Sound/Equinox.lean ====
section
/-!
SUPPORT. The operations of Machine/Equinox.lean keep Block.Sound.
-/
namespace Sys2Proof.Machine

theorem Block.handOff_sound {b : Block} (p : Nat) (hS : b.Sound) : (Block.handOff b p).Sound := by
  unfold Block.handOff
  repeat' first
    | with_reducible assumption
    | (extract_lets +onlyGivenNames z; refine Block.Sound.cut z ?_ (fun hz => ?_); (on_goal 2 => clear_value z); (on_goal 1 => subst z))
    | (extract_lets +onlyGivenNames z; subst z)
    | with_reducible apply Block.ite_sound
    | with_reducible apply Block.modPart_sound
    | with_reducible apply Block.modClu_sound
    | with_reducible apply Block.trcEquinox_sound
    | with_reducible apply Block.forEach_sound
    | (intro z hz hy)
    | split

theorem Block.budgetCheck_sound {b : Block} (c : Nat) (n : Nat) (hS : b.Sound) : (Block.budgetCheck b c n).Sound := by
  unfold Block.budgetCheck
  repeat' first
    | with_reducible assumption
    | (extract_lets +onlyGivenNames z; subst z)
    | with_reducible apply Block.ite_sound
    | with_reducible apply Block.wrapFld_sound
    | with_reducible apply Block.modClu_sound
    | with_reducible apply Block.raiseIf_sound
    | ((with_reducible refine r1_ne ?_); rfl)

theorem Block.wePcZero_sound {b : Block} (c : Nat) (hS : b.Sound) : (Block.wePcZero b c).Sound := by
  unfold Block.wePcZero
  repeat' first
    | with_reducible assumption
    | with_reducible apply Block.clrFld_sound
    | with_reducible apply Block.forEach_sound
    | ((with_reducible refine r2_ne ?_); rfl)
    | (intro z hz hy)

theorem Block.eqxClu_sound {b : Block} (slips : Nat) (c : Nat) (hS : b.Sound) : (Block.eqxClu b slips c).Sound := by
  unfold Block.eqxClu
  repeat' first
    | with_reducible assumption
    | with_reducible apply Block.spEquinox_sound
    | with_reducible apply Block.sentAdvance_sound
    | with_reducible apply Block.seqStep_sound
    | with_reducible apply Block.budgetCheck_sound
    | with_reducible apply Block.wePcZero_sound

theorem Block.nextDc_sound {b : Block} (p : Nat) (ts : Stamp) (hS : b.Sound) : (Block.nextDc b p ts).Sound := by
  unfold Block.nextDc
  repeat' first
    | with_reducible assumption
    | with_reducible apply Block.modPart_sound

theorem Block.eqxStop_sound {b : Block} (p : Nat) (n : Nat) (hS : b.Sound) : (Block.eqxStop b p n).Sound := by
  unfold Block.eqxStop
  repeat' first
    | with_reducible assumption
    | (extract_lets +onlyGivenNames z; refine Block.Sound.cut z ?_ (fun hz => ?_); (on_goal 2 => clear_value z); (on_goal 1 => subst z))
    | (extract_lets +onlyGivenNames z; subst z)
    | with_reducible apply Block.ite_sound
    | with_reducible apply Block.modPart_sound
    | with_reducible apply Block.pathDownStop_sound
    | with_reducible apply Block.enterFrozen_sound
    | with_reducible apply Block.meet_sound

theorem Block.equinoxNow_sound {b : Block} (p : Nat) (hS : b.Sound) : (Block.equinoxNow b p).Sound := by
  unfold Block.equinoxNow
  repeat' first
    | with_reducible assumption
    | (extract_lets +onlyGivenNames z; refine Block.Sound.cut z ?_ (fun hz => ?_); (on_goal 2 => clear_value z); (on_goal 1 => subst z))
    | (extract_lets +onlyGivenNames z; subst z)
    | with_reducible apply Block.modPart_sound
    | with_reducible apply Block.modClu_sound
    | with_reducible apply Block.emitRest_sound
    | with_reducible apply Block.noteHit_sound
    | with_reducible apply Block.vptEquinox_sound
    | with_reducible apply Block.handOff_sound
    | with_reducible apply Block.eqxClu_sound
    | with_reducible apply Block.nextDc_sound
    | with_reducible apply Block.eqxStop_sound
    | with_reducible apply Block.forEach_sound
    | (intro z hz hy)

theorem Block.equinox_sound {b : Block} (p : Nat) (hS : b.Sound) : (Block.equinox b p).Sound := by
  unfold Block.equinox
  repeat' first
    | with_reducible assumption
    | (extract_lets +onlyGivenNames z; refine Block.Sound.cut z ?_ (fun hz => ?_); (on_goal 2 => clear_value z); (on_goal 1 => subst z))
    | (extract_lets +onlyGivenNames z; subst z)
    | with_reducible apply Block.ite_sound
    | with_reducible apply Block.abortStop_sound
    | with_reducible apply Block.settle_sound
    | with_reducible apply Block.equinoxNow_sound

end Sys2Proof.Machine
end

