-- ==== Sys2Proof/Laws/Sound/Noc.lean ====
section
/-!
SUPPORT. The operations of Machine/Noc.lean keep Block.Sound.
-/
namespace Sys2Proof.Machine

theorem Block.meshUntil_sound (net : Nat) (p : Packet) (k : Nat) {b : Block} (hS : b.Sound) : (Block.meshUntil b net p k).Sound := by
  induction k generalizing b with
  | zero => exact hS
  | succ k ih =>
    unfold Block.meshUntil
    exact Block.ite_sound hS (ih (Block.meshCycle_sound hS))

theorem Block.answerAt_sound {b : Block} (node : Nat) (p : Packet) (kind : Nat) (addr : Nat) (data : BitVec 512) (hS : b.Sound) : (Block.answerAt b node p kind addr data).Sound := by
  unfold Block.answerAt
  repeat' first
    | with_reducible assumption
    | with_reducible apply Block.inject_sound

theorem Block.answer_sound {b : Block} (p : Packet) (kind : Nat) (addr : Nat) (data : BitVec 512) (hS : b.Sound) : (Block.answer b p kind addr data).Sound := by
  unfold Block.answer
  repeat' first
    | with_reducible assumption
    | with_reducible apply Block.answerAt_sound

theorem Block.answerErr_sound {b : Block} (p : Packet) (code : Nat) (hS : b.Sound) : (Block.answerErr b p code).Sound := by
  unfold Block.answerErr
  repeat' first
    | with_reducible assumption
    | with_reducible apply Block.answer_sound

theorem Block.answerAck_sound {b : Block} (p : Packet) (hS : b.Sound) : (Block.answerAck b p).Sound := by
  unfold Block.answerAck
  repeat' first
    | with_reducible assumption
    | with_reducible apply Block.answer_sound

theorem Block.answerRetry_sound {b : Block} (node : Nat) (p : Packet) (hS : b.Sound) : (Block.answerRetry b node p).Sound := by
  unfold Block.answerRetry
  repeat' first
    | with_reducible assumption
    | (extract_lets +onlyGivenNames z; refine Block.Sound.cut z ?_ (fun hz => ?_); (on_goal 2 => clear_value z); (on_goal 1 => subst z))
    | (extract_lets +onlyGivenNames z; subst z)
    | with_reducible apply Block.ite_sound
    | with_reducible apply Block.answerAt_sound
    | (simp only [Block.sound_mk]; refine ⟨?_, ?_, ?_, ?_, ?_, ?_, ?_, ?_, ?_⟩)
    | with_reducible exact Block.Sound.rf (by assumption)
    | with_reducible exact Block.Sound.far (by assumption)
    | with_reducible exact Block.Sound.ssp (by assumption)
    | with_reducible exact Block.Sound.log (by assumption)
    | with_reducible exact Block.Sound.audit (by assumption)
    | with_reducible exact Block.Sound.vpt (by assumption)
    | with_reducible exact Block.Sound.sub (by assumption)
    | with_reducible exact Block.Sound.s0 (by assumption)
    | with_reducible exact Block.Sound.s1 (by assumption)

theorem Block.answerData_sound {b : Block} (p : Packet) (l : List Byte) (poison : Bool) (hS : b.Sound) : (Block.answerData b p l poison).Sound := by
  unfold Block.answerData
  repeat' first
    | with_reducible assumption
    | with_reducible apply Block.answer_sound

theorem Block.setHeld_sound {b : Block} (k : Nat) (l : List (Packet × Found)) (hS : b.Sound) : (Block.setHeld b k l).Sound := by
  unfold Block.setHeld
  repeat' first
    | (extract_lets +onlyGivenNames z; subst z)
    | (simp only [Block.sound_mk]; refine ⟨?_, ?_, ?_, ?_, ?_, ?_, ?_, ?_, ?_⟩)
    | with_reducible exact Block.Sound.rf (by assumption)
    | with_reducible exact Block.Sound.far (by assumption)
    | with_reducible exact Block.Sound.ssp (by assumption)
    | with_reducible exact Block.Sound.log (by assumption)
    | with_reducible exact Block.Sound.audit (by assumption)
    | with_reducible exact Block.Sound.vpt (by assumption)
    | with_reducible exact Block.Sound.sub (by assumption)
    | with_reducible exact Block.Sound.s0 (by assumption)
    | with_reducible exact Block.Sound.s1 (by assumption)

theorem Block.nocRefuse_sound {b : Block} (p : Packet) (hS : b.Sound) : (Block.nocRefuse b p).Sound := by
  unfold Block.nocRefuse
  repeat' first
    | with_reducible assumption
    | with_reducible apply Block.answerRetry_sound
    | with_reducible apply Block.setHeld_sound
    | with_reducible apply Block.forEach_sound
    | (intro z hz hy)

theorem Block.nocHold_sound {b : Block} (k : Nat) (p : Packet) (e : Found) (hS : b.Sound) : (Block.nocHold b k p e).Sound := by
  unfold Block.nocHold
  repeat' first
    | with_reducible assumption
    | with_reducible apply Block.setHeld_sound

theorem Block.reqDone_sound {b : Block} (p : Packet) (hS : b.Sound) : (Block.reqDone b p).Sound := by
  unfold Block.reqDone
  repeat' first
    | (extract_lets +onlyGivenNames z; subst z)
    | (simp only [Block.sound_mk]; refine ⟨?_, ?_, ?_, ?_, ?_, ?_, ?_, ?_, ?_⟩)
    | with_reducible exact Block.Sound.rf (by assumption)
    | with_reducible exact Block.Sound.far (by assumption)
    | with_reducible exact Block.Sound.ssp (by assumption)
    | with_reducible exact Block.Sound.log (by assumption)
    | with_reducible exact Block.Sound.audit (by assumption)
    | with_reducible exact Block.Sound.vpt (by assumption)
    | with_reducible exact Block.Sound.sub (by assumption)
    | with_reducible exact Block.Sound.s0 (by assumption)
    | with_reducible exact Block.Sound.s1 (by assumption)

theorem Block.fmpPkt_sound {b : Block} (p : Packet) (f : FmpEnt → FmpEnt) (hS : b.Sound) : (Block.fmpPkt b p f).Sound := by
  unfold Block.fmpPkt
  repeat' first
    | with_reducible assumption
    | with_reducible apply Block.modClu_sound
    | split

theorem Block.farStore_sound {b : Block} (p : Packet) (hS : b.Sound) : (Block.farStore b p).Sound := by
  unfold Block.farStore
  repeat' first
    | with_reducible assumption
    | (extract_lets +onlyGivenNames z; subst z)
    | with_reducible apply Block.ite_sound
    | with_reducible apply Block.farWrite_sound
    | with_reducible apply Block.snoopRange_sound
    | with_reducible apply Block.fmpAct_sound
    | with_reducible apply Block.reqDone_sound
    | split

theorem Block.farServe_sound {b : Block} (p : Packet) (e : Found) (hS : b.Sound) : (Block.farServe b p e).Sound := by
  unfold Block.farServe
  repeat' first
    | with_reducible assumption
    | (extract_lets +onlyGivenNames z; refine Block.Sound.cut z ?_ (fun hz => ?_); (on_goal 2 => clear_value z); (on_goal 1 => subst z))
    | (extract_lets +onlyGivenNames z; subst z)
    | with_reducible apply Block.ite_sound
    | with_reducible apply Block.snoopRange_sound
    | with_reducible apply Block.farFound_sound
    | with_reducible apply Block.answerErr_sound
    | with_reducible apply Block.answerAck_sound
    | with_reducible apply Block.answerData_sound
    | with_reducible apply Block.farStore_sound

theorem Block.sspServe_sound {b : Block} (k : Nat) (p : Packet) (e : Found) (hS : b.Sound) : (Block.sspServe b k p e).Sound := by
  unfold Block.sspServe
  repeat' first
    | with_reducible assumption
    | (extract_lets +onlyGivenNames z; refine Block.Sound.cut z ?_ (fun hz => ?_); (on_goal 2 => clear_value z); (on_goal 1 => subst z))
    | (extract_lets +onlyGivenNames z; subst z)
    | with_reducible apply Block.ite_sound
    | with_reducible apply Block.sspPut_sound
    | with_reducible apply Block.sspFound_sound
    | with_reducible apply Block.answerAck_sound
    | with_reducible apply Block.answerData_sound
    | with_reducible apply Block.reqDone_sound

theorem Block.sspRequest_sound {b : Block} (p : Packet) (e : Found) (hS : b.Sound) : (Block.sspRequest b p e).Sound := by
  unfold Block.sspRequest
  repeat' first
    | with_reducible assumption
    | with_reducible apply Block.sspWake_sound
    | with_reducible apply Block.answerErr_sound
    | with_reducible apply Block.answerRetry_sound
    | with_reducible apply Block.nocHold_sound
    | with_reducible apply Block.sspServe_sound
    | split

theorem Block.bankGo_sound {b : Block} (k : Nat) (hS : b.Sound) : (Block.bankGo b k).Sound := by
  unfold Block.bankGo
  repeat' first
    | with_reducible assumption
    | (extract_lets +onlyGivenNames z; subst z)
    | with_reducible apply Block.ite_sound
    | with_reducible apply Block.sspWake_sound
    | with_reducible apply Block.answerErr_sound
    | with_reducible apply Block.setHeld_sound
    | with_reducible apply Block.sspServe_sound
    | with_reducible apply Block.forEach_sound
    | (intro z hz hy)

theorem Block.regRequest_sound {b : Block} (p : Packet) (hS : b.Sound) : (Block.regRequest b p).Sound := by
  unfold Block.regRequest
  repeat' first
    | with_reducible assumption
    | (extract_lets +onlyGivenNames z; subst z)
    | with_reducible apply Block.ite_sound
    | with_reducible apply Block.regsRead_sound
    | with_reducible apply Block.regsWrite_sound
    | with_reducible apply Block.answerErr_sound
    | with_reducible apply Block.answerAck_sound
    | with_reducible apply Block.answerData_sound
    | with_reducible apply Block.nocHold_sound
    | (with_reducible refine AccSound.ofDone (by assumption) ?_)
    | (with_reducible refine AccSound.ofErr (by assumption) ?_)
    | (with_reducible refine AccSound.ofWait (by assumption) ?_)
    | split

theorem Block.nocRequest_sound {b : Block} (p : Packet) (e : Found) (hS : b.Sound) : (Block.nocRequest b p e).Sound := by
  unfold Block.nocRequest
  repeat' first
    | with_reducible assumption
    | (extract_lets +onlyGivenNames z; subst z)
    | with_reducible apply Block.ite_sound
    | with_reducible apply Block.answerErr_sound
    | with_reducible apply Block.fmpPkt_sound
    | with_reducible apply Block.farServe_sound
    | with_reducible apply Block.sspRequest_sound
    | with_reducible apply Block.regRequest_sound

theorem Block.fragLost_sound {b : Block} (p : Packet) (hS : b.Sound) : (Block.fragLost b p).Sound := by
  unfold Block.fragLost
  repeat' first
    | (extract_lets +onlyGivenNames z; subst z)
    | (simp only [Block.sound_mk]; refine ⟨?_, ?_, ?_, ?_, ?_, ?_, ?_, ?_, ?_⟩)
    | with_reducible exact Block.Sound.rf (by assumption)
    | with_reducible exact Block.Sound.far (by assumption)
    | with_reducible exact Block.Sound.ssp (by assumption)
    | with_reducible exact Block.Sound.log (by assumption)
    | with_reducible exact Block.Sound.audit (by assumption)
    | with_reducible exact Block.Sound.vpt (by assumption)
    | with_reducible exact Block.Sound.sub (by assumption)
    | with_reducible exact Block.Sound.s0 (by assumption)
    | with_reducible exact Block.Sound.s1 (by assumption)

theorem Block.nocMsg_sound {b : Block} (p : Packet) (e : Found) (hS : b.Sound) : (Block.nocMsg b p e).Sound := by
  unfold Block.nocMsg
  repeat' first
    | with_reducible assumption
    | (extract_lets +onlyGivenNames z; refine Block.Sound.cut z ?_ (fun hz => ?_); (on_goal 2 => clear_value z); (on_goal 1 => subst z))
    | with_reducible apply Block.ite_sound
    | with_reducible apply Block.wordsFound_sound
    | with_reducible apply Block.nocDrop_sound
    | with_reducible apply Block.answerErr_sound
    | with_reducible apply Block.fragLost_sound
    | (intro z hz hy)

theorem Block.nocGo_sound {b : Block} (p : Packet) (e : Found) (hS : b.Sound) : (Block.nocGo b p e).Sound := by
  unfold Block.nocGo
  repeat' first
    | with_reducible assumption
    | with_reducible apply Block.ite_sound
    | with_reducible apply Block.nocRequest_sound
    | with_reducible apply Block.nocMsg_sound

theorem Block.nocServe_sound {b : Block} (p : Packet) (e : Found) (hS : b.Sound) : (Block.nocServe b p e).Sound := by
  unfold Block.nocServe
  repeat' first
    | with_reducible assumption
    | with_reducible apply Block.ite_sound
    | with_reducible apply Block.nocRefuse_sound
    | with_reducible apply Block.nocHold_sound
    | with_reducible apply Block.nocGo_sound

theorem Block.nocPass_sound {b : Block} (k : Nat) (hS : b.Sound) : (Block.nocPass b k).Sound := by
  unfold Block.nocPass
  repeat' first
    | with_reducible assumption
    | with_reducible apply Block.setHeld_sound
    | with_reducible apply Block.nocGo_sound
    | split

theorem Block.nocRelease_sound {b : Block} (hS : b.Sound) : (Block.nocRelease b).Sound := by
  unfold Block.nocRelease
  repeat' first
    | with_reducible assumption
    | with_reducible apply Block.ite_sound
    | with_reducible apply Block.bankGo_sound
    | with_reducible apply Block.nocPass_sound
    | with_reducible apply Block.forEach_sound
    | (intro z hz hy)

theorem Block.nocSnoop_sound {b : Block} (p : Packet) (hS : b.Sound) : (Block.nocSnoop b p).Sound := by
  unfold Block.nocSnoop
  repeat' first
    | with_reducible assumption
    | (extract_lets +onlyGivenNames z; refine Block.Sound.cut z ?_ (fun hz => ?_); (on_goal 2 => clear_value z); (on_goal 1 => subst z))
    | (extract_lets +onlyGivenNames z; subst z)
    | with_reducible apply Block.ite_sound
    | with_reducible apply Block.modClu_sound
    | with_reducible apply Block.answer_sound
    | split

theorem Block.nocRetry_sound {b : Block} (node : Nat) (txn : Nat) (hS : b.Sound) : (Block.nocRetry b node txn).Sound := by
  unfold Block.nocRetry
  repeat' first
    | with_reducible assumption
    | (extract_lets +onlyGivenNames z; refine Block.Sound.cut z ?_ (fun hz => ?_); (on_goal 2 => clear_value z); (on_goal 1 => subst z))
    | (extract_lets +onlyGivenNames z; subst z)
    | with_reducible apply Block.ite_sound
    | (simp only [Block.sound_mk]; refine ⟨?_, ?_, ?_, ?_, ?_, ?_, ?_, ?_, ?_⟩)
    | with_reducible exact Block.Sound.rf (by assumption)
    | with_reducible exact Block.Sound.far (by assumption)
    | with_reducible exact Block.Sound.ssp (by assumption)
    | with_reducible exact Block.Sound.log (by assumption)
    | with_reducible exact Block.Sound.audit (by assumption)
    | with_reducible exact Block.Sound.vpt (by assumption)
    | with_reducible exact Block.Sound.sub (by assumption)
    | with_reducible exact Block.Sound.s0 (by assumption)
    | with_reducible exact Block.Sound.s1 (by assumption)
    | split

theorem Block.dmaReply_sound {b : Block} (p : Packet) (hS : b.Sound) : (Block.dmaReply b p).Sound := by
  unfold Block.dmaReply
  repeat' first
    | with_reducible assumption
    | with_reducible apply Block.ite_sound
    | with_reducible apply Block.dmaNack_sound
    | with_reducible apply Block.dmaAck_sound
    | split

theorem Block.fmpReply_sound {b : Block} (c : Nat) (n : Nat) (e : FmpEnt) (refused : Bool) (bad : Bool) (hS : b.Sound) : (Block.fmpReply b c n e refused bad).Sound := by
  unfold Block.fmpReply
  repeat' first
    | with_reducible assumption
    | (extract_lets +onlyGivenNames z; subst z)
    | with_reducible apply Block.ite_sound
    | with_reducible apply Block.modClu_sound
    | with_reducible apply Block.fmpArrive_sound

theorem Block.nocAnswer_sound {b : Block} (p : Packet) (e : Found) (hS : b.Sound) : (Block.nocAnswer b p e).Sound := by
  unfold Block.nocAnswer
  repeat' first
    | with_reducible assumption
    | (extract_lets +onlyGivenNames z; refine Block.Sound.cut z ?_ (fun hz => ?_); (on_goal 2 => clear_value z); (on_goal 1 => subst z))
    | (extract_lets +onlyGivenNames z; subst z)
    | with_reducible apply Block.ite_sound
    | with_reducible apply Block.wordsFound_sound
    | with_reducible apply Block.nocRetry_sound
    | with_reducible apply Block.dmaReply_sound
    | with_reducible apply Block.fmpReply_sound
    | (simp only [Block.sound_mk]; refine ⟨?_, ?_, ?_, ?_, ?_, ?_, ?_, ?_, ?_⟩)
    | with_reducible exact Block.Sound.rf (by assumption)
    | with_reducible exact Block.Sound.far (by assumption)
    | with_reducible exact Block.Sound.ssp (by assumption)
    | with_reducible exact Block.Sound.log (by assumption)
    | with_reducible exact Block.Sound.audit (by assumption)
    | with_reducible exact Block.Sound.vpt (by assumption)
    | with_reducible exact Block.Sound.sub (by assumption)
    | with_reducible exact Block.Sound.s0 (by assumption)
    | with_reducible exact Block.Sound.s1 (by assumption)
    | (intro z hz hy)
    | split

theorem Block.goAbroad_sound {b : Block} (p : Packet) (hS : b.Sound) : (Block.goAbroad b p).Sound := by
  unfold Block.goAbroad
  repeat' first
    | with_reducible assumption
    | (extract_lets +onlyGivenNames z; refine Block.Sound.cut z ?_ (fun hz => ?_); (on_goal 2 => clear_value z); (on_goal 1 => subst z))
    | (extract_lets +onlyGivenNames z; subst z)
    | with_reducible apply Block.ite_sound
    | with_reducible apply Block.sendMsg_sound
    | (simp only [Block.sound_mk]; refine ⟨?_, ?_, ?_, ?_, ?_, ?_, ?_, ?_, ?_⟩)
    | with_reducible exact Block.Sound.rf (by assumption)
    | with_reducible exact Block.Sound.far (by assumption)
    | with_reducible exact Block.Sound.ssp (by assumption)
    | with_reducible exact Block.Sound.log (by assumption)
    | with_reducible exact Block.Sound.audit (by assumption)
    | with_reducible exact Block.Sound.vpt (by assumption)
    | with_reducible exact Block.Sound.sub (by assumption)
    | with_reducible exact Block.Sound.s0 (by assumption)
    | with_reducible exact Block.Sound.s1 (by assumption)

theorem Block.nocEffect_sound {b : Block} (p : Packet) (e : Found) (hS : b.Sound) : (Block.nocEffect b p e).Sound := by
  unfold Block.nocEffect
  repeat' first
    | with_reducible assumption
    | (extract_lets +onlyGivenNames z; subst z)
    | with_reducible apply Block.ite_sound
    | with_reducible apply Block.nocServe_sound
    | with_reducible apply Block.nocSnoop_sound
    | with_reducible apply Block.nocAnswer_sound
    | with_reducible apply Block.goAbroad_sound

theorem Block.wakeIn_sound {b : Block} (d : Nat) (f : Transit) (hS : b.Sound) : (Block.wakeIn b d f).Sound := by
  unfold Block.wakeIn
  repeat' first
    | with_reducible assumption
    | (extract_lets +onlyGivenNames z; refine Block.Sound.cut z ?_ (fun hz => ?_); (on_goal 2 => clear_value z); (on_goal 1 => subst z))
    | (extract_lets +onlyGivenNames z; subst z)
    | with_reducible apply Block.ite_sound
    | with_reducible apply Block.thawByPacket_sound
    | with_reducible apply Block.answerRetry_sound
    | (simp only [Block.sound_mk]; refine ⟨?_, ?_, ?_, ?_, ?_, ?_, ?_, ?_, ?_⟩)
    | with_reducible exact Block.Sound.rf (by assumption)
    | with_reducible exact Block.Sound.far (by assumption)
    | with_reducible exact Block.Sound.ssp (by assumption)
    | with_reducible exact Block.Sound.log (by assumption)
    | with_reducible exact Block.Sound.audit (by assumption)
    | with_reducible exact Block.Sound.vpt (by assumption)
    | with_reducible exact Block.Sound.sub (by assumption)
    | with_reducible exact Block.Sound.s0 (by assumption)
    | with_reducible exact Block.Sound.s1 (by assumption)

theorem Block.pktLost_sound {b : Block} (p : Packet) (hS : b.Sound) : (Block.pktLost b p).Sound := by
  unfold Block.pktLost
  repeat' first
    | with_reducible assumption
    | (extract_lets +onlyGivenNames z; refine Block.Sound.cut z ?_ (fun hz => ?_); (on_goal 2 => clear_value z); (on_goal 1 => subst z))
    | (extract_lets +onlyGivenNames z; subst z)
    | with_reducible apply Block.ite_sound
    | with_reducible apply Block.nocDrop_sound
    | with_reducible apply Block.fmpPkt_sound
    | with_reducible apply Block.fragLost_sound
    | (simp only [Block.sound_mk]; refine ⟨?_, ?_, ?_, ?_, ?_, ?_, ?_, ?_, ?_⟩)
    | with_reducible exact Block.Sound.rf (by assumption)
    | with_reducible exact Block.Sound.far (by assumption)
    | with_reducible exact Block.Sound.ssp (by assumption)
    | with_reducible exact Block.Sound.log (by assumption)
    | with_reducible exact Block.Sound.audit (by assumption)
    | with_reducible exact Block.Sound.vpt (by assumption)
    | with_reducible exact Block.Sound.sub (by assumption)
    | with_reducible exact Block.Sound.s0 (by assumption)
    | with_reducible exact Block.Sound.s1 (by assumption)

theorem Block.nocArrive_sound {b : Block} (f : Transit) (header : Ecc) (words : Found) (unit : Ecc) (hS : b.Sound) : (Block.nocArrive b f header words unit).Sound := by
  unfold Block.nocArrive
  repeat' first
    | with_reducible assumption
    | (extract_lets +onlyGivenNames z; refine Block.Sound.cut z ?_ (fun hz => ?_); (on_goal 2 => clear_value z); (on_goal 1 => subst z))
    | with_reducible apply Block.ite_sound
    | with_reducible apply Block.corrected_sound
    | with_reducible apply Block.unitUse_sound
    | with_reducible apply Block.nocRelease_sound
    | with_reducible apply Block.nocEffect_sound
    | with_reducible apply Block.wakeIn_sound
    | with_reducible apply Block.pktLost_sound
    | (intro z hz)
    | split

theorem Block.nocEject_sound {b : Block} (net : Nat) (p : Packet) (header : Ecc) (words : Found) (unit : Ecc) (hS : b.Sound) : (Block.nocEject b net p header words unit).Sound := by
  unfold Block.nocEject
  repeat' first
    | with_reducible assumption
    | (extract_lets +onlyGivenNames z; refine Block.Sound.cut z ?_ (fun hz => ?_); (on_goal 2 => clear_value z); (on_goal 1 => subst z))
    | (extract_lets +onlyGivenNames z; subst z)
    | with_reducible apply Block.ite_sound
    | with_reducible apply Block.nocDrop_sound
    | with_reducible apply Block.inject_sound
    | with_reducible apply Block.nocArrive_sound
    | with_reducible apply Block.meshUntil_sound
    | (simp only [Block.sound_mk]; refine ⟨?_, ?_, ?_, ?_, ?_, ?_, ?_, ?_, ?_⟩)
    | with_reducible exact Block.Sound.rf (by assumption)
    | with_reducible exact Block.Sound.far (by assumption)
    | with_reducible exact Block.Sound.ssp (by assumption)
    | with_reducible exact Block.Sound.log (by assumption)
    | with_reducible exact Block.Sound.audit (by assumption)
    | with_reducible exact Block.Sound.vpt (by assumption)
    | with_reducible exact Block.Sound.sub (by assumption)
    | with_reducible exact Block.Sound.s0 (by assumption)
    | with_reducible exact Block.Sound.s1 (by assumption)
    | split

theorem Block.nocReissue_sound {b : Block} (node : Nat) (hS : b.Sound) : (Block.nocReissue b node).Sound := by
  unfold Block.nocReissue
  repeat' first
    | with_reducible assumption
    | (extract_lets +onlyGivenNames z; refine Block.Sound.cut z ?_ (fun hz => ?_); (on_goal 2 => clear_value z); (on_goal 1 => subst z))
    | (extract_lets +onlyGivenNames z; subst z)
    | with_reducible apply Block.inject_sound
    | with_reducible apply Block.forEach_sound
    | (simp only [Block.sound_mk]; refine ⟨?_, ?_, ?_, ?_, ?_, ?_, ?_, ?_, ?_⟩)
    | with_reducible exact Block.Sound.rf (by assumption)
    | with_reducible exact Block.Sound.far (by assumption)
    | with_reducible exact Block.Sound.ssp (by assumption)
    | with_reducible exact Block.Sound.log (by assumption)
    | with_reducible exact Block.Sound.audit (by assumption)
    | with_reducible exact Block.Sound.vpt (by assumption)
    | with_reducible exact Block.Sound.sub (by assumption)
    | with_reducible exact Block.Sound.s0 (by assumption)
    | with_reducible exact Block.Sound.s1 (by assumption)
    | (intro z hz hy)

theorem Block.nocTimeout_sound {b : Block} (node : Nat) (txn : Nat) (hS : b.Sound) : (Block.nocTimeout b node txn).Sound := by
  unfold Block.nocTimeout
  repeat' first
    | with_reducible assumption
    | (extract_lets +onlyGivenNames z; subst z)
    | with_reducible apply Block.ite_sound
    | with_reducible apply Block.unitFault_sound
    | with_reducible apply Block.nocDrop_sound
    | with_reducible apply Block.cluFault_sound
    | (simp only [Block.sound_mk]; refine ⟨?_, ?_, ?_, ?_, ?_, ?_, ?_, ?_, ?_⟩)
    | with_reducible exact Block.Sound.rf (by assumption)
    | with_reducible exact Block.Sound.far (by assumption)
    | with_reducible exact Block.Sound.ssp (by assumption)
    | with_reducible exact Block.Sound.log (by assumption)
    | with_reducible exact Block.Sound.audit (by assumption)
    | with_reducible exact Block.Sound.vpt (by assumption)
    | with_reducible exact Block.Sound.sub (by assumption)
    | with_reducible exact Block.Sound.s0 (by assumption)
    | with_reducible exact Block.Sound.s1 (by assumption)
    | split

theorem Block.wakePkt_sound {b : Block} (d : Nat) (net : Nat) (p : Packet) (hS : b.Sound) : (Block.wakePkt b d net p).Sound := by
  unfold Block.wakePkt
  repeat' first
    | with_reducible assumption
    | with_reducible apply Block.ite_sound
    | with_reducible apply Block.nocEject_sound

theorem Block.sspPowered_sound {b : Block} (k : Nat) (hS : b.Sound) : (Block.sspPowered b k).Sound := by
  unfold Block.sspPowered
  repeat' first
    | with_reducible assumption
    | with_reducible apply Block.snapTry_sound
    | with_reducible apply Block.sspDone_sound
    | with_reducible apply Block.bankGo_sound

end Sys2Proof.Machine
end

