-- ==== Sys2Proof/Laws/Sound/Tick.lean ====
section
/-!
SUPPORT. The operations of Machine/Tick.lean keep Block.Sound.
-/
namespace Sys2Proof.Machine

theorem Block.partsTick_sound {b : Block} (hS : b.Sound) : (Block.partsTick b).Sound := by
  unfold Block.partsTick
  repeat' first
    | (simp only [Block.sound_mk]; refine ⟨?_, ?_, ?_, ?_, ?_, ?_, ?_, ?_, ?_⟩)
    | with_reducible exact Block.Sound.rf (by assumption)
    | with_reducible exact Block.Sound.far (by assumption)
    | with_reducible exact Block.Sound.ssp (by assumption)
    | with_reducible exact Block.Sound.log (by assumption)
    | with_reducible exact Block.Sound.audit (by assumption)
    | with_reducible exact Block.Sound.vpt (by assumption)
    | with_reducible exact Block.Sound.sub (by assumption)
    | with_reducible exact Block.Sound.s0 (by assumption)
    | with_reducible exact Block.Sound.s1 (by assumption)

theorem Block.microTick_sound {b : Block} (hS : b.Sound) : (Block.microTick b).Sound := by
  unfold Block.microTick
  split
  · rename_i h
    exact (Block.sound_mk ..).mpr ⟨hS.rf, hS.far, hS.ssp, hS.log, hS.audit, hS.vpt, h, hS.set0, hS.set1⟩
  · extract_lets q b1 b2
    have h1 : b1.Sound := (Block.sound_mk ..).mpr ⟨hS.rf, hS.far, hS.ssp, hS.log, hS.audit, hS.vpt, Nat.zero_lt_succ _, hS.set0, hS.set1⟩
    have h2 : b2.Sound := Block.setReg_sound h1 _ _ (r0_ne rfl)
    refine Block.ite_sound ?_ h2
    exact (Block.sound_mk ..).mpr ⟨h2.rf, h2.far, h2.ssp, h2.log, h2.audit, h2.vpt, h2.sub, h2.set0, h2.set1⟩

theorem Block.calmTick_sound {b : Block} (hS : b.Sound) : (Block.calmTick b).Sound := by
  unfold Block.calmTick
  repeat' first
    | (extract_lets +onlyGivenNames z; subst z)
    | (simp only [Block.sound_mk]; refine ⟨?_, ?_, ?_, ?_, ?_, ?_, ?_, ?_, ?_⟩)
    | with_reducible exact Block.Sound.rf (by assumption)
    | with_reducible exact Block.Sound.far (by assumption)
    | with_reducible exact Block.Sound.ssp (by assumption)
    | with_reducible exact Block.Sound.log (by assumption)
    | with_reducible exact Block.Sound.audit (by assumption)
    | with_reducible exact Block.Sound.vpt (by assumption)
    | with_reducible exact Block.Sound.sub (by assumption)
    | with_reducible exact Block.Sound.s0 (by assumption)
    | with_reducible exact Block.Sound.s1 (by assumption)

theorem Block.cycle_sound {b : Block} (hS : b.Sound) : (Block.cycle b).Sound := by
  unfold Block.cycle
  repeat' first
    | with_reducible assumption
    | (extract_lets +onlyGivenNames z; refine Block.Sound.cut z ?_ (fun hz => ?_); (on_goal 2 => clear_value z); (on_goal 1 => subst z))
    | (extract_lets +onlyGivenNames z; subst z)
    | with_reducible apply Block.ite_sound
    | with_reducible apply Block.timeEdges_sound
    | with_reducible apply Block.stoppedTick_sound
    | with_reducible apply Block.vptDrain_sound
    | with_reducible apply Block.meshTick_sound
    | with_reducible apply Block.nocRelease_sound
    | with_reducible apply Block.partsTick_sound
    | with_reducible apply Block.microTick_sound
    | with_reducible apply Block.calmTick_sound
    | (simp only [Block.sound_mk]; refine ⟨?_, ?_, ?_, ?_, ?_, ?_, ?_, ?_, ?_⟩)
    | with_reducible exact Block.Sound.rf (by assumption)
    | with_reducible exact Block.Sound.far (by assumption)
    | with_reducible exact Block.Sound.ssp (by assumption)
    | with_reducible exact Block.Sound.log (by assumption)
    | with_reducible exact Block.Sound.audit (by assumption)
    | with_reducible exact Block.Sound.vpt (by assumption)
    | with_reducible exact Block.Sound.sub (by assumption)
    | with_reducible exact Block.Sound.s0 (by assumption)
    | with_reducible exact Block.Sound.s1 (by assumption)

end Sys2Proof.Machine
end

