-- ==== Sys2Proof/Tests/Slice0.lean ====
section
/-!
SUPPORT. Witnesses and tests. For every statement that has hypotheses, a theorem witness_<Name>… shows a concrete block and operands that meet them,
clause by clause; the other theorems check well-formedness, the worked examples of the spec, and single steps.
-/
open Sys2Proof Sys2Proof.Machine
namespace Sys2Proof.Tests

-- One proof at a time: each evaluation by the kernel waits for the ones before it.
set_option Elab.async false

/-- A module that is ready, with an installer session on PF0. -/
def up : Block := { pw := { phase := .ready }, funcs := [(0, { session := some ⟨.inst, 0xFF⟩ })] }

/-- The same with an operator session whose key covers every partition. -/
def oper : Block := { pw := { phase := .ready }, funcs := [(0, { session := some ⟨.op, 0⟩ })], sec := { operKeys := [(0, ⟨[], BitVec.allOnes 256⟩)] } }

/-- Cluster 0 in partition 0 with ten steps. -/
def cfg0 : RegFile := [(r1 .CLU_CFG 0, 0x000A0000#32)]

/-- Partition 0 runs within a DC of ten steps, at step n. -/
def run0 (n : Nat) : Part := { state := .running, clusters := [0], len := 10, step := n, dcp := .run }

/-- A module whose partition 0 is x and whose cluster 0 is c. -/
def one (x : Part) (c : Cluster) : Block := { oper with regs := cfg0, parts := [(0, x)], clus := [(0, c)] }

/-- A state with an empty queue. -/
def st (b : Block) : State := ⟨[], b⟩

/-- A BP word with four constant operands 0, 1, 0, 0. -/
def w0 : BpArgs := ⟨0x6AC4, 0x1C00, 0x1C01, 0x1C00, 0x1C00, 5, 0, false⟩
/-! ## Witnesses: for each statement that has hypotheses, a state and operands that meet them, clause by clause -/

theorem witness_IdleStepIsOneControlClock :
    (({} : Block).pw.phase = .por) ∧ (({ pw := { phase := .lock } } : Block).pw.phase = .lock) ∧
    (({ pw := { phase := .boot } } : Block).pw.phase = .boot) ∧
    ({ up with parts := [(3, { state := .frozen })] }.pw.phase = .ready ∧
      NMap.find { up with parts := [(3, { state := .frozen })] }.parts 3 = some { state := .frozen } ∧ ({ state := .frozen } : Part).state = .frozen) ∧
    (up.noc.tx = [] ∧ up.noc.fly = [] ∧ up.noc.inq = []) := by
  decide

theorem witness_IdleStepIsOneControlClock_calm :
    ∀ c, (up.clu c).flight = [] ∧ (up.clu c).deferred = [] ∧ (up.clu c).defRun = false := fun _ => ⟨rfl, rfl, rfl⟩

theorem witness_EveryStepKeepsSoundness :
    Block.Sound up ∧ ∃ t, step ⟨[.porRelease], up⟩ = .next t :=
  ⟨⟨by decide, by decide, by decide, by decide, by decide, by decide, by decide, by decide, by decide, by decide⟩, ⟨_, rfl⟩⟩

theorem witness_EvalAndEndWriteTheValueStore :
    ((one (run0 3) {}).inDc 0 = some 0 ∧ w0.flg = 0 ∧ (one (run0 3) {}).operand 0 0 127 w0.a = some false ∧
      (one (run0 3) {}).operand 0 0 127 w0.b = some true ∧ (one (run0 3) {}).operand 0 0 127 w0.c = some false ∧
      (one (run0 3) {}).operand 0 0 127 w0.d = some false ∧ ((one (run0 3) {}).clu 0).isState 127 w0.dst.toNat = false ∧
      ((one (run0 3) {}).part 0).step + 1 ≠ ((one (run0 3) {}).part 0).len) ∧
    ((one (run0 9) {}).inDc 0 = some 0 ∧ (one (run0 9) {}).operand 0 0 127 w0.a = some false ∧
      (one (run0 9) {}).operand 0 0 127 w0.b = some true ∧ (one (run0 9) {}).operand 0 0 127 w0.c = some false ∧
      (one (run0 9) {}).operand 0 0 127 w0.d = some false ∧ ((one (run0 9) {}).clu 0).isState 127 w0.dst.toNat = false ∧
      ((one (run0 9) {}).part 0).step + 1 = ((one (run0 9) {}).part 0).len) := by decide

/-- Cluster 0 with entry 5 of BP 2 a state bit. -/
def clu5 : Cluster := { map := [(2 * 4096 + 5, true)] }

theorem witness_EvalqTrigAndNop :
    ((one (run0 0) clu5).inDc 0 = some 0 ∧ w0.flg = 0 ∧ ((one (run0 0) clu5).part 0).step + 1 ≠ ((one (run0 0) clu5).part 0).len) ∧
    (one (run0 0) clu5).evalBp 0 0 2 w0 = some true ∧ ((one (run0 0) clu5).clu 0).isState 2 w0.dst.toNat = true ∧ w0.dst.toNat < 8 := by decide

/-- A route of lane 5 of cluster 0 at step 3, to lane 511 of cluster 0. -/
def rt5 : Route := ⟨0, 3, 5, [.die 0 511 2]⟩

theorem witness_SendAndEvalsDriveALane :
    let b := one { run0 3 with man := { routes := [rt5] } } { map := [(2 * 4096, true)] }
    b.inDc 0 = some 0 ∧ w0.flg = 0 ∧ (b.part 0).step + 1 ≠ (b.part 0).len ∧ b.evalBp 0 0 2 w0 = some true ∧
    (b.part 0).routeAt 0 (b.part 0).step (w0.dst.toNat % 64) = some rt5 ∧ w0.dst.toNat < 64 ∧
    (b.clu 0).isState 2 (b.fld (r1 .CLU_CFG 0) F.CLU_CFG_EVALS_PAGE * 64 + w0.dst.toNat / 64) = true := by decide

theorem witness_ScheduleFaultStopsThePartition :
    let b := one (run0 3) {}
    (7, Instr.bpEnd 0 2 w0) ∈ [(0, Instr.nop 0 2 w0), (1, .eval 0 2 w0), (2, .evalq 0 2 w0), (3, .send 0 2 w0), (4, .evals 0 2 w0), (5, .wait 0 2 w0), (6, .trig 0 2 w0), (7, .bpEnd 0 2 w0)] ∧
    b.inDc 0 = some 0 ∧ b.bpCodes 0 0 2 7 w0 = [8] ∧
    b.bit (r1 .CLU_FAULT_INFO 0) F.CLU_FAULT_INFO_VALID = false ∧ (b.part 0).step < 2048 := by decide

/-- An ADD word with registers 63 and 1. -/
def wa : WeArgs := ⟨63, 1, false, true, 0, 2⟩

/-- A result of WE 1 in flight, due in two cycles. -/
def fl2 : Flight := ⟨1, .reg 4, .put 7, 2, false, false⟩

theorem witness_WordEngineArithmetic :
    let b := one (run0 3) { flight := [fl2] }
    b.inDc 0 = some 0 ∧ (∀ f ∈ (b.clu 0).flight, f.left ≠ 0) ∧ (b.clu 0).weHeld 0 0x01 wa = false ∧
    (b.part 0).step + 1 ≠ (b.part 0).len := by decide

theorem witness_WordEngineArithmetic_lastStep :
    let b := one (run0 9) { flight := [fl2] }
    b.inDc 0 = some 0 ∧ (∀ f ∈ (b.clu 0).flight, f.left ≠ 0) ∧ (b.clu 0).weHeld 0 0x01 wa = false ∧ b.depth 0 0 = 0 := by decide

theorem witness_WordEngineFieldsAndAccumulators :
    let b := one (run0 3) { flight := [fl2] }
    b.inDc 0 = some 0 ∧ (∀ f ∈ (b.clu 0).flight, f.left ≠ 0) ∧ (b.clu 0).weHeld 0 0x0C wa = false ∧
    weParamBad 0x0C wa ((b.clu 0).opb 0 wa) = false ∧ (b.part 0).step + 1 ≠ (b.part 0).len := by decide

theorem witness_WordEngineFaultsAndHolds :
    let b := one (run0 3) { flight := [fl2] }
    let bad : WeArgs := ⟨2, 3, false, false, 40, 30⟩
    b.inDc 0 = some 0 ∧ (∀ f ∈ (b.clu 0).flight, f.left ≠ 0) ∧ (b.clu 0).weHeld 1 0x0C ⟨2, 4, false, false, 0, 0⟩ = true ∧ (b.settle 0).runs 0 = true ∧
    (b.clu 0).weHeld 1 0x0C bad = false ∧ weParamBad 0x0C bad ((b.clu 0).opb 1 bad) = true := by decide +kernel

theorem witness_WordEngineLoopsAndLanding_1 :
    let b := one (run0 3) { flight := [fl2] }
    b.inDc 0 = some 0 ∧ (∀ f ∈ (b.clu 0).flight, f.left ≠ 0) ∧ b.depth 0 0 = 0 ∧
    1 ≤ (2047 : BitVec 32).toNat % 2048 ∧ b.wpc 0 0 + (2047 : BitVec 32).toNat % 2048 ≤ 2047 ∧ (b.part 0).step + 1 ≠ (b.part 0).len := by decide

theorem witness_WordEngineLoopsAndLanding_2 :
    (one { run0 3 with state := .frozen } { flight := [fl2] }).landing 0 1 = some fl2 ∧ fl2.act = .put 7 := by decide

theorem witness_WordEngineLoopsAndLanding_3 :
    (one (run0 3) {}).reaches .pf0 (r2 .WE_PC 0 0) = true ∧ (one (run0 3) {}).designOk .pf0 (r2 .WE_PC 0 0) = true := by decide

theorem witness_WordEngineLoopsAndLanding_4 :
    (one (run0 3) {}).roleOk .pf0 (r2 .WE_PC 0 0) = true := by decide

/-- WE 0 of cluster 0 at word 5 with two levels of block repeat that both end there, the inner with LEFT n; the partition runs at step s. -/
def looping (s n : Nat) : Block :=
  { one (run0 s) {} with regs := cfg0 ++ [(r2 .WE_PC 0 0, 5#32), (r2 .WE_LOOP_CTRL 0 0, 2#32), (r3 .WE_LPn_ADDR 0 0 0, 0x50001#32), (r3 .WE_LPn_CNT 0 0 0, 9#32),
    (r3 .WE_LPn_ADDR 0 0 1, 0x50003#32), (r3 .WE_LPn_CNT 0 0 1, BitVec.ofNat 32 n)] }

theorem witness_WordEngineLoopsAndLanding_levels :
    (∀ n < 2, (looping 3 n).inDc 0 = some 0 ∧ ((looping 3 n).part 0).step + 1 ≠ ((looping 3 n).part 0).len ∧ (looping 3 n).wpc 0 0 = 5 ∧
      (looping 3 n).depth 0 0 = 2 ∧ (looping 3 n).level 0 0 1 = (3, 5, n) ∧ (looping 3 n).level 0 0 0 = (1, 5, 9)) ∧
    (one (run0 3) {}).depth 0 0 = 0 ∧ 5 + (7 : BitVec 32).toNat % 2048 ≤ 2047 := by decide +kernel

theorem witness_WordEngineFaultsAndHolds_loops :
    ((one (run0 3) {}).inDc 0 = some 0 ∧ (0 : BitVec 32).toNat % 2048 = 0) ∧
    (5 + (1 : BitVec 32).toNat % 2048 > 5 ∧ (looping 3 0).level 0 0 1 = (3, 5, 0)) ∧
    (let b := (looping 9 0).setReg (r2 .WE_PC 0 0) 4
     b.inDc 0 = some 0 ∧ 0 < b.depth 0 0 ∧ (b.level 0 0 (b.depth 0 0 - 1)).2.1 ≠ b.wpc 0 0 ∧ (b.part 0).step + 1 = (b.part 0).len ∧
     b.bit (r2 .WE_FAULT_INFO 0 0) F.WE_FAULT_INFO_VALID = false ∧ (b.part 0).step < 2048) := by decide +kernel

/-- A route of lane 5 of cluster 0 at step 3 into slot 7 of the path to module 9. -/
theorem witness_SendAndEvalsDriveALane_slot :
    let rt : Route := ⟨0, 3, 5, [.frame 9 0 7]⟩
    let b := one { run0 3 with man := { routes := [rt], outs := [⟨9, 0, List.replicate 8 (0, false)⟩] } } {}
    b.inDc 0 = some 0 ∧ b.evalBp 0 0 2 w0 = some true ∧ (b.part 0).routeAt 0 (b.part 0).step (w0.dst.toNat % 64) = some rt ∧
    .frame 9 0 7 ∈ rt.dests ∧ (b.part 0).outIdx 9 0 = some 0 := by decide +kernel

theorem witness_DesignMemoryReadsAndWrites_1 :
    let b := one (run0 3) {}
    b.inDc 0 = some 0 ∧ ((b.clu 0).gather 0 0 (ratioAddr (b.ratio 0 1))).isSome = true ∧ b.opReserved 0 0 0 ⟨1, false, 0⟩ = false ∧
    b.opReserved 0 0 1 ⟨1, false, 0⟩ = false ∧ ((b.clu 0).gatherData 0 (ratioWidth (b.ratio 0 1))).isSome = true := by decide

theorem witness_DesignMemoryReadsAndWrites_2 :
    let x : Cluster := { deferred := [⟨2, .write 1 0 1 1⟩, ⟨2, .nothing⟩], defRun := true }
    ((one (run0 3) x).clu 0).deferred = ⟨2, .write 1 0 1 1⟩ :: [⟨2, .nothing⟩] ∧ (∀ q ∈ [(⟨2, .nothing⟩ : SlotOp)], q.port = 2) ∧
    ((one (run0 3) x).clu 0).defRun = true := by decide

/-- A memory return due on lanes 510, 511, 0 and 1. -/
def ret4 : MemRet := ⟨false, 0, 0, 510, 4, 5, 0⟩

theorem witness_LanesLatchWhatIsDue_1 :
    let b := one (run0 3) { rets := [ret4] }
    b.cluPart 0 = some 0 ∧ (b.clu 0).retsDue = [ret4] ∧ ret4.width ≤ 72 ∧ (∀ t ∈ (b.part 0).bits, t.c = 0 → t.left ≠ 0) ∧
    laneConflict (b.part 0) 0 [] [ret4] = none ∧ ret4.wait = false := by decide +kernel

theorem witness_LanesLatchWhatIsDue_2 :
    let r : MemRet := ⟨true, 7, 127, 0, 72, 5, 0⟩
    let b := one (run0 3) { rets := [r] }
    b.cluPart 0 = some 0 ∧ (b.clu 0).retsDue = [r] ∧ r.width ≤ 72 ∧ laneConflict (b.part 0) 0 [] [r] = none ∧
    r.wait = true ∧ r.rank = (7 : BitVec 4).toNat ∧ r.bp = (127 : BitVec 7).toNat := by decide +kernel

theorem witness_LanesLatchWhatIsDue_3 :
    let b := one { run0 3 with bits := [⟨0, 511, true, 0⟩, ⟨0, 4, true, 2⟩] } {}
    (∀ c ∈ (b.part 0).clusters, (b.clu c).retsDue = []) ∧
    (∀ t ∈ (b.part 0).bits, ∀ u ∈ (b.part 0).bits, t.left = 0 → u.left = 0 → t.c = u.c → t.lane = u.lane → t.v = u.v) ∧
    (∀ e ∈ (b.part 0).bits, e.lane < 512) := by decide

/-- A port map entry: width 8 from lane 0, four index bits. -/
def pm8 : NMap (BitVec 64) := [(13, 0x81000#64)]

/-- A reserved entry of FMP 0. -/
def ent (n : Nat) : FmpEnt := { num := n, cls := false, kind := 0, dw := 8, base := 0, stack := 0, addr := 0, data := 0 }

theorem witness_FarMemoryRequests_1 :
    let b := one (run0 3) { pmap := pm8 }
    b.inDc 0 = some 0 ∧ b.opReserved 0 0 2 ⟨0, false, 0⟩ = false ∧ ((b.clu 0).gather 0 0 ((b.clu 0).pmapFld 0 10 6)).isSome = true ∧
    ((b.clu 0).fmpQ 0).length < 64 ∧ b.opReserved 0 0 4 ⟨0, false, 0⟩ = false ∧ ((b.clu 0).gatherData 0 ((b.clu 0).pmapFld 0 16 7)).isSome = true := by decide

theorem witness_FarMemoryRequests_2 :
    let b := one (run0 3) { pmap := pm8, fmp := [(0, (List.range 64).map ent)] }
    b.inDc 0 = some 0 ∧ b.opReserved 0 0 2 ⟨0, false, 0⟩ = false ∧ 64 ≤ ((b.clu 0).fmpQ 0).length := by decide

theorem witness_FarMemoryResponses_1 :
    let b := one (run0 3) { fmp := [(3, [ent 0])] }
    (b.clu 0).awaited 3 false = some (ent 0) ∧ (ent 0).acted = false ∧ (b.clu 0).earlier (ent 0) = [] ∧ (ent 0).kind ≤ 1 ∧
    b.noc.fmpRetry.find (0 * 4096 + (ent 0).num % 4096) = none := by decide

theorem witness_FarMemoryResponses_2 :
    let e := { ent 0 with present := true }
    let w : BpArgs := ⟨0, 3, 0, 0, 0, 0, 0, false⟩
    let b := one { run0 3 with man := { classes := [(0, 64)] } } { fmp := [(3, [e])] }
    b.inDc 0 = some 0 ∧ w.flg = 0 ∧ (b.part 0).step + 1 ≠ (b.part 0).len ∧ b.queueOk 0 0 (w.a.toNat % 16) = true ∧
    (b.clu 0).oldest (w.a.toNat % 16) = some e ∧ e.present = true ∧ e.err = false ∧ e.ack = false ∧
    ((one { run0 3 with man := { classes := [(0, 64)] } } { fmp := [(3, [ent 0])] }).clu 0).oldest (w.a.toNat % 16) = some (ent 0) ∧
    (ent 0).present = false := by decide

theorem witness_FarMemoryResponses_3 :
    (one (run0 3) {}).reaches .pf0 (r1 .CLU_FMC_CTRL 0) = true ∧ (one (run0 3) {}).roleOk .pf0 (r1 .CLU_FMC_CTRL 0) = true := by decide

theorem witness_FarMemoryResponses_4 :
    ((one { run0 3 with state := .frozen } {}).flush 0).bit (r1 .CLU_FMC_CTRL 0) F.CLU_FMC_CTRL_FLUSH_BUSY = true := by decide

theorem witness_DesignMemoryReadsAndWrites_faults :
    let b := one (run0 3) {}
    (b.opReserved 0 0 2 ⟨4, false, 0⟩ = true ∧ b.inDc 0 = some 0 ∧ b.bit (r1 .CLU_MEM_FAULT_INFO 0) F.CLU_MEM_FAULT_INFO_VALID = false ∧ (b.part 0).step < 2048) ∧
    b.opReserved 0 0 0 ⟨1, false, 0⟩ = false ∧ ((one (run0 3) { pmap := [(0, 0x82#64)] }).clu 0).gather 0 0 (ratioAddr (b.ratio 0 1)) = none ∧
    (b.ratio 0 1 ≠ 6) ∧ (b.setFld (r2 .CLU_DMB_RATIOn 0 0) ⟨4, 3⟩ 6).ratio 0 1 = 6 := by decide +kernel

theorem witness_DesignMemoryReadsAndWrites_ports :
    let x : Cluster := { deferred := [⟨2, .write 1 0 1 1⟩, ⟨3, .read ⟨false, 0, 0, 0, 4, 5, 2⟩⟩, ⟨2, .nothing⟩], defRun := true }
    ((one (run0 3) x).clu 0).deferred.length = 3 ∧ ((one (run0 3) x).clu 0).defRun = true ∧ ((one (run0 3) {}).clu 0).defRun = false ∧
    (one (run0 3) {}).cluState 0 = .running := by decide +kernel

theorem witness_LanesLatchWhatIsDue_conflict :
    let w : MemRet := ⟨true, 7, 127, 0, 8, 5, 0⟩
    let b := one { run0 3 with bits := [⟨0, 3, true, 0⟩] } { rets := [ret4, w] }
    b.cluPart 0 = some 0 ∧ (b.clu 0).retsDue = [w, ret4] ∧ laneConflict (b.part 0) 0 [⟨0, 3, true, 0⟩] [w, ret4] = some ret4 ∧
    (b.part 0).state = .running ∧ b.hosts 0 = true ∧ (b.part 0).last < 2048 ∧ ret4.bp < 128 ∧ ret4.rank < 8 ∧
    (∀ r ∈ ((one (run0 3) {}).clu 0).rets, r.left = 0 → r.wait = true) := by decide +kernel

theorem witness_FarMemoryResponses_waits :
    let w : BpArgs := ⟨0, 3, 0, 0, 0, 0, 0, false⟩
    let b := fun (l : List FmpEnt) => one { run0 3 with man := { classes := [(0, 64)] } } { fmp := [(3, l)] }
    (b []).queueOk 0 0 (w.a.toNat % 16) = true ∧ ((b []).clu 0).oldest (w.a.toNat % 16) = none ∧
    ((b [{ ent 0 with present := true, err := true }]).clu 0).oldest (w.a.toNat % 16) = some { ent 0 with present := true, err := true } ∧
    ((b [{ ent 0 with present := true, ack := true }]).clu 0).oldest (w.a.toNat % 16) = some { ent 0 with present := true, ack := true } := by decide +kernel

/-- A module like `one`, with CLU_SP_STATUS of cluster 0 at v. -/
def spst (x : Part) (c : Cluster) (v : Word) : Block := (one x c).setReg (r1 .CLU_SP_STATUS 0) v

theorem witness_StatePortSettingsAndBuffers_1 :
    let b := spst (run0 3) {} ((F.CLU_SP_STATUS_LOAD_A_FULL.set 0 1))
    b.reaches .pf0 (r1 .CLU_SP_CTRL 0) = true ∧ b.roleOk .pf0 (r1 .CLU_SP_CTRL 0) = true ∧ b.designOk .pf0 (r1 .CLU_SP_CTRL 0) = true ∧
    b.bit (r1 .CLU_SP_STATUS 0) (loadFull false) = true ∧ b.bit (r1 .CLU_SP_STATUS 0) (loadFull true) = false ∧ (129 : BitVec 8).toNat < 130 ∧ 130 ≤ (130 : BitVec 8).toNat ∧
    b.reaches .pf0 (r1 .CLU_SP_HANDOFF 0) = true ∧ b.roleOk .pf0 (r1 .CLU_SP_HANDOFF 0) = true := by decide

theorem witness_StatePortSettingsAndBuffers_2 :
    let b := spst { run0 3 with state := .frozen } {} (F.CLU_SP_STATUS_CTRL_PENDING.set 0 1)
    b.cluState 0 ≠ .running ∧ b.bit (r1 .CLU_SP_STATUS 0) F.CLU_SP_STATUS_CTRL_PENDING = true := by decide

/-- A state port that waits for its transfer, with settings w. -/
def port (w : Word) : Cluster := { map := [(0, true)], vs := [(0, true)], sp := { sel := [(0, 0xC0000000#32)], eff := w, due := true } }

theorem witness_StatePortTransfersStateBits_1 :
    let b := one { run0 0 with dcp := .start } (port 0x0000C001#32)
    b.cluPart 0 = some 0 ∧ (b.part 0).state = .running ∧ (b.clu 0).sp.due = true ∧ b.spReady 0 (b.clu 0).sp.eff = false ∧ (b.part 0).stopAfter = false ∧
    (b.part 0).hand = none := by decide

theorem witness_StatePortTransfersStateBits_2 :
    let b := spst { run0 0 with dcp := .start } (port 0x0000C001#32) (F.CLU_SP_STATUS_LOAD_A_FULL.set 0 1)
    b.cluPart 0 = some 0 ∧ (b.part 0).state = .running ∧ (b.clu 0).sp.due = true ∧ b.spReady 0 (b.clu 0).sp.eff = true ∧
    (b.clu 0).sp.eff.getLsbD 15 = true ∧ (b.clu 0).sp.eff.getLsbD 14 = true ∧ (b.part 0).hand = none := by decide

/-- Cluster 0 with EVAL of 0x6AC4 over 0, 1, 0, 0 to entry 5 in BP 0 at step 3. -/
def evalAt3 : NMap (BitVec 96) := [(3, BitVec.ofNat 96 (1 * 2 ^ 84 + 0x6AC4 * 2 ^ 68 + 0x1C00 * 2 ^ 55 + 0x1C01 * 2 ^ 42 + 0x1C00 * 2 ^ 29 + 0x1C00 * 2 ^ 16 + 5 * 2 ^ 4))]
theorem witness_ScheduleStepExecutesEveryInstruction_runs :
    let b := one (run0 3) { instr := evalAt3 }
    b.runs 0 = true ∧ (b.settle 0).runs 0 = true ∧ ((b.settle 0).part 0).dcp = .run ∧ (b.settle 0).holds 0 = [] ∧ (b.settle 0).breakHere 0 = false ∧
    ((b.settle 0).part 0).clusters.Nodup ∧ bpOpc (((b.settle 0).clu 0).bpWord 0 3) = 1 ∧
    (b.settle 0).evalBp 0 0 0 (bpArgs (((b.settle 0).clu 0).bpWord 0 3)) = some true := by decide +kernel

theorem witness_ScheduleStepExecutesEveryInstruction_noFault :
    let b := (one (run0 3) { instr := evalAt3 }).settle 0
    (foldFaults (b.part 0).clusters b (fun c y => y.stepClu b 0 [] c)).2 = [] := by decide +kernel

/-- A module whose clock is throttled by one cycle in sixteen. -/
def slow (x : Part) : Block := (one x {}).setReg (r0 .PWR_THROT) (F.PWR_THROT_DUTY.set 0 1)

theorem witness_ScheduleStepExecutesEveryInstruction_held :
    let b := slow (run0 3)
    b.runs 0 = true ∧ (b.settle 0).runs 0 = true ∧ ((b.settle 0).part 0).dcp = .run ∧ (b.settle 0).holds 0 = [1] := by decide +kernel

theorem witness_SlipStepsAreCountedAndChangeNoValue :
    (one { run0 3 with state := .frozen } {}).runs 0 = false ∧ (slow (run0 3)).runs 0 = true ∧ ((slow (run0 3)).part 0).dcp ≠ .eqx ∧
    ((slow (run0 3)).settle 0).runs 0 = true ∧ ((slow (run0 3)).settle 0).holds 0 = 1 :: [] ∧ ((slow { run0 3 with cyc := 1 }).settle 0).holds 0 = [] ∧
    (((slow (run0 3)).settle 0).part 0).pathDown = false ∧ (((slow (run0 3)).settle 0).part 0).stopAfter = false := by decide +kernel

/-- A partition at the start of DC 1 that needs the frame of DC 0 on path 2, one slot to lane 9. -/
def framed : Part :=
  { run0 0 with dcp := .start, dc := 1, noWait := false, man := { ins := [⟨2, 7, [(0, 9)]⟩] }, inBuf := [(4, { got := [(0, true)], last := true })] }

theorem witness_DcStartBeginsStepZero :
    (one framed {}).dcReady 0 = true ∧ framed.man.ins = [⟨2, 7, [(0, 9)]⟩] ∧ framed.needsFrame = true ∧ framed.missing = [] ∧
    (one { framed with inBuf := [] } {}).dcReady 0 = false ∧ (one { framed with dc := 0 } {}).dcReady 0 = true ∧ { framed with dc := 0 }.needsFrame = false := by
  decide +kernel

/-- A partition at an Equinox of DC 4. -/
def eqx : Part := { run0 9 with dcp := .eqx, dc := 4 }

theorem witness_EquinoxCommitsTheStateBits :
    let b := (one { eqx with target := some 4 } { next := [(7, true)] }).settle 0
    (b.part 0).state = .running ∧ (∀ c ∈ (b.part 0).clusters, ((b.clu c).next.map (·.1)).Nodup) ∧ (b.part 0).clusters.Nodup ∧
    (b.part 0).target = some (BitVec.ofNat 32 (b.part 0).dc.toNat) ∧
    eqx.state = .running ∧ eqx.dcp = .eqx ∧ eqx.abortPend = false ∧ { eqx with abortPend := true }.abortPend = true ∧
    ((one { eqx with abortPend := true } {}).settle 0).part 0 = { eqx with abortPend := true } := by decide +kernel

/-- A property of the module after a command; false where the command answers no next state. -/
def after (o : Host.Outcome State Fault Refusal) (q : Block → Bool) : Bool :=
  match o with
  | .next t => q t.b
  | _ => false

theorem witness_EquinoxCommitsTheStateBits_noTransfer :
    after (exec (.equinox 0) (st (one { eqx with target := some 4 } { next := [(7, true)] })))
      (fun t => !t.spBusy 0 && decide ((t.part 0).state = .frozen) && (t.clu 0).vs = [(7, true)]) = true := by decide +kernel

/-- A module whose partition 0 is x, with PART_FRZ_TARGET v. -/
def aimed (x : Part) (v : Word) : Block := (one x {}).setReg (r1 .PART_FRZ_TARGET 0) v

theorem witness_FreezesSetATarget :
    (one (run0 3) {}).reaches .pf0 (r1 .PART_FRZ_CMD 0) = true ∧ (one (run0 3) {}).roleOk .pf0 (r1 .PART_FRZ_CMD 0) = true ∧
    oper.hosts 0 = false ∧ (one (run0 3) {}).hosts 0 = true ∧ (run0 3).state = .running ∧ (run0 3).target = none ∧
    ((aimed (run0 3) 5).reg (r1 .PART_FRZ_TARGET 0) - (run0 3).dc.setWidth 32).getLsbD 31 = false ∧
    (aimed { run0 3 with dc := 9 } 5).live 0 = true ∧ ({ run0 3 with dc := 9 } : Part).passed ((aimed { run0 3 with dc := 9 } 5).reg (r1 .PART_FRZ_TARGET 0)) = true ∧
    up.reaches .pf0 (r1 .PART_MARGIN 0) = true ∧ up.roleOk .pf0 (r1 .PART_MARGIN 0) = true ∧
    { up with parts := [(0, run0 3)] }.hosts 0 = true ∧ ({ up with parts := [(0, run0 3)] }.part 0).len ≠ 0 ∧ max (run0 3).man.diam (0x05000010 / 2 ^ 24) < 2 ^ 16 := by decide +kernel

theorem witness_FreezesSetATarget_resume :
    let b := (one { run0 0 with state := .frozen } {}).setReg (r1 .PART_FRZ_STATUS 0) (F.PART_FRZ_STATUS_DRAINED.set 0 1)
    ((b.part 0).state = .frozen ∧ b.bit (r1 .PART_FRZ_STATUS 0) F.PART_FRZ_STATUS_DRAINED = true ∧ (b.part 0).inconsistent = false ∧ b.hosts 0 = true) ∧
    (run0 0).state ≠ .frozen := by decide +kernel

theorem witness_FreezeSymbolsAndTheWait :
    NMap.find [(5, some 63)] 5 = some (some (63 : BitVec 6).toNat) ∧ (6 : DeviceId) ≠ oper.devId ∧
    (one (run0 3) {}).hosts 0 = true ∧ (run0 3).state = .running ∧ (run0 3).dcp ≠ .start ∧
    ¬((run0 3).dcp = .run ∧ (run0 3).step = 0 ∧ (run0 3).slipping = true) ∧
    { framed with inBuf := [], counted := 250000 }.waiting = true ∧ framed.inconsistent = false ∧ (one framed {}).waitLimit 0 ≤ 250000 ∧
    (one framed {}).hosts 0 = true ∧ ((one framed {}).reg (r1 .CTL_PRST_BUSYw 0)).getLsbD 0 = false ∧
    { framed with inBuf := [], counted := 249 }.counted < (one framed {}).waitLimit 0 := by decide +kernel

/-- An operator's module with one more register. -/
def wr (k : RegKey) (v : Word) : Block := (one (run0 3) {}).setReg k v

theorem witness_FaultRecordsClear :
    (wr (r1 .CLU_FAULT 0) 0x1002).reaches .pf0 (r1 .CLU_FAULT 0) = true ∧ (wr (r1 .CLU_FAULT 0) 0x1002).roleOk .pf0 (r1 .CLU_FAULT 0) = true ∧
    (wr (r1 .CLU_FAULT 0) 0x1002).reg (r1 .CLU_FAULT 0) &&& 0xFFE#32 ≠ 0 ∧
    (one (run0 3) {}).reaches .pf0 (r2 .WE_FAULT 0 3) = true ∧ (one (run0 3) {}).roleOk .pf0 (r2 .WE_FAULT 0 3) = true ∧
    (one (run0 3) {}).reaches .pf0 (r1 .CLU_MEM_FAULT 0) = true ∧ (one (run0 3) {}).roleOk .pf0 (r1 .CLU_MEM_FAULT 0) = true := by decide +kernel

theorem witness_SentinelHazardAndBreakRegisters :
    (∀ k ∈ [r1 .CLU_SENT_CTRL 0, r1 .HZ_CLEAR 0, r1 .HZ_BUDGET 0, r1 .TRG_SBRKp_CTRL 0],
      (one (run0 3) {}).reaches .pf0 k = true ∧ (one (run0 3) {}).roleOk .pf0 k = true) ∧
    (one (run0 3) {}).cluState 0 = .running ∧ (one { run0 3 with state := .frozen } {}).cluState 0 ≠ .running ∧
    ({ run0 3 with man := { framePaths := true } } : Part).man.framePaths = true ∧ (run0 3).executed 0 2 = true ∧ (run0 3).executed 0 4 = false := by
  decide +kernel

/-- A result of WE 1 for each kind of destination, with each kind of effect. -/
def landings : List Flight :=
  [⟨1, .bridge 15, .put 7, 2, false, false⟩, ⟨1, .acc 1, .put 7, 2, true, false⟩, ⟨1, .acc 1, .accum (2 ^ 111) false, 2, false, true⟩,
    ⟨1, .acc 0, .accum (-(2 ^ 111) - 1) true, 2, false, false⟩]

theorem witness_WordEngineLoopsAndLanding_dests :
    (∀ f ∈ landings, (one { run0 3 with state := .frozen } { flight := [f] }).landing 0 1 = some f) ∧
    (one { run0 3 with state := .frozen } {}).cluState 0 = .frozen ∧ (one (run0 3) {}).cluState 0 ≠ .frozen := by decide

theorem witness_FarMemoryResponses_others :
    let b := one (run0 3) { fmp := [(3, [{ ent 0 with cls := true, kind := 2 }])], replies := [(0, 5)] }
    (b.clu 0).awaited 3 true = some { ent 0 with cls := true, kind := 2 } ∧ (b.clu 0).replies.find 0 = some 5 ∧ b.noc.fmpRetry.find 0 = none ∧
    ((one (run0 3) { fmp := [(3, [{ ent 0 with cls := true, kind := 2 }])] }).clu 0).replies.find 0 = none ∧
    ((one (run0 3) { fmp := [(3, [{ ent 0 with lost := true }])] }).clu 0).awaited 3 false = some { ent 0 with lost := true } ∧ (ent 0).lost = false ∧
    0 * 2 ^ 32 + (ent 0).addr / 64 * 8 + (0 : BitVec 3).toNat ∈ touchedWords (ent 0).stack (ent 0).addr (ceilDiv (ent 0).dw 8) := by decide

/-- The same instruction under the sentinel's eye: BP 0 is shadowed, or BP 1 with its NOP, or the self-check runs. -/
theorem witness_ScheduleStepExecutesEveryInstruction_sentinel :
    let q := ((one (run0 3) { instr := evalAt3 }).settle 0).clu 0
    q.shadow = some 0 ∧ (bpArgs (q.bpWord 0 3)).dst.toNat = 5 ∧ { q with sentPos := 1 }.shadow = some 1 ∧ bpOpc (q.bpWord 1 3) = 0 ∧
    { q with sentPos := 128 }.shadow = none ∧ { q with sentPos := 128, sentLock := some 0 }.shadow = some 0 ∧ 0 ∈ (((one (run0 3) { instr := evalAt3 }).settle 0).part 0).clusters := by
  decide +kernel

theorem witness_ScheduleStepExecutesEveryInstruction_slot :
    let b := (one (run0 3) {}).settle 0
    (∀ k < 128, bpOpc ((b.clu 0).bpWord k 3) ≠ 5) ∧ (∀ i < 8, slotKind (NMap.get 0 (b.clu 0).slot 3) i = none) ∧ b.inDc 0 = some 0 ∧
    (∀ k < 5, slotKind (BitVec.ofNat 160 (2 ^ 17 + k * 2 ^ 14)) 0 = some k ∧ (∀ i < 8, i ≠ 0 → slotKind (BitVec.ofNat 160 (2 ^ 17 + k * 2 ^ 14)) i = none)) := by
  decide +kernel

/-- Partition 0 at an Equinox after a slip beyond its budget, with a rule that holds, trace stream 3 running and channel 8 on an ACTIVE Vector Port. -/
def busyEqx (chan : Bool) : Block :=
  forEach ([(r1 .HZ_BUDGET 0, 1#32), (r3 .TSQ_RULEs_r_W0 0 0 1, F.TSQ_RULEs_r_W0_TT.set 0 0xFFFF), (r3 .TSQ_RULEs_r_W1 0 0 1, F.TSQ_RULEs_r_W1_V.set 0 1),
      (r1 .TRC_Sx_OWN 3, F.TRC_Sx_OWN_VALID.set 0 1), (r1 .TRC_Sx_STATUS 3, F.TRC_Sx_STATUS_STATE.set 0 1), (r0 .VPT_STATUS, F.VPT_STATUS_STATE.set 0 2)] ++
      if chan then [(r1 .VPT_CHc_OWN 8, F.VPT_CHc_OWN_VALID.set 0 1)] else [])
    (one { eqx with dcSlip := 2 } {}) (fun e b => b.setReg e.1 e.2)

theorem witness_EquinoxCommitsTheStateBits_units :
    let b := (busyEqx false).settle 0
    (b.part 0).state = .running ∧ (∀ c ∈ (b.part 0).clusters, ((b.clu c).next.map (·.1)).Nodup) ∧
    b.seqTaken 0 = some (r3 .TSQ_RULEs_r_W1 0 0 1) ∧ b.fld (r1 .HZ_BUDGET 0) F.HZ_BUDGET_BUDGET < (b.part 0).dcSlip ∧
    b.chansOf 0 = [] ∧ 3 ∈ b.strLive 0 ∧ (b.stream 3).first ≤ (b.part 0).dc.toNat ∧ (b.part 0).dc.toNat % 2 ^ (b.stream 3).factor = 0 ∧
    b.strState 3 = 1 ∧ (b.stream 3).stopAt = none ∧ 5 % 2 ^ { b.stream 3 with factor := 1 }.factor ≠ 0 ∧
    (∀ c ∈ (b.part 0).clusters, b.bit (r1 .CLU_SP_STATUS c) F.CLU_SP_STATUS_CTRL_PENDING = false ∧ (b.clu c).sp.eff.getLsbD 15 = false ∧
      (b.clu c).sp.eff.getLsbD 14 = false) ∧ F.CLU_SP_CTRL_MODE.get ((((one eqx (port (F.CLU_SP_CTRL_MODE.set 0xC001 1))).settle 0).clu 0).sp.eff) = 1 := by decide +kernel

theorem witness_EquinoxCommitsTheStateBits_drive :
    let b := (busyEqx true).settle 0
    b.chansOf 0 = [8] ∧ b.vptUp = true ∧ (∀ e ∈ (b.part 0).expects, e.later < 255) ∧ (b.part 0).pathDown = false ∧ b.vpt.tx.length < 16 := by decide +kernel

theorem witness_FreezeSymbolsAndTheWait_targets :
    let y : FreezeSym := { kind := false, part := 0, origin := 6, seq := 1, target := 9, cause := 0 }
    let past := fun (t dc : BitVec 32) => (t - dc).getLsbD 31
    y.kind = false ∧ y.origin ≠ oper.devId ∧ past 9 9 = false ∧ past 8 9 = true ∧ past 0x80000009 9 = true ∧ past 0x80000008 9 = false ∧
    (run0 3).target = none ∧ ({ run0 3 with target := some 12 } : Part).target = some 12 ∧ (9 : BitVec 32) ≠ 12 ∧ past 9 12 = true ∧
    (8 : BitVec 32) = 9 - 1 ∧ { run0 0 with dcp := .start, dc := 9 }.dcp = .start ∧ (run0 0).dcp = .run ∧ (run0 0).step = 0 ∧ ¬((run0 3).dcp = .start ∨ (run0 3).step = 0) ∧
    (one (run0 0) {}).hosts 0 = true ∧ (one (run0 0) {}).spBusy 0 = false ∧ (run0 0).stopAfter = false ∧ (run0 0).pathDown = false ∧
    ({ state := .winter } : Part).state = .winter ∧ (run0 3).state ≠ .winter ∧ { run0 3 with state := .frost }.state = .frost ∧
    (one { framed with inBuf := [], counted := 250000 } {}).waitPaused 0 = false := by decide +kernel

/-- Partition 0 with one outbound path to device 5: slots 0 and 2 in segment 1, slot 1 in segment 0, written at step 3. -/
def sending (x : Part) : Block :=
  let b := one { x with man := { outs := [⟨5, 7, [(1, false), (0, false), (1, false)]⟩], routes := [⟨0, 3, 1, [.frame 5 7 0]⟩, ⟨0, 2, 1, [.frame 5 7 2]⟩] }
                        outHeld := [(0, true)] } {}
  (b.setReg (r1 .LNK_ROUTEd 5) ((F.LNK_ROUTEd_VALID.set 0 1) ||| F.LNK_ROUTEd_PORT.set 0 4)).setReg (r1 .LNK_STATUSn 4) (F.LNK_STATUSn_STATE.set 0 5)

/-- The segments that a command puts into the transmit queue of link 4: first slot and LAST of each. -/
def sent (c : Instr) (b : Block) (l : List Segment) : Bool :=
  after (exec c (st b)) (fun t => decide ((t.link 4).queue = l.map (fun y => ({ cls := 1, vc := false, flits := (Msg.seg y).flits false } : TxMsg))))

theorem witness_ScheduleStepExecutesEveryInstruction_segments :
    sent (.scheduleStep 0 []) (sending (run0 3)) [⟨0, 5, 0, 7, 0, 0, 1, false, [true]⟩, ⟨0, 5, 0, 7, 0, 2, 1, false, [false]⟩] = true ∧
    sent (.scheduleStep 0 []) (sending (run0 0)) [⟨0, 5, 0, 7, 0, 1, 1, false, [false]⟩] = true ∧
    sent (.equinox 0) (sending { eqx with emitted := [0] }) [⟨0, 5, 0, 7, 4, 0, 1, false, [true]⟩, ⟨0, 5, 0, 7, 4, 2, 1, true, [false]⟩] = true ∧
    sent (.equinox 0) (sending { eqx with emitted := [0, 1] }) [⟨0, 5, 0, 7, 4, 0, 0, true, []⟩] = true := by decide +kernel

theorem witness_ScheduleStepExecutesEveryInstruction_stops :
    let b := (one (run0 3) {}).settle 0
    let due := (one (run0 3) { scrubDue := [(.bp 0, 0)] }).settle 0
    let brk := (one { run0 3 with brkLeft := 1 } {}).settle 0
    b.breakHere 0 = false ∧ brk.breakHere 0 = true ∧ brk.holds 0 = [] ∧ (foldFaults [0] brk (fun c y => y.stepClu brk 0 [] c)).2 = [] ∧
    due.holds 0 = [] ∧ (foldFaults [0] due (fun c y => y.stepClu due 0 [] c)).2 ≠ [] ∧ (one { run0 3 with state := .frozen } {}).runs 0 = false := by decide +kernel

theorem witness_FreezesSetATarget_links :
    let b := (aimed { run0 3 with target := some 12 } 5).setReg (r1 .LNK_STATUSn 4) (F.LNK_STATUSn_STATE.set 0 5)
    b.hosts 0 = true ∧ (b.part 0).target = some 12 ∧ b.reg (r1 .PART_FRZ_TARGET 0) ≠ 12 ∧ (b.reg (r1 .PART_FRZ_TARGET 0) - 12).getLsbD 31 = true ∧
    b.lnkState 4 = 5 ∧ ((b.setReg (r1 .LNK_FRZ_MASKp 0) 0x10).reg (r1 .LNK_FRZ_MASKp 0)).getLsbD 4 = true := by decide +kernel

theorem witness_FreezeSymbolsAndTheWait_aborts :
    (oper.part 0).state = .winter ∧ oper.hosts 0 = false ∧ (one (run0 0) {}).hosts 0 = true ∧ ({ run0 3 with state := .stoppedFault } : Part).state = .stoppedFault ∧
    (run0 0).dcp = .run ∧ (run0 0).step = 0 ∧ ({ run0 0 with slipping := true } : Part).slipping = true := by decide

theorem witness_DcStartBeginsStepZero_paths :
    ((one framed {}).part 0).man.ins = [⟨2, 7, [(0, 9)]⟩] ∧ ([⟨2, 7, [(0, 9)]⟩, ⟨3, 7, [(0, 8)]⟩] : List InPath).flatMap (·.slots) = [(0, 9), (0, 8)] ∧
    ([(0, 9), (0, 8)] : List (Nat × Nat)).Nodup := by decide +kernel

theorem witness_IdleStepIsOneControlClock_counts :
    ({ up with tdu := { sub := 249 } } : Block).tdu.sub + 1 = 250 ∧ up.tdu.sub + 1 < 250 ∧ up.vpt.tx = [] ∧
    (let x : Part := { framed with inBuf := [] }
     NMap.find (one x {}).parts 0 = some x ∧ x.waiting = true ∧ (one x {}).waitPaused 0 = false) ∧
    (up.setReg (r0 .TIM_CTRL) (F.TIM_CTRL_RUN.set 0 1)).timeRuns = true := by decide +kernel

/-! ### Loads -/

/-- A frame of a stream, with its CRC (Table 7.3). -/
def frameBytes (ty flags dest part clu seq addr count : Nat) (data : List Byte) : List Byte :=
  let h := leBytes 2 0xC5A9 ++ leBytes 1 ty ++ leBytes 1 flags ++ leBytes 2 dest ++ leBytes 1 part ++ leBytes 1 clu ++ leBytes 4 seq ++ leBytes 4 data.length ++
    leBytes 4 addr ++ leBytes 4 count ++ leBytes 8 0 ++ data
  h ++ leBytes 4 (crc32 h).toNat

/-- An image header of KIND 0 for this part, signed by the installer's key. -/
def header : List Byte :=
  leBytes 4 0x4953594C ++ leBytes 2 0x100 ++ leBytes 2 0 ++ leBytes 2 0x4C ++ leBytes 2 0x320 ++ leBytes 2 0x0200 ++ leBytes 2 0x0100 ++
    List.replicate 28 0 ++ leBytes 4 1 ++ List.replicate 208 0

/-- The configuration engine in load state n with a stream buffer, partition 0 with cluster 0 in this load. -/
def loadIn (n : Nat) (l : List Byte) : Block :=
  { oper with
    regs := [(r0 .CFG_STATUS, F.CFG_STATUS_STATE.set 0 n)]
    cfg := { who := ⟨0, .op, 0, 0⟩, buf := l, hdr := header, ended := false, mans := [(0, { last := true, clusters := [0] })] } }

theorem witness_LoadsBeginFailAndCommit :
    (loadIn 3 []).reaches .pf0 (r0 .CFG_CTRL) = true ∧ (loadIn 3 []).roleOk .pf0 (r0 .CFG_CTRL) = true ∧ (loadIn 1 []).cfgState = 1 ∧ (loadIn 5 []).cfgState = 5 ∧
    (loadIn 0 []).cfgState = 0 ∧ 5 < (loadIn 6 []).cfgState ∧ (loadIn 3 []).roleOf .pf0 = .op ∧ (loadIn 3 []).cfgSrc = 0 ∧
    (loadIn 3 []).loadFn .pf0 = (loadIn 3 []).cfg.who.fn ∧ (loadIn 3 []).cfg.ended = false ∧ (loadIn 3 []).loading = true ∧
    (loadIn 3 []).cfgMine .pf0 = true ∧ (loadIn 3 []).unitReady = false ∧ (loadIn 5 []).isPatch = false ∧ (loadIn 5 []).imageParts = [0] ∧
    ((loadIn 5 []).setReg (r1 .CFG_PART_LOADEDn 0) 1).isLoaded 0 = true ∧ (loadIn 5 []).fld (r0 .SEC_STATUS) F.SEC_STATUS_UNLOCK ≠ 1 ∧
    { loadIn 3 [] with pw := { phase := .ready, ctl := 2 ^ 40 } }.cfgTmo ≤ 2 ^ 40 - (loadIn 3 []).cfg.lastAt ∧ (loadIn 0 []).loading = false := by decide +kernel

/-- The installer's key pair 1 of the tests. -/
def key1 : List Byte := leBytes 48 g384.1 ++ leBytes 48 g384.2

/-- The 96 bytes of the signature of a header under that key, its secret number 1 (FIPS 186). -/
def sig1 (msg : List Byte) : List Byte := leBytes 48 (g384.1 % n384) ++ leBytes 48 ((beNat (shaBytes msg) + g384.1) % n384)

/-- A header whose byte 7 is v, signed with the installer's key. -/
def signed (v : Nat) : List Byte :=
  let l := header.set 7 (BitVec.ofNat 8 v) |>.set 0x2C 1
  l.take 0x80 ++ sig1 (l.take 0x80) ++ List.replicate 32 0

/-- The module before IMAGE_HEADER of that header, and what the statement calls x and y of it. -/
def hdrIn (l : List Byte) (key : Option (List Byte)) : Block := { loadIn 1 l with sec := { (loadIn 1 l).sec with instKey := key } }

/-- The header taken. -/
def hdrX (b : Block) : Block := { b with cfg := { b.cfg with hdr := b.cfg.buf.take 256, buf := b.cfg.buf.drop 256, taken := 256 } }

theorem witness_ImageHeaderIsChecked :
    (loadIn 0 []).cfgState ≠ 1 ∧ (loadIn 1 header).cfgState = 1 ∧ 256 ≤ (loadIn 1 header).cfg.buf.length ∧
    leAt (List.replicate 256 0) 0 4 ≠ 0x4953594C ∧ leAt (header.set 8 0) 0 4 = 0x4953594C ∧ leAt (header.set 8 0) 8 1 ≠ 0x4C ∧
    leAt (header.set 13 1) 0xD 1 < 0x4C320200 / 256 % 16 ∧
    (hdrX (hdrIn (signed 0) none)).headerStatus = none ∧ ((hdrX (hdrIn (signed 0) none)).cfgEnter 2).authorize = none := by decide +kernel

theorem witness_ImageHeaderIsChecked_plain :
    let b := hdrIn (signed 0) (some key1)
    256 ≤ b.cfg.buf.length ∧ (hdrX b).headerStatus = none ∧ ((hdrX b).cfgEnter 2).authorize ≠ none ∧ ((hdrX b).cfgEnter 2).encrypted = false ∧
    b.cfg.ended = false := by decide +kernel

theorem witness_ImageHeaderIsChecked_noKey :
    let b := hdrIn (signed 1) (some key1)
    256 ≤ b.cfg.buf.length ∧ (hdrX b).headerStatus = none ∧ ((hdrX b).cfgEnter 2).authorize ≠ none ∧ ((hdrX b).cfgEnter 2).encrypted = true ∧
    ((hdrX b).cfgEnter 2).imgKey = none := by decide +kernel

/-- A STORE frame of sixteen bytes at the head of the stream, for a device. -/
def storeBytes (dest : Nat) : List Byte := frameBytes 2 0 dest 0 0 0 0 0 (List.replicate 16 0xA5)

/-- A frame without payload in an encrypted image, each byte of its tag t. -/
def sealedBytes (ty : Nat) (t : Byte) : List Byte :=
  let h := (frameBytes ty 0 0 0 0 0 0 0 []).take 32 ++ List.replicate 16 t
  h ++ leBytes 4 (crc32 h).toNat

/-- A module in FRAMES with a frame, with byte 7 of the header v and byte 6 the KIND. -/
def frm (l : List Byte) (v kind : Nat) : Block :=
  { loadIn 3 l with cfg := { (loadIn 3 l).cfg with hdr := header.set 7 (BitVec.ofNat 8 v) |>.set 6 (BitVec.ofNat 8 kind) } }

/-- What the statement calls a sound frame. -/
abbrev soundFrame (b : Block) : Prop := b.cfgState = 3 ∧ b.unitReady = true ∧ b.frameOk (frameAt b.cfg.buf) (b.frameLen.getD 0) = true

theorem witness_FramesFillTheStores_bad :
    (let b := frm ((storeBytes 0).set 0 0) 0 0; b.cfgState = 3 ∧ b.unitReady = true ∧ b.frameOk (frameAt b.cfg.buf) (b.frameLen.getD 0) = false) ∧
    (let b := frm (frameBytes 7 0 0 0 0 0 0 0 []) 0 0; soundFrame b ∧ frameTypeOk (frameAt b.cfg.buf).typ = false) ∧
    (let b := frm (frameBytes 6 0 0 0 0 0 0 0 []) 0 0; soundFrame b ∧ (frameAt b.cfg.buf).typ = 6 ∧ b.typeForKind 6 = false) ∧
    (∀ ty < 6, 1 ≤ ty → let b := frm (frameBytes ty 0 0 0 0 0 0 0 []) 0 1; soundFrame b ∧ (frameAt b.cfg.buf).typ = ty ∧ b.typeForKind ty = false) ∧
    (∀ ty < 6, 1 ≤ ty → let b := frm (frameBytes ty 0 0 1 0 0 0 0 []) 0 0;
      let x := { b with cfg := { b.cfg with who := ⟨1, .op, 0, 0⟩ } };
      soundFrame x ∧ (frameAt x.cfg.buf).typ = ty ∧ x.typeForKind ty = true ∧ x.vfOk 1 = false) := by decide +kernel

/-- Block.frameNext as one truth value. -/
def frameNextB (b : Block) (t : Nat) : Bool :=
  decide (b.cfgState = 3) && b.unitReady && b.frameOk (frameAt b.cfg.buf) (b.frameLen.getD 0) && decide ((frameAt b.cfg.buf).typ = t) &&
    decide (t ≤ 5 → b.vfOk (frameAt b.cfg.buf).part = true) && !b.cfg.ended

theorem frameNext_iff (b : Block) (t : Nat) : b.frameNext t ↔ frameNextB b t = true := by
  simp [Block.frameNext, frameNextB, and_assoc, Decidable.imp_iff_not_or]

theorem frameDue_iff (b : Block) (t : Nat) :
    b.frameDue t ↔ (frameNextB b t && b.named (frameAt b.cfg.buf) && b.typeForKind t && b.framePayload.isSome) = true := by
  simp [Block.frameDue, frameNext_iff, and_assoc, Option.isSome_iff_ne_none]

theorem witness_FramesFillTheStores_unnamed :
    (∀ ty < 7, 1 ≤ ty → let b := frm (frameBytes ty 0 1 0 0 0 0 0 []) 0 (if ty = 6 then 1 else 0);
      b.frameNext ty ∧ b.named (frameAt b.cfg.buf) = false) := by
  simp -zeta only [frameNext_iff]
  decide +kernel

theorem witness_FramesFillTheStores_sealed :
    ∀ ty < 7, 1 ≤ ty → ∀ t : Byte, t = 0 ∨ t = 1 → let b := frm (sealedBytes ty t) 1 (if ty = 6 then 1 else 0);
      b.frameNext ty ∧ b.named (frameAt b.cfg.buf) = true := by
  simp -zeta only [frameNext_iff]
  decide +kernel

/-- Of two tags that differ one at least does not verify. -/
theorem gcm_one (k n a c t u : List Byte) (h : t ≠ u) : gcmDecrypt k n a c t = none ∨ gcmDecrypt k n a c u = none := by
  by_cases e : gcmTag (expandKey k) n a c = t
  · exact .inr (if_neg (e ▸ h))
  · exact .inl (if_neg e)

theorem witness_FramesFillTheStores_tag :
    (frm (sealedBytes 2 0) 1 0).framePayload = none ∨ (frm (sealedBytes 2 1) 1 0).framePayload = none := by
  have e (t : Byte) (h : t = 0 ∨ t = 1) : (frm (sealedBytes 2 t) 1 0).framePayload =
      gcmDecrypt [] (List.replicate 12 0) ((frameBytes 2 0 0 0 0 0 0 0 []).take 32) [] (List.replicate 16 t) := by
    have h1 : (frm (sealedBytes 2 t) 1 0).encrypted = true := by revert t; decide +kernel
    have h2 : leAt (sealedBytes 2 t) 12 4 = 0 ∧ (sealedBytes 2 t).take 32 = (frameBytes 2 0 0 0 0 0 0 0 []).take 32 ∧
        sliceBytes (sealedBytes 2 t) 32 16 = List.replicate 16 t ∧ leAt (sealedBytes 2 t) 8 4 = 0 := by revert t; decide +kernel
    have h3 : sliceBytes (frm (sealedBytes 2 t) 1 0).cfg.hdr 0x20 8 ++ leBytes 4 ((frm (sealedBytes 2 t) 1 0).hdr 0x28 4 ^^^ 0) = List.replicate 12 0 := by
      revert t; decide +kernel
    have h4 : (frm (sealedBytes 2 t) 1 0).cfg.key = none := rfl
    have h5 : (frm (sealedBytes 2 t) 1 0).cfg.buf = sealedBytes 2 t := rfl
    simp only [Block.framePayload, h1, Block.decrypt, h5, h2, h3, h4, if_true, Nat.add_zero]
    rfl
  rw [e 0 (.inl rfl), e 1 (.inr rfl)]
  exact gcm_one _ _ _ _ _ _ (by decide)

/-- A manifest of partition 1: its version, sixteen steps, one CLUSTERS record of cluster 1 on device 0. -/
def manBytes (ver : Nat) : List Byte :=
  leBytes 2 ver ++ leBytes 1 1 ++ leBytes 1 0 ++ leBytes 2 16 ++ leBytes 10 0 ++ leBytes 4 1 ++ List.replicate 44 0 ++
    (leBytes 2 1 ++ leBytes 2 0 ++ leBytes 4 0 ++ leBytes 4 44 ++ leBytes 32 2)

theorem witness_FramesFillTheStores_manifest :
    let b := frm (frameBytes 1 0 0 1 0 0 0 0 (manBytes 0x100)) 0 0
    b.frameDue 1 ∧ b.scopeAt b.frameNow.part false ≠ none ∧ (b.manBuf b.frameNow.part).last = false ∧ b.frameNow.last = false := by
  simp -zeta only [frameDue_iff]
  decide +kernel

theorem witness_FramesFillTheStores_manifestLast :
    let b := frm (frameBytes 1 1 0 1 0 0 0 0 (manBytes 0x100)) 0 0
    b.frameDue 1 ∧ b.frameNow.last = true ∧ b.frameNow.part = 1 ∧ b.scopeAt 1 true ≠ none ∧ (b.manBuf 1).last = false ∧
    (parseMan b.frameNow.data).any (fun m => decide (m.part = 1 ∧ m.clusters b.devId.toNat = [1] ∧ b.manFail m = none)) = true := by
  simp -zeta only [frameDue_iff]
  decide +kernel

theorem witness_FramesFillTheStores_manifestBad :
    let b := frm (frameBytes 1 1 0 1 0 0 0 0 (manBytes 0x200)) 0 0
    b.frameDue 1 ∧ b.frameNow.last = true ∧ b.scopeAt 1 true ≠ none ∧ b.bit (r0 .CFG_MAN_CHECK) F.CFG_MAN_CHECK_VALID = false ∧
    (parseMan b.frameNow.data).any (fun m => decide (m.part = 1 ∧ b.manFail m = some (1, 0, 0))) = true := by
  simp -zeta only [frameDue_iff]
  decide +kernel

/-- What the statement asks of the bytes put. -/
abbrev putsOk (b : Block) (l : List Byte) : Prop :=
  let f := b.frameNow
  storeDefined f.addr l.length = true ∧ ((b.clu f.clu).putBytes f.addr l).isSome = true ∧ pmapTouched f.addr l.length = []

theorem witness_FramesFillTheStores_store :
    (let b := frm (storeBytes 0) 0 0; b.frameDue 2 ∧ putsOk b b.frameNow.data ∧ b.isPatch = false ∧ b.cluAllowed b.frameNow = true) ∧
    (let b := { frm (storeBytes 0) 2 0 with parts := [(0, { state := .frozen, clusters := [0] })] };
      b.frameDue 2 ∧ putsOk b b.frameNow.data ∧ b.isPatch = true ∧ b.patchOk b.frameNow = true ∧ b.scopeAt b.frameNow.part true ≠ none) ∧
    (let b := frm (frameBytes 3 0 0 0 0 0 0 2 (List.replicate 16 0xA5)) 0 0;
      b.frameDue 3 ∧ b.cluAllowed b.frameNow = true ∧ b.frameNow.len = 16 ∧ storeDefined b.frameNow.addr (16 * b.frameNow.count) = true ∧
      putsOk b ((List.range b.frameNow.count).flatMap (fun _ => b.frameNow.data))) := by
  simp -zeta only [frameDue_iff]
  decide +kernel

theorem witness_FramesFillTheStores_regs :
    let b := frm (frameBytes 4 0 0 0 0 0 0 0 (leBytes 4 0x0340 ++ leBytes 4 1)) 0 0
    let f := b.frameNow
    b.frameDue 4 ∧ b.cluAllowed f = true ∧ f.len % 8 = 0 ∧ f.len / 8 = 1 ∧
    ((b.regsPair f.clu (leAt f.data 0 4) (BitVec.ofNat 32 (leAt f.data 4 4))).map (fun y => y.regionsOk f.part f.clu)) = some true := by
  simp -zeta only [frameDue_iff]
  decide +kernel

theorem witness_FramesFillTheStores_queue :
    let b := { frm (frameBytes 5 0 0 0 0 0 0 3 (leBytes 16 (8 * 2 ^ 84))) 0 0 with parts := [(0, { man := { classes := [(0, 1)] } })] }
    let f := b.frameNow
    b.frameDue 5 ∧ b.cluAllowed f = true ∧ f.len = 16 ∧ b.queueEntOk f.part f.clu (f.addr % 4) (leAt f.data 0 16) = true ∧ ((b.clu f.clu).fmpQ 0).length + 1 ≤ 64 := by
  simp -zeta only [frameDue_iff]
  decide +kernel

theorem witness_FramesFillTheStores_firmware : (frm (frameBytes 6 0 0 0 0 0 0 0 [1, 2, 3, 4]) 0 1).frameDue 6 := by
  simp -zeta only [frameDue_iff]
  decide +kernel

/-- A sound END frame at the head of the stream, whose header holds a digest, in an image with byte 7 v, and its partition's manifest as given. -/
def endOf (v digest : Nat) (last : Bool) : Block :=
  let l := frameBytes 0x0F 0 0 0 0 0 0 0 []
  let h := (header.take 0x10 ++ leBytes 8 292 ++ leBytes 4 1 ++ (header.drop 0x1C).take 20) ++ (leBytes 48 digest ++ header.drop 0x60)
  { loadIn 3 l with cfg := { (loadIn 3 l).cfg with hdr := h.set 7 (BitVec.ofNat 8 v), taken := 256, mans := [(0, { last := last, clusters := [0] })] } }

/-- The digest of that frame (R218). -/
def endDigest : Nat := (sha384 (frameBytes 0x0F 0 0 0 0 0 0 0 [])).toNat

/-- The digest of the header is that of the frames. -/
abbrev digestOk (b : Block) : Prop :=
  leNat (sliceBytes b.cfg.hdr 0x30 48) = (sha384 (b.cfg.frames ++ b.cfg.buf.take (b.frameLen.getD 0))).toNat

theorem witness_EndFrameLoadsTheImage :
    ((endOf 0 0 true).frameNext 0x0F ∧ ¬digestOk (endOf 0 0 true)) ∧
    ((endOf 0 endDigest false).frameNext 0x0F ∧ digestOk (endOf 0 endDigest false) ∧ ∃ e ∈ (endOf 0 endDigest false).cfg.mans, e.2.last = false) ∧
    (let b := endOf 0 endDigest true;
      b.frameNext 0x0F ∧ digestOk b ∧ (∀ e ∈ b.cfg.mans, e.2.last = true) ∧ b.isPatch = false ∧ b.imgKind = 0 ∧ (frameAt b.cfg.buf).auto = false ∧
      b.imageParts = [0] ∧ 0 ∉ b.cfg.resets) ∧
    (let b := endOf 2 endDigest true; b.frameNext 0x0F ∧ digestOk b ∧ (∀ e ∈ b.cfg.mans, e.2.last = true) ∧ b.isPatch = true) := by
  simp -zeta only [frameNext_iff]
  decide +kernel

/-- The installer's module with registers at given words. -/
def upr (l : RegFile) : Block := { up with regs := l }

/-- The same within a fan-out load, after ctl cycles. -/
def fan (l : RegFile) (c : Cfg) (ctl : Nat) : Block := { up with regs := l, cfg := c, pw := { phase := .ready, ctl := ctl } }

theorem witness_FanOutReports_endMark :
    let b := fan [(r0 .CFG_FANOUT, F.CFG_FANOUT_UP.set 0x4000 15), (r0 .CFG_SRC, 1), (r1 .LNK_STATUSn 14, F.LNK_STATUSn_STATE.set 0 5)] { ended := false } 0
    let c := fan [(r0 .CFG_FANOUT, F.CFG_FANOUT_UP.set 0x4000 15), (r1 .LNK_STATUSn 14, F.LNK_STATUSn_STATE.set 0 5)] { ended := false } 0
    (b.upLink = some (15 : LinkNo).toNat ∧ b.cfgSrc = 1 ∧ b.cfg.ended = false ∧ b.upLink ≠ some (14 : LinkNo).toNat) ∧
    (c.upLink = some (15 : LinkNo).toNat ∧ c.cfgSrc ≠ 1 ∧ 14 ∈ c.maskLinks ∧ c.lnkState 14 = 5) := by decide +kernel

theorem witness_FanOutReports_report :
    let b := fan [(r0 .CFG_FANOUT, F.CFG_FANOUT_UP.set 0x8000 31)] { endAt := some 0 } 0
    b.maskLinks = [(15 : LinkNo).toNat] ∧ (0 : LinkNo).toNat ∉ b.maskLinks ∧ b.cfg.endAt.isSome = true ∧ b.cfg.reported = false ∧ b.upLink = none ∧
    b.cfgState ≠ 7 := by decide +kernel

theorem witness_FanOutReports_timeout :
    let b := fan [(r0 .CFG_FANOUT, 0x8000)] { endAt := some 0 } (2 ^ 40)
    b.cfg.endAt = some 0 ∧ b.cfgTmo ≤ b.pw.ctl - 0 ∧ (15 : LinkNo).toNat ∈ b.maskLinks ∧ b.cfg.reports.find (15 : LinkNo).toNat = none ∧
    (fan [] { endAt := some 0 } 9).pw.ctl - 0 < (fan [] { endAt := some 0 } 9).cfgTmo := by decide +kernel

/-- Partition 0 running at step 3, its only cluster c scrubbed to word w of the BP stores. -/
def scrubIn (w : Nat) (c : Cluster) : Block := one (run0 3) { c with scrubAt := [(storeNo (.bp 0), w)] }

theorem witness_ScrubAndBulkAccess_scrub :
    (upr [(r0 .CFG_SCRUB_CTRL, 0)]).bit (r0 .CFG_SCRUB_CTRL) F.CFG_SCRUB_CTRL_EN = false ∧
    (∀ w ∈ [0, 1, 62, 63], (scrubIn w {}).bit (r0 .CFG_SCRUB_CTRL) F.CFG_SCRUB_CTRL_EN = true ∧ (scrubIn w {}).cluState 0 = .running ∧
      NMap.get 0 ((scrubIn w {}).clu 0).scrubAt (storeNo (.bp 0)) = w ∧ ((scrubIn w {}).clu 0).scrubBehind (.bp 0) = false) ∧
    (scrubIn 0 {}).slotFree 0 (.bp 0) 0 = true ∧ (scrubIn 1 {}).slotFree 0 (.bp 0) 1 = false ∧ (scrubIn 62 {}).slotFree 0 (.bp 0) 62 = true ∧
    (let b := one { run0 3 with slipping := true } { scrubAt := [(storeNo (.bp 0), 63)] };
      b.slotFree 0 (.bp 0) 63 = true ∧ b.cluState 0 = .running) := by decide +kernel

/-- Stored words whose CRC-32 is not the reference: to every CRC there is another word. -/
theorem witness_ScrubAndBulkAccess_crc (x : Cluster) : x.frameCrc (.bp 0) 0 + 1 ≠ x.frameCrc (.bp 0) 0 := by simp

theorem witness_ScrubAndBulkAccess_slots :
    (scrubIn 0 {}).slotFree 0 (.bp 0) (b2n true) = false ∧
    (let b := scrubIn 0 { scrubFix := [(.bp 0, 4)] };
      b.slotFree 0 (.bp 0) (b2n false) = true ∧ ∃ e ∈ (b.clu 0).scrubFix, e.1 = .bp 0 ∧ e.2 % 2 = b2n false) ∧
    (let b := scrubIn 6 { scrubWait := [(.bp 0, .ok)] };
      b.slotFree 0 (.bp 0) (b2n false) = true ∧ (∀ e ∈ (b.clu 0).scrubFix, ¬(e.1 = .bp 0 ∧ e.2 % 2 = b2n false)) ∧
      NMap.get 0 (b.clu 0).scrubAt (storeNo (.bp 0)) % 2 = b2n false ∧ (b.clu 0).scrubWait.find? (fun e => decide (e.1 = .bp 0)) = some (.bp 0, .ok)) := by decide +kernel

theorem witness_ScrubAndBulkAccess_bulk :
    (upr []).reaches .pf0 (r0 .CFG_SCRUB_CTRL) = true ∧ (upr []).roleOk .pf0 (r0 .CFG_SCRUB_CTRL) = true ∧
    (one (run0 3) {}).reaches .pf0 (r0 .CFG_BULK_SEL) = true ∧ (one (run0 3) {}).bulkRight .pf0 (one (run0 3) {}).bulkSel = true ∧
    (upr []).bulkRight .pf0 (upr []).bulkSel = false ∧ (one { run0 3 with state := .frozen } {}).bulkRight .pf0 0 = true ∧
    ((List.range 64).all (fun i => (one { run0 3 with state := .frozen } {}).bulkByteOk 0 i)) = true ∧
    ((List.range 64).all (fun i => bulkWriteOk .frozen (regionOf i))) = true ∧
    (({} : Cluster).putBytes 0 (List.replicate 64 1)).isSome = true := by decide +kernel

theorem witness_LoadsBeginFailAndCommit_refused :
    let inst : Block := { loadIn 5 [] with funcs := up.funcs, cfg := { (loadIn 5 []).cfg with hdr := header.set 0x2C 2 } }
    let small : Block := { loadIn 5 [] with sec := { operKeys := [(0, ⟨[], 0⟩)] } }
    (∀ b ∈ [inst, small], b.reaches .pf0 (r0 .CFG_CTRL) = true ∧ b.roleOk .pf0 (r0 .CFG_CTRL) = true ∧ b.cfgMine .pf0 = true ∧ b.isPatch = false) ∧
    (inst.roleOf .pf0 = .inst ∧ inst.signer ≠ 1) ∧ (small.roleOf .pf0 = .op ∧ 0 ∈ small.imageParts ∧ small.operCovers .pf0 0 = false) ∧
    ((loadIn 5 []).roleOf .pf0 = .op ∧ ∀ p ∈ (loadIn 5 []).imageParts, (loadIn 5 []).operCovers .pf0 p = true) ∧ (loadIn 5 []).safeMode = false ∧
    (let c := (loadIn 5 []).setReg (r0 .FW_STATUS) (F.FW_STATUS_MODE.set 0 1);
      c.safeMode = true ∧ c.reaches .pf0 (r0 .CFG_CTRL) = true ∧ c.roleOk .pf0 (r0 .CFG_CTRL) = true) := by decide +kernel

theorem witness_LoadsBeginFailAndCommit_stream :
    ((loadIn 0 []).roleOf .pf0 = .op ∧ (loadIn 0 []).cfgSrc = 0 ∧ (loadIn 0 []).loadFn .pf0 = (loadIn 0 []).cfg.who.fn ∧ (loadIn 0 []).cfg.ended = false ∧
      (loadIn 0 []).cfgState ≠ 7) ∧
    (let b : Block := { loadIn 7 [] with cfg := { (loadIn 7 []).cfg with endSeen := true } }; b.cfgState = 7 ∧ b.loading = false ∧ b.cfg.endSeen = true) ∧
    (let b : Block := { up with funcs := [] }; b.reaches .pf0 (r0 .CFG_CTRL) = true ∧ b.roleOf .pf0 = .none) := by decide +kernel

theorem witness_ImageHeaderIsChecked_keyFault :
    (hdrIn (signed 0) none).cfgState = 1 ∧ (hdrIn (signed 0) none).sec.keyFault = false ∧ (hdrX (hdrIn (signed 0) none)).headerStatus = none := by decide +kernel

theorem witness_FramesFillTheStores_types :
    (let b := frm (frameBytes 7 0 0 0 0 0 0 0 []) 0 0; b.named (frameAt b.cfg.buf) = true ∧ 5 < (frameAt b.cfg.buf).typ) ∧
    (∀ ty < 7, 1 ≤ ty → let b := frm (frameBytes ty 0 0 0 0 0 0 0 []) 0 (if ty = 6 then 0 else 1);
      b.frameNext ty ∧ b.named (frameAt b.cfg.buf) = true ∧ b.typeForKind ty = false) ∧
    (let b := frm (frameBytes 7 0 1 0 0 0 0 0 []) 0 0;
      soundFrame b ∧ frameTypeOk (frameAt b.cfg.buf).typ = false ∧ b.named (frameAt b.cfg.buf) = false ∧ b.cfg.ended = false) := by
  simp -zeta only [frameNext_iff]
  decide +kernel

/-- An image of two partitions, the second with frame paths, in load state n. -/
def twoParts (n : Nat) (loaded : Word) : Block :=
  { (loadIn n []).setReg (r1 .CFG_PART_LOADEDn 0) loaded with
    cfg := { (loadIn n []).cfg with mans := [(0, { last := true, clusters := [0] }), (1, { last := true, clusters := [1] })] }
    parts := [(0, { clusters := [0], len := 9, man := { startDc := 5 } }), (1, { clusters := [1], len := 9, man := { framePaths := true } })]
    clus := [(0, { initVs := [(7, true)], next := [(1, true)], regs := [(0, 1)] }), (5, { next := [(1, true)] })] }

theorem witness_LoadsBeginFailAndCommit_parts :
    let b := twoParts 5 3
    (b.cfgMine .pf0 = true ∧ b.isPatch = false ∧ b.safeMode = false ∧ b.cfgState = 5 ∧ b.imageParts = [0, 1] ∧ b.imageParts.Nodup ∧
      (b.imageParts.flatMap (fun p => (b.part p).clusters)).Nodup ∧ (∀ p ∈ b.imageParts, b.isLoaded p = true) ∧ (twoParts 5 1).isLoaded 1 = false ∧
      b.fld (r0 .SEC_STATUS) F.SEC_STATUS_UNLOCK ≠ 1) ∧
    after (exec (.commit .pf0) (st b)) (fun t => decide (t.cfgState = 6 ∧ (t.part 0).state = .running ∧ (t.part 0).dc = 5 ∧ (t.part 1).state = .frozen ∧
      t.bit (r1 .PART_FRZ_STATUS 1) F.PART_FRZ_STATUS_DRAINED = true ∧ (t.clu 0).vs = [(7, true)] ∧ (t.clu 0).next = [] ∧ (t.clu 0).regs = [] ∧
      (t.clu 5).next = [(1, true)])) = true ∧
    after (exec (.commit .pf0) (st (twoParts 5 1))) (fun t => t.bit (r0 .CFG_STATUS) F.CFG_STATUS_COMMIT_REFUSED && decide (t.cfgState = 5)) = true := by
  decide +kernel

/-- The END frame that asks to commit, at the head of the stream of that image. -/
def endAuto (resets : List Nat) : Block :=
  let l := frameBytes 0x0F 4 0 0 0 0 0 0 []
  let h := (header.take 0x10 ++ leBytes 8 292 ++ leBytes 4 1 ++ (header.drop 0x1C).take 20) ++ (leBytes 48 (sha384 l).toNat ++ header.drop 0x60)
  { twoParts 3 0 with cfg := { (twoParts 3 0).cfg with buf := l, hdr := h, taken := 256, resets := resets } }

theorem witness_EndFrameLoadsTheImage_auto :
    ((endAuto []).frameNext 0x0F ∧ digestOk (endAuto []) ∧ (frameAt (endAuto []).cfg.buf).auto = true ∧ (endAuto []).named (frameAt (endAuto []).cfg.buf) = true) ∧
    after (exec .endFrame (st (endAuto []))) (fun t => decide (t.cfgState = 6 ∧ (t.part 0).state = .running ∧ (t.part 1).state = .frozen ∧
      (t.clu 0).vs = [(7, true)])) = true ∧
    after (exec .endFrame (st (endAuto [1]))) (fun t => decide (t.cfgState = 5 ∧ (t.part 0).state = .winter) && t.bit (r0 .CFG_STATUS) F.CFG_STATUS_COMMIT_REFUSED) = true := by
  simp -zeta only [frameNext_iff]
  decide +kernel

/-- A load from link 15 in FRAMES, with a sound frame or nothing in its buffer, and link 14 to fan out on. -/
def fanLoad (l : List Byte) (ended : Bool) : Block :=
  fan [(r0 .CFG_FANOUT, F.CFG_FANOUT_UP.set 0xC000 15), (r0 .CFG_SRC, 1), (r0 .CFG_STATUS, F.CFG_STATUS_STATE.set 0 3), (r1 .LNK_STATUSn 14, F.LNK_STATUSn_STATE.set 0 6),
    (r1 .LNK_STATUSn 15, F.LNK_STATUSn_STATE.set 0 5)] { ended := ended, buf := l, endAt := some 0 } (2 ^ 40)

theorem witness_FanOutReports_ends :
    ((fanLoad [] false).upLink = some 15 ∧ (fanLoad [] false).cfgSrc = 1 ∧ (fanLoad [] false).loading = true ∧ (fanLoad [] false).unitReady = false ∧
      14 ∈ (fanLoad [] false).maskLinks ∧ (fanLoad [] false).lnkState 14 = 6) ∧ (fanLoad (storeBytes 0) false).unitReady = true ∧ (fanLoad [] true).cfg.ended = true := by
  decide +kernel

theorem witness_FanOutReports_sums :
    let b : Block := { fanLoad [] true with cfg := { (fanLoad [] true).cfg with reports := [(15, ⟨1, 0, 0, 0, false⟩)] } }
    let all := fun (y : Block) (n : Nat) => y.cfg.endAt.isSome && !y.cfg.reported && y.maskLinks.all (fun m => ((y.cfg.reports.put n ⟨0, 1, 0, 0x0B, true⟩).find m).isSome)
    all b 14 = true ∧ all (fanLoad [] true) 14 = false ∧ (fanLoad [] true).upLink = some 15 ∧ (fanLoad [] true).lnkState 15 = 5 ∧
    (14 ∈ b.maskLinks ∧ b.cfg.reports.find 14 = none ∧ b.cfg.endAt.any (fun e => decide (b.cfgTmo ≤ b.pw.ctl - e)) = true) ∧
    (fan [(r0 .CFG_FANOUT, F.CFG_FANOUT_UP.set 0xC000 31)] {} 0).upLink = none := by decide +kernel

theorem witness_ScrubAndBulkAccess_found :
    (let b := one { run0 3 with state := .frozen } {};
      b.bit (r0 .CFG_SCRUB_CTRL) F.CFG_SCRUB_CTRL_EN = true ∧ b.cluState 0 = .frozen ∧ b.cluPart 0 = some 0 ∧ b.slotFree 0 (.bp 0) 0 = true ∧
        (b.clu 0).scrubBehind (.bp 0) = false ∧ (b.part 0).state = .frozen) ∧ (one { run0 3 with state := .frost } {}).cluState 0 = .frost := by decide +kernel

/-- Cluster 0 with bulk reads that wait for the even bank of BP 0. -/
def bulked (words : List (StoreSel × Nat)) : Block := scrubIn 0 { bulkWait := [⟨0, 64, words⟩] }

theorem witness_ScrubAndBulkAccess_waits :
    (∀ l ∈ [[(StoreSel.bp 0, 0)], [(.bp 0, 0), (.bp 0, 2)]], (bulked l).slotFree 0 (.bp 0) (b2n false) = true ∧
      ((bulked l).clu 0).bulkWait.find? (fun e => e.words.any (sameBank (.bp 0, b2n false))) = some ⟨0, 64, l⟩ ∧ ((bulked l).clu 0).scrubBehind (.bp 0) = true) ∧
    dropFirst (sameBank (.bp 0, b2n false)) [(StoreSel.bp 0, 0)] = [] ∧ dropFirst (sameBank (.bp 0, b2n false)) [(StoreSel.bp 0, 0), (.bp 0, 2)] ≠ [] ∧
    ((scrubIn 0 {}).clu 0).bulkAhead (.bp 0, 0) = false ∧ (scrubIn 0 {}).bulkSel = 0 ∧ (scrubIn 0 {}).cluState 0 = .running ∧
    (scrubIn 0 {}).bulkRight .pf0 0 = true ∧ (List.range 64).all (fun i => (scrubIn 0 {}).bulkByteOk 0 i) = true ∧ (scrubIn 0 {}).bulkLeft 0 (storeWords 0 64) ≠ [] ∧
    (scrubIn 0 {}).bulkLeft 0 (storeWords 0 4) = [] := by decide +kernel

/-- Link n in state v, on a module that may train, after ctl cycles. -/
def lnk (n v ctl : Nat) : Block :=
  { up with pw := { phase := .ready, ctl := ctl }, regs := [(r0 .LNK_DEVID, 0x80000003#32), (r1 .LNK_CTRLn n, 1), (r1 .LNK_STATUSn n, F.LNK_STATUSn_STATE.set 0 v)] }

theorem witness_LinkStatesOfTraining :
    (∀ v < 8, (lnk 15 v 500000).lnkState (15 : LinkNo).toNat = v) ∧ (lnk 15 0 500000).lnkMayTrain 15 = true ∧ up.lnkMayTrain 15 = false ∧
    (∀ v < 8, 500000 ≤ (lnk 15 v 500000).pw.ctl - ((lnk 15 v 500000).link 15).since) ∧ (lnk 15 0 9).pw.ctl - ((lnk 15 0 9).link 15).since < 37500 ∧
    (lnk 15 6 37500).fld (r1 .LNK_STATUSn 15) F.LNK_STATUSn_TRIES + 1 < (lnk 15 6 37500).tries ∧
    ((lnk 15 6 37500).setFld (r1 .LNK_STATUSn 15) F.LNK_STATUSn_TRIES ((lnk 15 6 37500).tries - 1)).tries ≤
      ((lnk 15 6 37500).setFld (r1 .LNK_STATUSn 15) F.LNK_STATUSn_TRIES ((lnk 15 6 37500).tries - 1)).fld (r1 .LNK_STATUSn 15) F.LNK_STATUSn_TRIES + 1 ∧
    ((lnk 15 6 37500).setFld (r1 .LNK_STATUSn 15) F.LNK_STATUSn_TRIES ((lnk 15 6 37500).tries - 1)).lnkState 15 = 6 ∧
    (let b := upr [(r1 .LNK_CTRLn 15, 1)];
      b.lnkState 15 = 0 ∧ b.lnkMayTrain 15 = false ∧ b.bit (r1 .LNK_CTRLn 15) F.LNK_CTRLn_EN = true ∧ b.bit (r0 .LNK_DEVID) F.LNK_DEVID_VALID = false) := by
  decide +kernel

theorem witness_LinksComeUpRetrainAndGoDown :
    (∀ v < 8, (lnk 0 v 0).lnkState (0 : LinkNo).toNat = v) ∧ (3 : DeviceId) = (lnk 0 4 0).devId ∧ (1023 : DeviceId) ≠ (lnk 0 4 0).devId ∧
    (∀ k ∈ [r1 .LNK_CTRLn 0, r0 .LNK_DEVID], (lnk 0 5 0).reaches .pf0 k = true ∧ (lnk 0 5 0).roleOk .pf0 k = true) ∧
    (∀ n < 16, (lnk 0 7 0).lnkState n = 0 ∨ (lnk 0 7 0).lnkState n = 7) ∧
    (let b := { lnk 0 6 0 with links := [(0, { phase := 2, unacked := [⟨1, 4, 5, false, true, true, 0⟩] })] }; b.lnkState 0 = 6 ∧ (b.link 0).phase = 2) ∧
    (lnk 0 7 0).fw.linksOff = false ∧ (3 ∈ ({ lnk 0 5 0 with regs := (r2 .LNK_SEENn_w 0 0, 8) :: (lnk 0 5 0).regs } : Block).seen 0) ∧
    (upr []).fld (r0 .LNK_CFG) F.LNK_CFG_DEGRADE < ({ window := 2 ^ 20 } : Link).window ∧ ({} : Link).window ≤ (upr []).fld (r0 .LNK_CFG) F.LNK_CFG_DEGRADE := by
  decide +kernel

/-- A flit of a segment in the sequence s. -/
def tx (s : Nat) : TxFlit := ⟨1, s, 5, false, true, true, 0⟩

/-- Link 0 ACTIVE with a record. -/
def act (l : Link) : Block := { lnk 0 5 100 with links := [(0, l)] }

theorem witness_FlitsAreSentAcceptedAndReplayed :
    (act { replay := [tx 4] }).lnkState 0 = 5 ∧ (lnk 0 6 0).lnkState 0 ≠ 5 ∧ ((act { replay := [tx 4] }).link 0).replay = tx 4 :: [] ∧
    ((act { ctl := [⟨0x13, 0⟩] }).link 0).replay = [] ∧ ((act { ctl := [⟨0x13, 0⟩] }).link 0).unacked.length < 512 ∧
    ((act { ctl := [⟨0x13, 0⟩] }).link 0).ctl ≠ [] ∧ ((act {}).link 0).queue = [] ∧
    (let m : TxMsg := { cls := 1, vc := false, flits := [tx 0] }
      let b := { act { queue := [m] } with regs := (r2 .LNK_CRDn_k 0 0, 5) :: (lnk 0 5 0).regs };
      b.lnkState 0 = 5 ∧ (b.link 0).replay = [] ∧ (b.link 0).ctl = [] ∧ b.arbitrate 0 = some 1 ∧ b.readyMsg 0 1 = some m) := by decide +kernel

theorem witness_FlitsAreSentAcceptedAndReplayed_in :
    flitCrcOk (flitWord (tx 0) 4095 false 0 0) = true ∧ flitFld (flitWord (tx 0) 4095 false 0 0) 484 1 = 0 ∧
    flitFld (flitWord (tx 0) 4095 false 0 0) 509 3 = 1 ∧ flitFld (flitWord (tx 0) 4095 false 0 0) 497 12 = (((act {}).link 0).rxSeq + 1) % 4096 ∧
    flitFld (flitWord (tx 7) 4095 false 0 0) 497 12 ≠ (((act {}).link 0).rxSeq + 1) % 4096 ∧ flitCrcOk (flitWord (tx 7) 4095 false 0 0) = true ∧
    flitFld (flitWord { tx 0 with cls := 0 } 4095 false 0 0) 509 3 = 0 ∧ flitCrcOk (flitWord { tx 0 with cls := 0 } 4095 false 0 0) = true ∧
    flitFld (flitWord { tx 0 with cls := 0 } 4095 false 0 0) 484 1 = 0 ∧
    (({} : Link).cwPos % 10 = 0 ∧ ({ cwPos := 3, cwBad := true } : Link).cwPos % 10 ≠ 0) ∧
    max 1 ((act {}).fld (r0 .LNK_CFG) F.LNK_CFG_REPLAY_LIMIT) ≤ ({ unacked := [tx 4], resends := 255 } : Link).resends ∧
    ackDrop [tx 4] 4095 = [tx 4] ∧ ({ nakOut := true } : Link).nakOut = true ∧ 75 ≤ (act { nakOut := true }).pw.ctl - ((act { nakOut := true }).link 0).nakAt := by
  decide +kernel

theorem witness_SegmentsAndPathSymbols :
    (one framed {}).segmentOk ⟨7, 3, 0, 2, 0, 0, 1, true, [true]⟩ = true ∧ ((one framed {}).part 0).state = .running ∧
    (one framed {}).segmentOk ⟨7, 3, 0, 2, 2, 0, 1, true, [true]⟩ = false ∧
    NMap.find [(5 * 256 + 0, 255)] (5 * 256 + 0) = some (255 : BitVec 8).toNat ∧ (one framed {}).pathSeen.find (5 * 256) = none ∧ (5 : DeviceId) ≠ (one framed {}).devId ∧
    (one framed {}).hosts 0 = true ∧ up.hosts 0 = false ∧ { framed with inBuf := [] }.waiting = true ∧ framed.inconsistent = false ∧
    ((one framed {}).reg (r1 .CTL_PRST_BUSYw 0)).getLsbD 0 = false := by decide +kernel

theorem witness_SegmentsAndPathSymbols_holdEnd :
    let b := { lnk 0 5 250 with links := [(0, { holdOut := true, holdFor := [3] })] }
    (b.link 0).holdOut = true ∧ b.lnkState 0 = 5 ∧ 250 ≤ b.pw.ctl - (b.link 0).nakAt ∧ 250 ≤ b.pw.ctl - (b.link 0).since := by decide +kernel

theorem witness_LinksComeUpRetrainAndGoDown_disable :
    (act { replay := [tx 4], ctl := [⟨0x13, 0⟩] }).lnkState 0 = 5 ∧ ((act {}).link 0).replay = [] ∧ ((act {}).link 0).ctl = [] ∧ (act {}).seen 0 = [] ∧
    ((5 : Word).getLsbD 0 = true ∧ (5 : Word).getLsbD 1 = false) ∧ ((3 : Word).getLsbD 0 = true ∧ (3 : Word).getLsbD 1 = true) ∧ (4 : Word).getLsbD 0 = false := by
  decide +kernel

/-- An idle flit that returns n credits of virtual channel 0 of class 1. -/
def creditFlit (n : Nat) : BitVec 512 := flitWord { tx 0 with cls := 0 } 4095 false 0 n

theorem witness_FlitsAreSentAcceptedAndReplayed_credits :
    let past := fun (b : Block) (f : BitVec 512) =>
      let k := 2 * (flitFld f 482 2 - 1) + flitFld f 481 1
      decide (flitFld f 482 2 ≠ 0 ∧ bufSize k < b.fld (r2 .LNK_CRDn_k 0 k) F.LNK_CRDn_k_AVAIL + (flitFld f 469 12 + 4096 - NMap.get 0 (b.link 0).freedIn k) % 4096)
    past (act {}) (creditFlit 1) = false ∧ past (act {}) (creditFlit 4095) = true ∧ flitFld (creditFlit 1) 482 2 ≠ 0 ∧
    flitCrcOk (creditFlit 1) = true ∧ flitCrcOk (creditFlit 4095) = true ∧ flitFld (creditFlit 4095) 484 1 = 0 ∧ flitFld (creditFlit 4095) 509 3 = 0 := by decide +kernel

theorem witness_FlitsAreSentAcceptedAndReplayed_onward :
    let b := (((act {}).setReg (r1 .LNK_ROUTEd 5) (F.LNK_ROUTEd_VALID.set (F.LNK_ROUTEd_PORT.set 0 9) 1)).setReg (r1 .LNK_STATUSn 9) (F.LNK_STATUSn_STATE.set 0 6))
    let f := flitWord (tx 0) 4095 false 0 0
    let f2 := flitWord { tx 0 with som := false } 4095 false 0 0
    (flitFld f 459 10 = 5 ∧ flitFld f 457 1 = 1 ∧ flitFld f 456 1 = 1 ∧ b.route 5 = some (9, false) ∧ b.lnkState 9 = 6 ∧ (b.link 0).rx.find 1 = none ∧
      (act {}).route 5 = none ∧ flitFld f2 457 1 = 0 ∧ flitCrcOk f2 = true ∧ flitFld f2 497 12 = 0) ∧
    after (exec (.flitReceive 0 f 0 false 0 0) (st b)) (fun t => decide ((t.link 9).queue.map (·.from_) = [some (0, 0)]) && !t.bit (r1 .LNK_ERRn 0) F.LNK_ERRn_PROTO) = true ∧
    after (exec (.flitReceive 0 f2 0 false 0 0) (st b)) (fun t => decide ((t.link 9).queue = []) && t.bit (r1 .LNK_ERRn 0) F.LNK_ERRn_PROTO) = true := by decide +kernel

theorem witness_FlitsAreSentAcceptedAndReplayed_nak :
    (let b := act { nakOut := true }; (b.link 0).nakOut = true ∧ b.lnkState 0 = 5 ∧ 75 ≤ b.pw.ctl - (b.link 0).nakSent) ∧
    (∀ l ∈ [({ unacked := [tx 4], resends := 255 } : Link), {}], (act l).lnkState 0 = 5) ∧ (ackDrop [tx 4] 4095).length = [tx 4].length ∧ (act {}).cfg.relays = [] := by
  decide +kernel

theorem witness_SegmentsAndPathSymbols_down :
    { framed with inBuf := [] }.awaits = true ∧ { framed with inBuf := [], state := .frost, preFrost := .running }.awaits = true ∧
    (one { framed with inBuf := [], state := .frost, preFrost := .running } {}).hosts 0 = true := by decide +kernel

theorem witness_TimersAndTheTimeCounter :
    (∀ k ∈ [r1 .TIM_TMRk_CTRL 7, r0 .TIM_CMD, r0 .TIM_CTRL], up.reaches .pf0 k = true ∧ up.roleOk .pf0 k = true) ∧
    (upr [(r1 .TIM_TMRk_STATUS 7, F.TIM_TMRk_STATUS_ARMED.set 0 1)]).tmrArmed 7 = true ∧ up.tmrArmed 7 = false ∧ CUnit.tu ∉ up.flt.refusing ∧
    up.units < stampUnits ((upr [(r2 .TIM_TMRk_STARTw 7 1, 1)]).reg96 .TIM_TMRk_STARTw 7) ∧ stampUnits (up.reg96 .TIM_TMRk_STARTw 7) ≤ up.units ∧
    up.tmrPeriod 7 = 0 ∧ (upr [(r1 .TIM_TMRk_PERIOD_LO 7, 1)]).tmrPeriod 7 ≠ 0 ∧ (upr [(r1 .TIM_TMRk_STATUS 7, F.TIM_TMRk_STATUS_ARMED.set 0 1)]).tmrDue 7 up.units = true ∧ up.tmrDue 7 up.units = false ∧
    (up.timSrc = 0 ∨ up.bit (r0 .TIM_STATUS) F.TIM_STATUS_TIME_VALID = false) ∧
    ¬((upr [(r0 .TIM_CTRL, F.TIM_CTRL_SRC.set 0 1), (r0 .TIM_STATUS, F.TIM_STATUS_TIME_VALID.set 0 1)]).timSrc = 0 ∨
      (upr [(r0 .TIM_CTRL, F.TIM_CTRL_SRC.set 0 1), (r0 .TIM_STATUS, F.TIM_STATUS_TIME_VALID.set 0 1)]).bit (r0 .TIM_STATUS) F.TIM_STATUS_TIME_VALID = false) ∧
    up.servo ≠ 4 ∧
    up.mayRead .pf0 (r1 .TIM_NOW_w 0) = true ∧ ({} : Block).mayRead .pf0 (r1 .TIM_NOW_w 0) = false ∧ up.evoLevel 7 = false := by decide +kernel

theorem witness_TimersAndTheTimeCounter_pulse :
    let b := { upr [(r1 .TIM_EVOn 7, F.TIM_EVOn_SEL.set 0 1)] with tu := { evo := [(7, true)] } }
    b.evoSel 7 = 1 ∧ NMap.get false b.tu.evo 7 = true ∧ NMap.get 0 b.tu.evoEnd 7 ≤ b.units := by decide +kernel

theorem witness_TimersAndTheTimeCounter_relock :
    let b := { upr [(r0 .TIM_STATUS, F.TIM_STATUS_STATE.set 0 4)] with tu := { refused := some 5 } }
    b.reaches .pf0 (r0 .TIM_CMD) = true ∧ b.roleOk .pf0 (r0 .TIM_CMD) = true ∧ b.tu.refused = some 5 ∧ b.servo = 4 := by decide +kernel

/-- Link 0 ACTIVE with a record of the time unit for its port in domain 0. -/
def ported (x : PortTime) (l : RegFile) : Block :=
  { lnk 0 5 2500 with regs := l ++ (lnk 0 5 2500).regs, tu := { port := [(0, x)] } }

/-- Time distribution on port 0 from source 1, port 0 active in domain 0. -/
def served : RegFile := [(r0 .TIM_CTRL, F.TIM_CTRL_SRC.set 0 1), (r1 .TIM_MPDn 0, F.TIM_MPDn_VALID.set 0 1)]
theorem witness_TimingSymbolsAndTheServo :
    (ported {} []).timTaken 0 false = true ∧ (ported {} []).timTaken 0 true = false ∧ (∀ v < 8, v ≠ 5 → (lnk 0 v 0).timLink (0 : LinkNo).toNat = false) ∧ (ported {} []).timLink 0 = true ∧
    (∀ e, ((ported {} []).pt 0 false).sync = some e → e.1 ≠ 3) ∧ ((ported { sync := some (3, 500, 0) } []).pt 0 false).sync = some (3, 500, 0) := by
  refine ⟨by decide +kernel, by decide +kernel, by decide +kernel, by decide +kernel, ?_, by decide +kernel⟩
  intro e h
  cases (show (none : Option (BitVec 16 × Int × Nat)) = some e from h)

theorem witness_TimingSymbolsAndTheServo_sample :
    let b := ported { sync := some (3, 500, 0), hi := some (false, 0) } served
    b.timTaken 0 false = true ∧ (b.pt 0 false).sync = some (3, 500, 0) ∧ (b.pt 0 false).hi = some (false, 0) ∧ b.pw.ctl - 0 ≤ 2500 ∧
    b.bit (r1 .TIM_MPDn 0) F.TIM_MPDn_VALID = true ∧ false = b.actDom ∧ 0 = b.actPort ∧ b.timSrc = 1 := by decide +kernel

theorem witness_TimingSymbolsAndTheServo_delay :
    let b := ported { req := some (7, 100, some 900) } [(r1 .TIM_PORTn 0, F.TIM_PORTn_ROLE0.set 0 1)]
    b.timServed 0 false = true ∧ b.portRole 0 false = 1 ∧ b.timLink 0 = true ∧ (b.pt 0 false).req = some (7, 100, some 900) ∧
    (ported {} [(r1 .TIM_PORTn 0, 0)]).timServed 0 false = false ∧
    (∀ f ∈ [F.TIM_INTERVAL_SYNC_N, F.TIM_INTERVAL_ANN_N, F.TIM_INTERVAL_PDLY_N], b.intervalDue f none = true ∧ b.intervalDue f (some b.pw.ctl) = false) := by
  decide +kernel

theorem witness_TimingSymbolsAndTheServo_ends :
    ((ported { sync := some (3, 500, 0) } []).pt 0 false).sync = some (3, 500, 0) ∧ 2500 ≤ (ported {} []).pw.ctl - 0 ∧
    (ported {} []).pw.ctl - 1 < 2500 := by decide +kernel

/-- Port 3 is active from source 1 on a link that is down, and more registers and records of the time unit. -/
def lostPort (l : RegFile) (t : Tu) : Block :=
  { upr (l ++ [(r0 .TIM_CTRL, F.TIM_CTRL_SRC.set 0 1), (r0 .TIM_STATUS, F.TIM_STATUS_ACT_PORT.set 0 3)]) with tu := t }

/-- Both domains in use, with the switch to the other. -/
def bothDoms : RegFile := [(r0 .TIM_CTRL, F.TIM_CTRL_DOM1_EN.set (F.TIM_CTRL_MODE.set (F.TIM_CTRL_SRC.set 0 1) 1) 1)]

theorem witness_TimingSymbolsAndTheServo_lost :
    (let b := upr [(r0 .TIM_STATUS, F.TIM_STATUS_ACT_PORT.set 0 31)];
      b.portLost (!b.actDom) b.tu.alt b.tu.altSince = false ∧ b.portLost b.actDom b.actPort b.tu.since = false ∧
      { b with tu := { alt := 3 } }.portLost (!b.actDom) 3 0 = true) ∧
    (let b := lostPort [] {};
      b.portLost b.actDom b.actPort b.tu.since = true ∧ b.timSrc ≠ 0 ∧ b.bestPort b.actDom b.actPort = none ∧ b.bit (r0 .TIM_CTRL) F.TIM_CTRL_MODE = false) ∧
    (let b := lostPort bothDoms { alt := 16, lastSample := [(1, 0)] };
      b.portLost b.actDom b.actPort b.tu.since = true ∧ b.portLost (!b.actDom) b.tu.alt b.tu.altSince = false ∧ b.timSrc ≠ 0 ∧
      b.bestPort b.actDom b.actPort = none ∧ (b.bit (r0 .TIM_CTRL) F.TIM_CTRL_MODE && b.bit (r0 .TIM_CTRL) F.TIM_CTRL_DOM1_EN) = true ∧ b.tu.alt ≤ 16 ∧
      b.domFresh (!b.actDom) = true) := by decide +kernel

theorem witness_TimingSymbolsAndTheServo_other :
    let b := { lnk 0 5 10 with
      regs := [(r1 .TIM_PORTn 0, F.TIM_PORTn_ROLE0.set 0 2), (r1 .TIM_MPDn 0, F.TIM_MPDn_VALID.set 0 1), (r0 .TIM_CTRL, F.TIM_CTRL_SRC.set 0 1),
        (r0 .TIM_STATUS, F.TIM_STATUS_ACT_PORT.set 0 3)] ++ (lnk 0 5 10).regs,
      tu := { port := [(0, { lastSync := some 10 })] } }
    b.portLost b.actDom b.actPort b.tu.since = true ∧ b.timSrc ≠ 0 ∧ b.bestPort b.actDom b.actPort = some 0 ∧ b.servo ≠ 1 ∧
    { b with regs := (r0 .TIM_STATUS, F.TIM_STATUS_STATE.set (F.TIM_STATUS_ACT_PORT.set 0 3) 1) :: b.regs }.servo = 1 := by decide +kernel

theorem witness_PinsAndTheManagementPort_mgmt :
    let b := { upr [(r1 .TIM_PORTn 16, F.TIM_PORTn_ROLE0.set 0 2)] with tu := { mgSync := [(0, (9, 5))], mgReq := [(0, (9, 5, 6))] } }
    b.mgDom false (BitVec.ofNat 8 (b.fld (r0 .TIM_MGMT) F.TIM_MGMT_DOMNUM0)) = some false ∧ b.mgServed false = true ∧ b.tu.mgSync.find 0 = some (9, 5) ∧
    b.tu.mgReq.find 0 = some (9, 5, 6) ∧ up.bit (r1 .TIM_MPDn 16) F.TIM_MPDn_VALID = false ∧ (upr [(r1 .TIM_MPDn 16, 0x80000000)]).bit (r1 .TIM_MPDn 16) F.TIM_MPDn_VALID = true := by
  decide +kernel

theorem witness_PinsAndTheManagementPort_pps :
    (upr [(r0 .TIM_CTRL, F.TIM_CTRL_SRC.set 0 3)]).timSrc = 3 ∧ (upr [(r0 .TIM_CTRL, F.TIM_CTRL_SRC.set 0 4)]).timSrc = 4 ∧
    (upr [(r0 .TIM_CTRL, F.TIM_CTRL_SRC.set 0 1)]).timSrc = 1 ∧
    ((upr [(r0 .TIM_PPS, F.TIM_PPS_OUT_FORCE.set 0 1)]).tu.ppsSec = none ∧ (upr [(r0 .TIM_PPS, F.TIM_PPS_OUT_FORCE.set 0 1)]).ppsOn = true) ∧
    ({ up with tu := { ppsSec := some 0 } }.tu.ppsSec = some 0 ∧ ((up.units : Int) - up.ppsOfs) / oneSecond ≤ 0) ∧
    ({ up with tu := { pps := true } }.tu.pps = true ∧ { up with tu := { pps := true } }.tu.ppsEnd ≤ up.units) ∧ up.tu.pps = false ∧
    (16 < up.tu.alt ∧ { up with tu := { lastPps := some 0 }, pw := { phase := .ready, ctl := 275000000 } }.tu.lastPps = some 0) := by decide +kernel

theorem witness_PinsAndTheManagementPort_events :
    let b := { upr [(r1 .TIM_EVIn_CTRL 7, F.TIM_EVIn_CTRL_EDGE.set 0 3)] with tu := { evi := [(7, List.replicate 16 0)], eviLast := [(7, 0)] } }
    b.fld (r1 .TIM_EVIn_CTRL 7) F.TIM_EVIn_CTRL_EDGE = 3 ∧ 16 ≤ (NMap.get [] b.tu.evi 7).length ∧ (NMap.get [] b.tu.evi 6).length < 16 ∧
    (b.tu.eviLast.find 7).any (fun u => decide (u ≤ takenUnits 0 ∧ takenUnits 0 - u < 131072)) = true ∧
    (b.tu.eviLast.find 7).any (fun u => decide (u ≤ takenUnits (2 ^ 48) ∧ takenUnits (2 ^ 48) - u < 131072)) = false ∧
    b.fld (r1 .TIM_EVIn_CTRL 0) F.TIM_EVIn_CTRL_EDGE = 0 ∧ NMap.get [] b.tu.evi 7 = 0 :: List.replicate 15 0 ∧ b.mayRead .pf0 (r2 .TIM_EVIn_TSw 7 2) = true ∧
    NMap.get [] b.tu.evi 6 = [] := by
  decide +kernel

/-- Port 0 as SLAVE, or in role r, of domain 0. -/
def slaved (r : Nat) (x : PortTime) (l : RegFile) : Block := ported x ((r1 .TIM_PORTn 0, F.TIM_PORTn_ROLE0.set 0 r) :: l)

theorem witness_TimingSymbolsAndTheServo_slave :
    (slaved 2 {} []).timHeard 0 false = true ∧ (slaved 1 {} []).timHeard 0 false = false ∧ (slaved 0 {} []).portRole 0 false ≠ 2 ∧
    (let b := slaved 2 { sync := some (3, 500, 0), hi := some (false, 0) } served;
      (b.pt 0 false).sync = some (3, 500, 0) ∧ (b.pt 0 false).hi = some (false, 0) ∧ b.timTaken 0 false = true ∧ b.pw.ctl - 0 ≤ 2500 ∧
      b.bit (r1 .TIM_MPDn 0) F.TIM_MPDn_VALID = true ∧ false = b.actDom ∧ 0 = b.actPort ∧ b.timSrc = 1 ∧ b.portRole 0 false = 2) := by decide +kernel

theorem witness_PinsAndTheManagementPort_roles :
    let b := upr [(r1 .TIM_PORTn 16, F.TIM_PORTn_ROLE0.set 0 0)]
    b.portRole 16 false ≠ 2 ∧ b.mgDom false (BitVec.ofNat 8 (b.fld (r0 .TIM_MGMT) F.TIM_MGMT_DOMNUM0)) = some false ∧
    (upr [(r1 .TIM_PORTn 16, F.TIM_PORTn_ROLE0.set 0 2)]).portRole 16 false = 2 := by decide +kernel

/-- The time unit with SRC and servo state v, and the 10 MHz reference lost or not. -/
def refd (src v : Nat) (lost : Bool) : Block :=
  { upr [(r0 .TIM_CTRL, F.TIM_CTRL_SRC.set 0 src), (r0 .TIM_STATUS, F.TIM_STATUS_STATE.set 0 v)] with tu := { refLost := lost } }

theorem witness_PinsAndTheManagementPort_reference :
    (∀ lost, (refd 4 2 lost).timSrc = 4 ∧ (refd 4 2 lost).tu.refLost = lost) ∧ 16 < (refd 4 2 true).tu.alt ∧
    (∀ v < 5, (refd 4 v false).servo = v) ∧ (refd 1 2 false).timSrc ≠ 4 ∧ (refd 1 2 false).timSrc ≠ 3 ∧
    ((refd 0 0 false).ppsOn = false ∧ (refd 0 0 false).tu.ppsSec = none) := by decide +kernel

/-! ### The TDU and the DMA engine -/

/-- Channel 5 of the TDU with credits and NEED = 3, the unit enabled. -/
def chan5 : RegFile :=
  [(r0 .TDU_CTRL, 1), (r1 .TDU_CHn_CFG 5, F.TDU_CHn_CFG_CREDITS.set 0 4), (r1 .TDU_CHn_TMPL 5, F.TDU_CHn_TMPL_NEED.set 0 3)]

/-- An entry of channel 5, tag 9. -/
def ent5 (state action : Nat) : Entry :=
  { state := state, ordered := false, prio := 7, need := 3, have_ := 1, action := action, defer := false, chan := 5, tag := 9, deadline := 4, seq := 0, owed := [],
    fwdChan := 5, fwdOp := 0, dmach := 63, slot := 1023, op := [1, 2, 3, 4], order := 0, done := 0, born := 0, readOut := false }

/-- The TDU with a queue and a store. -/
def tdu (q : List Frag) (st : List Entry) : Block := { oper with regs := chan5, tdu := { queue := q.map (fun f => (0, f)), store := st } }

/-- The fragment of operand 1 of channel 5, tag 9. -/
def frag5 : Frag := ⟨.host .pf0, 5, 9, 1, 77⟩

/-- The same unit with a spill region of 512 buckets, and an entry spilled at its place. -/
def spilledAt (b : Block) (e : Entry) : Block :=
  let b1 := { b with regs := (r0 .TDU_SPILL_SIZE, 4096) :: b.regs }
  let k := (b1.spillPlace e).getD 0
  let b2 := b1.spillWrite k e.bytes
  { b2 with tdu := { b2.tdu with spilled := [(k, e)] } }

theorem witness_FragmentsMatchAndEntriesDispatch_apply :
    (tdu [] []).nextFrag = none ∧ (tdu [frag5] []).nextFrag = some (0, frag5) ∧ (tdu [frag5] []).tduStuck = false ∧ (tdu [frag5] []).tdu.onchip < 16384 ∧
    (tdu [frag5] []).fragRefused frag5 = false ∧ (tdu [frag5] []).needsRead frag5 = false ∧ (tdu [frag5] []).tdu.waiting 5 9 = none ∧
    (spilledAt (tdu [frag5] []) (ent5 0 0)).needsRead frag5 = true ∧ (tdu [{ frag5 with op := 3 }] []).fragRefused { frag5 with op := 3 } = true ∧
    (tdu [frag5] [ent5 0 0]).fragRefused frag5 = false ∧ (tdu [frag5] [ent5 0 0]).tdu.waiting 5 9 = some (ent5 0 0) ∧ (ent5 0 0).have_.getLsbD 1 = false ∧
    (ent5 0 0).have_.getLsbD 0 = true ∧ (tdu [{ frag5 with op := 0 }] [ent5 0 0]).fragRefused { frag5 with op := 0 } = false := by decide +kernel

/-- A full store of which no entry can spill. -/
theorem witness_FragmentsMatchAndEntriesDispatch_stuck : (tdu [frag5] (List.replicate 16384 (ent5 2 1))).tduStuck = true := by
  have h : (tdu [frag5] (List.replicate 16384 (ent5 2 1))).tdu.victims = [] := by
    show ((List.replicate 16384 (ent5 2 1)).filter (fun e => decide (e.state = 0))).foldr insertVictim [] = []
    rw [List.filter_replicate_of_neg (by decide)]
    rfl
  simp only [Block.tduStuck, Block.canSpill, h, List.any_nil, Bool.and_false, Bool.not_false, Bool.and_true, decide_eq_true_eq]
  exact Nat.le_of_eq List.length_replicate.symm

theorem witness_FragmentsMatchAndEntriesDispatch_others :
    (tdu [] [ent5 2 1]).reaches .pf0 (r1 .TDU_CHn_POST 5) = true ∧ (tdu [] [ent5 2 1]).roleOk .pf0 (r1 .TDU_CHn_POST 5) = true ∧
    F.TDU_CHn_POST_CMD.get 0x00010009 = 0 ∧ F.TDU_CHn_POST_CMD.get 0x40000009 = 1 ∧
    oldestBy Entry.done (((tdu [] [ent5 2 1]).tdu.notifies 5).filter (fun e => decide (e.tag = F.TDU_CHn_POST_TAG.get 0x40000009))) = some (ent5 2 1) ∧
    oldestBy Entry.done (((tdu [] []).tdu.notifies 5).filter (fun e => decide (e.tag = F.TDU_CHn_POST_TAG.get 0x40000009))) = none := by decide +kernel

theorem witness_FragmentsMatchAndEntriesDispatch_dispatch :
    (∀ a < 3, let b := { tdu [] [ent5 1 a] with tdu := { store := [ent5 1 a], ready := [(5, 0, 0)] } }
      ([7, 6, 5, 4, 3, 2, 1, 0].filterMap (fun p => (b.dispatchable p).head?)).head? = some (ent5 1 a)) ∧
    ([7, 6, 5, 4, 3, 2, 1, 0].filterMap (fun p => ((tdu [] []).dispatchable p).head?)).head? = none := by decide +kernel

theorem witness_FragmentsMatchAndEntriesDispatch_expire :
    (tdu [] [ent5 0 0]).tdu.waiting (5 : BitVec 10).toNat (9 : BitVec 16).toNat = some (ent5 0 0) ∧
    (tdu [] [ent5 0 0]).deadlinePassed (ent5 0 0).deadline = false ∧
    (let b := (tdu [] [ent5 0 0]).setReg (r0 .TDU_TICK) 4;
      b.deadlinePassed (ent5 0 0).deadline = true ∧ b.tduDrain.tdu.waiting 5 9 = some (ent5 0 0)) ∧
    (let b := (tdu [frag5] [ent5 0 0]).setReg (r0 .TDU_TICK) 4;
      b.deadlinePassed (ent5 0 0).deadline = true ∧ b.tduDrain.tdu.waiting 5 9 = none) := by decide +kernel

/-- The unit above its spill threshold of one entry, with a region and entries already spilled. -/
def spilling (st : List Entry) (sp : List (Nat × Entry)) : Block :=
  { tdu [] [] with regs := [(r0 .TDU_CTRL, F.TDU_CTRL_HI.set 0 1), (r0 .TDU_SPILL_SIZE, 4096)], tdu := { store := st, spilled := sp } }

/-- The first place of the bucket of channel 5, tag 9. -/
def place5 : Nat := 8 * bucketOf 512 5 9

theorem witness_SpillQuiescenceAndChannelHandover_spill :
    (let b := spilling [ent5 0 0, ent5 2 1] [];
      b.tduHi < b.tdu.onchip ∧ b.tduBuckets ≠ 0 ∧ b.tdu.victims = [ent5 0 0] ∧ b.tdu.victims.takeWhile (fun e => (b.spillPlace e).isNone) = [] ∧
      b.spillPlace (ent5 0 0) = some place5 ∧ b.tdu.spilling = false) ∧
    (tdu [] []).tdu.onchip ≤ (tdu [] []).tduHi ∧
    (let b := spilling [ent5 0 0, ent5 2 1] ((List.range 8).map (fun i => (place5 + i, ent5 0 0)));
      b.tduHi < b.tdu.onchip ∧ b.tduBuckets ≠ 0 ∧ b.tdu.victims ≠ [] ∧ b.tdu.victims.drop (b.tdu.victims.takeWhile (fun e => (b.spillPlace e).isNone)).length = []) := by
  decide +kernel

theorem witness_SpillQuiescenceAndChannelHandover_refill :
    (let b := { spilledAt (tdu [] []) (ent5 0 0) with tdu := { (spilledAt (tdu [] []) (ent5 0 0)).tdu with reads := [frag5] } };
      b.tdu.reads = [frag5] ∧ b.tduStuck = false ∧ b.tdu.onchip < 16384 ∧ b.fragRefused frag5 = false ∧ b.tdu.waiting 5 9 = none ∧
      b.away 5 9 = some (place5, ent5 0 0) ∧ (ent5 0 0).state = 0 ∧ (ent5 0 0).have_.getLsbD frag5.op = false) ∧
    (let b := { tdu [] [] with tdu := { reads := [frag5] } };
      b.tdu.reads = [frag5] ∧ b.tduStuck = false ∧ b.tdu.onchip < 16384 ∧ b.fragRefused frag5 = false ∧ b.tdu.waiting 5 9 = none ∧ b.away 5 9 = none) := by
  decide +kernel

theorem witness_SpillQuiescenceAndChannelHandover_sweep :
    let b0 := spilledAt (tdu [] []) (ent5 0 0)
    let b := { b0 with regs := (r0 .TDU_TICK, 4) :: b0.regs, tdu := { b0.tdu with sweep := place5 / 8 } }
    b.tduBuckets ≠ 0 ∧ b.tdu.queue = [] ∧ (tdu [] []).tduBuckets = 0 ∧
    ((b.tdu.spilled.map (fun e => (e.1, b.spillRead e))).filter (fun e =>
      decide (e.1 / 8 = b.tdu.sweep % b.tduBuckets) && b.spillValid e.1 && b.deadlinePassed e.2.deadline)) = [(place5, ent5 0 0)] := by
  decide +kernel

theorem witness_SpillQuiescenceAndChannelHandover_quiescent :
    let b : Block := { up with regs := [(r0 .TDU_QCTRL, F.TDU_QCTRL_QEN.set 0 1)], tdu := { store := [ent5 0 0], calm := 250 * 65536 } }
    b.quiescent = true ∧ up.quiescent = false ∧ b.sspAsk (b.fld (r0 .TDU_QCTRL) F.TDU_QCTRL_BANK) ⟨2, 0⟩ = .error ∧
    (upr [(r1 .SSP_OWNb 0, F.SSP_OWNb_KIND.set 0 2), (r1 .SSP_PWRb 0, F.SSP_PWRb_STATE.set 0 2)]).sspAsk 0 ⟨2, 0⟩ = .serve := by decide +kernel

theorem witness_SpillQuiescenceAndChannelHandover_heads :
    let b := tdu [] [ent5 2 1]
    b.mayRead .pf0 (r1 .TDU_CHn_NHEAD 5) = true ∧ oldestBy Entry.done ((b.tdu.notifies 5).filter (fun e => !e.readOut)) = some (ent5 2 1) ∧
    ({} : Block).mayRead .pf0 (r1 .TDU_CHn_NHEAD 5) = false ∧
    (upr [(r1 .TDU_CHn_STATUS 5, F.TDU_CHn_STATUS_RELEASING.set 0 1)]).bit (r1 .TDU_CHn_STATUS 5) F.TDU_CHn_STATUS_RELEASING = true ∧
    b.bit (r1 .TDU_CHn_STATUS 5) F.TDU_CHn_STATUS_RELEASING = false := by decide +kernel

theorem witness_SpillQuiescenceAndChannelHandover_stuck :
    let b : Block := { oper with regs := chan5, tdu := { store := List.replicate 16384 (ent5 2 1), reads := [frag5] } }
    b.tdu.reads = frag5 :: [] ∧ b.tduStuck = true := by
  refine ⟨rfl, ?_⟩
  have h : ({ oper with regs := chan5, tdu := { store := List.replicate 16384 (ent5 2 1), reads := [frag5] } } : Block).tdu.victims = [] := by
    show ((List.replicate 16384 (ent5 2 1)).filter (fun e => decide (e.state = 0))).foldr insertVictim [] = []
    rw [List.filter_replicate_of_neg (by decide)]
    rfl
  simp only [Block.tduStuck, Block.canSpill, h, List.any_nil, Bool.and_false, Bool.not_false, Bool.and_true, decide_eq_true_eq]
  exact Nat.le_of_eq List.length_replicate.symm

theorem witness_SpillQuiescenceAndChannelHandover_join :
    let b0 := spilledAt (tdu [] []) (ent5 0 0)
    let b := { b0 with regs := (r0 .TDU_TICK, 4) :: b0.regs, tdu := { b0.tdu with sweep := place5 / 8, reads := [frag5] } }
    b.tduBuckets ≠ 0 ∧ b.tdu.queue = [] ∧ b.tdu.reads = [frag5] ∧
    ((b.tdu.spilled.map (fun e => (e.1, b.spillRead e))).filter (fun e =>
      decide (e.1 / 8 = b.tdu.sweep % b.tduBuckets) && b.spillValid e.1 && b.deadlinePassed e.2.deadline)) = [(place5, ent5 0 0)] ∧
    b.away frag5.chan frag5.tag = some (place5, ent5 0 0) ∧ b.tduStuck = false ∧ b.tdu.onchip < 16384 ∧ b.tdu.waiting frag5.chan frag5.tag = none ∧
    b.fragRefused frag5 = false ∧ (ent5 0 0).state = 0 ∧ (ent5 0 0).have_.getLsbD frag5.op = false ∧
    (ent5 0 0).have_ ||| BitVec.ofNat 4 (2 ^ frag5.op) = (ent5 0 0).need := by
  decide +kernel

theorem witness_SpillQuiescenceAndChannelHandover_word :
    let b : Block := { tdu [] [] with regs := (r0 .TDU_SPILL_SIZE, 4096) :: chan5 }
    let a := b.spillAt 0
    b.tduBuckets ≠ 0 ∧ b.tdu.queue = [] ∧ b.tdu.reads = [] ∧ b.tdu.spilled = [] ∧ NMap.get false b.farBad (a.1 * 2 ^ 32 + a.2 / 8) = false ∧
    NMap.get false ({ b with farBad := [(a.1 * 2 ^ 32 + a.2 / 8, true)] } : Block).farBad (a.1 * 2 ^ 32 + a.2 / 8) = true ∧
    b.fld (r1 .FMC_STATUSs a.1) F.FMC_STATUSs_UNCORR = 0 := by decide +kernel

/-- DMA channel n in state v at instruction pc, slot 0 owned by partition 0. -/
def chan (n v pc : Nat) (d : Dma) (p : NMap Word) : Block :=
  { oper with
    regs := [(r1 .DMA_CHn_STATUS n, F.DMA_CHn_STATUS_PC.set (F.DMA_CHn_STATUS_STATE.set 0 v) pc), (r1 .DMA_SLOT_OWNs 0, 0x80000000#32)]
    dma := [(n, d)], prog := p }

theorem witness_DmaCommandsSlotsAndWaits_commands :
    (chan 63 0 0 {} []).reaches .pf0 (r1 .DMA_CHn_CMD 63) = true ∧ (chan 63 0 0 {} []).roleOk .pf0 (r1 .DMA_CHn_CMD 63) = true ∧
    (chan 63 0 0 {} []).dmaCmdOk .pf0 63 false = true ∧ (chan 63 0 0 {} []).dmaIdle 63 = true ∧ (chan 63 2 0 {} []).dmaIdle 63 = false ∧
    (chan 63 2 0 {} []).dmaBusy 63 = true ∧ (chan 63 0 0 {} []).dmaBusy 63 = false ∧ (∀ v < 5, (chan 63 v 0 {} []).dmaState 63 = v) := by decide +kernel

theorem witness_DmaCommandsSlotsAndWaits_waits :
    ((chan 63 2 0 { ending := some 0xB } []).dmaCh 63).writes = 0 ∧ ((chan 63 2 0 { ending := some 0xB } []).dmaCh 63).ending = some 0xB ∧
    (chan 63 1 0 {} []).signalled 63 ((chan 63 1 0 {} []).waitObj 63).1 0 false = true ∧ (chan 63 1 0 {} []).dmaState 63 = 1 ∧
    CUnit.dma ∉ (chan 63 1 0 {} []).flt.refusing ∧ (chan 63 3 0 {} []).dmaState 63 = 3 ∧ (chan 63 3 0 {} []).signalled 63 ((chan 63 3 0 {} []).waitObj 63).1 0 false = true ∧
    (chan 63 3 0 {} []).dmaPc 63 ≠ 16383 := by decide +kernel

theorem witness_DmaCommandsSlotsAndWaits_timeout :
    let b := (chan 63 3 0 { deadline := some 0 } []).setReg (r1 .DMA_CHn_WAITOBJ 63) 0x10007
    (b.dmaCh 63).deadline = some 0 ∧ b.dmaState 63 = 3 ∧ (b.dmaCh 63).ending = none ∧ (b.tick - 0).getLsbD 31 = false ∧
    b.signalled 63 (b.waitObj 63).1 (b.waitObj 63).2 (b.dmaCh 63).waitPol = false ∧ (b.dmaCh 63).writes = 0 ∧
    ((chan 63 2 0 { writes := 2 } []).dmaCh 63).writes ≠ 0 ∧ ((chan 63 2 0 { writes := 1, ending := some 7 } []).dmaCh 63).ending = some 7 := by decide +kernel

/-- A channel with one write that is acknowledged next. -/
def acks (d : Dma) (q : NocReq) : Block := { chan 63 2 0 d [] with noc := { sent := [q] } }

/-- A write of channel 63. -/
def sent63 (space addr : Nat) (l : List Byte) : NocReq := { node := 127, txn := 0, chan := 63, at_ := 0, space := space, addr := addr, data := l }

/-- A MOVE of one 4-byte immediate whose only request has been issued. -/
def moved (ins : Nat) : MoveRun := { ins := BitVec.ofNat 128 ins, sspc := 4, dspc := 1, src := 0, dst := 4096, len := 4, pos := 4 }

theorem witness_DmaCommandsSlotsAndWaits_acks :
    (let b := acks { writes := 2 } (sent63 0 0 []); (b.dmaCh 63).writes = 2 ∧ b.dmaOldest 63 = some (sent63 0 0 []) ∧ (sent63 0 0 []).data = []) ∧
    (let b := acks { writes := 2 } (sent63 1 4096 [1, 2]); b.dmaOldest 63 = some (sent63 1 4096 [1, 2]) ∧ b.pwrState = 0) ∧
    (let b := { acks { writes := 1 } (sent63 2 0 [1, 2]) with regs := [(r1 .SSP_OWNb 0, F.SSP_OWNb_KIND.set 0 1), (r1 .SSP_PWRb 0, F.SSP_PWRb_STATE.set 0 2)] };
      b.dmaOldest 63 = some (sent63 2 0 [1, 2]) ∧ b.pwrState = 0 ∧ (b.dmaCh 63).again = none ∧ b.sspAsk 0 (b.dmaOwner 63) = .serve) ∧
    (let b := acks { writes := 1, move := some (moved (2 ^ 112)) } (sent63 0 0 []);
      (b.dmaCh 63).writes = 1 ∧ (b.dmaCh 63).ending = none ∧ (b.dmaCh 63).held = some (BitVec.ofNat 128 (2 ^ 112)) ∧ b.dmaPc 63 ≠ 16383) ∧
    (let b := acks { writes := 1, ending := some 7 } (sent63 0 0 []); (b.dmaCh 63).writes = 1 ∧ (b.dmaCh 63).ending = some 7) ∧
    (let b := acks { writes := 1 } { sent63 0 0 [] with refused := some 3 };
      b.dmaOldest 63 = none ∧ ∃ x ∈ b.noc.sent, x.node = 127 ∧ x.chan = (63 : BitVec 6).toNat) := by decide +kernel

theorem witness_DmaCommandsSlotsAndWaits_slots :
    up.reaches .pf0 (r1 .DMA_SLOT_OWNs 0) = true ∧ up.roleOk .pf0 (r1 .DMA_SLOT_OWNs 0) = true ∧ up.reg (r1 .DMA_SLOT_OWNs 0) &&& 0xC00000FF#32 = 0 ∧
    up.slotBusy 0 = false ∧ (chan 63 2 0 {} []).slotBusy 0 = true ∧ NMap.find [(0, (0x80000001 : Word))] 0 = some 0x80000001 ∧
    (chan 63 0 0 {} []).progReaches .pf0 0 = true ∧ (∀ p ∈ (chan 63 0 0 {} []).slotOwner 0, (chan 63 0 0 {} []).operCovers .pf0 p = true) ∧
    ({} : Block).progReaches .pf0 0 = false ∧ (up.progReaches .pf0 1 = true ∧ (oper.slotOwner 1 = none ∧ roleIn (oper.roleOf .mgmt) 3 = false)) ∧
    up.reaches .pf0 (r1 .DMA_CHn_CFG 63) = true ∧ up.roleOk .pf0 (r1 .DMA_CHn_CFG 63) = true := by decide +kernel

/-- The words of one instruction. -/
def ins (v : Nat) : NMap Word := (List.range 4).map (fun k => (k, BitVec.ofNat 32 (v / 2 ^ (32 * k))))

theorem witness_DmaInstructionsExecute_due :
    (∀ v ∈ [2 * 2 ^ 124 + 7 * 2 ^ 108 + 5 * 2 ^ 76, 3 * 2 ^ 124 + 0 * 2 ^ 121, 3 * 2 ^ 124 + 1 * 2 ^ 121 + 7 * 2 ^ 104, 5 * 2 ^ 124 + 4 * 2 ^ 121 + 9 * 2 ^ 40],
      let b := chan 63 2 0 {} (ins v)
      b.dmaReady 63 = true ∧ b.slotUsable 63 0 = true ∧ insReserved (b.dmaInstr 0) = false ∧ (b.dmaCh 63).writes = 0 ∧ b.dmaPc 63 ≠ 16383) ∧
    (chan 63 3 0 {} []).dmaReady 63 = false ∧ (chan 63 2 16 {} []).slotUsable 63 1 = false ∧ insReserved ((chan 63 2 0 {} []).dmaInstr 0) = true := by decide +kernel

/-- The channel of `chan` in partition 0 with all of stack 0 granted. -/
def granted (v : Nat) (d : Dma) : Block :=
  { chan 63 2 0 d (ins v) with regs := (chan 63 2 0 d (ins v)).regs ++ chan5 ++ [(r2 .FMC_GRANT_SIZEp_s 0 0, 0x600000#32)] }

/-- A MOVE of an immediate to far memory, and one of 64 bytes within far memory, with POST = 1. -/
def moveImm : Nat := 1 * 2 ^ 124 + 4 * 2 ^ 121 + 1 * 2 ^ 118 + 2 ^ 109 + 3 * 2 ^ 80 + 0xABCD * 2 ^ 40 + 4096
/-- The second. -/
def moveFar : Nat := 1 * 2 ^ 124 + 1 * 2 ^ 121 + 1 * 2 ^ 118 + 2 ^ 109 + 63 * 2 ^ 80 + 8192 * 2 ^ 40 + 4096

/-- What the statement calls due. -/
abbrev dueNow (b : Block) : Prop :=
  b.dmaReady 63 = true ∧ b.slotUsable 63 0 = true ∧ insReserved (b.dmaInstr 0) = false ∧ (b.dmaCh 63).writes = 0 ∧ b.dmaPc 63 = 0

theorem witness_DmaInstructionsExecute_move :
    (let b := granted moveImm {}
      let m := b.moveOp 63 (b.dmaInstr 0);
      dueNow b ∧ insFld (b.dmaInstr 0) 124 4 = 1 ∧ b.pwrState = 0 ∧ m.spaceBad = false ∧ m.dspc = 1 ∧ b.rangeErr 63 1 m.dst m.len = none ∧ m.sspc = 4 ∧
      m.pos ≠ m.len) ∧
    (let b := granted moveFar {}
      let m := b.moveOp 63 (b.dmaInstr 0);
      dueNow b ∧ insFld (b.dmaInstr 0) 124 4 = 1 ∧ m.spaceBad = false ∧ m.dspc = 1 ∧ b.rangeErr 63 1 m.dst m.len = none ∧ m.sspc = 1 ∧
      b.rangeErr 63 1 m.src m.len = none ∧ b.farPoisoned (m.src / 2 ^ 35) (m.src % 2 ^ 35) m.chunk = false) ∧
    (let b := granted moveFar { writes := 16 }; b.dmaReady 63 = true ∧ 16 ≤ (b.dmaCh 63).writes ∧ insWaits (b.dmaInstr 0) = false) ∧
    (let b := granted (moveFar - 2 ^ 118) {}; dueNow b ∧ (b.moveOp 63 (b.dmaInstr 0)).dspc = 0) ∧
    (let b := granted (moveFar - 2 ^ 121) {}; dueNow b ∧ (b.moveOp 63 (b.dmaInstr 0)).sspc = 0) := by decide +kernel

theorem witness_DmaInstructionsExecute_moveErrors :
    (let b := granted (moveFar - 4096) {}; dueNow b ∧ (b.moveOp 63 (b.dmaInstr 0)).spaceBad = false) ∧
    (let b := granted (moveFar + 4096) {}; dueNow b ∧ (b.moveOp 63 (b.dmaInstr 0)).spaceBad = true) ∧
    (let b := chan 63 2 0 {} (ins moveFar)
      let m := b.moveOp 63 (b.dmaInstr 0);
      dueNow b ∧ m.spaceBad = false ∧ m.sspc ≠ 4 ∧ b.rangeErr 63 m.sspc m.src m.len = some 6) ∧
    (let b := chan 63 2 0 {} (ins moveImm)
      let m := b.moveOp 63 (b.dmaInstr 0);
      dueNow b ∧ m.spaceBad = false ∧ m.sspc = 4 ∧ b.rangeErr 63 m.dspc m.dst m.len = some 6) := by decide +kernel

theorem witness_DmaInstructionsExecute_run :
    (let m := { moved moveImm with pos := 0 }
      let b := granted moveImm { move := some m };
      b.dmaLive 63 = true ∧ (b.dmaCh 63).move = some m ∧ b.dmaReady 63 = false ∧ b.pwrState = 0 ∧ m.dspc = 1 ∧ (b.dmaCh 63).writes < 16 ∧ m.pos ≠ m.len ∧ m.sspc = 4) ∧
    (let b := granted moveImm { move := some (moved moveImm) }; b.dmaLive 63 = true ∧ (moved moveImm).pos = (moved moveImm).len) := by decide +kernel

theorem witness_DmaInstructionsExecute_loopAndWait :
    (let b := granted (2 * 2 ^ 124 + 7 * 2 ^ 108 + 5 * 2 ^ 76) {}; dueNow b ∧ insFld (b.dmaInstr 0) 124 4 = 2 ∧ insFld (b.dmaInstr 0) 76 32 = 5) ∧
    (let b := granted (3 * 2 ^ 124) {}; dueNow b ∧ insFld (b.dmaInstr 0) 121 3 ≠ 4 ∧ b.signalled 63 0 0 false = true) ∧
    (let b := granted (3 * 2 ^ 124 + 1 * 2 ^ 121 + 7 * 2 ^ 104) {}; dueNow b ∧ insFld (b.dmaInstr 0) 121 3 = 1 ∧ b.signalled 63 1 7 false = false) ∧
    (let b := granted (3 * 2 ^ 124 + 4 * 2 ^ 121 + 0xFF0 * 2 ^ 104) {};
      dueNow b ∧ insFld (b.dmaInstr 0) 121 3 = 4 ∧ b.dmaModule 63 = false ∧ b.cluPart 255 ≠ some (b.dmaPart 63)) := by decide +kernel

/-- A SIGNAL of an immediate to channel 5. -/
def signalImm : Nat := 4 * 2 ^ 124 + 4 * 2 ^ 121 + 5 * 2 ^ 106

theorem witness_DmaInstructionsExecute_signal :
    let b := granted signalImm {}
    dueNow b ∧ insFld (b.dmaInstr 0) 124 4 = 4 ∧ insFld (b.dmaInstr 0) 121 3 = 4 := by decide +kernel

theorem witness_DmaInstructionsExecute_answered :
    (∀ x : Option Bool, let b := granted signalImm { sig := some x };
      b.dmaLive 63 = true ∧ (b.dmaCh 63).sig = some x ∧ (b.dmaCh 63).writes = 0 ∧ b.dmaPc 63 ≠ 16383) ∧
    (let b := granted (5 * 2 ^ 124 + 4 * 2 ^ 121 + 9 * 2 ^ 40) {}; dueNow b ∧ insFld (b.dmaInstr 0) 124 4 = 5 ∧ insFld (b.dmaInstr 0) 121 3 = 4) := by
  refine ⟨fun x => ?_, by decide +kernel⟩
  rcases x with _ | _ | _ <;> decide +kernel

theorem witness_DmaInstructionsExecute_completion :
    let i := BitVec.ofNat 128 (5 * 2 ^ 124)
    let m : MoveRun := { moved moveImm with sspc := 0, pos := 0 }
    ((granted 0 { stale := 1 }).dmaCh 63).stale ≠ 0 ∧ ((granted 0 {}).dmaCh 63).hostOp = none ∧
    (let d := (granted 0 { hostOp := some i, ending := some 0xB }).dmaCh 63; d.stale = 0 ∧ d.hostOp = some i ∧ d.ending ≠ none) ∧
    (let d := (granted 0 { hostOp := some i }).dmaCh 63; d.hostOp = some i ∧ d.ending = none ∧ d.writes = 0 ∧ d.move = none ∧ insFld i 124 4 = 5) ∧
    (let b := granted 0 { hostOp := some m.ins, move := some m }; (b.dmaCh 63).hostOp = some m.ins ∧ (b.dmaCh 63).move = some m ∧ m.dspc = 1 ∧ b.pwrState = 0) := by
  decide +kernel

theorem witness_DmaCommandsSlotsAndWaits_applied :
    (let x := { sent63 1 4096 [1, 2] with done := true }
      let b := acks { writes := 2 } x; b.dmaOldest 63 = some x ∧ x.done = true) ∧
    (let b := acks { writes := 2 } (sent63 1 4096 [1, 2]);
      (b.dmaCh 63).writes ≠ 0 ∧ b.dmaOldest 63 = some (sent63 1 4096 [1, 2]) ∧ b.farBehind 127 0 (some 0) = false) ∧
    (let b := { acks { writes := 2 } (sent63 1 4096 [1, 2]) with noc := { sent := [{ sent63 1 0 [3] with chan := 9, txn := 4095 }, sent63 1 4096 [1, 2]] } };
      b.dmaOldest 63 = some (sent63 1 4096 [1, 2]) ∧ (sent63 1 4096 [1, 2]).done = false ∧ b.farBehind 127 (4096 / 2 ^ 35) (some 0) = true) ∧
    (let b := acks { writes := 1, move := some (moved 0) } (sent63 2 0 [1]);
      (b.dmaCh 63).writes = 1 ∧ b.dmaOldest 63 = some (sent63 2 0 [1]) ∧ b.pwrState = 0 ∧ (b.dmaCh 63).again = none ∧ (b.dmaCh 63).ending = none ∧
      b.sspAsk 0 (b.dmaOwner 63) = .error ∧ (b.dmaCh 63).move.any (fun m => decide (m.run = (sent63 2 0 [1]).run)) = true) := by decide +kernel

theorem witness_DmaCommandsSlotsAndWaits_program :
    (∀ i < 16, (chan 63 0 0 {} []).progReaches .pf0 ((60 + i) / 64) = true ∧ (∀ p ∈ up.slotOwner ((60 + i) / 64), up.operCovers .pf0 p = true) ∧
      (up.slotOwner ((60 + i) / 64) = none → roleIn (up.roleOf .pf0) 3 = true)) ∧ (∀ i < 16, ({} : Block).progReaches .pf0 ((60 + i) / 64) = false) := by decide +kernel

/-- END (5) or SIGNAL (4) of 8 bytes at an offset of a space, in a module with bytes 3, 0x82 at the start of far memory and of bank 0, which serves the channel. -/
def eight (op space off : Nat) : Block :=
  let b := granted (op * 2 ^ 124 + space * 2 ^ 121 + off * 2 ^ 40) {}
  { b with regs := b.regs ++ [(r1 .SSP_OWNb 0, F.SSP_OWNb_KIND.set 0 1), (r1 .SSP_PWRb 0, F.SSP_PWRb_STATE.set 0 2)]
           far := [(0, 3), (1, 0x82)], ssp := { bytes := [(0, 3), (1, 0x82)] } }

/-- The offset of the first register of channel 63 that SIGNAL and END read here: its base register 0. -/
def ownOff : Nat := (r2 .DMA_CHn_Bk_LO 63 0).addr

theorem witness_DmaInstructionsExecute_sources :
    (∀ op ∈ [4, 5], ∀ e ∈ [(0, 16), (1, 0), (2, 0), (3, ownOff)], let b := eight op e.1 e.2; dueNow b ∧ insFld (b.dmaInstr 0) 124 4 = op ∧
      insFld (b.dmaInstr 0) 121 3 = e.1 ∧ b.dmaAddr 63 0 e.2 = e.2 ∧ b.rangeErr 63 e.1 e.2 8 = none ∧ b.pwrState = 0) ∧
    (let b := eight 5 1 0; b.farBehind (engineNode 63 1 0) 0 none = false ∧ b.farPoisoned 0 0 8 = false ∧
      b.sspAsk 0 (b.dmaOwner 63) = .serve ∧ b.sspPoisoned 0 0 8 = false ∧ (b.dmaCh 63).again = none) ∧
    (dueNow (eight 5 5 0) ∧ (eight 5 2 (2 ^ 26)).rangeErr 63 2 (2 ^ 26) 8 = some 6) ∧
    (∀ e ∈ [(1, 0, 0x8203#32), (2, 0, 0x8203#32), (3, ownOff, 0#32)], after (exec (.dmaEnd 63 .ok []) (st (eight 5 e.1 e.2.1)))
      (fun t => decide (t.reg (r1 .DMA_CHn_RESULT_LO 63) = e.2.2) && t.bit (r1 .DMA_CHn_EVT 63) F.DMA_CHn_EVT_DONE) = true) ∧
    after (exec (.signal 63 .ok []) (st (eight 4 2 0))) (fun t => decide (t.tdu.queue.map (fun g => g.2.data) = [0x8203] ∧ (t.dmaCh 63).sig = some none)) = true ∧
    after (exec (.signal 63 .ok []) (st (eight 4 0 16))) (fun t => decide (t.out.getLast? = some (.read ((eight 4 0 16).dmaFn 63) 63 16 8))) = true := by
  decide +kernel

theorem witness_DmaInstructionsExecute_banks :
    (let b := eight 1 2 0
      let v := 1 * 2 ^ 124 + 2 * 2 ^ 121 + 2 * 2 ^ 118 + 2 ^ 109 + 15 * 2 ^ 80 + 0 * 2 ^ 40 + 4096
      let b := { b with prog := ins v }
      let m := b.moveOp 63 (b.dmaInstr 0)
      (dueNow b ∧ m.spaceBad = false ∧ m.sspc = 2 ∧ m.dspc = 2 ∧ b.rangeErr 63 2 m.src m.len = none ∧ b.rangeErr 63 2 m.dst m.len = none) ∧
      after (exec (.move 63 .ok []) (st b)) (fun t => decide (t.noc.sent.map (fun q => (q.space, q.addr, q.data.take 2, q.node)) = [(2, 4096, [3, 0x82], 127)] ∧
        t.dmaPc 63 = 1)) = true) ∧
    (let b := { eight 1 2 0 with prog := ins (1 * 2 ^ 124 + 3 * 2 ^ 121 + 1 * 2 ^ 118 + 7 * 2 ^ 80 + ownOff * 2 ^ 40 + 4096) }
      let m := b.moveOp 63 (b.dmaInstr 0)
      (dueNow b ∧ m.spaceBad = false ∧ m.sspc = 3 ∧ b.rangeErr 63 3 m.src m.len = none) ∧
      after (exec (.move 63 .ok []) (st b)) (fun t => decide (t.noc.sent.map (fun q => (q.space, q.data.length)) = [(1, 8)] ∧ t.dmaPc 63 = 0)) = true) := by
  decide +kernel

theorem witness_DmaInstructionsExecute_order :
    (let b := granted moveFar {}
      let m := b.moveOp 63 (b.dmaInstr 0);
      b.pwrState = 0 ∧ m.pos ≠ m.len ∧ b.farBehind (engineNode 63 1 (m.src + m.pos)) ((m.src + m.pos) / 2 ^ 35) none = false) ∧
    (let b := { granted signalImm { sig := some none } with tdu := { queue := [(0, { frag5 with src := .dma 63 })] } };
      b.nextFrag = some (0, { frag5 with src := .dma 63 }) ∧ (b.dmaCh 63).sig = some none ∧ b.tduStuck = false ∧ b.needsRead { frag5 with src := .dma 63 } = false) ∧
    (let d := (granted 0 { hostOp := some (BitVec.ofNat 128 (4 * 2 ^ 124)) }).dmaCh 63;
      d.stale = 0 ∧ d.hostOp = some (BitVec.ofNat 128 (4 * 2 ^ 124)) ∧ d.ending = none ∧ d.move = none ∧ insFld (BitVec.ofNat 128 (4 * 2 ^ 124)) 124 4 = 4) := by
  decide +kernel

/-! ### Packets, scratchpad, March engine -/

/-- A packet of a kind from the DMA engine to a node, with an address. -/
def pkt (kind : BitVec 5) (dnode snode : BitVec 9) (addr : BitVec 46) : Packet :=
  ⟨kind, 0, dnode, snode, 0, 0, 4095, 0, 6, addr, 0⟩

/-- The block and the packet on its way when PACKET_EJECT has brought the meshes to the cycle in which a router ejects it. -/
def land (b : Block) (net : Nat) (p : Packet) : Option (Block × Transit) :=
  let b0 := if b.onMesh net p = false ∧ b.pktSource p = true then b.inject p.snode.toNat p else b
  let m := b0.meshUntil net p 1024
  (m.noc.got.find? (fun g => g.isPkt net p)).map (fun f => ({ m with noc := { m.noc with got := m.noc.got.erase f } }, f))

/-- A packet lands, with a block and a transit of which a test holds. -/
def lands (b : Block) (net : Nat) (p : Packet) (test : Block → Transit → Bool) : Bool :=
  decide (pktNet p.kind.toNat = some net) && (b.meshDest p).isSome && (b.onMesh net p || b.pktSource p) &&
    (match land b net p with | some z => test z.1 z.2 | none => false)

/-- A read or write of far memory at the controller of stack 0 by control-plane FMP 0. -/
def farPkt (k : BitVec 5) (addr : BitVec 46) : Packet := pkt k 126 161 addr

/-- The engine's request whose write it is. -/
def farReq : NocReq := { node := 161, txn := 4095, chan := 63, at_ := 0, space := 1, addr := 0, data := pktPayload (farPkt 2 0) }

/-- A module that has issued it, with an FMP entry of cluster 255 that has the same number. -/
def farSent : Block := { oper with noc := { sent := [farReq] }, clus := [(255, { fmp := [(2, [{ ent 4095 with kind := 1 }])] })] }

theorem witness_PacketsAtTheirTerminal :
    pktNet (pkt 31 0 127 0).kind.toNat = none ∧ (pktNet (pkt 1 511 127 0).kind.toNat = some 0 ∧ oper.meshDest (pkt 1 511 127 0) = none) ∧
    (oper.meshDest (pkt 1 0 127 0)).isSome = true ∧ (0 : Nat) ≠ (1 : BitVec 2).toNat ∧
    (oper.onMesh 0 (pkt 1 0 2 0) = false ∧ oper.pktSource { pkt 1 0 2 0 with sdev := 9 } = false) ∧
    (oper.noc.tx = [] ∧ oper.noc.fly = [] ∧ oper.noc.got = [] ∧ oper.noc.aged = [] ∧ oper.pwrState = 0) ∧
    lands oper 0 (farPkt 1 0) (fun _ f => decide (f.node = 126 ∧ f.defl = 0 ∧ f.pkt.age = 3)) = true ∧
    (let p := farPkt 1 0
      let b := { oper with noc := { got := [⟨0, 126, p, 3⟩] } };
      lands b 0 p (fun _ f => decide (f = ⟨0, 126, p, 3⟩)) = true) := by
  decide +kernel

theorem witness_PacketsAtTheirTerminal_lost :
    lands farSent 3 (farPkt 2 0) (fun y _ => decide (farReq ∈ y.noc.sent ∧ farReq.done = false)) = true ∧
    lands farSent 3 (pkt 2 126 (BitVec.ofNat 9 (cluNode 255)) 0) (fun y f => decide (y.fmpSent f.pkt = some (255, 2, { ent 4095 with kind := 1 }))) = true := by
  decide +kernel

theorem witness_PacketsAtTheirTerminal_far :
    (∀ k : BitVec 5, k = 1 ∨ k = 2 → lands farSent (if k = 1 then 0 else 3) (farPkt k 0) (fun y f =>
      decide (y.asleep f.node f.pkt = none ∧ y.noc.inq = [] ∧ y.pktOwn f.pkt = true ∧ f.pkt.snode.toNat < 289 ∧ f.pkt.size ≠ 7 ∧ nodeSsp f.pkt.dnode.toNat = none ∧
        f.pkt.snode.toNat ≠ hostNode ∧ nodeFmc f.pkt.dnode.toNat = some 0 ∧ isCpFmp f.pkt.snode.toNat = true ∧ y.outOfOrder f.pkt = false ∧
        0 + pktBytes f.pkt ≤ 24 * 2 ^ 30 ∧ y.fmpSent f.pkt = none ∧ isEngine f.pkt.snode.toNat = true ∧ farReq ∈ y.noc.sent)) = true) ∧
    lands oper 0 (pkt 1 126 (BitVec.ofNat 9 (cluNode 255)) (2 ^ 35 - 64)) (fun y f =>
      decide ((nodeClu f.pkt.snode.toNat).isSome = true ∧ y.outOfOrder f.pkt = false ∧ 24 * 2 ^ 30 < 2 ^ 35 - 64 + pktBytes f.pkt)) = true ∧
    lands oper 3 { pkt 2 126 144 0 with ddev := 9 } (fun y f => decide (y.pktOwn f.pkt = false ∧ f.pkt.kind = 2 ∧ f.pkt.sdev = y.devId)) = true := by
  decide +kernel

/-- A read or write of bank 63 by the TDU, on a module that shows one state of that bank. -/
def sspPkt (k : BitVec 5) : Packet := pkt k (BitVec.ofNat 9 (termNode (.ssp 63))) 110 (63 * 2 ^ 20)

/-- Bank 63 with the TDU as its owner, its power state, AUTO_WAKE. -/
def bank63 (state wake : Nat) : Block := upr [(r1 .SSP_OWNb 63, F.SSP_OWNb_KIND.set 0 2), (r1 .SSP_PWRb 63, F.SSP_PWRb_AUTO_WAKE.set (F.SSP_PWRb_STATE.set 0 state) wake)]

/-- How bank 63 takes the request that lands. -/
def bankAsked (b : Block) (k : BitVec 5) (a : SspAns) : Bool :=
  lands b (if k = 1 then 0 else 3) (sspPkt k) (fun y f => decide (y.asleep f.node f.pkt = none ∧ y.noc.inq = [] ∧ y.pktOwn f.pkt = true ∧ f.pkt.snode.toNat < 289 ∧
    f.pkt.size ≠ 7 ∧ (nodeSsp f.pkt.dnode.toNat).isSome = true ∧ sspBank f.pkt = some 63 ∧ y.sspAsk 63 (y.sspRequester f.pkt) = a))

theorem witness_PacketsAtTheirTerminal_ssp :
    (∀ k : BitVec 5, k = 1 ∨ k = 2 → bankAsked (bank63 2 0) k .serve = true) ∧ bankAsked (bank63 0 0) 1 .error = true ∧ bankAsked (bank63 1 1) 1 .hold = true ∧
    bankAsked { bank63 2 0 with ssp := { next := [(63, (0, true))] } } 1 .retry = true := by decide +kernel

/-- The packet of the fragment of PF0. -/
def msgPkt (dnode : BitVec 9) : Packet := { pkt 3 dnode 144 (5 * 2 ^ 18 + 9 * 4 + 1) with data := 77 }

theorem witness_PacketsAtTheirTerminal_messages :
    (∀ d : BitVec 9, d = 110 ∨ d = 0 → lands { oper with tdu := { queue := [(0, frag5)] } } 3 (msgPkt d) (fun y f =>
      decide (y.asleep f.node f.pkt = none ∧ y.outOfOrder f.pkt = false ∧ y.tduStuck = false ∧ y.tdu.queue = [(0, frag5)] ∧ pktCarries f.pkt frag5 = true ∧
        frag5.src ≠ .event)) = true) ∧
    (∀ k : BitVec 5, k = 8 ∨ k = 9 → lands oper 2 (pkt k (BitVec.ofNat 9 (cluNode 255)) 126 0) (fun _ f => decide (nodeClu f.pkt.dnode.toNat = some 255)) = true) := by
  decide +kernel

theorem witness_PacketsAtTheirTerminal_answers :
    (∀ k : BitVec 5, k = 0xA ∨ k = 0xB → lands oper (if k = 0xA then 1 else 3) (pkt k 126 0 0) (fun _ f => decide (f.pkt.kind = k)) = true) ∧
    (∀ k : BitVec 5, k = 4 ∨ k = 5 ∨ k = 6 ∨ k = 7 → lands oper (if k = 4 then 3 else 1) (pkt k 127 126 0) (fun _ f => isEngine f.pkt.dnode.toNat) = true) ∧
    lands oper 3 (pkt 4 144 126 0) (fun _ f => decide (f.pkt.dnode.toNat = hostNode)) = true ∧
    lands farSent 3 (pkt 4 (BitVec.ofNat 9 (cluNode 255)) 126 0) (fun y f =>
      decide (nodeClu f.pkt.dnode.toNat = some 255 ∧ (y.clu 255).fmpOf f.pkt.txn.toNat = some (2, { ent 4095 with kind := 1 }))) = true := by
  decide +kernel

/-- A module in Frost, with WAKE_EN. -/
def frosty (wake : Nat) : Block := upr [(r0 .PWR_STATUS, F.PWR_STATUS_STATE.set 0 2), (r0 .NOC_CTRL, F.NOC_CTRL_WAKE_EN.set 0 wake)]

theorem witness_PacketsAtTheirTerminal_wake :
    (∀ w < 2, lands (frosty w) 0 (farPkt 1 0) (fun y f =>
      decide (y.asleep f.node f.pkt = some 0 ∧ isRequest f.pkt = true ∧ y.pwrState = 2 ∧ f.pkt.snode.toNat < 289 ∧ f.pkt.sdev = y.devId ∧
        y.bit (r0 .NOC_CTRL) F.NOC_CTRL_WAKE_EN = decide (w = 1) ∧ NMap.get [] y.noc.wake 0 = [])) = true ∧
      (frosty w).pwrState ≠ 0 ∧ (frosty w).pktOwn (farPkt 1 0) = true ∧ frostOf (farPkt 1 0).dnode.toNat = some (wakeKey (.quadrant 0))) ∧
    lands (frosty 0) 0 { sspPkt 1 with snode := 127 } (fun y f => decide (y.asleep f.node f.pkt = some 4)) = true ∧
    up.pwrState = 0 ∧ frostOf 126 ≠ some (wakeKey .ssp) := by decide +kernel

theorem witness_PacketsAtTheirTerminal_retry :
    let q : NocReq := { node := 127, txn := 4095, chan := 63, at_ := 0, data := [1] }
    let p := { pkt 1 126 144 0 with ddev := 9 }
    let b : Block := { one (run0 3) { fmp := [(2, [{ ent 4095 with kind := 1 }])] } with
      noc := { sent := [q], fmpRetry := [(4095, 0)], kept := [(p, none)], abroad := [p] }, pw := { phase := .ready, ctl := 25000 } }
    termNode .dma = 127 ∧ isEngine 127 = true ∧ q ∈ b.noc.sent ∧ b.dmaSent 127 4095 = some q ∧ q.at_ + 25000 ≤ b.pw.ctl ∧ q.refused = none ∧ b.dmaSent 127 0 = none ∧
    termNode .host = p.snode.toNat ∧ (p, none) ∈ b.noc.kept ∧ p ∈ b.noc.abroad ∧
    isEngine (termNode (.cluster 0)) = false ∧ nodeClu (termNode (.cluster 0)) = some 0 ∧ (b.clu 0).fmpOf 4095 = some (2, { ent 4095 with kind := 1 }) ∧
    (b.clu 0).fmpOf 0 = none ∧ b.cluPart 0 = some 0 ∧ b.hosts 0 = true ∧ (b.part 0).state = .running ∧
    (b.reg (r1 .CTL_PRST_BUSYw 0)).getLsbD 0 = false ∧ (isEngine (termNode .host) = false ∧ nodeClu (termNode .host) = none) := by decide +kernel

theorem witness_PacketsAtTheirTerminal_reissue :
    let b : Block := { oper with noc := { kept := [(pkt 1 0 110 0, some 0)] }, pw := { phase := .ready, ctl := 16 } }
    ∀ x ∈ b.noc.kept, x.1.snode.toNat = termNode .tdu ∧ x.2.any (fun k => decide (k + 16 ≤ b.pw.ctl)) = true ∧
      (pktNet x.1.kind.toNat).isSome = true ∧ (b.meshDest x.1).isSome = true := by decide +kernel

theorem witness_ScratchpadBanksAndMarch :
    (∀ k ∈ [r1 .SSP_OWNb 63, r1 .SSP_PWRb 63, r0 .MTE_CTRL], up.reaches .pf0 k = true ∧ up.roleOk .pf0 k = true) ∧ up.roleOf .pf0 ≠ .op ∧
    up.sspMoving 63 = false ∧ up.sspFaulty 63 = false ∧ sspOwnerOf 0x305 ≠ up.sspOwner 63 ∧ sspOwnerOf 0 = up.sspOwner 63 ∧
    (upr [(r1 .SSP_OWNb 63, F.SSP_OWNb_HANDOVER.set 0 1)]).sspMoving 63 = true ∧ (upr [(r1 .SSP_OWNb 63, F.SSP_OWNb_FAULTY.set 0 1)]).sspFaulty 63 = true ∧
    ({ up with ssp := { next := [(63, (0x105, true))], target := [(63, 2)] } } : Block).ssp.next.find 63 = some (0x105, true) ∧
    ({ up with ssp := { next := [(63, (0x105, true))], target := [(63, 2)] } } : Block).ssp.target.find 63 = some 2 ∧ up.sspHeld 63 = [] ∧
    (∀ v < 4, (upr [(r1 .SSP_PWRb 63, F.SSP_PWRb_STATE.set 0 v)]).sspState 63 = v) ∧ up.march = none := by decide +kernel

theorem witness_ScratchpadBanksAndMarch_held :
    let b : Block := { bank63 3 1 with ssp := { target := [(63, 2)] }, noc := { inq := [(63, [(sspPkt 2, [])])] } }
    b.sspHeld 63 = [(sspPkt 2, [])] ∧ b.ssp.target.find 63 = some 2 ∧ b.tdu.snap = none ∧ (sspPkt 2).kind = 2 ∧ (sspPkt 2).snode.toNat < 289 ∧
    NMap.get false b.ssp.dark 63 = false ∧ (∀ st < 3, ({ up with ssp := { target := [(63, st)] } } : Block).ssp.target.find 63 = some st) ∧
    (oper.roleOf .pf0 = .op ∧ ({ oper with regs := [(r1 .SSP_OWNb 63, F.SSP_OWNb_KIND.set 0 1)] } : Block).ownerOf (r1 .SSP_PWRb 63) ≠ none) := by decide +kernel

theorem witness_ScratchpadBanksAndMarch_run :
    let m : March := { addr := 63 * 2 ^ 20, lines := 16384, bg := 1, keep := false }
    ({ up with march := some m } : Block).march = some m ∧ m.abort = false ∧ m.far = false ∧ { m with keep := true }.keep = true ∧ { m with abort := true }.abort = true ∧
    63 ∈ m.banks := by decide +kernel

/-- A failing read of element e of that run, in its first line, that expects v; of these, by Table 12.5, element 1 reads the datum 0 and element 2 the datum 1. -/
def badRead (e : BitVec 3) (v : Bool) : MarchFail := ⟨63 * 2 ^ 20, e, 0, v, 0⟩

theorem witness_ScratchpadBanksAndMarch_failing :
    let m : March := { addr := 63 * 2 ^ 20, lines := 16384, bg := 1, keep := false }
    m.failing [badRead 1 false, badRead 1 true, badRead 2 true, badRead 0 false] = [badRead 1 false, badRead 2 true] ∧ m.failing [] = [] ∧
    (badRead 1 false).line.toNat / 2 ^ 20 = 63 ∧ 63 ∈ m.banks := by decide +kernel

theorem leNat_leBytes (n v : Nat) : leNat (leBytes n v) = v % 256 ^ n := by
  induction n generalizing v with
  | zero => simp [leBytes, leNat, Nat.mod_one]
  | succ n ih =>
    show (BitVec.ofNat 8 v).toNat + 256 * leNat (leBytes n (v / 256)) = _
    rw [ih, Nat.pow_succ', Nat.mod_mul]
    rfl

theorem leBytes_length (n v : Nat) : (leBytes n v).length = n := by
  induction n generalizing v with
  | zero => rfl
  | succ n ih => simp [leBytes, ih]

/-! ### Trigger outputs, trace streams, the Vector Port -/

/-- Trigger output 31 of partition 0 in state v, aimed at DC 4. -/
def trigger (v : Nat) (o : TrgOut) (x : Part) (l : RegFile) : Block :=
  { oper with
    regs := [(r1 .TRG_OUTt_OWN 31, 0x80000000#32), (r1 .TRG_OUTt_STATUS 31, F.TRG_OUTt_STATUS_STATE.set 0 v)] ++ l, outs := [(31, o)], parts := [(0, x)] }

theorem witness_TriggerOutputsAndQualifiers_commands :
    let o := (31 : BitVec 5).toNat
    let b := trigger 1 {} (run0 3) []
    b.reaches .pf0 (r1 .TRG_OUTt_CMD o) = true ∧ b.roleOk .pf0 (r1 .TRG_OUTt_CMD o) = true ∧ b.trgOwner o = some 0 ∧ b.trgOwner 30 = none ∧
    CUnit.tgu ∉ b.flt.refusing ∧ (∀ v < 4, (trigger v {} (run0 3) []).trgState o = v) ∧ up.reaches .pf0 (r1 .TRG_OUTt_OWN o) = true ∧
    up.roleOk .pf0 (r1 .TRG_OUTt_OWN o) = true ∧ b.mayRead .pf0 (r2 .TRG_OUTt_TSw o 0) = true ∧ ({} : Block).mayRead .pf0 (r2 .TRG_OUTt_TSw o 0) = false := by
  decide +kernel

theorem witness_TriggerOutputsAndQualifiers_qualifiers :
    let b : Block := { oper with regs := [(r1 .TRG_Qq_OWN 15, 0x80000000#32)] }
    (∀ j < 3, b.reaches .pf0 ([r1 .TRG_Qq_CFG 15, r1 .TRG_Qq_MIN 15, r1 .TRG_Qq_MAX 15].getD j (r0 .CTL_ID)) = true ∧
      b.roleOk .pf0 ([r1 .TRG_Qq_CFG 15, r1 .TRG_Qq_MIN 15, r1 .TRG_Qq_MAX 15].getD j (r0 .CTL_ID)) = true) ∧
    up.reaches .pf0 (r1 .TRG_Qq_OWN 15) = true ∧ up.roleOk .pf0 (r1 .TRG_Qq_OWN 15) = true := by decide +kernel

theorem witness_TriggerOutputsAndQualifiers_arrival :
    let x : Part := { run0 3 with hits := [{ dc := 4, hit := true }] }
    let b := trigger 1 { next := 4 } x [(r1 .TRG_OUTt_CFG 31, F.TRG_OUTt_CFG_TT.set 0 2), (r1 .TRG_OUTt_CNT 31, F.TRG_OUTt_CNT_DELAY.set 0 9)]
    (∀ u < 32, (one (run0 3) {}).trgOwner u ≠ some 0) ∧ (∀ u < 32, b.trgOwner u = some (0 : PartNo).toNat ↔ u = 31) ∧
    (b.part 0).hits = [{ dc := 4, hit := true }] ∧ b.trgState 31 = 1 ∧ (b.trg 31).next = (4 : BitVec 64).toNat ∧
    b.bit (r1 .TRG_OUTt_CFG 31) F.TRG_OUTt_CFG_WAITPIN = false ∧ (b.trg 31).force = false ∧
    bitAt (b.fld (r1 .TRG_OUTt_CFG 31) F.TRG_OUTt_CFG_TT) (b2n true) = true ∧ bitAt (b.fld (r1 .TRG_OUTt_CFG 31) F.TRG_OUTt_CFG_TT) (b2n false) = false ∧
    (b.trg 31).occ = b.fld (r1 .TRG_OUTt_CNT 31) F.TRG_OUTt_CNT_COUNT ∧ b.fld (r1 .TRG_OUTt_CNT 31) F.TRG_OUTt_CNT_DELAY ≠ 0 ∧
    (trigger 1 { next := 4, force := true } x []).trg 31 = { next := 4, force := true } := by decide +kernel

/-- Stream 15 of partition 0 in state v. -/
def stream (v : Nat) (w : Stream) : Block :=
  { oper with regs := [(r1 .TRC_Sx_OWN 15, 0x80000000#32), (r1 .TRC_Sx_STATUS 15, F.TRC_Sx_STATUS_STATE.set 0 v)], streams := [(15, w)] }

/-- A page of the host being filled. -/
def fill : TrcFill := ⟨⟨false, 0x10000, false⟩, [], 0, 0, 0⟩

theorem witness_TraceStreamsAndPages_commands :
    let x := (15 : BitVec 4).toNat
    let b := stream 1 { fill := some fill, cur := some (0, 0, 0) }
    b.reaches .pf0 (r1 .TRC_Sx_CMD x) = true ∧ b.roleOk .pf0 (r1 .TRC_Sx_CMD x) = true ∧ (∀ v < 4, (stream v {}).strState x = v) ∧
    b.strOwner x = some 0 ∧ b.strOwner 14 = none ∧ ((stream 3 {}).stream x).closeDue = none ∧ CUnit.trace ∉ b.flt.refusing ∧
    (stream 3 {}).bit (r1 .TRC_Sx_STATUS x) F.TRC_Sx_STATUS_RELEASING = false ∧ ((stream 0 {}).stream x).fill = none ∧
    ((stream 2 { closeDue := some false }).stream x).closeDue = some false := by decide +kernel

theorem witness_TraceStreamsAndPages_pages :
    let x := (15 : BitVec 4).toNat
    let b := stream 1 { fill := some fill, cur := some (0, 0, 0) }
    (b.stream x).fill = some fill ∧ fill.page.space = false ∧ (b.stream x).lost = none ∧ (b.stream x).cur.isSome = true ∧ (b.stream x).done.length < 256 ∧
    fill.recs.length + 12 ≤ pageRoom ∧ 256 ≤ ((stream 1 { fill := some fill, done := List.replicate 256 fill.page }).stream x).done.length := by decide +kernel

theorem witness_TraceStreamsAndPages_queues :
    let x := (15 : BitVec 4).toNat
    let b := stream 0 { done := [fill.page, fill.page] }
    b.reaches .pf0 (r1 .TRC_Sx_POST_HI x) = true ∧ b.roleOk .pf0 (r1 .TRC_Sx_POST_HI x) = true ∧ (b.stream x).free.length < 256 ∧
    b.pageOk x (b.postPage x 3) = true ∧ (b.setReg (r1 .TRC_Sx_POST_LO x) (F.TRC_Sx_POST_LO_SPACE.set 0 1)).pageOk x
      ((b.setReg (r1 .TRC_Sx_POST_LO x) (F.TRC_Sx_POST_LO_SPACE.set 0 1)).postPage x 3) = false ∧
    b.mayRead .pf0 (r1 .TRC_Sx_DONE_LO x) = true ∧ ({} : Block).mayRead .pf0 (r1 .TRC_Sx_DONE_LO x) = false ∧ (b.stream x).done = fill.page :: [fill.page] ∧
    (b.stream x).closeDue = none ∧ ((stream 0 {}).stream x).done = [] := by decide +kernel

/-- A page of far memory being filled. -/
def fillFar : TrcFill := ⟨⟨true, 0x10000, false⟩, [], 0, 0, 0⟩

theorem witness_TraceStreamsAndPages_waiting :
    let x := (15 : BitVec 4).toNat
    let w : Stream := { cur := some (4, 0, 1), wait := [[1, 2, 3, 4]] }
    let b := stream 1 w
    ((b.stream x).cur = some (4, 0, 1) ∧ (b.stream x).wait = [[1, 2, 3, 4]] ∧ (b.stream x).fill = none ∧ (b.stream x).free = [] ∧ b.pageOk x (b.postPage x 3) = true) ∧
    (((stream 1 { fill := some fillFar }).stream x).fill = some fillFar ∧ fillFar.page.space = true ∧ fillFar.recs.length ≤ pageRoom) ∧
    (let y := (stream 1 { fill := some fill, closeDue := some true, done := [fill.page] }).stream x;
      y.done = fill.page :: [] ∧ y.closeDue = some true ∧ y.fill = some fill) := by decide +kernel

/-- Output 31 of partition 0 is ARMED at DC 4 with FORCE, and triggers stream 15 of the partition, which is in RUN. -/
def triggered : Block :=
  let b := trigger 1 { next := 4, force := true } { run0 3 with hits := [{ dc := 4, hit := true }] }
    [(r1 .TRC_Sx_OWN 15, 0x80000000#32), (r1 .TRC_Sx_STATUS 15, F.TRC_Sx_STATUS_STATE.set 0 1)]
  (b.setFld (r1 .TRC_Sx_CFG 15) F.TRC_Sx_CFG_TRIG 31).setFld (r1 .TRC_Sx_CFG 15) F.TRC_Sx_CFG_TRIG_EN 1

theorem witness_TriggerOutputsAndQualifiers_triggers :
    let b := triggered
    (∀ u < 32, b.trgOwner u = some (0 : PartNo).toNat ↔ u = 31) ∧ (b.part 0).hits = [{ dc := 4, hit := true }] ∧ b.trgState 31 = 1 ∧
    (b.trg 31).next = (4 : BitVec 64).toNat ∧ (b.trg 31).force = true ∧ b.bit (r1 .TRG_OUTt_CFG 31) F.TRG_OUTt_CFG_WAITPIN = false ∧
    b.bit (r1 .TRG_OUTt_CFG 31) F.TRG_OUTt_CFG_FRZ = false ∧ b.strOwner 15 = some (0 : PartNo).toNat ∧ b.strState 15 = 1 ∧
    (b.stream 15).ending = none ∧ (b.stream 15).stopAt = none ∧ b.strCfg 15 F.TRC_Sx_CFG_TRIG_EN = true ∧
    b.fld (r1 .TRC_Sx_CFG 15) F.TRC_Sx_CFG_TRIG = 31 ∧ b.handNext 0 ≤ (4 : BitVec 64).toNat + b.fld (r1 .TRC_Sx_POSTDC 15) F.TRC_Sx_POSTDC_POST_DC := by
  decide +kernel

theorem witness_TriggerOutputsAndQualifiers_counts :
    let b := trigger 1 { next := 4 } { run0 3 with hits := [{ dc := 4, hit := true }] }
      [(r1 .TRG_OUTt_CFG 31, F.TRG_OUTt_CFG_TT.set 0 2), (r1 .TRG_OUTt_CNT 31, F.TRG_OUTt_CNT_COUNT.set 0 9)]
    bitAt (b.fld (r1 .TRG_OUTt_CFG 31) F.TRG_OUTt_CFG_TT) (b2n true) = true ∧ (b.trg 31).force = false ∧
    (b.trg 31).occ ≠ b.fld (r1 .TRG_OUTt_CNT 31) F.TRG_OUTt_CNT_COUNT := by decide +kernel

theorem witness_TraceStreamsAndPages_stop :
    let x := (15 : BitVec 4).toNat
    let late := { stream 1 {} with parts := [(0, { run0 3 with dc := 5, hand := some (4, 0, 0) })] }
    (late.strOwner x = some 0 ∧ late.handNext 0 < (late.part 0).dc.toNat ∧ (late.stream x).ending = none ∧ late.strState x = 1) ∧
    ((stream 1 {}).part 0).dc.toNat ≤ (stream 1 {}).handNext 0 ∧ ((stream 1 {}).stream x).cur = none ∧ ((stream 1 {}).stream x).fill = none ∧
    (let w := (stream 2 { cur := some (0, 0, 0) }).stream x
     w.fill = none ∧ w.cur.isSome = true ∧ w.wait = [] ∧ w.free = [] ∧ w.done = [] ∧ w.lost = none ∧ w.ending = none) ∧
    ((stream 1 { ending := some 3 }).stream x).ending ≠ none ∧ ((stream 1 { ending := some 3, fill := some fill }).stream x).fill = some fill ∧
    ((stream 0 {}).setFld (r1 .TRC_Sx_STATUS x) F.TRC_Sx_STATUS_RELEASING 1).bit (r1 .TRC_Sx_STATUS x) F.TRC_Sx_STATUS_RELEASING = true := by
  decide +kernel

theorem witness_TraceStreamsAndPages_endings :
    let x := (15 : BitVec 4).toNat
    let b := stream 1 { cur := some (4, 0, 1), wait := [stopRecord 4], ending := some 3 }
    let w := b.stream x
    (w.ending = some 3 ∧ w.cur = some (4, 0, 1) ∧ w.wait = [stopRecord 4] ∧ w.fill = none ∧ w.free = [] ∧ w.done.length < 256 ∧
      b.pageOk x (b.postPage x 3) = true ∧ (b.postPage x 3).space = false) ∧
    (let y := (stream 1 { fill := some fill, cur := some (4, 0, 1), ending := some 3, done := [fill.page] }).stream x
     y.done = fill.page :: [] ∧ y.closeDue = none ∧ y.wait = [] ∧ y.ending = some 3 ∧ y.fill = some fill) ∧
    (stream 0 { done := [fill.page] }).stream x = { done := [fill.page] } := by decide +kernel

/-- The Vector Port in state v after ctl cycles; channel 5 belongs to partition 0. -/
def vpt (v ctl : Nat) (w : Vpt) (x : Part) : Block :=
  { up with
    pw := { phase := .ready, ctl := ctl }, vpt := w, parts := [(0, x)]
    regs := [(r0 .VPT_CTRL, 1), (r0 .VPT_STATUS, F.VPT_STATUS_STATE.set 0 v), (r1 .VPT_CHc_OWN 5, 0x80000000#32)] }

theorem witness_VectorPortLinkChannelsAndFrames_link :
    (∀ v < 4, (vpt v 250000 {} {}).vptState = v) ∧ 250000 ≤ (vpt 0 250000 {} {}).pw.ctl - (vpt 0 250000 {} {}).vpt.since ∧
    (vpt 0 250000 {} {}).bit (r0 .VPT_CTRL) F.VPT_CTRL_EN = true ∧ (vpt 0 250000 {} {}).vptMayRun = true ∧ (vpt 0 9 {} {}).pw.ctl < 250000 ∧
    (vpt 1 25000 {} {}).pw.ctl - (vpt 1 25000 {} {}).vpt.since ≤ 25000 ∧ CUnit.vpt ∉ (vpt 1 25000 {} {}).flt.refusing ∧
    CUnit.vpt ∈ ({ vpt 1 25000 {} {} with flt := { refusing := [.vpt] } }).flt.refusing ∧ up.reaches .pf0 (r0 .VPT_CTRL) = true ∧ up.roleOk .pf0 (r0 .VPT_CTRL) = true ∧
    (vpt 2 0 {} {}).vptUp = true ∧ (vpt 0 0 {} {}).vptUp = false ∧ (1 : Word).getLsbD 0 = true ∧ (0 : Word).getLsbD 0 = false := by decide +kernel

theorem witness_VectorPortLinkChannelsAndFrames_own :
    let b := vpt 2 0 {} {}
    b.reaches .pf0 (r1 .VPT_CHc_OWN 5) = true ∧ b.roleOk .pf0 (r1 .VPT_CHc_OWN 5) = true ∧ b.chanOwner (5 : BitVec 12).toNat = some 0 ∧
    ownerField (0x80000000#32 &&& 0xC00000FF#32) = some 0 ∧ (b.part 0).state = .winter ∧ b.vpt.tx.length < 16 ∧
    ((vpt 2 0 {} (run0 3)).part 0).state ≠ .winter ∧ b.reg (r0 .VPT_ERR) = 0 := by decide +kernel

/-- A sample frame of channel 5 of partition 0 at DC 4 with a CRC. -/
def smp (type : BitVec 4) (crc : BitVec 32) : VptFrame := ⟨type, 0, 4, 1, 5, 0, false, 7, List.replicate 8 0, crc⟩

theorem witness_VectorPortLinkChannelsAndFrames_sample :
    let x : Part := { run0 3 with expects := [⟨4, 0, [(5, 1)], 0⟩] }
    let b := vpt 2 0 {} x
    let f := smp 2 (vptCrc (smp 2 0))
    b.vptState = 2 ∧ f.crc = vptCrc f ∧ (smp 2 0).crc ≠ vptCrc (smp 2 0) ∧ f.type = 2 ∧ b.chansOf f.part.toNat ≠ [] ∧
    chanRange (b.chansOf f.part.toNat) = (f.first.toNat, f.count.toNat) ∧
    (b.part 0).expects.find? (fun y => decide (BitVec.ofNat 32 y.dc = f.dc)) = some ⟨4, 0, [(5, 1)], 0⟩ ∧ (∀ u < 32, b.trgOwner u ≠ some 0) ∧
    (∀ q < 16, b.qualOwner q ≠ some 0) ∧ (smp 3 (vptCrc (smp 3 0))).crc = vptCrc (smp 3 (vptCrc (smp 3 0))) ∧ (smp 3 0).type ≠ 2 ∧ (smp 0 0).type = 0 ∧ (smp 2 0).type ≠ 0 := by decide +kernel

theorem witness_VectorPortLinkChannelsAndFrames_missing :
    let x : Part := { run0 3 with expects := [⟨4, 0, [(5, 1)], 0⟩], vptIdle := 250 }
    let b := vpt 2 250000 {} x
    let e : Expect := ⟨4, 0, [(5, 1)], 0⟩
    (b.part 0).expects.find? (fun y => decide (BitVec.ofNat 32 y.dc = (4 : BitVec 32))) = some e ∧ b.smpTmo ≤ b.pw.ctl - e.at_ ∧
    (vpt 2 0 {} x).pw.ctl - e.at_ < (vpt 2 0 {} x).smpTmo ∧ 250 ≤ (b.part 0).vptIdle ∧ b.vpt.tx.length < 16 ∧ (b.chansOf 0).isEmpty = false ∧
    b.vptUp = true ∧ (b.part 1).vptIdle < 250 := by decide +kernel

theorem witness_VectorPortLinkChannelsAndFrames_disabled :
    (vpt 3 0 {} {}).vptState = 3 ∧ (vpt 3 0 {} {}).vptMayRun = true ∧ ({ vpt 3 0 {} {} with pw := { phase := .boot } }).vptMayRun = false ∧
    (vpt 2 0 {} {}).vptState ≠ 3 := by decide +kernel

theorem witness_VectorPortLinkChannelsAndFrames_order :
    let x : Part := { run0 3 with expects := [⟨3, 0, [(5, 1)], 0⟩, ⟨4, 0, [(5, 1)], 0⟩], hits := [{ dc := 3, hit := true }, { dc := 4, hit := true }] }
    let b := vpt 2 0 {} x
    (b.part 0).expects.find? (fun y => decide (BitVec.ofNat 32 y.dc = (smp 2 0).dc)) = some ⟨4, 0, [(5, 1)], 0⟩ ∧ (b.part 0).reports = [] ∧
    (b.part 0).expects.any (fun y => decide (y.dc < 4)) = true ∧ (b.part 0).expects.any (fun y => decide (y.dc < 3)) = false ∧
    (b.part 0).expects.find? (fun y => decide (BitVec.ofNat 32 y.dc = (3 : BitVec 32))) = some ⟨3, 0, [(5, 1)], 0⟩ := by decide +kernel

/-- Qualifier 15 of partition 0 on channel 5 with a period of 1,000: a kind, a polarity, limits 10 and 500, a measurement; the sample of DC 4 has class c. -/
def qualIn (kind pol : Nat) (x : Qual) : Block :=
  let b := vpt 2 0 {} { run0 3 with expects := [⟨4, 0, [], 0⟩], hits := [{ dc := 4, hit := false }] }
  { b with quals := [(15, x)]
           regs := b.regs ++ [(r0 .TRG_QPER, 1000), (r1 .TRG_Qq_OWN 15, 0x80000000#32), (r1 .TRG_Qq_MIN 15, 10), (r1 .TRG_Qq_MAX 15, 500),
             (r1 .TRG_Qq_CFG 15, F.TRG_Qq_CFG_CH.set (F.TRG_Qq_CFG_POL.set (F.TRG_Qq_CFG_KIND.set 0 kind) pol) 5)] }

/-- The frame with that sample: 0 LOW, 1 HIGH, 2 MID, 3 INVALID. -/
def smpOf (c : Nat) : VptFrame :=
  let f : VptFrame := { smp 2 0 with payload := BitVec.ofNat 8 ([1, 2, 0, 3].getD c 0) :: List.replicate 7 0 }
  { f with crc := vptCrc f }

/-- What the qualifier's result, FIRES, UNMEAS and INVALID are after it. -/
def qualOut (kind pol : Nat) (x : Qual) (c : Nat) (l : List Nat) : Bool :=
  after (exec (.smpFrame (smpOf c) .ok) (st (qualIn kind pol x))) (fun t =>
    let k := r1 .TRG_Qq_STAT 15
    decide ((t.part 0).hits.map (fun h => h.pin) = [some (32768 * l.getD 0 0, false)] ∧
      [t.fld k F.TRG_Qq_STAT_FIRES, t.fld k F.TRG_Qq_STAT_UNMEAS, t.fld k F.TRG_Qq_STAT_INVALID] = l))

theorem witness_TriggerOutputsAndQualifiers_measures :
    (let b := qualIn 1 0 {};
      b.vptState = 2 ∧ (∀ c < 4, frameClass (smpOf c) 0 = c) ∧ (smpOf 1).type = 2 ∧ b.qualChan 15 = 5 ∧ b.chansOf 0 = [5] ∧ chanRange [5] = (5, 1) ∧
      (b.part 0).expects = [⟨4, 0, [], 0⟩] ∧ (b.part 0).reports = [] ∧ (∀ u < 32, b.trgOwner u ≠ some 0) ∧ (∀ j < 16, b.qualOwner j = some 0 ↔ j = 15) ∧
      b.chanOwner 5 = some 0 ∧ (∀ y < 16, b.strOwner y ≠ some 0) ∧ b.fld (r0 .TRG_QPER) F.TRG_QPER_PERIOD ≠ 0 ∧
      (vpt 2 0 {} {}).fld (r0 .TRG_QPER) F.TRG_QPER_PERIOD = 0) ∧
    qualOut 1 0 ⟨some 1, 3995, some 0, false⟩ 0 [1, 0, 0] = true ∧ qualOut 1 0 ⟨some 1, 3900, some 0, false⟩ 0 [0, 0, 0] = true ∧
    qualOut 2 0 ⟨some 2, 3900, some 0, false⟩ 0 [1, 0, 0] = true ∧ qualOut 3 0 ⟨some 1, 4400, some 0, false⟩ 1 [1, 0, 0] = true ∧
    qualOut 3 0 ⟨some 1, 4400, some 0, true⟩ 1 [0, 0, 0] = true ∧ qualOut 4 0 ⟨some 2, 3000, some 0, false⟩ 1 [1, 0, 0] = true ∧
    qualOut 4 0 ⟨some 0, 3000, none, false⟩ 1 [0, 1, 0] = true ∧ qualOut 1 0 ⟨some 1, 3995, some 0, false⟩ 3 [0, 0, 1] = true := by decide +kernel

theorem witness_TriggerOutputsAndQualifiers_delayAndFreeze :
    (let b := trigger 2 { next := 4, fireAt := 4 } { run0 3 with hits := [{ dc := 4, hit := false }] } [];
      b.trgState 31 = 2 ∧ (b.trg 31).next = (4 : BitVec 64).toNat ∧ (b.trg 31).fireAt = (4 : BitVec 64).toNat ∧ (b.trg 31).force = false ∧
      after (exec (.hitArrival 0 4 .ok) (st b)) (fun t => t.bit (r1 .TRG_OUTt_STATUS 31) F.TRG_OUTt_STATUS_FIRED) = true) ∧
    (trigger 2 { next := 4, fireAt := 9 } (run0 3) []).trg 31 = { next := 4, fireAt := 9 } ∧
    (let b := trigger 1 { next := 4, force := true } { run0 3 with dc := 5, hits := [{ dc := 4, hit := true }] }
        [(r1 .TRG_OUTt_CFG 31, F.TRG_OUTt_CFG_FRZ.set 0 1), (r1 .PART_MARGIN_EFF 0, 2)];
      b.bit (r1 .TRG_OUTt_CFG 31) F.TRG_OUTt_CFG_FRZ = true ∧ (b.part 0).state = .running ∧ (b.part 0).target = none ∧ b.hosts 0 = true ∧
      (b.marginTarget 0 - (b.part 0).dc.setWidth 32).getLsbD 31 = false ∧
      after (exec (.hitArrival 0 4 .ok) (st b)) (fun t => decide ((t.part 0).target = some 7 ∧ t.fld (r1 .PART_FRZ_ORIGIN 0) ⟨26, 4⟩ = 1)) = true) := by decide +kernel

theorem witness_VectorPortLinkChannelsAndFrames_timeout :
    let b := vpt 2 251 {} { run0 3 with expects := [⟨4, 0, [(5, 1)], 0⟩] }
    b.smpTmo < b.pw.ctl - (⟨4, 0, [(5, 1)], 0⟩ : Expect).at_ ∧ (vpt 2 250 {} {}).pw.ctl - 0 ≤ (vpt 2 250 {} {}).smpTmo ∧
    ((vpt 2 0 {} { vptIdle := 250, state := .frost, preFrost := .winter }).part 0).preFrost = .winter := by decide +kernel

/-! ### The mailbox, sessions, firmware, keys -/

/-- A function with a request submitted: CMD and a payload. -/
def asked (cmd : Nat) (pl : List Byte) (f : Func) : Func :=
  { f with mbxStatus := 1, req := (List.range (16 + pl.length)).zip (leBytes 2 cmd ++ leBytes 2 pl.length ++ List.replicate 12 0 ++ pl) }

/-- A ready module whose PF0 has a session and a request submitted. -/
def mbx (role : Role) (cmd : Nat) (pl : List Byte) : Block :=
  { pw := { phase := .ready }, funcs := [(0, asked cmd pl { session := some ⟨role, 0⟩ })] }

/-- The conditions of Block.served as one truth value. -/
theorem served_of (b : Block) (r : Requester) (cmd : Nat) (need : Need) (lenOk : Nat → Bool)
    (h : (decide (r = .mgmt ∨ b.fnExists r = true) && (b.func (fnOf r)).busy && decide ((b.func (fnOf r)).cmd = cmd) &&
      b.mbxNext r && decide (b.pw.phase = .ready ∨ cmd = 1) && (!b.safeMode || (!isVf r && mbxSafe cmd)) && (need.none_ || roleIn (b.roleOf r) need.roles) &&
      lenOk (b.func (fnOf r)).reqLen && decide ((b.func (fnOf r)).reqLen ≤ 4080)) = true) : b.served r cmd need lenOk := by
  simp only [Bool.and_eq_true, Bool.or_eq_true, decide_eq_true_eq, Bool.not_eq_true'] at h
  obtain ⟨⟨⟨⟨⟨⟨⟨⟨h1, h2⟩, h3⟩, h9⟩, h4⟩, h5⟩, h6⟩, h7⟩, h8⟩ := h
  refine ⟨h1, h2, h3, h9, h4, fun k => ?_, h6, h7, h8⟩
  rcases h5 with h5 | h5
  · rw [k] at h5; cases h5
  · exact h5

theorem witness_MailboxCommandsAreChecked_go :
    let b := mbx .inst 0x58 []
    b.reaches .pf0 (r0 .MBX_DOORBELL) = true ∧ (b.func 0).busy = true ∧ (up.func 0).busy = false ∧ mbxDefined (b.func 0).cmd = true ∧
    mbxDefined (up.func 0).cmd = false ∧ b.reaches (.vf 0) (r0 .MBX_DOORBELL) = false ∧ (b.func 257).busy = false ∧
    mbxDefined { up.func 257 with req := putBytes [] 0 ([0x58, 0].take 4096) }.cmd = true ∧
    mbxDefined { up.func 257 with req := putBytes [] 0 ([].take 4096) }.cmd = false ∧ ({ funcs := [(257, asked 0x58 [] {})] } : Block).func 257 = asked 0x58 [] {} ∧
    (asked 0x58 [] {}).busy = true := by decide +kernel

/-- The module of `mbx` with safe mode. -/
def safely (b : Block) : Block := b.setFld (r0 .FW_STATUS) F.FW_STATUS_MODE 1

theorem witness_MailboxCommandsAreChecked_checks :
    (Instr.mailbox (.settingsSave .pf0 true)).map (fun e => (e.1, e.2.1, e.2.2.1)) = some (.pf0, 0x0030, needI) ∧
    (mbx .inst 0x30 []).fnExists .pf0 = true ∧ ((mbx .inst 0x30 []).func 0).busy = true ∧ ((mbx .inst 0x30 []).func 0).cmd = 0x30 ∧
    (safely (mbx .inst 0x30 [])).safeMode = true ∧ mbxSafe 0x30 = false ∧ (mbx .inst 0x30 []).safeMode = false ∧
    roleIn ((mbx .inst 0x30 []).roleOf .pf0) needI.roles = true ∧ roleIn ((mbx .op 0x30 []).roleOf .pf0) needI.roles = false ∧
    ((mbx .inst 0x30 [1]).func 0).reqLen ≠ 0 ∧ ({ mbx .inst 0x30 [] with pw := { phase := .boot } } : Block).pw.phase ≠ .ready ∧
    ((mbx .inst 0x31 []).func 0).cmd ≠ 0x30 ∧ up.fnExists .pf0 = true ∧ (2047 : BitVec 11).toNat < vectorsOf (fnOf .pf0) ∧
    ¬ (8 : BitVec 11).toNat < vectorsOf (fnOf (.vf 0)) := by decide +kernel

theorem witness_SessionsAndTheAuditLog_sessions :
    (mbx .inst 0x58 []).served .pf0 0x0058 needNone (· = 0) ∧ (mbx .inst 0x10 [2, 0, 0, 0]).served .pf0 0x0010 needNone (· = 4) ∧
    (mbx .inst 0x10 [0, 0, 0, 0]).served .pf0 0x0010 needNone (· = 4) ∧ (mbx .inst 0x11 (List.replicate 96 0)).served .pf0 0x0011 needNone (· = 96) ∧
    (mbx .inst 0x12 []).served .pf0 0x0012 needNone (· = 0) ∧ (mbx .op 0x50 (List.replicate 8 0)).served .pf0 0x0050 needOI (· = 8) ∧
    (mbx .op 0x51 []).served .pf0 0x0051 needOI (· = 0) ∧ (mbx .inst 0x52 (List.replicate 8 0)).served .pf0 0x0052 needI (· = 8) :=
  ⟨served_of _ _ _ _ _ (by decide +kernel), served_of _ _ _ _ _ (by decide +kernel), served_of _ _ _ _ _ (by decide +kernel),
    served_of _ _ _ _ _ (by decide +kernel), served_of _ _ _ _ _ (by decide +kernel), served_of _ _ _ _ _ (by decide +kernel),
    served_of _ _ _ _ _ (by decide +kernel), served_of _ _ _ _ _ (by decide +kernel)⟩

/-- The answer to the challenge for the installer, signed with the private key 1 whose public key is the module's. -/
def responding (sig : List Byte) (c : Option Challenge) : Block :=
  { up with funcs := [(0, asked 0x11 sig { challenge := c })], sec := { instKey := some key1 } }

theorem witness_SessionsAndTheAuditLog_open :
    let b := mbx .inst 0x10 [2, 0, 0, 0]
    (b.func 0).lockout = false ∧ b.challengeOk .pf0 (roleOfByte (leAt (b.func 0).payload 0 1)) (leAt (b.func 0).payload 1 1) = true ∧
    roleOfByte 0 = .none ∧ b.challengeOk .pf0 .none 0 = false ∧ (b.func 0).session ≠ none ∧ (mbx .inst 0x01 []).served .pf0 0x0001 needNone (· = 0) :=
  ⟨by decide +kernel, by decide +kernel, by decide +kernel, by decide +kernel, by decide +kernel, served_of _ _ _ _ _ (by decide +kernel)⟩

theorem witness_SessionsAndTheAuditLog_respond :
    let c : Challenge := ⟨.inst, 0, 0, 0⟩
    let sig := sig1 (leBytes 48 0 ++ leBytes 2 (idOf .pf0) ++ leBytes 1 (roleByte .inst) ++ leBytes 1 0)
    let ok := fun (b : Block) => decide (b.pw.ctl ≤ c.until_) && (b.roleKey c.role c.slot).any (fun k => sigVerifies k (b.func 0).payload
      (leBytes 48 c.nonce.toNat ++ leBytes 2 (idOf .pf0) ++ leBytes 1 (roleByte c.role) ++ leBytes 1 c.slot))
    ok (responding sig (some c)) = true ∧ ok (responding (List.replicate 96 0) (some c)) = false ∧
    (responding sig (some c)).func 0 = asked 0x11 sig { challenge := some c } ∧ ((responding sig none).func 0).challenge = none := by decide +kernel

theorem witness_SessionsAndTheAuditLog_lockout :
    let b : Block := { up with funcs := [(0, asked 0x11 (List.replicate 96 0) { fails := 7 })] }
    b.served .pf0 0x0011 needNone (· = 96) ∧ (b.func 0).challenge = none ∧ (b.func 0).lockout = false ∧ 8 ≤ (b.func 0).fails + 1 :=
  ⟨served_of _ _ _ _ _ (by decide +kernel), by decide +kernel, by decide +kernel, by decide +kernel⟩

/-- An entry of the audit log. -/
def entry (n : Nat) : AuditEntry := ⟨n, 0, 0x01, .inst, 0xFF, 0, 0, [], 0⟩

theorem witness_SessionsAndTheAuditLog_mirror :
    let x : Sec := { audit := [entry 0], unmirrored := 1 }
    (x.audit.drop (x.audit.length - x.unmirrored)).head? = some (entry 0) ∧ x.mirror.length < 131072 ∧ ({} : Sec).audit.drop 0 = [] := by decide +kernel

/-- A full mirror is possible, its oldest sector acknowledged or not. -/
theorem witness_SessionsAndTheAuditLog_full (n k : Nat) (h : n = 131072) :
    let x : Sec := { audit := [entry 0], unmirrored := 1, mirror := List.replicate n (entry 0), acked := k }
    (x.audit.drop (x.audit.length - x.unmirrored)).head? = some (entry 0) ∧ 131072 ≤ x.mirror.length ∧ x.mirror.head? = some (entry 0) ∧
    (x.mirror.take 512).getLast? = some (entry 0) ∧ (x.mirror.take 512).any (fun l => decide (x.acked ≤ l.seq)) = decide (k = 0) := by
  have m : min 512 n = 512 := by omega
  have z : n ≠ 0 := by omega
  refine ⟨rfl, ?_, ?_, ?_, ?_⟩
  · simp only [List.length_replicate]; omega
  · simp only [List.head?_replicate, if_neg z]
  · simp only [List.take_replicate, m, List.getLast?_replicate]; exact if_neg (by decide)
  · simp only [List.take_replicate, m, List.any_replicate, entry]
    exact (if_neg (by decide)).trans (by simp)

theorem witness_FirmwareSlotsAndSettings_served :
    (mbx .inst 0x20 (1 :: List.replicate 8 0)).served .pf0 0x0020 needI (8 ≤ ·) ∧ (mbx .inst 0x21 [1]).served .pf0 0x0021 needI (1 ≤ ·) ∧
    (mbx .inst 0x22 []).served .pf0 0x0022 needI (· = 0) ∧ (mbx .inst 0x23 [0]).served .pf0 0x0023 needI (1 ≤ ·) ∧
    (mbx .inst 0x30 []).served .pf0 0x0030 needI (· = 0) ∧ (mbx .inst 0x31 []).served .pf0 0x0031 needI (· = 0) :=
  ⟨served_of _ _ _ _ _ (by decide +kernel), served_of _ _ _ _ _ (by decide +kernel), served_of _ _ _ _ _ (by decide +kernel),
    served_of _ _ _ _ _ (by decide +kernel), served_of _ _ _ _ _ (by decide +kernel), served_of _ _ _ _ _ (by decide +kernel)⟩

theorem witness_FirmwareSlotsAndSettings_cases :
    let b := mbx .inst 0x20 (1 :: List.replicate 8 0)
    let pl := (b.func 0).payload
    let bad := fun (b : Block) (t0 : Nat) => decide (3 < t0 ∨ (if t0 < 2 then 16777216 else 4194304) < leAt pl 4 4 + (pl.length - 8)) || b.targetInUse t0
    leAt pl 0 1 = 1 ∧ bad b 1 = false ∧ bad b 4 = true ∧ bad b 0 = true ∧ b.actSlot = false ∧ b.fw.slotA = 2 ∧
    ({ b.fw with slotA := 1 } : Fw).slotA = 1 ∧ b.fw.linkA = true ∧ b.fw.linkB = false := by decide +kernel

/-- A firmware image of a KIND without compatibility needs, signed with the private key 1 of the tests. -/
def imageOf (kind : Nat) : List Byte :=
  let fs := frameBytes 6 0 0 0 0 0 0 0 (List.replicate 16 0) ++ frameBytes 0x0F 0 0 0 0 1 0 0 []
  let h := ((header.take 0x10 ++ leBytes 8 (256 + fs.length) ++ leBytes 4 2 ++ (header.drop 0x1C).take 20) ++ leBytes 48 (sha384 fs).toNat ++
    List.replicate 0x20 0).set 6 (BitVec.ofNat 8 kind) |>.set 0x2C 3
  h ++ sig1 h ++ List.replicate 32 0 ++ fs

theorem find_zip {α : Type} (l : List α) (k i : Nat) : NMap.find ((List.range' k l.length).zip l) (k + i) = l[i]? := by
  induction l generalizing k i with
  | nil => rfl
  | cons a l ih =>
    show (if k = k + i then some a else NMap.find ((List.range' (k + 1) l.length).zip l) (k + i)) = _
    cases i with
    | zero => simp
    | succ i => rw [if_neg (by omega), show k + (i + 1) = k + 1 + i by omega, ih]; rfl

/-- A flash that holds bytes in a target, on a module whose maker root is the public key of the tests. -/
def flashed (t : Nat) (l : List Byte) (b : Block) : Block :=
  { b with fw := { b.fw with flash := (List.range' (t * 2 ^ 24) l.length).zip l }, sec := { b.sec with makerRoot := key1, makerHash := sha384 key1 } }

theorem flashByte_flashed (t i : Nat) (l : List Byte) (b : Block) (h : i < l.length) : (flashed t l b).fw.flashByte (t * 2 ^ 24 + i) = l[i] := by
  simp only [Fw.flashByte, NMap.get, flashed, find_zip, List.getElem?_eq_getElem h, Option.getD_some]

/-- The image that the flash holds is those bytes, where their header gives their number. -/
theorem image_flashed (t : Nat) (l : List Byte) (b : Block) (h : l.length ≤ if t < 2 then 2 ^ 24 else 2 ^ 22) (lo : 256 ≤ l.length)
    (size : leAt (l.take 256) 0x10 8 = l.length) : (flashed t l b).fw.image t = l := by
  have cut (n : Nat) (k : n ≤ l.length) : (List.range n).map (fun i => (flashed t l b).fw.flashByte (t * 2 ^ 24 + i)) = l.take n := by
    refine List.ext_getElem (by simp [Nat.min_eq_left k]) (fun i h1 h2 => ?_)
    simp only [List.length_map, List.length_range] at h1
    simp only [List.getElem_map, List.getElem_range, List.getElem_take]
    exact flashByte_flashed t i l b (by omega)
  rw [Fw.image]
  simp only [cut 256 lo, size, Nat.min_eq_right h, cut l.length (Nat.le_refl _), List.take_length]

/-- FW_COMMIT of a target in safe mode, the flash holding an image there. -/
def committing (t : Nat) (l : List Byte) : Block := flashed t l (safely (mbx .inst 0x21 [BitVec.ofNat 8 t]))

/-- The image that a target may hold. -/
def goodImage (t : Nat) : List Byte := imageOf (if t < 2 then 1 else 2)

theorem witness_FirmwareSlotsAndSettings_commitServed : ∀ t < 4, (committing t []).served .pf0 0x0021 needI (1 ≤ ·) :=
  fun t h => served_of _ _ _ _ _ (by revert t; decide +kernel)

theorem witness_FirmwareSlotsAndSettings_commitCases :
    ∀ t < 4, leAt ((committing t []).func 0).payload 0 1 = t ∧ (committing t []).targetInUse t = false ∧
      ((committing t (List.replicate 256 0)).checkImage t).1 ≠ 0 := by decide +kernel

theorem image_imageOf (t kind : Nat) (b : Block) (h : kind < 3) : (flashed t (imageOf kind) b).fw.image t = imageOf kind :=
  image_flashed t (imageOf kind) b (by rw [show (imageOf kind).length = 344 by revert kind; decide +kernel]; split <;> decide)
    (by revert kind; decide +kernel) (by revert kind; decide +kernel)

/-- The engine at the start of a load of bytes from the flash. -/
def flashStart (l : List Byte) (b : Block) : Block :=
  ((b.setFld (r0 .CFG_SRC) F.CFG_SRC_SRC 2).cfgStart .hkc).modCfg (fun c => { c with buf := l, ended := true })

theorem flashLoad_imageOf (t kind : Nat) (b : Block) (h : kind < 3) (e : ∃ x, b.fw = (flashed t (imageOf kind) x).fw) :
    b.flashLoad t = Block.runFrames ((imageOf kind).length / 36 + 1) (((flashStart (imageOf kind) b).imageHeader false).starve) := by
  obtain ⟨x, e⟩ := e
  simp only [Block.flashLoad, e, image_imageOf t kind x h, flashStart]

theorem witness_FirmwareSlotsAndSettings_commit : ∀ t < 4, ((committing t (goodImage t)).checkImage t).1 = 0 := by
  intro t h
  have e := flashLoad_imageOf t (if t < 2 then 1 else 2) ((committing t (goodImage t)).cfgEnter 0) (by split <;> decide) ⟨_, rfl⟩
  rw [Block.checkImage, e]
  clear e; revert t; decide +kernel

/-- A committed image that asks for ROM_IF 0 asks for no more than there is. -/
theorem witness_FirmwareSlotsAndSettings_romIf : leAt ((committing 1 (goodImage 1)).checkImage 1).2 4 2 = 0 ∧ 0 ≤ Config.romIf := by
  have e := flashLoad_imageOf 1 1 ((committing 1 (goodImage 1)).cfgEnter 0) (by decide) ⟨_, rfl⟩
  refine ⟨?_, Nat.zero_le _⟩
  rw [Block.checkImage, e]
  decide +kernel

theorem witness_KeysCalibrationFusesAndUnlock_served :
    (∀ k < 4, ∀ n < 2, (mbx ([Role.none, .op, .inst, .maker].getD k .none) 0x5F (List.replicate (96 * n) 0)).served .pf0 0x005F needNone (fun _ => true)) ∧
    (∀ k < 2, ∀ n < 2, (mbx .inst 0x60 (BitVec.ofNat 8 k :: List.replicate (131 + 64 * n) 0)).served .pf0 0x0060 needI (fun n => decide (n = 132 ∨ n = 196))) ∧
    (∀ k < 2, (mbx .inst 0x61 [BitVec.ofNat 8 k, 0]).served .pf0 0x0061 needI (2 ≤ ·)) ∧
    (mbx .op 0x71 []).served .pf0 0x0071 needOI (fun n => n % 4 = 0 && decide (n ≤ 1984)) ∧ (mbx .op 0x72 []).served .pf0 0x0072 needOI (· = 0) ∧
    (mbx .maker 0x80 [0, 0, 0, 0]).served .pf0 0x0080 needM (4 ≤ ·) ∧
    (∀ k < 2, (mbx ([Role.inst, .maker].getD k .none) 0x90 []).served .pf0 0x0090 needIM (fun _ => true)) := by
  refine ⟨fun k h n j => ?_, fun k h n j => ?_, fun k h => ?_, served_of _ _ _ _ _ (by decide +kernel), served_of _ _ _ _ _ (by decide +kernel),
    served_of _ _ _ _ _ (by decide +kernel), fun k h => ?_⟩ <;> refine served_of _ _ _ _ _ ?_ <;> revert k <;> (try revert n) <;> decide +kernel

theorem witness_KeysCalibrationFusesAndUnlock_cases :
    (∀ k < 4, (mbx ([Role.none, .op, .inst, .maker].getD k .none) 0x5F []).roleOf .pf0 = [Role.none, .op, .inst, .maker].getD k .none) ∧
    (mbx .none 0x5F []).sec.instKey = none ∧ (∀ n < 2, ((mbx .none 0x5F (List.replicate (96 * n) 0)).func 0).payload.length = 96 * n) ∧
    (∀ k < 2, ∀ n < 2, let pl := ((mbx .inst 0x60 (BitVec.ofNat 8 k :: List.replicate (131 + 64 * n) 0)).func 0).payload;
      leAt pl 0 1 = k ∧ leAt pl 1 1 = 0 ∧ pl.length = 132 + 64 * n ∧ ({} : Sec).unwrap (sliceBytes pl 40 156) = none) ∧
    (∀ k < 2, leAt ((mbx .inst 0x61 [BitVec.ofNat 8 k, 0]).func 0).payload 0 1 = k) ∧ ({ mbx .maker 0x80 [0, 0, 0, 0] with sec := { fuses := [] } } : Block).sec.fuses.find 0 = none ∧
    ({ fuses := [(0, [])] } : Sec).fuses.find 0 ≠ none ∧ up.allWinter = true ∧ (one (run0 3) {}).allWinter = false := by decide +kernel

/-- A calibration block of the installer that sets the asymmetry of port 16 to one nanosecond, for a serial number. -/
def calBlock (serial : Nat) : List Byte :=
  leBytes 4 0x4143594C ++ leBytes 2 0x0100 ++ [1, 0xFF] ++ leBytes 8 serial ++ leBytes 4 1 ++ leBytes 2 1 ++ leBytes 2 0 ++
    (leBytes 2 1 ++ leBytes 2 16 ++ leBytes 4 0x10000) ++ List.replicate 96 0

/-- The bytes of a request. -/
theorem request_asked (cmd n : Nat) (pl : List Byte) (f : Func) (h : n ≤ 16 + pl.length) :
    (asked cmd pl f).request n = (leBytes 2 cmd ++ leBytes 2 pl.length ++ List.replicate 12 0 ++ pl).take n := by
  have len : (leBytes 2 cmd ++ leBytes 2 pl.length ++ List.replicate 12 (0 : Byte) ++ pl).length = 16 + pl.length := by
    simp only [List.length_append, leBytes_length, List.length_replicate]
  apply List.ext_getElem?
  intro i
  by_cases k : i < n
  · have e := find_zip (leBytes 2 cmd ++ leBytes 2 pl.length ++ List.replicate 12 (0 : Byte) ++ pl) 0 i
    rw [len, Nat.zero_add, ← List.range_eq_range'] at e
    rw [List.getElem?_take_of_lt k]
    simp only [Func.request, List.getElem?_map, List.getElem?_range k, Option.map_some, NMap.get, asked, e]
    rw [List.getElem?_eq_getElem (by omega)]; rfl
  · rw [List.getElem?_eq_none (by simp [Func.request]; omega), List.getElem?_eq_none (by simp only [List.length_take]; omega)]

/-- A request holds its payload. -/
theorem payload_asked (cmd : Nat) (pl : List Byte) (f : Func) (h : pl.length < 65536) : (asked cmd pl f).payload = pl := by
  have n : (asked cmd pl f).reqLen = pl.length := by
    unfold Func.reqLen
    rw [request_asked _ _ _ _ (by omega)]
    exact (leNat_leBytes 2 pl.length).trans (Nat.mod_eq_of_lt h)
  have len : (leBytes 2 cmd ++ leBytes 2 pl.length ++ List.replicate 12 (0 : Byte)).length = 16 := by
    simp only [List.length_append, leBytes_length, List.length_replicate]
  unfold Func.payload
  rw [n, request_asked _ _ _ _ (Nat.le_refl _), List.take_of_length_le (Nat.le_of_eq (by rw [List.length_append, len])), List.drop_left' len]

/-- The end of a list, cut out. -/
theorem sliceBytes_end (a b : List Byte) (m n : Nat) (h : a.length = m) (k : b.length = n) : sliceBytes (a ++ b) m n = b := by
  subst h k
  simp only [sliceBytes, List.drop_left, List.take_length, Nat.sub_self, List.replicate_zero, List.append_nil]

/-- The tag of 32 zero bytes under the key that ECDH gives with the key pair of the tests on both sides. -/
def wrapTag : List Byte := gcmTag (expandKey ((ecdhKey 1 key1).getD [])) (List.replicate 12 0) [] (List.replicate 32 0)

/-- A wrapped image key: ephemeral public key, nonce, 32 bytes, their tag. -/
def wrapHead : List Byte := key1 ++ List.replicate 44 0

/-- The payload of KEY_PROVISION with it for a slot. -/
def wrapped (slot : Byte) : List Byte := 1 :: slot :: List.replicate 38 0 ++ (wrapHead ++ wrapTag)

theorem wrapTag_length : wrapTag.length = 16 := by decide +kernel

theorem wrapHead_length : wrapHead.length = 140 := by decide +kernel

theorem wrapped_length (slot : Byte) : (wrapped slot).length = 196 := by
  show (List.replicate 38 (0 : Byte) ++ (wrapHead ++ wrapTag)).length + 1 + 1 = 196
  simp only [List.length_append, List.length_replicate, wrapTag_length, wrapHead_length]

theorem witness_KeysCalibrationFusesAndUnlock_imagePayload (slot : Byte) : ((mbx .inst 0x60 (wrapped slot)).func 0).payload = wrapped slot :=
  payload_asked _ _ _ (by rw [wrapped_length]; decide)

theorem witness_KeysCalibrationFusesAndUnlock_image (slot : Byte) :
    leAt (wrapped slot) 0 1 ≠ 0 ∧ (wrapped slot).length = 196 ∧ leAt (wrapped slot) 1 1 = slot.toNat ∧
    ({ idKey := 1 } : Sec).unwrap (sliceBytes (wrapped slot) 40 156) ≠ none := by
  have cut : sliceBytes (wrapped slot) 40 156 = wrapHead ++ wrapTag :=
    sliceBytes_end (1 :: slot :: List.replicate 38 0) _ _ _ rfl (by simp only [List.length_append, wrapTag_length, wrapHead_length])
  have k : ecdhKey 1 ((wrapHead ++ wrapTag).take 96) = some ((ecdhKey 1 key1).getD []) := by
    rw [show (wrapHead ++ wrapTag).take 96 = key1 from rfl]; decide +kernel
  have t : sliceBytes (wrapHead ++ wrapTag) 140 16 = wrapTag := sliceBytes_end _ _ _ _ wrapHead_length wrapTag_length
  have at1 : leAt (wrapped slot) 1 1 = slot.toNat := by
    show leNat (slot :: []) = _
    simp [leNat]
  refine ⟨Nat.one_ne_zero, wrapped_length slot, at1, ?_⟩
  rw [cut, Sec.unwrap, k, Option.bind_some, gcmDecrypt, t]
  exact Option.ne_none_iff_exists'.mpr ⟨_, if_pos rfl⟩

theorem serial_calBlock (v : Nat) : leAt (calBlock v) 8 8 = v % 256 ^ 8 := leNat_leBytes 8 v

theorem witness_KeysCalibrationFusesAndUnlock_calibration :
    let b := mbx .inst 0x70 (calBlock Config.serial.toNat)
    let pl := (b.func (fnOf .pf0)).payload
    b.served .pf0 0x0070 needOI (120 ≤ ·) ∧ pl = calBlock Config.serial.toNat ∧ leAt pl 8 8 = Config.serial.toNat ∧ pl.length = 120 + 8 * leAt pl 20 2 ∧
    (leAt pl 0 4 = 0x4143594C ∧ leAt pl 4 2 = 0x0100 ∧ leAt pl 22 2 = 0 ∧ leAt pl 6 1 = 1) ∧ b.sec.calSeq.find 0 = none ∧
    calEntries pl 1 = [(65536 + 16, 0x10000#32)] ∧ calInRange (65536 + 16, 0x10000#32) = true ∧ b.calRight .pf0 (65536 + 16) = true ∧
    b.sec.calOper.find (65536 + 16) = none ∧ b.roleOf .pf0 = .inst := by
  refine ⟨served_of _ _ _ _ _ (by decide +kernel), payload_asked _ _ _ (by decide +kernel), ?_, ?_⟩
  · exact (congrArg (leAt · 8 8) (payload_asked _ _ _ (by decide +kernel))).trans <| (serial_calBlock _).trans (Nat.mod_eq_of_lt Config.serial.isLt)
  · exact ⟨by decide +kernel, by decide +kernel, by decide +kernel, by decide +kernel, by decide +kernel, by decide +kernel, by decide +kernel, by decide +kernel⟩

/-- That block with the installer's signature. -/
def calSigned (serial : Nat) : List Byte :=
  let l := (calBlock serial).take 32
  l ++ sig1 l

/-- A block for the module is signed correctly, with the serial number that it has at a value of the free constant, here 5. -/
theorem witness_KeysCalibrationFusesAndUnlock_calSigned :
    let b : Block := { mbx .inst 0x70 (calSigned 5) with sec := { instKey := some key1 } }
    let pl := (b.func 0).payload
    b.roleOf .pf0 = .inst ∧ pl.length = 120 + 8 * leAt pl 20 2 ∧
    (b.roleKey (b.roleOf .pf0) (b.slotOf .pf0)).any (fun k => sigVerifies k (pl.drop (pl.length - 96)) (pl.take (pl.length - 96))) = true ∧
    leAt pl 0 4 = 0x4143594C ∧ leAt pl 4 2 = 0x0100 ∧ leAt pl 22 2 = 0 ∧ leAt pl 8 8 = 5 ∧ leAt pl 6 1 = 1 ∧
    (b.sec.calSeq.find 0).all (fun q => decide (q < leAt pl 16 4)) = true ∧ (calEntries pl 1).all (fun e => calInRange e && b.calRight .pf0 e.1) = true := by
  decide +kernel

/-- PF0 and VF 9 have each submitted GET_INFO; the function answered last is given. -/
def turns (last : Nat) : Block :=
  { up with vfEnable := true, numVfs := 16, fw := { mbxLast := last }, funcs := [(0, asked 1 [] {}), (10, asked 1 [] {})] }

theorem witness_MailboxCommandsAreChecked_turn :
    (turns 0).mbxNext .pf0 = false ∧ (turns 0).mbxNext (.vf 9) = true ∧ (turns 10).mbxNext .pf0 = true ∧ (turns 0).fnExists .pf0 = true ∧
    ((turns 0).func 0).busy = true ∧ ((turns 0).func 0).cmd = 1 ∧ (47361 : BitVec 16) ≠ 47360 ∧ up.pw.phase = .ready ∧
    ({ up with pw := { phase := .boot } } : Block).pw.phase = .boot := by decide +kernel

theorem witness_SessionsAndTheAuditLog_keyFault :
    let b := mbx .inst 0x11 (List.replicate 96 0)
    b.served .pf0 0x0011 needNone (· = 96) ∧ b.sec.keyFault = false ∧ ({ b with sec := { keyFault := true } } : Block).sec.keyFault = true :=
  ⟨served_of _ _ _ _ _ (by decide +kernel), by decide +kernel, by decide +kernel⟩

theorem witness_KeysCalibrationFusesAndUnlock_keyFault :
    let b := mbx .inst 0x60 (1 :: List.replicate 195 0)
    b.sec.keyFault = false ∧ b.served .pf0 0x0060 needI (fun n => decide (n = 132 ∨ n = 196)) ∧ (b.func (fnOf .pf0)).payload.length = 196 ∧
    (mbx .inst 0x70 (List.replicate 120 0)).served .pf0 0x0070 needOI (120 ≤ ·) ∧ ({ keyFault := true } : Sec).keyFault = true :=
  ⟨rfl, served_of _ _ _ _ _ (by decide +kernel), by decide +kernel, served_of _ _ _ _ _ (by decide +kernel), rfl⟩

/-! ### Semaphores, faults, resets, power -/

theorem witness_SemaphoresAreAcquiredAndFreed :
    let k := r1 .SEM_PEEKn 63
    let b := upr [(k, 0x80000000#32)]
    (up.reaches .pf0 (r1 .SEM_ACQn 63) && up.semServes .pf0 63 && decide (CUnit.sem ∉ up.flt.refusing)) = true ∧ up.bit k F.SEM_PEEKn_GRANTED = false ∧
    b.bit k F.SEM_PEEKn_GRANTED = true ∧ b.fld k F.SEM_PEEKn_HOLDER = idOf .pf0 ∧ (upr [(k, 0x80000101#32)]).fld k F.SEM_PEEKn_HOLDER ≠ idOf .pf0 ∧
    up.semServes (.vf 1) 63 = false ∧ up.reaches .pf0 (r1 .SEM_RELn 63) = true ∧ up.roleOk .pf0 (r1 .SEM_RELn 63) = true ∧
    up.reaches .pf0 (r1 .SEM_CFGn 63) = true ∧ up.roleOk .pf0 (r1 .SEM_CFGn 63) = true := by decide +kernel

theorem witness_FaultLevelsAndConservedQuantities_moments :
    (lnk 15 5 0).lnkState (32767 % 16) = 5 ∧ (lnk 15 0 0).lnkState (32767 % 16) ≠ 5 ∧ (upr []).fld (r0 .TDU_OCC) F.TDU_OCC_MOVING = 0 ∧
    (upr [(r0 .TDU_OCC, F.TDU_OCC_MOVING.set 0 1)]).fld (r0 .TDU_OCC) F.TDU_OCC_MOVING ≠ 0 ∧
    (upr [(r1 .TDU_CHn_STATUS 1023, F.TDU_CHn_STATUS_RELEASING.set 0 1)]).bit (r1 .TDU_CHn_STATUS (32767 % 1024)) F.TDU_CHn_STATUS_RELEASING = true ∧
    (upr []).bit (r1 .TDU_CHn_STATUS 1023) F.TDU_CHn_STATUS_RELEASING = false ∧ (upr []).slotNext = [] ∧ ({ up with slotNext := [(0, 0)] } : Block).slotNext ≠ [] ∧
    (upr []).strOwner 15 = none ∧ (stream 1 {}).strOwner 15 = some 0 ∧ (stream 1 {}).strState 15 = 1 ∧
    (stream 1 {}).bit (r1 .TRC_Sx_STATUS 15) F.TRC_Sx_STATUS_RELEASING = false ∧ (upr []).ssp.next = [] ∧
    ({ up with ssp := { next := [(0, (0, false))] } } : Block).ssp.next ≠ [] ∧ (upr []).cluPart 255 = none ∧ (one (run0 3) {}).cluPart (127 / 128 % 256) = some 0 := by
  decide +kernel

theorem witness_FaultLevelsAndConservedQuantities_uses :
    (∃ f, (tdu [frag5] []).nextFrag = some f ∧ f.2 = frag5) ∧
    (let b := chan 63 1 0 {} []
     b.dmaState 63 = 1 ∧ (b.dmaCh 63).ending = none ∧ CUnit.dma ∉ b.flt.refusing ∧ b.signalled 63 (b.trigClass 63) (b.trigNum 63) false = true) ∧
    (let b := chan 63 3 0 {} []
     (b.dmaCh 63).ending = none ∧ b.signalled 63 (b.waitObj 63).1 (b.waitObj 63).2 (b.dmaCh 63).waitPol = true) ∧
    up.corrOver = false ∧ up.flt.corrDue = false ∧
    (let b : Block := { one (run0 3) {} with regs := cfg0 ++ [(r1 .TRG_OUTt_OWN 31, 0x80000000#32)] }
     (b.hosts 0 && b.holdsObject .tgu 0) = true ∧ (b.part 0).state = .running ∧ (b.hosts 1 && b.holdsObject .tgu 1) = false) :=
  ⟨⟨(0, frag5), by decide +kernel, rfl⟩, by decide +kernel, by decide +kernel, by decide +kernel, by decide +kernel, by decide +kernel⟩

theorem witness_FaultLevelsAndConservedQuantities_release :
    let b := { upr [(r1 .FLT_LOGi_W0 31, 0x90000000#32)] with flt := { unacked := 1 } }
    up.reaches .pf0 (r0 .FLT_CLR) = true ∧ up.roleOk .pf0 (r0 .FLT_CLR) = true ∧ b.fltOpen.any (fun i => decide (b.fltLevel i = 1)) = true ∧
    (up.bit (r0 .FLT_STATUS) F.FLT_STATUS_X_HELD || up.fltOpen.any (fun i => decide (up.fltLevel i = 1 ∨ up.fltLevel i = 3 ∨ up.fltLevel i = 4))) = false ∧
    b.flt.unacked < 32 := by decide +kernel

/-- A module that boots from its slots. -/
def booting (w : Fw) : Block := { pw := { phase := .boot }, fw := w }

/-- A module that boots from a flash whose slot A holds an image. -/
def bootFrom (l : List Byte) : Block := flashed 0 l (booting {})

theorem witness_ResetsAndTheBootSequence_boot :
    let w : Fw := { slotA := 2, slotB := 2, nextSlot := false }
    (({} : Block).pw.phase = .por) ∧ ({ pw := { phase := .lock } } : Block).pw.phase = .lock ∧
    (upr [(r0 .CLK_STATUS, F.CLK_STATUS_HOLDOVER.set 0 1)]).bit (r0 .CLK_STATUS) F.CLK_STATUS_HOLDOVER = true ∧ up.bit (r0 .CLK_STATUS) F.CLK_STATUS_HOLDOVER = false ∧
    (booting w).fw.slot (booting w).fw.nextSlot = 2 ∧ w.safeReq = false ∧
    (∀ x, ({ slotA := 4, slotB := 3 } : Fw).slot x ≠ 1 ∧ ({ slotA := 4, slotB := 3 } : Fw).slot x ≠ 2) ∧ ({ safeReq := true } : Fw).safeReq = true ∧
    (∀ t, ({ slotA := 1, trialA := t } : Fw).slot false = 1 ∧ ({ slotA := 1, trialA := t } : Fw).trial false = t) := by decide +kernel

/-- A slot whose image does not load, with the other slot neither TRIAL nor CONFIRMED. -/
theorem witness_ResetsAndTheBootSequence_bad :
    let b := bootFrom (List.replicate 256 0)
    b.pw.phase = .boot ∧ b.fw.safeReq = false ∧ b.fw.nextSlot = false ∧ b.fw.slot false = 2 ∧
    (Block.flashLoad { b with sec := { b.sec with keyFault := false } } 0).loadStatus 0 ≠ 0 ∧ b.fw.slot true ≠ 1 ∧ b.fw.slot true ≠ 2 := by decide +kernel

/-- A slot whose image loads; whatever the link copies hold, settings at their factory values are taken up, and a newer copy is not. -/
theorem witness_ResetsAndTheBootSequence_good :
    (∀ f, (Block.flashLoad { bootFrom (imageOf 1) with sec := { (bootFrom (imageOf 1)).sec with keyFault := f } } 0).loadStatus 0 = 0) ∧
    (∀ b : Block, b.fw.set0.valid = false → b.fw.set1.valid = false → b.takeSettings 0 0 false ≠ none) ∧
    (∀ b : Block, b.fw.set0 = SetCopy.sealed { fmt := 1 } → b.fw.set1.valid = false → b.takeSettings 0 0 false = none) := by
  refine ⟨fun f => ?_, fun b h k => ?_, fun b h k => ?_⟩
  · have e := flashLoad_imageOf 0 1 { bootFrom (imageOf 1) with sec := { (bootFrom (imageOf 1)).sec with keyFault := f } } (by decide) ⟨_, rfl⟩
    rw [e]
    clear e; revert f; decide +kernel
  · simp [Block.takeSettings, Fw.bestCopy, h, k]
  · have e : b.fw.set0.fmt = 1 := by rw [h]; rfl
    have v : b.fw.set0.valid = true := by rw [h]; decide +kernel
    simp [Block.takeSettings, Fw.bestCopy, e, v, k]

theorem witness_ResetsAndTheBootSequence_warm :
    (∀ c ∈ [2, 5], decide (2 ≤ c ∧ c ≤ 5 ∧ up.pw.phase ≠ .por ∧ up.pw.phase ≠ .lock) = true) ∧
    (∀ v < 4, (upr [(r0 .PWR_STATUS, F.PWR_STATUS_STATE.set 0 v)]).fld (r0 .PWR_STATUS) F.PWR_STATUS_STATE = v) ∧
    (∀ k < 3, leAt ((mbx .inst 0x40 [BitVec.ofNat 8 k]).func 0).payload 0 1 = k) := by decide +kernel

theorem witness_ResetsAndTheBootSequence_mailbox : ∀ k < 3, (mbx .inst 0x40 [BitVec.ofNat 8 k]).served .pf0 0x0040 needI (1 ≤ ·) :=
  fun k h => served_of _ _ _ _ _ (by revert k; decide +kernel)

theorem witness_PartitionResetsFlrAndLevelXFaults :
    let b := oper.setReg (r1 .CTL_PRST_BUSYw 7) 0x80000000#32
    up.reaches .pf0 (r1 .CTL_PRSTw 7) = true ∧ up.roleOk .pf0 (r1 .CTL_PRSTw 7) = true ∧ oper.roleOf .pf0 = .op ∧ oper.operCovers .pf0 255 = true ∧
    (b.reg (r1 .CTL_PRST_BUSYw (255 / 32))).getLsbD (255 % 32) = true ∧ (up.reg (r1 .CTL_PRST_BUSYw 7)).getLsbD 31 = false ∧
    ({ up with vfEnable := true, numVfs := 256 } : Block).vfExists 255 = true ∧ up.vfExists 0 = false ∧ Requester.mgmt ≠ .pf0 ∧ isVf .mgmt = false ∧
    (∀ n < 16, (lnk 0 7 0).lnkState n ≠ 5 ∧ (lnk 0 7 0).lnkState n ≠ 6) ∧ up.bit (r0 .CLK_STATUS) F.CLK_STATUS_ROOT_LOCK = false ∧
    (upr [(r0 .CLK_STATUS, F.CLK_STATUS_ROOT_LOCK.set 0 1)]).bit (r0 .CLK_STATUS) F.CLK_STATUS_ROOT_LOCK = true ∧
    up.fld (r0 .SEC_STATUS) F.SEC_STATUS_UNLOCK = 0 ∧ (upr [(r0 .SEC_STATUS, F.SEC_STATUS_UNLOCK.set 0 1)]).fld (r0 .SEC_STATUS) F.SEC_STATUS_UNLOCK ≠ 0 ∧
    up.pw.phase ≠ .por ∧ (loadIn 5 []).cfgState = 5 ∧ (∀ e ∈ (loadIn 5 []).cfg.mans, e.1 = 0) := by decide +kernel

/-- With the module locked, an instruction code other than two given codes exists. -/
theorem witness_PartitionResetsFlrAndLevelXFaults_tap : ∃ ir, up.fld (r0 .SEC_STATUS) F.SEC_STATUS_UNLOCK = 0 ∧ ir ≠ Config.tapBypass ∧ ir ≠ Config.tapIdcode := by
  have three : ∀ a b : BitVec 8, ∃ ir : BitVec 8, ir ≠ a ∧ ir ≠ b := by
    intro a b
    by_cases h0 : a ≠ 0 ∧ b ≠ 0
    · exact ⟨0, h0.1.symm, h0.2.symm⟩
    by_cases h1 : a ≠ 1 ∧ b ≠ 1
    · exact ⟨1, h1.1.symm, h1.2.symm⟩
    refine ⟨2, fun e => ?_, fun e => ?_⟩ <;> subst e <;> simp at h0 h1 <;> simp [h0] at h1
  obtain ⟨ir, h⟩ := three Config.tapBypass Config.tapIdcode
  exact ⟨ir, by decide +kernel, h⟩

theorem witness_FrostThawSensorsAndThrottle_states :
    up.reaches .pf0 (r0 .PWR_FROST) = true ∧ up.roleOk .pf0 (r0 .PWR_FROST) = true ∧
    (∀ v < 4, (upr [(r0 .PWR_STATUS, F.PWR_STATUS_STATE.set 0 v)]).fld (r0 .PWR_STATUS) F.PWR_STATUS_STATE = v) ∧ up.pw.warmReq = none ∧
    ({ up with pw := { phase := .ready, warmReq := some 3 } } : Block).pw.warmReq = some 3 ∧ up.pw.phase = .ready ∧ ({} : Block).pw.phase = .por := by decide +kernel

theorem witness_FrostThawSensorsAndThrottle_sites :
    let cool := List.replicate 9 ((40 : BitVec 8), (40 : BitVec 8))
    let hot := List.replicate 9 ((110 : BitVec 8), (110 : BitVec 8))
    let trips := fun (sites : List (BitVec 8 × BitVec 8)) => (List.range 9).any (fun k =>
      decide ((if 4 ≤ k ∧ k ≤ 7 then (100 : Int) else 110) ≤ max (sites.getD k (0, 0)).1.toInt (sites.getD k (0, 0)).2.toInt))
    let warm := List.replicate 9 ((99 : BitVec 8), (99 : BitVec 8))
    cool.length = 9 ∧ trips cool = false ∧ trips warm = false ∧ up.warnTemp ≤ 99 ∧ up.throtTemp ≤ 99 ∧ up.pw.hot[8]?.getD false = false ∧ up.pw.thermN = false ∧ trips hot = true ∧ up.pw.trip = false ∧ ({ up with pw := { trip := true } } : Block).pw.trip = true ∧
    (List.range 9).any (fun k => decide (up.pw.mism[k]?.getD 0 + 1 = 10)) = false ∧ (∀ n < 16, up.lnkState n ≠ 5 ∧ up.lnkState n ≠ 6) := by decide +kernel

theorem witness_RegisterWritesObeyRolesAndScopes :
    Instr.regWrite up (.lnkDevidWrite .pf0 5) = some (.pf0, r0 .LNK_DEVID, 5) ∧ ({} : Block).reaches .pf0 (r0 .LNK_DEVID) = false ∧
    up.reaches .pf0 (r0 .LNK_DEVID) = true ∧ up.roleOk .pf0 (r0 .LNK_DEVID) = true ∧ oper.reaches .pf0 (r0 .LNK_DEVID) = true ∧
    oper.roleOk .pf0 (r0 .LNK_DEVID) = false ∧ up.sec.nextSeq + 1 - up.sec.acked ≠ 98305 ∧ placeOf (0x3FFFFFF : BitVec 26).toNat = .nothing ∧
    Instr.regRead (.fireTimestampRead .pf0 31) = some (.pf0, r2 .TRG_OUTt_TSw 31 0) ∧ ({} : Block).mayRead .pf0 (r2 .TRG_OUTt_TSw 31 0) = false := by
  decide +kernel

/-- Stream 15 of partition 0, whose reset goes on. -/
def resetting (v : Nat) (w : Stream) : Block := (stream v w).setReg (r1 .CTL_PRST_BUSYw 0) 1

theorem witness_PartitionResetsFlrAndLevelXFaults_streams :
    let full := List.replicate 256 fill.page
    ((resetting 1 {}).reg (r1 .CTL_PRST_BUSYw 0)).getLsbD 0 = true ∧ (resetting 1 {}).strOwner 15 = some (0 : PartNo).toNat ∧
    ((resetting 1 { ending := some 3 }).stream 15).ending ≠ none ∧ (resetting 3 {}).strState 15 = 3 ∧ (resetting 1 {}).strState 15 = 1 ∧
    ((resetting 1 {}).stream 15).cur = none ∧ ((resetting 1 {}).stream 15).fill = none ∧
    (∀ d ∈ [[], full], let w := (resetting 2 { cur := some (4, 0, 1), fill := some fill, done := d }).stream 15
      w.ending = none ∧ w.lost = none ∧ w.cur.isSome = true ∧ w.wait = [] ∧ w.fill = some fill ∧ fill.recs.length + 12 ≤ pageRoom ∧ w.done = d) ∧
    full.length = 256 := by decide +kernel

/-- Semaphore 5 is held by DMA channel 63 of partition 0. -/
theorem witness_PartitionResetsFlrAndLevelXFaults_dmaHolder :
    let b := upr [(r1 .SEM_PEEKn 5, 0x8000023F#32)]
    b.semHeld 5 = true ∧ b.semHolder 5 = 0x200 + 63 ∧ b.dmaModule 63 = false ∧ b.dmaPart 63 = 0 := by decide +kernel

/-- A module in Thaw whose partition 0 is x, whose state before Frost was FROZEN. -/
def thawing (x : Part) : Block :=
  (one { x with state := .frost, preFrost := .frozen } {}).setFld (r0 .PWR_STATUS) F.PWR_STATUS_STATE 3

theorem witness_FrostThawSensorsAndThrottle_drains :
    (∀ x ∈ [framed, { framed with inBuf := [] }, { framed with dc := 0 }], let b := thawing x
      b.fld (r0 .PWR_STATUS) F.PWR_STATUS_STATE = 3 ∧ b.pw.warmReq = none ∧ b.hosts 0 = true ∧ (b.part 0).base_ = .frozen ∧
      (b.part 0).needsFrame = x.needsFrame ∧ (b.part 0).missing = x.missing ∧ b.bit (r1 .PART_FRZ_STATUS 0) F.PART_FRZ_STATUS_DRAINED = false) ∧
    { framed with inBuf := [] }.missing ≠ [] := by decide +kernel

theorem witness_FrostThawSensorsAndThrottle_standing :
    let hot := List.replicate 9 ((110 : BitVec 8), (110 : BitVec 8))
    let b : Block := { upr [(r1 .PWR_TEMPk 8, 110#32)] with pw := { phase := .ready, trip := true } }
    hot.length = 9 ∧ b.lastTemp 8 = 110 ∧ b.pw.trip = true ∧ b.lastTemp 0 < 110 ∧ b.pw.phase ≠ .por ∧
    up.pw.i3c.getD 0x5A = 0x5A ∧ ({ up with pw := { phase := .ready, i3c := some 9 } } : Block).pw.i3c.getD 0x5A = 9 := by decide +kernel

theorem witness_ResetsAndTheBootSequence_config :
    up.fnExists (PcieReq.read .aer).fn = true ∧ (PcieReq.sriov true 9).fn = .pf0 ∧ (PcieReq.aerClear (.vf 9)).fn = .vf 9 ∧ up.fnExists (.vf 9) = false ∧
    PcieCap.aer ∈ [PcieCap.ari, .sriov, .msix, .aer, .flr, .tags10] ∧ (2 : BitVec 3).toNat ≤ 2 ∧ ¬ (3 : BitVec 3).toNat ≤ 2 ∧
    (∀ v < 256, (up.func (1 + v)).session = none) := by decide +kernel

theorem witness_RegisterWritesObeyRolesAndScopes_bar2 :
    (up.fnExists .pf0 && decide (up.pw.phase = .ready)) = true ∧ (32767 : BitVec 26).toNat / 16 < vectorsOf (fnOf .pf0) ∧
    (32764 : BitVec 26).toNat % 16 = 12 ∧ (32760 : BitVec 26).toNat % 16 ≠ 12 ∧ ¬ (32768 : BitVec 26).toNat / 16 < vectorsOf (fnOf .pf0) ∧
    (([1, 0, 0, 0] : List Byte).headD 0).getLsbD 0 = true ∧ (([0, 0, 0, 0] : List Byte).headD 0).getLsbD 0 = false ∧
    (({} : Block).fnExists .pf0 && decide (({} : Block).pw.phase = .ready)) = false ∧ (0x107FFF : BitVec 26).toNat % 4 ≠ 0 ∧ (0x107FFF : BitVec 26).toNat < 0x108000 ∧
    placeOf (r0 .LNK_DEVID).addr = .reg (r0 .LNK_DEVID) := by decide +kernel

theorem witness_RegisterWritesObeyRolesAndScopes_places :
    ∃ n m : BitVec 26, (∃ k, placeOf n.toNat = .request k) ∧ (∃ k, placeOf m.toNat = .response k) ∧ up.reaches .pf0 (r0 .MBX_CTRL) = true ∧
    (up.func (fnOf (up.viaFn .pf0))).busy = false ∧ ({ up with funcs := [(0, asked 1 [] {})] } : Block).func 0 = asked 1 [] {} :=
  ⟨0xAFFC, 0xBFFC, ⟨_, rfl⟩, ⟨_, rfl⟩, by decide +kernel, by decide +kernel, by decide +kernel⟩

/-! ## Commands that cannot occur -/

/-- One ill-formed term for each check of well-formedness, the operands just outside their range. -/
theorem test_wf_refuses :
    [Instr.segmentReceive 0 ⟨0, 0, 0, 0, 0, 0, 1, true, []⟩, .loadBufferWrite .pf0 0 false 130 0, .weRegisterWrite .pf0 0 0 144 0, .weLoopStateWrite .pf0 0 0 8 0,
      .streamWrite .pf0 0 [], .bulkRead .pf0 0 68, .bulkRead .pf0 2 4, .bulkWrite .pf0 0 [1], .bulkWrite .pf0 0x1FFFFFC (List.replicate 8 0),
      .configExchange 0 ⟨0, 0, true, [0], 0⟩, .smpFrame ⟨2, 0, 4, 1, 5, 0, false, 7, [1], 0⟩ .ok, .flr .mgmt, .flr (.dma 0), .msixUnmask (.vf 0) 8, .msixUnmask .mgmt 0,
      .mgmtMailboxDatagram 47360 (List.replicate 15 0), .sensorRead (List.replicate 8 (0, 0)) 0, .registerWrite .pf0 false 0 [] false,
      .registerWrite .pf0 true 0 (List.replicate 513 0) false, .registerWrite .mgmt false 0 [0] false, .registerWrite .hkc true 0 [0] false,
      .registerWrite (.dma 0) false 0 [0] true, .programStoreWrite .pf0 0 [], .programStoreWrite .pf0 65535 [0, 0], .pcieConfigRequest (.aerClear .hkc),
      .pcieCompletion 0 true [], .go (.dma 0), .getInfo .hkc, .sessionLogout .fanout, .freeze .mgmt 0, .semAcq .fanout 0].all (fun i => !i.wf) = true := by
  decide +kernel

theorem test_wf_takes :
    [Instr.loadBufferWrite .pf0 0 false 129 0, .weRegisterWrite .hkc 0 0 143 0, .weLoopStateWrite (.dma 63) 0 0 7 0, .streamWrite (.vf 255) 0x7FFC [1, 2, 3],
      .bulkRead .pf0 0x1FFFFC0 64, .bulkWrite .pf0 0x1FFFFFC [1, 2, 3, 4], .msixUnmask (.vf 0) 7, .msixUnmask .pf0 2047, .flr (.vf 0),
      .mgmtMailboxDatagram 0 (List.replicate 16 0), .sensorRead (List.replicate 9 (0, 0)) 0, .registerWrite (.dma 0) false 0x3FFFFFC [0] false,
      .registerWrite (.vf 0) true 0x800 (List.replicate 512 0) true, .programStoreWrite .pf0 65520 (List.replicate 16 0), .pcieConfigRequest (.aerClear (.vf 9)),
      .pcieCompletion 0 false [], .go .mgmt, .coldReset].all Instr.wf = true := by decide +kernel

/-! ## Worked examples of the spec -/

/-- Example 2.1: the payload of the word, taken apart. -/
theorem test_example_2_1_word :
    bpOpc 0x1E800008401684BC021231#96 = 1 ∧
    bpArgs 0x1E800008401684BC021231#96 = ⟨0xE800, 0x0010, 0x1005, 0x1425, 0x1C02, 0x123, 0, true⟩ := by decide +kernel

/-- Example 2.1: an odd DC with A and B true and C false gives 1, and an even one 0. -/
theorem test_example_2_1_result :
    let w := bpArgs 0x1E800008401684BC021231#96
    let c : Cluster := { vs := [(9 * 4096 + 0x010, true)], latch := [(5, true)] }
    (one { run0 3 with dc := 1 } c).evalBp 0 0 9 w = some true ∧ (one { run0 3 with dc := 2 } c).evalBp 0 0 9 w = some false := by decide +kernel

/-- Example 3.1: rounding to even, the sign bits of the product, and the unbiased exponents. -/
theorem test_example_3_1 : cround 1574400 10 = 1538 ∧ redundant 64 1574400 = 42 ∧ expx 0x3C01 10 5 false = 0 ∧ expx 0x3E00 10 5 false = 0 := by decide +kernel

/-- Example 5.2: the effective margin. -/
theorem test_example_5_2 : marginOf 18 16 16 512 = (16, 23) := by decide

/-- Example 9.1: the offset of the Sync in units of 2^-16 ns. -/
theorem test_example_9_1 :
    let b := upr [(r1 .LNK_STATUSn 2, F.LNK_STATUSn_STATE.set 0 5), (r0 .TIM_CTRL, F.TIM_CTRL_SRC.set 0 1), (r0 .TIM_STATUS, F.TIM_STATUS_ACT_PORT.set 0 2),
      (r1 .SEC_ASYM_En 2, 0x6000#32), (r1 .TIM_PORTn 2, F.TIM_PORTn_ROLE0.set 0 2), (r1 .TIM_MPDn 2, F.TIM_MPDn_VALID.set (F.TIM_MPDn_MPD.set 0 3678208) 1)]
    (b.syncAccept 2 false (327683948544 : Int) (327680000000 : Int) (b.asym 2)).reg (r0 .TIM_OFFSET) = 0x0003C000#32 := by decide +kernel

/-- Example 16.1: the asymmetry of port 2, and the clamped deskew of channel 1,100 (R491, R492). -/
theorem test_example_16_1 :
    let b : Block := { upr [(r1 .SEC_ASYM_Fn 2, 0x4000#32)] with
      sec := { calInst := [(65538, 0x2000#32), (132172, 3000#32)], calFactory := [(1100, 40#32)] } }
    let d : Block := { b with sec := { b.sec with calOper := [(132172, 7990#32)] } }
    (b.calShow 65538).reg (r1 .SEC_ASYM_En 2) = 0x6000#32 ∧ (b.calShow 132172).fld (r1 .VPT_CHc_STAT 1100) F.VPT_CHc_STAT_DESKEW = 3040 ∧
    (d.calShow 132172).fld (r1 .VPT_CHc_STAT 1100) F.VPT_CHc_STAT_DESKEW = 0x1F40 ∧ d.deskewClamped 1100 = true := by decide +kernel

/-- Example 20.1: the register at 0x01AB_1658, and the offsets of a register of each kind of array. -/
theorem test_example_20_1 : regAt 0x01AB1658 = some (r3 .WE_LPn_CNT 0xAB 1 0) ∧ (r3 .WE_LPn_CNT 0xAB 1 0).addr = 0x01AB1658 := by decide +kernel

/-- The CRC-32 of R214 has the check value of the IEEE 802.3 polynomial over the digits 1 to 9. -/
theorem test_crc32 : crc32 [0x31, 0x32, 0x33, 0x34, 0x35, 0x36, 0x37, 0x38, 0x39] = 0xCBF43926#32 := by decide +kernel

/-! ## Single steps -/

theorem test_reset_queue : Machine.State.reset.queueOk = true := by decide

/-- A step takes the command at the front and keeps the rest. -/
theorem test_step_takes_the_front :
    (match step ⟨[.porRelease, .rootPllLock], {}⟩ with
    | .next s => decide (s.pending = [.rootPllLock] ∧ s.b.pw.phase = .lock)
    | _ => false) = true := by decide +kernel

/-- The boot from reset reaches ready in three commands: release, lock, firmware ready (R518, R519). -/
theorem test_boot :
    (match exec .rootPllLock (st { pw := { phase := .lock } }) with
    | .next s => decide (s.b.pw.phase = .boot ∧ s.b.bit (r0 .CLK_STATUS) F.CLK_STATUS_ROOT_LOCK = true)
    | _ => false) = true := by decide +kernel

end Sys2Proof.Tests
end

/-!
PROOFS. Writes and reads of single registers (R15 to R19): what a refused write leaves in the audit log, and what REGISTER_WRITE does at each place of BAR0 and BAR2.
-/
namespace Sys2Proof.Machine

/-! ## Events and the audit log -/

@[simp] theorem Block.msix_regs (b : Block) (fn vec : Nat) (evt : Option (Nat × Nat)) : (b.msix fn vec evt).regs = b.regs := by
  unfold Block.msix
  split_ifs <;> rfl

@[simp] theorem Block.msix_sec (b : Block) (fn vec : Nat) (evt : Option (Nat × Nat)) : (b.msix fn vec evt).sec = b.sec := by
  unfold Block.msix
  split_ifs <;> rfl

@[simp] theorem Block.evtFrag_regs (b : Block) (e : Nat) (t : Stamp) : (b.evtFrag e t).regs = b.regs := by
  unfold Block.evtFrag
  split_ifs <;> rfl

@[simp] theorem Block.evtFrag_sec (b : Block) (e : Nat) (t : Stamp) : (b.evtFrag e t).sec = b.sec := by
  unfold Block.evtFrag
  split_ifs <;> rfl

@[simp] theorem Block.raiseAt_sec (b : Block) (e : Nat) (t : Stamp) : (b.raiseAt e t).sec = b.sec := by
  unfold Block.raiseAt
  split_ifs <;> simp [Block.setPend]

/-- An event touches no registers but EVT_PENDw. -/
theorem Block.raiseAt_regsKept (b : Block) (e : Nat) (t : Stamp) : b.regsKept (b.raiseAt e t) [.EVT_PENDw] := by
  intro k hk
  have hne : k ≠ r1 .EVT_PENDw (e / 32) := fun h => hk (by simp [h, r1])
  have hpend : (b.setPend e).reg k = b.reg k := by simp [Block.setPend, hne]
  unfold Block.raiseAt
  split_ifs
  · rfl
  · exact (Block.reg_congr (by simp) k).trans hpend
  · exact (Block.reg_congr (by simp) k).trans hpend

@[simp] theorem Block.raiseIf_sec (b : Block) (x : Bool) (e : Nat) : (b.raiseIf x e).sec = b.sec := by
  cases x with
  | false => rfl
  | true => exact b.raiseAt_sec e b.now

theorem Block.raiseIf_regsKept (b : Block) (x : Bool) (e : Nat) : b.regsKept (b.raiseIf x e) [.EVT_PENDw] := by
  cases x with
  | false => exact fun _ _ => rfl
  | true => exact b.raiseAt_regsKept e b.now

/-- Dropping fewer elements than stand before a new last one keeps that one last. -/
theorem getLast?_drop_append_singleton {α : Type} (l : List α) (a : α) (n : Nat) (h : n ≤ l.length) :
    ((l ++ [a]).drop n).getLast? = some a := by
  simp [List.drop_append_of_le_length h]

/-- The new entry is the last of the log, whatever older ones leave the chip (R485). -/
theorem Block.auditFull_audited (b : Block) (typ : Nat) (role : Role) (slot src res : Nat) (detail : List Byte) :
    b.audited (b.auditFull typ role slot src res detail) typ role slot src res detail := by
  unfold Block.audited Block.auditFull
  simp only [Block.raiseIf_sec]
  exact ⟨rfl, _, getLast?_drop_append_singleton _ _ _ (by omega), rfl, rfl, rfl, rfl, rfl, rfl, rfl, rfl, rfl⟩

theorem Block.auditFull_regsKept (b : Block) (typ : Nat) (role : Role) (slot src res : Nat) (detail : List Byte) :
    b.regsKept (b.auditFull typ role slot src res detail) [.SEC_AUDIT_SEQ_LO, .SEC_AUDIT_SEQ_HI, .EVT_PENDw] := by
  intro k hk
  simp only [List.mem_cons, List.not_mem_nil, or_false, not_or] at hk
  obtain ⟨hlo, hhi, hpend⟩ := hk
  have hlo' : k ≠ r0 .SEC_AUDIT_SEQ_LO := fun h => hlo (by rw [h]; rfl)
  have hhi' : k ≠ r0 .SEC_AUDIT_SEQ_HI := fun h => hhi (by rw [h]; rfl)
  unfold Block.auditFull
  rw [Block.raiseIf_regsKept _ _ _ k (by simpa using hpend)]
  simp only [Block.setReg64, Block.reg_setReg, if_neg hlo', if_neg hhi']
  rfl

/-- Short of the threshold of event 7 an entry touches the log and the registers alone. -/
theorem Block.auditFull_frame (b : Block) (typ : Nat) (role : Role) (slot src res : Nat) (detail : List Byte)
    (h : b.sec.nextSeq + 1 - b.sec.acked ≠ 98305) :
    let t := b.auditFull typ role slot src res detail
    t = { b with regs := t.regs, sec := t.sec } := by
  unfold Block.auditFull
  simp only [h, decide_false]
  rfl

/-! ## A write of one register -/

/-- What a write of `v` to register `k` that is refused for the role of `r` leaves (R19): one audit entry of type 0x04, its SEQ registers, and event 7 at its threshold. -/
def Block.refusalLogged (b t : Block) (r : Requester) (k : RegKey) (v : Word) : Prop :=
  b.audited t 0x04 (b.roleOf r) (b.slotOf r) (idOf r) 0 (leBytes 4 k.addr ++ leBytes 4 v.toNat) ∧
    b.regsKept t [.SEC_AUDIT_SEQ_LO, .SEC_AUDIT_SEQ_HI, .EVT_PENDw] ∧
    (b.sec.nextSeq + 1 - b.sec.acked ≠ 98305 → t = { b with regs := t.regs, sec := t.sec })

theorem Block.auditRefused_logged (b : Block) (r : Requester) (k : RegKey) (v : Word) :
    b.refusalLogged (b.auditRefused r k.addr v) r k v :=
  ⟨b.auditFull_audited _ _ _ _ _ _, b.auditFull_regsKept _ _ _ _ _ _, b.auditFull_frame _ _ _ _ _ _⟩

section
variable {b : Block} {r : Requester} {k : RegKey} (v : Word) (f : Block → Block)

theorem Block.hostWrite_unreached (hr : b.reaches r k = false) : b.hostWrite r k v f = b := by simp [Block.hostWrite, hr]

theorem Block.hostWrite_refused (hr : b.reaches r k = true) (ho : b.roleOk r k = false) :
    b.hostWrite r k v f = b.auditRefused r k.addr v := by simp [Block.hostWrite, hr, ho]

theorem Block.hostWrite_granted (hr : b.reaches r k = true) (ho : b.roleOk r k = true) : b.hostWrite r k v f = f b := by
  simp [Block.hostWrite, hr, ho]

theorem Block.hostRead_hidden (g : Block → Block × Word) (h : b.mayRead r k = false) :
    b.hostRead r k g = { b with reply := leBytes 4 0 } := by simp [Block.hostRead, h]

end

/-- A command that is one register write passes through the check of page and role, whatever its effect. -/
theorem exec_of_regWrite {s : State} {i : Instr} {r : Requester} {k : RegKey} {v : Word} (h : Instr.regWrite s.b i = some (r, k, v)) :
    ∃ f, exec i s = .next { s with b := s.b.hostWrite r k v f } := by
  unfold Instr.regWrite at h
  split at h <;> cases h <;> exact ⟨_, rfl⟩

/-- A command that is one register read passes through the check of scope. -/
theorem exec_of_regRead {s : State} {i : Instr} {r : Requester} {k : RegKey} (h : Instr.regRead i = some (r, k)) :
    ∃ g, exec i s = .next { s with b := s.b.hostRead r k g } := by
  unfold Instr.regRead at h
  split at h <;> cases h <;> exact ⟨_, rfl⟩

/-! ## REGISTER_WRITE of BAR0 -/

/-- The word that the bytes of a word spell. -/
theorem ofNat_leNat_leBytes (v : Word) : BitVec.ofNat 32 (leNat (leBytes 4 v.toNat)) = v := by
  apply BitVec.eq_of_toNat_eq
  simp only [leBytes, leNat, BitVec.toNat_ofNat]
  omega

/-- What is no multiple of 4 names nothing (R452). -/
theorem aligned_of_placeOf {off : Nat} {x : Place} (h : placeOf off = x) (hx : x ≠ .nothing) : off % 4 = 0 := by
  by_contra hoff
  exact hx (by rw [← h, placeOf, if_pos (.inl hoff)])

/-- The stream window holds no register. -/
theorem placeOf_stream {off : Nat} (ha : off % 4 = 0) (h : 0x108000 ≤ off ∧ off < 0x110000) : placeOf off = .stream := by
  have hout : ¬ (off % 4 ≠ 0 ∨ 0x04000000 ≤ off) := by omega
  have hwin : windowAt off = some .stream := by
    unfold windowAt
    rw [if_neg (by omega), if_neg (by omega), if_neg (by omega), if_neg (by omega), if_pos h]
  rw [placeOf, if_neg hout, hwin]

theorem exec_registerWrite (s : State) (r : Requester) (bar2 : Bool) (off : BitVec 26) (l : List Byte) (poisoned : Bool) :
    exec (.registerWrite r bar2 off l poisoned) s = .next { s with b := s.b.hostStore r bar2 off.toNat l poisoned } := rfl

/-- One that is not poisoned goes to BAR2 or BAR0. -/
theorem exec_registerWrite_clean (s : State) (r : Requester) (bar2 : Bool) (off : BitVec 26) (l : List Byte) :
    exec (.registerWrite r bar2 off l false) s =
      .next { s with b := if bar2 then s.b.bar2Write r off.toNat l else s.b.barStore r off.toNat l } := rfl

/-- REGISTER_WRITE of an aligned word of BAR0. -/
theorem exec_registerWrite_word (s : State) (r : Requester) (off : BitVec 26) (v : Word) (ha : off.toNat % 4 = 0) :
    exec (.registerWrite r false off (leBytes 4 v.toNat) false) s = .next { s with b := s.b.busWrite r off.toNat v } := by
  rw [exec_registerWrite_clean, if_neg (by decide), Block.barStore, if_pos ⟨ha, rfl⟩, ofNat_leNat_leBytes]

/-- The same at a place that is not nothing. -/
theorem exec_registerWrite_place {s : State} (r : Requester) {off : BitVec 26} (v : Word) {x : Place} (h : placeOf off.toNat = x) (hx : x ≠ .nothing) :
    exec (.registerWrite r false off (leBytes 4 v.toNat) false) s = .next { s with b := s.b.busWrite r off.toNat v } :=
  exec_registerWrite_word s r off v (aligned_of_placeOf h hx)

/-- A register without a command of its own is written by its access codes, behind the check of page and role. -/
theorem Block.regWrite_plain (b : Block) (r : Requester) {k : RegKey} (v : Word) (hk : k.name ∈ plainRegisters) :
    b.regWrite r k v = b.hostWrite r k v (·.plainWrite k v) := by
  have hn : k.name ∉ actionRegisters := by simpa using (List.mem_filter.mp hk).2
  unfold Block.regWrite
  split
  case h_72 => rfl
  all_goals
    rename_i hname
    exact absurd (by rw [hname]; decide) hn

theorem Block.busWrite_reg (b : Block) (r : Requester) {off : Nat} (v : Word) {k : RegKey} (h : placeOf off = .reg k) :
    b.busWrite r off v = b.regWrite r k v := by rw [Block.busWrite, h]

/-- What holds after a change of one function: that function, the others, and everything beside them. -/
theorem Block.modFunc_frame (b : Block) (n : Nat) (f : Func → Func) :
    (b.modFunc n f).func n = f (b.func n) ∧ (∀ g, g ≠ n → (b.modFunc n f).func g = b.func g) ∧
      b.modFunc n f = { b with funcs := (b.modFunc n f).funcs } :=
  ⟨by simp, fun g hg => by simp [hg], rfl⟩

/-- A register whose partition has not committed takes the word by its access codes, and no other register changes. -/
theorem Block.plainWrite_unlocked (b : Block) (k : RegKey) (v : Word) (h : b.unlocked k = true) :
    (b.plainWrite k v).reg k = k.name.merge (b.reg k) v ∧ b.onlyRegs (b.plainWrite k v) [k] := by
  rw [Block.plainWrite, if_pos h]
  exact ⟨by simp [Block.writeCodes], rfl, fun j hj => by simp_all [Block.writeCodes]⟩

theorem Block.plainWrite_locked (b : Block) (k : RegKey) (v : Word) (h : b.unlocked k = false) : b.plainWrite k v = b := by
  simp [Block.plainWrite, h]

/-- The request buffer takes a word of a requester that reaches its mailbox while no command is served (R457, R458). -/
theorem Block.requestWrite_of_may (b : Block) (r : Requester) (w : Nat) (v : Word)
    (h : (b.reaches r (r0 .MBX_CTRL) && !(b.func (fnOf (b.viaFn r))).busy) = true) :
    b.requestWrite r w v = b.modFunc (fnOf (b.viaFn r)) (fun x => { x with req := putBytes x.req (4 * w) (leBytes 4 v.toNat) }) :=
  if_pos (by simpa using h)

theorem Block.requestWrite_of_not (b : Block) (r : Requester) (w : Nat) (v : Word)
    (h : (b.reaches r (r0 .MBX_CTRL) && !(b.func (fnOf (b.viaFn r))).busy) = false) : b.requestWrite r w v = b :=
  if_neg (by simpa using h)

/-- Outside the stream window an access that is not aligned does nothing (R452). -/
theorem Block.barStore_unaligned (b : Block) (r : Requester) {off : Nat} (l : List Byte) (ha : off % 4 ≠ 0)
    (hw : off < 0x108000 ∨ 0x110000 ≤ off) : b.barStore r off l = b := by
  rw [Block.barStore, if_neg (fun h => ha h.1), if_neg (by omega), if_neg (fun h => ha h.1)]

/-- A register takes no access of another length than 4 bytes (R452). -/
theorem Block.barStore_reg_length (b : Block) (r : Requester) {off : Nat} (l : List Byte) {k : RegKey} (hk : placeOf off = .reg k)
    (hl : l.length ≠ 4) : b.barStore r off l = b := by
  have ha : off % 4 = 0 := aligned_of_placeOf hk (by simp)
  have hw : ¬ (0x108000 ≤ off ∧ off < 0x110000) := fun h => by simp [placeOf_stream ha h] at hk
  rw [Block.barStore, if_neg (fun h => hl h.2), if_neg hw, hk]
  exact ite_self _

/-! ## REGISTER_WRITE of BAR2 -/

/-- BAR2 takes a write: its function is served, and the bytes are an aligned word of an entry of its table (R451). -/
def Block.bar2Takes (b : Block) (r : Requester) (off : Nat) (l : List Byte) : Prop :=
  b.bar2Serves r = true ∧ off % 4 = 0 ∧ l.length = 4 ∧ off / 16 < vectorsOf (fnOf r)

theorem Block.bar2Takes_iff (b : Block) (r : Requester) (off : Nat) (l : List Byte) :
    (b.fnExists r && decide (b.pw.phase = .ready) && decide (off % 4 = 0 ∧ l.length = 4 ∧ off / 16 < vectorsOf (fnOf r))) = true ↔
      b.bar2Takes r off l := by
  simp [Block.bar2Takes, Block.bar2Serves]

section
variable {b : Block} {r : Requester} {off : Nat} {l : List Byte}

theorem Block.bar2Write_refused (h : ¬ b.bar2Takes r off l) :
    b.bar2Write r off l = b := if_neg h

variable (h : b.bar2Takes r off l)
include h

theorem Block.bar2Write_table (hc : off % 16 ≠ 12) :
    b.bar2Write r off l =
      b.modFunc (fnOf r) (fun f => { f with msixTab := NMap.set 0 f.msixTab (off / 4) (BitVec.ofNat 32 (leNat l)) }) :=
  (if_pos h).trans (if_neg hc)

theorem Block.bar2Write_control (hc : off % 16 = 12) :
    b.bar2Write r off l = if (l.headD 0).getLsbD 0 then b.vecMask (fnOf r) (off / 16) else b.vecUnmask (fnOf r) (off / 16) :=
  (if_pos h).trans (if_pos hc)

end

theorem vectorsOf_le (fn : Nat) : vectorsOf fn ≤ 2048 := by
  unfold vectorsOf
  split_ifs <;> omega

/-- MSIX_UNMASK of a vector that the function has. -/
theorem exec_msixUnmask {s : State} {r : Requester} {v : Nat} (hs : s.b.bar2Serves r = true) (hv : v < vectorsOf (fnOf r)) :
    exec (.msixUnmask r (BitVec.ofNat 11 v)) s = .next { s with b := s.b.vecUnmask (fnOf r) v } := by
  have hvec : (BitVec.ofNat 11 v).toNat = v := by
    have := vectorsOf_le (fnOf r)
    simp only [BitVec.toNat_ofNat]
    omega
  show execMsixUnmask r (BitVec.ofNat 11 v) s = _
  simp only [execMsixUnmask, State.run_eq, hvec, hs, hv, and_self, if_true]

/-- Poisoned data of a PCIe function are reported and discarded (Table 15.1). -/
theorem Block.hostStore_poisoned (b : Block) {r : Requester} (bar2 : Bool) (off : Nat) (l : List Byte) (h : r = .pf0 ∨ isVf r = true) :
    b.hostStore r bar2 off l true = b.aerReport r := by
  have hp : (true && (isVf r || decide (r = .pf0))) = true := by
    rcases h with rfl | h
    · rfl
    · simp [h]
  rw [Block.hostStore, if_pos hp]

/-! ## Each form of access, from the state -/

/-- Commands that are a write of one register (R19). -/
theorem regWrite_obeys_roles {s : State} {i : Instr} {r : Requester} {k : RegKey} {v : Word} (h : Instr.regWrite s.b i = some (r, k, v)) :
    (s.b.reaches r k = false → exec i s = .next s) ∧
    (s.b.reaches r k = true → s.b.roleOk r k = false → ∃ t, exec i s = .next t ∧ s.b.refusalLogged t.b r k v) := by
  obtain ⟨f, hf⟩ := exec_of_regWrite h
  refine ⟨fun hr => ?_, fun hr ho => ⟨_, hf, ?_⟩⟩
  · rw [hf, Block.hostWrite_unreached v f hr]
  · rw [Block.hostWrite_refused v f hr ho]
    exact s.b.auditRefused_logged r k v

section
variable (s : State) (r : Requester) (off : BitVec 26) (v : Word)

/-- REGISTER_WRITE at a register that has no command of its own. -/
theorem registerWrite_plain_obeys_roles {k : RegKey} (hp : placeOf off.toNat = .reg k) (hk : k.name ∈ plainRegisters) :
    (s.b.reaches r k = false → exec (.registerWrite r false off (leBytes 4 v.toNat) false) s = .next s) ∧
    (s.b.reaches r k = true → s.b.roleOk r k = false → ∃ t, exec (.registerWrite r false off (leBytes 4 v.toNat) false) s = .next t ∧
      s.b.refusalLogged t.b r k v) ∧
    (s.b.reaches r k = true → s.b.roleOk r k = true → s.b.unlocked k = true →
      ∃ t, exec (.registerWrite r false off (leBytes 4 v.toNat) false) s = .next t ∧
        t.b.reg k = k.name.merge (s.b.reg k) v ∧ s.b.onlyRegs t.b [k]) ∧
    (s.b.reaches r k = true → s.b.roleOk r k = true → s.b.unlocked k = false →
      exec (.registerWrite r false off (leBytes 4 v.toNat) false) s = .next s) := by
  have hx : exec (.registerWrite r false off (leBytes 4 v.toNat) false) s =
      .next { s with b := s.b.hostWrite r k v (·.plainWrite k v) } := by
    rw [exec_registerWrite_place r v hp (by simp), Block.busWrite_reg _ _ _ hp, Block.regWrite_plain _ _ _ hk]
  rw [hx]
  refine ⟨fun hr => ?_, fun hr ho => ⟨_, rfl, ?_⟩, fun hr ho hu => ⟨_, rfl, ?_⟩, fun hr ho hu => ?_⟩
  · rw [Block.hostWrite_unreached _ _ hr]
  · rw [Block.hostWrite_refused _ _ hr ho]
    exact s.b.auditRefused_logged r k v
  · rw [Block.hostWrite_granted _ _ hr ho]
    exact s.b.plainWrite_unlocked k v hu
  · rw [Block.hostWrite_granted _ _ hr ho, Block.plainWrite_locked _ _ _ hu]

/-- REGISTER_WRITE at a word of the request buffer (R458). -/
theorem registerWrite_request {n : Nat} (hp : placeOf off.toNat = .request n) :
    exec (.registerWrite r false off (leBytes 4 v.toNat) false) s = .next { s with b := s.b.requestWrite r n v } := by
  rw [exec_registerWrite_place r v hp (by simp), Block.busWrite, hp]

/-- REGISTER_WRITE at a word of the response buffer. -/
theorem registerWrite_response {n : Nat} (hp : placeOf off.toNat = .response n) :
    exec (.registerWrite r false off (leBytes 4 v.toNat) false) s = .next s := by
  rw [exec_registerWrite_place r v hp (by simp), Block.busWrite, hp]

/-- REGISTER_WRITE outside every register and window. -/
theorem registerWrite_nothing (ha : off.toNat % 4 = 0) (hp : placeOf off.toNat = .nothing) :
    exec (.registerWrite r false off (leBytes 4 v.toNat) false) s = .next s := by
  rw [exec_registerWrite_word s r off v ha, Block.busWrite, hp]

end

theorem exec_registerWrite_poisoned (s : State) {r : Requester} (bar2 : Bool) (off : BitVec 26) (l : List Byte) (h : r = .pf0 ∨ isVf r = true) :
    exec (.registerWrite r bar2 off l true) s = .next { s with b := s.b.aerReport r } := by
  rw [exec_registerWrite, Block.hostStore_poisoned _ _ _ _ h]

section
variable (s : State) (r : Requester) (off : BitVec 26) (l : List Byte)

theorem registerWrite_bar2_refused
    (h : (s.b.fnExists r && decide (s.b.pw.phase = .ready) && decide (off.toNat % 4 = 0 ∧ l.length = 4 ∧ off.toNat / 16 < vectorsOf (fnOf r))) = false) :
    exec (.registerWrite r true off l false) s = .next s := by
  rw [exec_registerWrite_clean, if_pos rfl, Block.bar2Write_refused (fun hok => Bool.false_ne_true (h.symm.trans ((s.b.bar2Takes_iff _ _ _).mpr hok)))]

variable (h : s.b.bar2Takes r off.toNat l)
include h

/-- A word of the table that is no control word takes its value (R451). -/
theorem registerWrite_bar2_table (hc : off.toNat % 16 ≠ 12) :
    ∃ t, exec (.registerWrite r true off l false) s = .next t ∧
      NMap.get 0 (t.b.func (fnOf r)).msixTab (off.toNat / 4) = BitVec.ofNat 32 (leNat l) ∧
      (∀ w, w ≠ off.toNat / 4 → NMap.get 0 (t.b.func (fnOf r)).msixTab w = NMap.get 0 (s.b.func (fnOf r)).msixTab w) ∧
      (∀ g, g ≠ fnOf r → t.b.func g = s.b.func g) ∧ t.b = { s.b with funcs := t.b.funcs } := by
  rw [exec_registerWrite_clean, if_pos rfl, Block.bar2Write_table h hc]
  refine ⟨_, rfl, ?_, fun w hw => ?_, (s.b.modFunc_frame _ _).2⟩
  · simp
  · simp [hw]

/-- A control word with bit 0 set masks its vector. -/
theorem registerWrite_bar2_mask (hc : off.toNat % 16 = 12) (hb : (l.headD 0).getLsbD 0 = true) :
    ∃ t, exec (.registerWrite r true off l false) s = .next t ∧
      t.b.func (fnOf r) =
        { s.b.func (fnOf r) with unmasked := (s.b.func (fnOf r)).unmasked.filter (fun x => decide (x ≠ off.toNat / 16)) } ∧
      (∀ g, g ≠ fnOf r → t.b.func g = s.b.func g) ∧ t.b = { s.b with funcs := t.b.funcs } := by
  rw [exec_registerWrite_clean, if_pos rfl, Block.bar2Write_control h hc, if_pos hb]
  exact ⟨_, rfl, s.b.modFunc_frame _ _⟩

/-- A control word with bit 0 clear is MSIX_UNMASK of its vector. -/
theorem registerWrite_bar2_unmask (hc : off.toNat % 16 = 12) (hb : (l.headD 0).getLsbD 0 = false) :
    exec (.registerWrite r true off l false) s = exec (.msixUnmask r (BitVec.ofNat 11 (off.toNat / 16))) s := by
  have ⟨hs, _, _, hv⟩ := h
  rw [exec_registerWrite_clean, if_pos rfl, Block.bar2Write_control h hc, hb, exec_msixUnmask hs hv]
  rfl

end

/-- A poisoned write sets the AER status of its function alone, where the function is served (Table 15.1). -/
theorem registerWrite_poisoned (s : State) {r : Requester} (bar2 : Bool) (off : BitVec 26) (l : List Byte) (h : r = .pf0 ∨ isVf r = true) :
    (s.b.bar2Serves r = false → exec (.registerWrite r bar2 off l true) s = .next s) ∧
    (s.b.bar2Serves r = true → ∃ t, exec (.registerWrite r bar2 off l true) s = .next t ∧
      t.b.func (fnOf r) = { s.b.func (fnOf r) with aerPoison := true } ∧
      (∀ g, g ≠ fnOf r → t.b.func g = s.b.func g) ∧ t.b = { s.b with funcs := t.b.funcs }) := by
  rw [exec_registerWrite_poisoned s bar2 off l h, Block.aerReport]
  refine ⟨fun hs => ?_, fun hs => ⟨_, rfl, ?_⟩⟩
  · rw [if_neg (by simp [hs])]
  · rw [if_pos hs]
    exact s.b.modFunc_frame _ _

/-! ## The obligation -/

/-- Settles O60: every command that is a register access passes through one check of page, role and scope, and a refusal is one audit entry; REGISTER_WRITE is
followed to the place that its offset names. -/
theorem registerWritesObeyRolesAndScopes : Obligations.RegisterWritesObeyRolesAndScopes := by
  unfold Obligations.RegisterWritesObeyRolesAndScopes
  refine ⟨fun s i r k v h => regWrite_obeys_roles h, fun s r off v => ⟨registerWrite_nothing s r off v, fun n => registerWrite_response s r off v,
    fun n hp => ?_, fun k hp hk => ?_⟩, fun s r off l => ?_, fun s i r k h hm => ?_⟩
  · rw [registerWrite_request s r off v hp]
    refine ⟨fun h => ?_, fun h => ⟨_, rfl, ?_⟩⟩
    · rw [Block.requestWrite_of_not _ _ _ _ h]
    · rw [Block.requestWrite_of_may _ _ _ _ h]
      exact s.b.modFunc_frame _ _
  · obtain ⟨hreach, hrefuse, hwrite⟩ := registerWrite_plain_obeys_roles s r off v hp hk
    refine ⟨hreach, fun hr ho => ?_, hwrite⟩
    obtain ⟨t, ht, haudit, hregs, -⟩ := hrefuse hr ho
    exact ⟨t, ht, haudit, hregs⟩
  · refine ⟨fun ha hw => ?_, fun k hk hl => ?_, registerWrite_bar2_refused s r off l,
      fun h => registerWrite_bar2_table s r off l ((s.b.bar2Takes_iff _ _ _).mp h),
      fun h => registerWrite_bar2_mask s r off l ((s.b.bar2Takes_iff _ _ _).mp h),
      fun h => registerWrite_bar2_unmask s r off l ((s.b.bar2Takes_iff _ _ _).mp h),
      fun bar2 h => registerWrite_poisoned s bar2 off l h⟩
    · rw [exec_registerWrite_clean, if_neg (by decide), Block.barStore_unaligned _ _ _ ha hw]
    · rw [exec_registerWrite_clean, if_neg (by decide), Block.barStore_reg_length _ _ _ hk hl]
  · obtain ⟨g, hg⟩ := exec_of_regRead h
    rw [hg, Block.hostRead_hidden g hm]

end Sys2Proof.Machine

/-!
PROOFS. The hardware semaphores (R468 to R472): what the word of a semaphore says, and what SEM_ACQ, SEM_REL and SEM_FORCE do to it.
-/
namespace Sys2Proof.Machine

/-! ## The word of a semaphore (Table 15.14) -/

theorem b2n_le_one (x : Bool) : b2n x ≤ 1 := by cases x <;> decide

theorem b2n_ne_zero (x : Bool) : decide (b2n x ≠ 0) = x := by cases x <;> rfl

/-- Requester IDs fit HOLDER (Table 15.9). -/
theorem idOf_lt (r : Requester) : idOf r < 1024 := by
  cases r <;> simp only [idOf] <;> omega

section
variable (held broken : Bool) (holder : Nat)

theorem semWord_toNat : (semWord held broken holder).toNat = b2n held * 2 ^ 31 + b2n broken * 2 ^ 30 + holder % 1024 := by
  have hh := b2n_le_one held
  have hb := b2n_le_one broken
  rw [semWord, BitVec.toNat_ofNat]
  omega

theorem granted_get_semWord : F.SEM_PEEKn_GRANTED.get (semWord held broken holder) = b2n held := by
  have hh := b2n_le_one held
  have hb := b2n_le_one broken
  simp only [Fld.get, bitsOf, semWord_toNat, Nat.shiftRight_eq_div_pow]
  omega

theorem broken_get_semWord : F.SEM_PEEKn_BROKEN.get (semWord held broken holder) = b2n broken := by
  have hb := b2n_le_one broken
  simp only [Fld.get, bitsOf, semWord_toNat, Nat.shiftRight_eq_div_pow]
  omega

theorem holder_get_semWord : F.SEM_PEEKn_HOLDER.get (semWord held broken holder) = holder % 1024 := by
  simp only [Fld.get, bitsOf, semWord_toNat, Nat.shiftRight_eq_div_pow]
  omega

variable {b : Block} {n : Nat}

theorem Block.semHeld_of_reg (h : b.reg (r1 .SEM_PEEKn n) = semWord held broken holder) :
    b.bit (r1 .SEM_PEEKn n) F.SEM_PEEKn_GRANTED = held := by
  rw [Block.bit, Block.fld, h, granted_get_semWord, b2n_ne_zero]

theorem Block.semBroken_of_reg (h : b.reg (r1 .SEM_PEEKn n) = semWord held broken holder) :
    b.bit (r1 .SEM_PEEKn n) F.SEM_PEEKn_BROKEN = broken := by
  rw [Block.bit, Block.fld, h, broken_get_semWord, b2n_ne_zero]

theorem Block.semHolder_of_reg (h : b.reg (r1 .SEM_PEEKn n) = semWord held broken holder) :
    b.fld (r1 .SEM_PEEKn n) F.SEM_PEEKn_HOLDER = holder % 1024 := by
  rw [Block.fld, h, holder_get_semWord]

end

theorem Block.semHolder_lt (b : Block) (n : Nat) : b.semHolder n < 1024 := Nat.mod_lt _ (by decide)

/-! ## Freeing a semaphore -/

theorem Block.setReg_onlyRegs (b : Block) (k : RegKey) (v : Word) : b.onlyRegs (b.setReg k v) [k] := by
  refine ⟨rfl, fun j hj => ?_⟩
  rw [Block.reg_setReg, if_neg (by simpa using hj)]

theorem Block.semFree_effect (b : Block) (n : Nat) (broken : Bool) :
    (b.semFree n broken).bit (r1 .SEM_PEEKn n) F.SEM_PEEKn_GRANTED = false ∧
      (b.semFree n broken).bit (r1 .SEM_PEEKn n) F.SEM_PEEKn_BROKEN = broken ∧
      b.onlyRegs (b.semFree n broken) [r1 .SEM_PEEKn n] := by
  have hreg : (b.semFree n broken).reg (r1 .SEM_PEEKn n) = semWord false broken 0 := by simp [Block.semFree]
  exact ⟨Block.semHeld_of_reg _ _ _ hreg, Block.semBroken_of_reg _ _ _ hreg, b.setReg_onlyRegs _ _⟩

/-! ## SEM_ACQ (R469) -/

/-- A read of SEM_ACQn attempts to acquire: the page shows the register, the semaphore serves the reader and its unit takes work. -/
def Block.semMayAcq (b : Block) (r : Requester) (n : Nat) : Bool :=
  b.reaches r (r1 .SEM_ACQn n) && b.semServes r n && decide (CUnit.sem ∉ b.flt.refusing)

section
variable {b : Block} {r : Requester} {n : Nat}

theorem Block.semMayAcq_iff :
    b.semMayAcq r n = true ↔ b.reaches r (r1 .SEM_ACQn n) = true ∧ b.semServes r n = true ∧ CUnit.sem ∉ b.flt.refusing := by
  simp [Block.semMayAcq, and_assoc]

theorem Block.semAcq_not_served (h : b.semMayAcq r n = false) : b.semAcq r n = { b with reply := leBytes 4 0 } := by
  rw [Block.semAcq, if_neg (fun hs => by simp [Block.semMayAcq_iff.mpr hs] at h)]

theorem Block.semAcq_held (h : b.semMayAcq r n = true) (hh : b.semHeld n = true) :
    b.semAcq r n = { b with reply := leBytes 4 (semWord false (b.bit (r1 .SEM_PEEKn n) F.SEM_PEEKn_BROKEN) (b.semHolder n)).toNat } := by
  rw [Block.semAcq, if_pos (Block.semMayAcq_iff.mp h), if_pos hh]

theorem Block.semAcq_free (h : b.semMayAcq r n = true) (hh : b.semHeld n = false) :
    b.semAcq r n = { b.setReg (r1 .SEM_PEEKn n) (semWord true false (idOf r)) with
      reply := leBytes 4 (semWord true (b.bit (r1 .SEM_PEEKn n) F.SEM_PEEKn_BROKEN) (idOf r)).toNat } := by
  rw [Block.semAcq, if_pos (Block.semMayAcq_iff.mp h), if_neg (by simp [hh])]

/-- The reader of a free semaphore becomes its holder, and BROKEN clears. -/
theorem Block.semAcq_free_effect (h : b.semMayAcq r n = true) (hh : b.semHeld n = false) :
    (b.semAcq r n).bit (r1 .SEM_PEEKn n) F.SEM_PEEKn_GRANTED = true ∧ (b.semAcq r n).bit (r1 .SEM_PEEKn n) F.SEM_PEEKn_BROKEN = false ∧
      (b.semAcq r n).fld (r1 .SEM_PEEKn n) F.SEM_PEEKn_HOLDER = idOf r ∧
      b.onlyRegs { b.semAcq r n with reply := b.reply } [r1 .SEM_PEEKn n] := by
  rw [Block.semAcq_free h hh]
  have hreg := (b.reg_setReg (r1 .SEM_PEEKn n) (r1 .SEM_PEEKn n) (semWord true false (idOf r))).trans (if_pos rfl)
  exact ⟨Block.semHeld_of_reg _ _ _ hreg, Block.semBroken_of_reg _ _ _ hreg,
    (Block.semHolder_of_reg _ _ _ hreg).trans (Nat.mod_eq_of_lt (idOf_lt r)), b.setReg_onlyRegs _ _⟩

/-! ## SEM_REL (R470) -/

theorem Block.semRelease_holder (hs : b.semServes r n = true) (hh : b.semHeld n = true) (hid : b.semHolder n = idOf r) :
    b.semRelease r n = b.semFree n (b.bit (r1 .SEM_PEEKn n) F.SEM_PEEKn_BROKEN) := by
  rw [Block.semRelease, if_pos ⟨hs, hh, hid⟩]

theorem Block.semRelease_other (h : b.semServes r n = false ∨ b.semHeld n = false ∨ b.semHolder n ≠ idOf r) : b.semRelease r n = b := by
  rw [Block.semRelease, if_neg]
  rintro ⟨hs, hh, hid⟩
  simp [hs, hh, hid] at h

/-- SEM_RELn is no object of a partition. -/
theorem Block.ownerOf_semRel (b : Block) (n : Nat) : b.ownerOf (r1 .SEM_RELn n) = none := by
  have hbase : (r1 .SEM_RELn n).name.info.base = 0x9D00 := rfl
  simp [Block.ownerOf, hbase]

/-- The channel page of a virtual function shows SEM_RELn of the semaphores that serve it alone (Table 15.2, R468). -/
theorem Block.vfSees_semRel (b : Block) (v : BitVec 8) (n : Nat) : b.vfSees v.toNat (r1 .SEM_RELn n) = b.semServes (.vf v) n := by
  have hid : (r1 .SEM_RELn n).name ≠ .CTL_ID := by simp [r1]
  have hmbx : isMbx (r1 .SEM_RELn n).name = false := rfl
  have hcfg : isVfCfg (r1 .SEM_RELn n).name = false := rfl
  have hsem : isVfSem (r1 .SEM_RELn n).name = true := rfl
  have hindex : (r1 .SEM_RELn n).i = n := rfl
  simp [Block.vfSees, Block.semServes, Block.ownerOf_semRel, hid, hmbx, hcfg, hsem, hindex, @eq_comm Nat v.toNat]

theorem Block.semServes_of_vf_reaches {v : BitVec 8} (hr : b.reaches (.vf v) (r1 .SEM_RELn n) = true) : b.semServes (.vf v) n = true := by
  simp only [Block.reaches, decide_eq_true_eq] at hr
  obtain ⟨-, -, hpage⟩ := hr
  rw [← b.vfSees_semRel v n]
  split at hpage
  · rcases hpage with hid | hmbx
    · cases hid
    · cases hmbx
  · exact hpage

/-- A DMA channel writes as an operator of its partition or as an installer: both letters stand at SEM_RELn (R18). -/
theorem Block.roleOk_semRel_dma (b : Block) (d : BitVec 6) (n : Nat) : b.roleOk (.dma d) (r1 .SEM_RELn n) = true := by
  have hrole : b.roleOf (.dma d) = .inst ∨ b.roleOf (.dma d) = .op := by
    simp only [Block.roleOf]
    split_ifs <;> simp
  have hcode : (r1 .SEM_RELn n).name.info.roles = 3 := rfl
  rcases hrole with h | h <;> simp [Block.roleOk, h, hcode, roleIn, Block.ownerOf_semRel]

/-- Whoever reaches SEM_RELn of a semaphore that does not serve it also has the role for it: it is a DMA channel or the HKC. -/
theorem Block.roleOk_semRel_of_not_served (hs : b.semServes r n = false) (hr : b.reaches r (r1 .SEM_RELn n) = true) :
    b.roleOk r (r1 .SEM_RELn n) = true := by
  cases r with
  | pf0 => cases hs
  | vf v => simp [Block.semServes_of_vf_reaches hr] at hs
  | dma d => exact b.roleOk_semRel_dma d n
  | mgmt => cases hr
  | hkc => rfl
  | fanout => cases hr

/-- A requester that the semaphore does not serve either does not reach SEM_RELn or writes it in vain; no refusal of its role is logged. -/
theorem Block.semRel_not_served (hs : b.semServes r n = false) : b.semRel r n = b := by
  rw [Block.semRel]
  cases hr : b.reaches r (r1 .SEM_RELn n) with
  | false => exact Block.hostWrite_unreached _ _ hr
  | true => rw [Block.hostWrite_granted _ _ hr (Block.roleOk_semRel_of_not_served hs hr), Block.semRelease_other (.inl hs)]

/-! ## SEM_FORCE (R470) -/

theorem Block.semForce_held (hr : b.reaches r (r1 .SEM_CFGn n) = true) (ho : b.roleOk r (r1 .SEM_CFGn n) = true) (hh : b.semHeld n = true) :
    b.semForce r n = b.semFree n true := by
  rw [Block.semForce, Block.hostWrite_granted _ _ hr ho, if_pos hh]

theorem Block.semForce_free (hr : b.reaches r (r1 .SEM_CFGn n) = true) (ho : b.roleOk r (r1 .SEM_CFGn n) = true) (hh : b.semHeld n = false) :
    b.semForce r n = b := by
  rw [Block.semForce, Block.hostWrite_granted _ _ hr ho, if_neg (by simp [hh])]

end

/-! ## The commands -/

theorem exec_semAcq (r : Requester) (n : BitVec 6) (s : State) : exec (.semAcq r n) s = .next { s with b := s.b.semAcq r n.toNat } := rfl

theorem exec_semRel (r : Requester) (n : BitVec 6) (s : State) : exec (.semRel r n) s = .next { s with b := s.b.semRel r n.toNat } := rfl

theorem exec_semForce (r : Requester) (n : BitVec 6) (s : State) : exec (.semForce r n) s = .next { s with b := s.b.semForce r n.toNat } := rfl

/-! ## The obligation -/

/-- Settles O55: the three commands by the cases of R469 and R470; a release by a requester that is not served passes the check of its role, so no refusal is logged. -/
theorem semaphoresAreAcquiredAndFreed : Obligations.SemaphoresAreAcquiredAndFreed := by
  unfold Obligations.SemaphoresAreAcquiredAndFreed
  intro s r n
  simp only [exec_semAcq, exec_semRel, exec_semForce]
  refine ⟨fun hm => ?_, fun hm hh => ?_, fun hm hh => ⟨_, rfl, ?_⟩, fun hs => ?_, fun hs hr ho => ⟨fun ⟨hh, hid⟩ => ⟨_, rfl, ?_⟩, fun h => ?_⟩,
    fun hr ho => ⟨fun hh => ⟨_, rfl, ?_⟩, fun hh => ?_⟩⟩
  · rw [Block.semAcq_not_served hm]
  · rw [Block.semAcq_held hm hh, semWord_toNat, Nat.mod_eq_of_lt (s.b.semHolder_lt _)]
    rfl
  · obtain ⟨hgranted, hbroken, hholder, hframe⟩ := Block.semAcq_free_effect hm hh
    refine ⟨hgranted, hbroken, hholder, ?_, hframe⟩
    rw [Block.semAcq_free hm hh, semWord_toNat, Nat.mod_eq_of_lt (idOf_lt r)]
  · rw [Block.semRel_not_served hs]
  · rw [Block.semRel, Block.hostWrite_granted _ _ hr ho, Block.semRelease_holder hs hh hid]
    exact s.b.semFree_effect _ _
  · rw [Block.semRel, Block.hostWrite_granted _ _ hr ho, Block.semRelease_other (.inr h)]
  · rw [Block.semForce_held hr ho hh]
    exact s.b.semFree_effect _ _
  · rw [Block.semForce_free hr ho hh]

end Sys2Proof.Machine
